-- ==== Sys2Proof/Word.lean ====
section
/-! DEFINITION. The word types of the VB-6240 (R6 to R8): bytes, 32-bit registers and 64-bit words. -/

namespace Sys2Proof

/-- A byte. -/
abbrev Byte := BitVec 8

/-- A register or half of a 64-bit quantity (R8). -/
abbrev Word := BitVec 32

/-- A 64-bit word: hob register, table record word, instruction word. -/
abbrev DWord := BitVec 64

end Sys2Proof
end

