-- ==== Sys2Proof/Syntax.lean ====
section
/-! DEFINITION. The commands of the VB-6240 as syntax: the rows of spec/opcode_table.json with their operands. An event's
operands are what its sender, or the physical world, gives it: a received block, a measurement, a test's result. -/

namespace Sys2Proof

/-- A hob register g0 to g31. -/
abbrev GReg := Fin 32

/-- A predicate p0 to p7. -/
abbrev PReg := Fin 8

/-- One thread of one hob of one stove (R152, R240). -/
structure ThreadRef where
  stove : Fin 68
  hob : Fin 32
  thr : Fin 8
  deriving DecidableEq, Repr

/-- The guard of an instruction: PRED and PNEG (R200). -/
structure Guard where
  pred : PReg
  neg : Bool
  deriving DecidableEq, Repr

/-- The spaces of Table ISA-3; codes 6 and 7 are reserved. -/
inductive Space where
  | fw | md | he | fe | sc | kc
  deriving DecidableEq, Repr

/-- A Hearth ordered set: the eight bytes of its block (Table LANE-5). -/
structure OSet where
  d1 : Byte
  d2 : Byte
  d3 : Byte
  op : Byte    -- byte 4: O-code and subtype
  d5 : Byte
  d6 : Byte
  crc : Byte
  deriving DecidableEq, Repr

/-- A frame received on a Hearth lane: preamble bytes 0 to 6, the frame through its FCS, and the frame-status set that
follows (R49, R53). -/
structure HFrame where
  pre : List Byte
  data : List Byte
  status : Option OSet
  deriving DecidableEq, Repr

/-- A frame received on a plain lane: its bytes through the FCS, an invalid or error block within it, and the CK_TIME
cycle of the first octet after the SFD (the cycle count of the device's time unit) (R78, R444). -/
structure PFrame where
  data : List Byte
  symErr : Bool
  sfdTick : Nat
  sfdCycle : Fin 40
  deriving DecidableEq, Repr

/-- A chunk of a relayed frame (R417): the message's TICK and its body fields, and the owner's ingress timestamp with the
last chunk (R444). -/
structure RelayFrame where
  tick : Nat
  port : Fin 2048
  flags : Byte
  last : Bool
  offset : Nat
  order : Nat
  data : List Byte
  ts : Nat × Nat × Bool   -- TS32, FRAC and STEPPED
  deriving DecidableEq, Repr

/-- One entry of a DETECT message (Table TWIN-8): 1 down, 2 up, 3 underrun. -/
structure DetectEntry where
  port : Fin 2048
  kind : Nat
  tick : Nat
  deriving DecidableEq, Repr

/-- What a lookup's ECC finds (R271, R315). -/
inductive EccResult where
  | good | corrected | uncorrectable
  deriving DecidableEq, Repr

/-- The header of a mailbox command entry (Table HOST-5). -/
structure MbxHdr where
  version : Byte
  flags : Byte
  cookie : Word
  tick : DWord
  bufAddr : DWord
  bufLen : Word
  deriving DecidableEq, Repr

/-- A TX descriptor (Table HOST-9). -/
structure TxDesc where
  addr : Nat := 0
  length : Nat := 0   -- bytes 8 to 11 whole
  flags : Nat := 0    -- 16 bits
  mss : Nat := 0
  l3 : Nat := 0
  l4 : Nat := 0
  launch : Nat := 0
  dest : Nat := 0
  cookie : Nat := 0
  rsvd : Nat := 0     -- bytes 18, 19, 26 and 27
  deriving DecidableEq, Repr

/-- A read of a BAR: one word of BAR0, or `len` bytes of BAR2 (R463, R465). -/
inductive BarRead where
  | bar0 (off : Nat)
  | bar2 (off len : Nat)
  deriving DecidableEq, Repr

/-- A write of a BAR: one word of BAR0, or bytes of BAR2 (R463, R465). -/
inductive BarWrite where
  | bar0 (off : Nat) (value : Word)
  | bar2 (off : Nat) (data : List Byte)
  deriving DecidableEq, Repr

/-- What a PCIe error hit (R493). -/
inductive PcieErr where
  | command (seq : Nat)
  | descriptor (qp : Fin 64)
  | ring (ring : Fin 259) (index : Nat)
  deriving DecidableEq, Repr

/-- How a two-wire transaction ends (R490). -/
inductive TwiResult where
  | stop (bytes : List Byte) (pecOk : Bool)
  | nack
  | arbLost
  | timeout
  deriving DecidableEq, Repr

/-- What the straps, the supplies and the self-tests give a start (Table BOOT-7). -/
structure StartInput where
  twinSide : Bool := false
  bootSafe : Bool := false
  testEn : Bool := false
  vfuseOk : Bool := false
  fuseError : Bool := false
  pllLocked : Bool := true
  pcie : Word := 0              -- HOST_PCIE_STATUS once trained; 0 unavailable
  failed : List (Nat × Nat) := []   -- health entries found by MBIST and LBIST: kind and number
  aonFailed : Bool := false     -- a buffer slice or other AON block fails
  hbmFailed : BitVec 2 := 0     -- bit n: HBM stack n fails its training or MBIST
  flashA : Bool := true         -- every read of slot A completes
  flashB : Bool := true
  deriving DecidableEq, Repr

/-- What the physical world gives a tick boundary: the state of the TCAM row under scrub, and the shadow records the
auditor reads from host memory. -/
structure TickInput where
  rowBad : Bool := false
  shadowBad : Bool := false
  shadow : List (Nat × Nat) := []
  ecc : List (Nat × Nat × Bool) := []
  deriving DecidableEq, Repr

/-- What the flash and the self-tests give a long command. -/
structure LongInput where
  flashOk : Bool := true
  result : Nat := 0             -- BIST result: 0 pass, 1 repaired, 2 failed
  failed : List (Nat × Nat) := []
  iv : List Byte := []          -- the IV of an overlay's tag
  deriving DecidableEq, Repr

/-- The commands of the device: one constructor per row of the table of operations and events. -/
inductive Instr where
  /-- RESET_N_RISE (R510): RESET_N rises and the device runs the start sequence of Table BOOT-7, from fuse read to the twin step -/
  | resetNRise (inp : StartInput)
  /-- RESET_N_LOW (R509): RESET_N held low for at least 10 µs resets the device; a pulse shorter than 8 µs is ignored -/
  | resetNLow (lowNs : Nat)
  /-- SUPPLY_MONITOR_RESET (R560): The internal monitor holds the device in reset while VDD_CORE, VDD_SRAM or VDDIO is below its threshold -/
  | supplyMonitorReset
  /-- RESTART (R15): A BOOT_CTRL write with RESTART 1 and KEY 0xB007 restarts the device as RESET_N does, but keeps RWS fields -/
  | restart (value : Word) (inp : StartInput)
  /-- FORWARD (R514): BOOT_CTRL.FORWARD in the safe hearth state enables SOLO forwarding at S = current tick + 1,024 and activates the pending image -/
  | forward (value : Word)
  /-- FUNCTION_LEVEL_RESET (R461): A Function Level Reset resets the HOST registers, the rings, the mailbox version agreement and MSI-X state -/
  | functionLevelReset
  /-- D3HOT_ENTRY (R461): Entry to D3hot resets the HOST block state as a Function Level Reset does -/
  | d3hotEntry
  /-- PCIE_PERST (R555): PCIE_PERST_N low resets the PCI Express link with the effects of R461 -/
  | pciePerst
  /-- PLL_LOCK (R17): The reference PLL locks; a solo device zeroes its tick count and fixes its tick phase at the next boundary -/
  | pllLock
  /-- FORWARDING_START (R512): At start tick S the device enables SOLO forwarding, activates the pending image and enables the held lanes -/
  | forwardingStart
  /-- PAIR_WAIT_EXPIRE (R409): Ten seconds after start-up with no completed pairing, a pairing-enabled device starts in SOLO -/
  | pairWaitExpire
  /-- TICK (R16): A tick boundary arrives on every eighth CK_REF edge and the 64-bit tick count increases by 1 -/
  | tick (inp : TickInput)
  /-- DISPATCH_QUEUE_ENTRY (R249): A frame waiting at dispatch enters its work queue, in admission order, once an entry frees -/
  | dispatchQueueEntry
  /-- BRICK_POSITION_MOVE (R330): At its effect tick a position moves to the loaded spare firebrick -/
  | brickPositionMove (pos : Fin 240)
  /-- TCAM_SCRUB_REPAIR (R328): In the tick after a mismatch the row is rewritten from its shadow and suppression lifted when all replicas compare good -/
  | tcamScrubRepair (good : Bool)
  /-- BANK_FETCH_ARRIVE (R358): The HBM read of a fetched frame arrives and its cells are on die for staging -/
  | bankFetchArrive (queue : Fin 16384)
  /-- TIMER_FIRE (R185): A timer slot fires at a tick matching its INTERVAL and PHASE and is queued on its lane's reserved thread -/
  | timerFire (slot : Fin 64)
  /-- ENERGY_INTERVAL (R395): Every 2^16 ticks the measured energy of lane banks and stove groups is divided among ports and entry ids -/
  | energyInterval (nj : List Nat)
  /-- LANE_MODE_WRITE (R42): A LANE_MODE write changes MODE only while ENABLE is 0; setting ENABLE starts training or raises CONFIG_REJECT -/
  | laneModeWrite (lane : Fin 512) (value : Word)
  /-- RETRAIN (R71): LANE_CTRL.RETRAIN returns an enabled lane to ACQUIRE -/
  | retrain (lane : Fin 512)
  /-- LANE_BLOCK_LOCK (R46): After 64 consecutive valid sync headers a lane in ACQUIRE moves to NEGOTIATE -/
  | laneBlockLock (lane : Fin 512)
  /-- TRAINING_SET_RECEIVE (R47): A Hearth training set is received and the versions and channel counts are judged -/
  | trainingSetReceive (lane : Fin 512) (set : OSet)
  /-- ALIGN_ENTRY (R46): After 8 agreeing training sets received and sent, a lane moves from NEGOTIATE to ALIGN -/
  | alignEntry (lane : Fin 512)
  /-- IN_SERVICE_ENTRY (R46): After 16 consecutive accepted markers a lane enters IN_SERVICE and, solo, zeroes its channels' ESEQ -/
  | inServiceEntry (lane : Fin 512)
  /-- TRAIN_TIMEOUT (R46): Training not complete within TRAIN_TIMEOUT returns the lane to ACQUIRE with event 0x1005 -/
  | trainTimeout (lane : Fin 512)
  /-- TICK_MARKER_RECEIVE (R48): A Hearth partner's tick marker is accepted or discarded and advances the lane's proven tick -/
  | tickMarkerReceive (lane : Fin 512) (set : OSet)
  /-- HEARTH_FRAME_RECEIVE (R18): A frame with its preamble and frame-status set is received on a Hearth lane and its tick reconstructed -/
  | hearthFrameReceive (lane : Fin 512) (fr : HFrame)
  /-- CHANNEL_STATUS_RECEIVE (R57): A channel-status set updates each channel's link-up, LPI and fault state -/
  | channelStatusReceive (lane : Fin 512) (set : OSet)
  /-- RESERVED_ORDERED_SET (R52): An ordered set of reserved subtype with good CRC is counted and ignored -/
  | reservedOrderedSet (lane : Fin 512) (set : OSet)
  /-- TIMESTAMP_REPORT_RECEIVE (R446): A Hearth timestamp report gives a departure time that becomes a report record -/
  | timestampReportReceive (lane : Fin 512) (set : OSet)
  /-- LANE_OUT_OF_STEP (R60): A lane whose proven tick falls more than 32 ticks behind enters OUT_OF_STEP with event 0x1003 -/
  | laneOutOfStep (lane : Fin 512)
  /-- BLOCK_LOCK_LOSS (R60): Loss of block lock lasting 32 ticks puts the lane out of step -/
  | blockLockLoss (lane : Fin 512)
  /-- OUT_OF_STEP_REALIGN (R46): A lane in OUT_OF_STEP moves to ALIGN at the next tick -/
  | outOfStepRealign (lane : Fin 512)
  /-- PLAIN_FRAME_RECEIVE (R78): A frame is received on a plain lane, staged, written into cells and timestamped -/
  | plainFrameReceive (lane : Fin 512) (fr : PFrame)
  /-- TX_FIRST_BLOCK (R83): A granted frame's first block leaves once grant + 2 is reached and CT_THRESH cells are staged -/
  | txFirstBlock (port : Fin 2048) (cycle : Nat)
  /-- UNDERRUN (R84): A transmitted frame running out of staged data is ended with an inverted FCS and dropped with UNDERRUN -/
  | underrun (port : Fin 2048) (linkLost : Bool)
  /-- CT_DECAY (R86): After 2^20 frames without underrun CT_THRESH is lowered by 2, not below CT_BASE -/
  | ctDecay (port : Fin 2048)
  /-- CELL_RETURN (R339): A cell read for the last time is returned to its slice's cache and its state bit cleared -/
  | cellReturn (cell : Fin 524288) (eccBad : Bool)
  /-- ASH_REFILL (R338): A slice cache below 256 entries is refilled with 256 entries from its ash ring -/
  | ashRefill (slice : Fin 16)
  /-- ASH_SPILL (R338): A slice cache above 768 entries spills 256 entries to its ash ring -/
  | ashSpill (slice : Fin 16)
  /-- LINK_LOSS_ABORT (R113): Physical link loss during transmission ends the frame with an inverted FCS and LINK_DOWN_ABORT -/
  | linkLossAbort (port : Fin 2048)
  /-- PAUSE_EXPIRY (R95): A port's or priority's pause expiry passes and it may start new frames -/
  | pauseExpiry (port : Fin 2048)
  /-- PAUSE_FRAME_SEND (R99): On asserted flow control the port inserts a PAUSE or PFC frame at its next frame boundary -/
  | pauseFrameSend (port : Fin 2048)
  /-- PAUSE_REFRESH (R100): While flow control stays asserted the pause frame is resent at half the advertised time, and quanta 0 on release -/
  | pauseRefresh (port : Fin 2048)
  /-- PAUSE_STORM (R103): A pause held beyond PAUSE_WD is cleared and no longer honoured, with event 0x1104 -/
  | pauseStorm (port : Fin 2048)
  /-- STORM_RECOVER (R105): After STORM_RECOVER ms without non-zero pause, honouring resumes with event 0x1105 -/
  | stormRecover (port : Fin 2048)
  /-- STORM_CLEAR (R105): MAC_PORT_CTRL.STORM_CLEAR ends every storm of the port -/
  | stormClear (port : Fin 2048)
  /-- FLAP_CLEAR (R119): MAC_PORT_CTRL.FLAP_CLEAR ends suppression and zeroes the flap history -/
  | flapClear (port : Fin 2048)
  /-- CT_RESET (R120): MAC_PORT_CTRL.CT_RESET sets CT_THRESH to CT_BASE and zeroes the decay count -/
  | ctReset (port : Fin 2048)
  /-- MAC_TX_CT_WRITE (R120): A write of CT_BASE also sets CT_THRESH to the new value -/
  | macTxCtWrite (port : Fin 2048) (value : Word)
  /-- LPI_ENTER (R106): A port whose unicast queues have been empty for IDLE ticks enters transmit LPI -/
  | lpiEnter (port : Fin 2048)
  /-- LINK_DETECT (R111): A port's link is detected down or up and its effect tick is set to d + ADM_DELAY -/
  | linkDetect (port : Fin 2048) (up : Bool)
  /-- LINK_DOWN_EFFECT (R114): At the down effect tick the port stops starting frames, clears pauses and storms, and holds its queues -/
  | linkDownEffect (port : Fin 2048)
  /-- LINK_UP_EFFECT (R115): At the up effect tick within the hold, the held queues are sent -/
  | linkUpEffect (port : Fin 2048)
  /-- LINK_HOLD_EXPIRY (R116): A port not up by L + H has its queues flushed with LINK_HOLD_FLUSH and event 0x1103 -/
  | linkHoldExpiry (port : Fin 2048)
  /-- FLAP_RELEASE (R119): After FLAP_QUIET seconds without a flap suppression ends with event 0x1107 -/
  | flapRelease (port : Fin 2048)
  /-- CLEAN_BITMAP (R126): A partner's lane-clean bitmap for tick T is received and held for admission -/
  | cleanBitmap (tick : Nat) (clean : BitVec 512)
  /-- BITMAP_MISSING (R128): No partner bitmap held by T + ADM_DELAY − 1: the active admits on its own, the standby drops -/
  | bitmapMissing (tick : Nat) (atPartner : Bool)
  /-- RELAY (R131): A relayed frame chunk is written into the partner's cells as ingress of the solo port -/
  | relay (fr : RelayFrame)
  /-- RELAY_END (R131): A relay-end record lets the partner set its bitmap bit for the relayed lane and tick -/
  | relayEnd (lane : Fin 512) (tick : Nat)
  /-- CAPACITY (R418): A CAPACITY message gives the partner's H and Q, and both twins apply the lower values at its effect tick -/
  | capacity (h q : Nat) (effTick : Nat)
  /-- CAPACITY_CHANGE (R135): At its effect tick a change of an R134 input changes C and raises event 0x1202 -/
  | capacityChange
  /-- INVOCATION_START (R152): A free frame thread takes the next frame from its stove's work queue and starts its program -/
  | invocationStart (t : ThreadRef)
  /-- STEAL (R251): A hob with a free thread and an empty queue takes one frame from a nearby deep queue -/
  | steal (t : ThreadRef)
  /-- ADD (R203): dst := srcA + srcB -/
  | add (t : ThreadRef) (gd : Guard) (dst a b : GReg)
  /-- SUB (R203): dst := srcA − srcB -/
  | sub (t : ThreadRef) (gd : Guard) (dst a b : GReg)
  /-- AND (R203): dst := srcA AND srcB -/
  | and (t : ThreadRef) (gd : Guard) (dst a b : GReg)
  /-- OR (R203): dst := srcA OR srcB -/
  | or (t : ThreadRef) (gd : Guard) (dst a b : GReg)
  /-- XOR (R203): dst := srcA XOR srcB -/
  | xor (t : ThreadRef) (gd : Guard) (dst a b : GReg)
  /-- ANDN (R203): dst := srcA AND NOT srcB -/
  | andn (t : ThreadRef) (gd : Guard) (dst a b : GReg)
  /-- SHL (R203): dst := srcA shifted left by srcB[5:0] -/
  | shl (t : ThreadRef) (gd : Guard) (dst a b : GReg)
  /-- SHR (R203): dst := srcA shifted right by srcB[5:0] with zero fill -/
  | shr (t : ThreadRef) (gd : Guard) (dst a b : GReg)
  /-- SAR (R203): dst := srcA shifted right by srcB[5:0] with sign fill -/
  | sar (t : ThreadRef) (gd : Guard) (dst a b : GReg)
  /-- MUL (R203): dst := low 64 bits of srcA × srcB -/
  | mul (t : ThreadRef) (gd : Guard) (dst a b : GReg)
  /-- MINU (R203): dst := unsigned minimum of srcA and srcB -/
  | minu (t : ThreadRef) (gd : Guard) (dst a b : GReg)
  /-- MAXU (R203): dst := unsigned maximum of srcA and srcB -/
  | maxu (t : ThreadRef) (gd : Guard) (dst a b : GReg)
  /-- POPC (R203): dst := number of 1 bits in srcA -/
  | popc (t : ThreadRef) (gd : Guard) (dst a : GReg)
  /-- CLZ (R203): dst := leading zero bits of srcA -/
  | clz (t : ThreadRef) (gd : Guard) (dst a : GReg)
  /-- HASH (R206): dst := CRC-32C over the 16 bytes of srcA and srcB -/
  | hash (t : ThreadRef) (gd : Guard) (dst a b : GReg)
  /-- MOV (R203): dst := srcA -/
  | mov (t : ThreadRef) (gd : Guard) (dst a : GReg)
  /-- PAND (R207): pd := pa AND pb -/
  | pand (t : ThreadRef) (gd : Guard) (pd pa pb : PReg)
  /-- POR (R207): pd := pa OR pb -/
  | por (t : ThreadRef) (gd : Guard) (pd pa pb : PReg)
  /-- PXOR (R207): pd := pa XOR pb -/
  | pxor (t : ThreadRef) (gd : Guard) (pd pa pb : PReg)
  /-- PANDN (R207): pd := pa AND NOT pb -/
  | pandn (t : ThreadRef) (gd : Guard) (pd pa pb : PReg)
  /-- CEQ (R207): pd := srcA = srcB -/
  | ceq (t : ThreadRef) (gd : Guard) (pd : PReg) (a b : GReg)
  /-- CNE (R207): pd := srcA ≠ srcB -/
  | cne (t : ThreadRef) (gd : Guard) (pd : PReg) (a b : GReg)
  /-- CLTU (R207): pd := srcA < srcB, unsigned -/
  | cltu (t : ThreadRef) (gd : Guard) (pd : PReg) (a b : GReg)
  /-- CLEU (R207): pd := srcA ≤ srcB, unsigned -/
  | cleu (t : ThreadRef) (gd : Guard) (pd : PReg) (a b : GReg)
  /-- CLTS (R207): pd := srcA < srcB, signed -/
  | clts (t : ThreadRef) (gd : Guard) (pd : PReg) (a b : GReg)
  /-- CLES (R207): pd := srcA ≤ srcB, signed -/
  | cles (t : ThreadRef) (gd : Guard) (pd : PReg) (a b : GReg)
  /-- ADDI (R203): dst := srcA + sign-extended immediate -/
  | addi (t : ThreadRef) (gd : Guard) (dst a : GReg) (imm : Word)
  /-- ANDI (R203): dst := srcA AND zero-extended immediate -/
  | andi (t : ThreadRef) (gd : Guard) (dst a : GReg) (imm : Word)
  /-- ORI (R203): dst := srcA OR zero-extended immediate -/
  | ori (t : ThreadRef) (gd : Guard) (dst a : GReg) (imm : Word)
  /-- XORI (R203): dst := srcA XOR zero-extended immediate -/
  | xori (t : ThreadRef) (gd : Guard) (dst a : GReg) (imm : Word)
  /-- SHLI (R205): dst := srcA shifted left by IMM[5:0] -/
  | shli (t : ThreadRef) (gd : Guard) (dst a : GReg) (imm : Word)
  /-- SHRI (R205): dst := srcA shifted right by IMM[5:0] with zero fill -/
  | shri (t : ThreadRef) (gd : Guard) (dst a : GReg) (imm : Word)
  /-- SARI (R205): dst := srcA shifted right by IMM[5:0] with sign fill -/
  | sari (t : ThreadRef) (gd : Guard) (dst a : GReg) (imm : Word)
  /-- MOVI (R203): dst := sign-extended immediate -/
  | movi (t : ThreadRef) (gd : Guard) (dst : GReg) (imm : Word)
  /-- MOVHI (R205): dst := IMM in bits [63:32] with srcA[31:0] kept -/
  | movhi (t : ThreadRef) (gd : Guard) (dst a : GReg) (imm : Word)
  /-- CEQI (R207): pd := srcA = immediate -/
  | ceqi (t : ThreadRef) (gd : Guard) (pd : PReg) (a : GReg) (imm : Word)
  /-- CNEI (R207): pd := srcA ≠ immediate -/
  | cnei (t : ThreadRef) (gd : Guard) (pd : PReg) (a : GReg) (imm : Word)
  /-- CLTUI (R207): pd := srcA < immediate, unsigned -/
  | cltui (t : ThreadRef) (gd : Guard) (pd : PReg) (a : GReg) (imm : Word)
  /-- CGTUI (R207): pd := srcA > immediate, unsigned -/
  | cgtui (t : ThreadRef) (gd : Guard) (pd : PReg) (a : GReg) (imm : Word)
  /-- CLTSI (R207): pd := srcA < immediate, signed -/
  | cltsi (t : ThreadRef) (gd : Guard) (pd : PReg) (a : GReg) (imm : Word)
  /-- CGTSI (R207): pd := srcA > immediate, signed -/
  | cgtsi (t : ThreadRef) (gd : Guard) (pd : PReg) (a : GReg) (imm : Word)
  /-- EXT (R208): dst := bit field of srcA, zero-extended -/
  | ext (t : ThreadRef) (gd : Guard) (dst a : GReg) (pos : Fin 64) (len : Fin 65)
  /-- INS (R208): dst := srcA with a bit field replaced by srcB -/
  | ins (t : ThreadRef) (gd : Guard) (dst a b : GReg) (pos : Fin 64) (len : Fin 65)
  /-- TBIT (R208): pd := bit POS of srcA -/
  | tbit (t : ThreadRef) (gd : Guard) (pd : PReg) (a : GReg) (pos : Fin 64)
  /-- FEXT (R210): dst := a field of the frame window at a register-relative bit offset -/
  | fext (t : ThreadRef) (gd : Guard) (dst a : GReg) (pos : Fin 8) (len : Fin 65) (boff : Fin 128)
  /-- FINS (R211): Writes a field of srcB into the frame window, producing REWRITE edits -/
  | fins (t : ThreadRef) (gd : Guard) (a b : GReg) (pos : Fin 8) (len : Fin 65) (boff : Fin 128)
  /-- LD (R212): Loads 1 to 8 bytes from a thread-visible space into dst -/
  | ld (t : ThreadRef) (gd : Guard) (dst a : GReg) (space : Space) (size : Fin 4) (off : Fin 65536)
  /-- ST (R212): Stores 1 to 8 bytes of srcB to FW, HE or SC -/
  | st (t : ThreadRef) (gd : Guard) (a b : GReg) (space : Space) (size : Fin 4) (off : Fin 65536)
  /-- FELD (R215): Starts a foreign ember load of record srcA into FE -/
  | feld (t : ThreadRef) (gd : Guard) (a : GReg) (pd : PReg)
  /-- FELD_ANSWER (R178): The foreign ember load completes, filling FE with the published half as of the admission tick and setting found -/
  | feldAnswer (t : ThreadRef)
  /-- FETCH (R216): Starts a read of frame bytes at any offset as received -/
  | fetch (t : ThreadRef) (gd : Guard) (dst a : GReg) (size : Fin 4) (off : Fin 65536)
  /-- FETCH_ANSWER (R216): The FETCH read completes and dst receives the bytes in network order -/
  | fetchAnswer (t : ThreadRef)
  /-- HE_LOAD_ANSWER (R201): An LD from HE completes from the home stove's ember cache slice -/
  | heLoadAnswer (t : ThreadRef)
  /-- LOOKUP_STATION (R223): Requests an L2 station table lookup of a (FID, MAC) key -/
  | lookupStation (t : ThreadRef) (gd : Guard) (dst a : GReg) (pd : PReg) (keysel : Fin 3)
  /-- LOOKUP_ROUTE4 (R225): Requests an IPv4 longest-prefix lookup with probe limit P -/
  | lookupRoute4 (t : ThreadRef) (gd : Guard) (dst a : GReg) (pd : PReg) (keysel : Fin 4) (limit : Fin 16)
  /-- LOOKUP_ROUTE6 (R225): Requests an IPv6 longest-prefix lookup with probe limit P -/
  | lookupRoute6 (t : ThreadRef) (gd : Guard) (dst a b : GReg) (pd : PReg) (keysel : Fin 4) (limit : Fin 16)
  /-- LOOKUP_NEXTHOP (R291): Requests a next-hop table read -/
  | lookupNexthop (t : ThreadRef) (gd : Guard) (dst a : GReg) (pd : PReg)
  /-- LOOKUP_ECMP (R292): Requests ECMP member selection for a group and hash -/
  | lookupEcmp (t : ThreadRef) (gd : Guard) (dst a : GReg) (pd : PReg)
  /-- LOOKUP_TCAM (R317): Requests a TCAM search under a key profile -/
  | lookupTcam (t : ThreadRef) (gd : Guard) (dst a b : GReg) (pd : PReg) (profile : Fin 16)
  /-- LOOKUP_ANSWER (R223): A lookup answer as of the admission tick arrives and writes dst, the hit predicate and, for TCAM, dst + 1 -/
  | lookupAnswer (t : ThreadRef) (ecc : EccResult) (which : Nat)
  /-- BR (R217): Continues at pc + OFF -/
  | br (t : ThreadRef) (gd : Guard) (off : Fin 65536)
  /-- LOOP (R218): Runs its body LCOUNT + 1 times, setting dst to the iteration number -/
  | loop (t : ThreadRef) (gd : Guard) (dst : GReg) (count : Fin 16) (off : Fin 65536)
  /-- BRX (R219): Copies srcB into g31 and continues at the handler of a TCAM answer -/
  | brx (t : ThreadRef) (gd : Guard) (a b : GReg)
  /-- ENTER (R173): Waits until every earlier ticket of the lane has passed, then enters the ordered section -/
  | enter (t : ThreadRef) (gd : Guard)
  /-- ENTER_GRANT (R173): The home stove grants a waiting ENTER once every earlier ticket of the lane has passed -/
  | enterGrant (t : ThreadRef)
  /-- LEAVE (R173): Leaves the ordered section and passes the ticket -/
  | leave (t : ThreadRef) (gd : Guard)
  /-- PUBLISH (R221): Marks the invocation as publishing its staging copy -/
  | publish (t : ThreadRef) (gd : Guard)
  /-- END (R222): Ends the invocation; a frame is dropped with NO_DISPOSITION, a timer firing completes -/
  | endInv (t : ThreadRef) (gd : Guard)
  /-- NOP (R203): No operation -/
  | nop (t : ThreadRef) (gd : Guard)
  /-- EMIT_FWD (R228): Terminal forward to a port, next hop or ECMP group on a unicast queue -/
  | emitFwd (t : ThreadRef) (gd : Guard) (a b : GReg) (queue : Fin 8) (qsrc : Bool)
  /-- EMIT_MCAST (R229): Terminal multicast to a group -/
  | emitMcast (t : ThreadRef) (gd : Guard) (a : GReg)
  /-- EMIT_TRAP (R229): Terminal trap to a host queue with a trap code, unedited -/
  | emitTrap (t : ThreadRef) (gd : Guard) (code : Fin 65536) (hq : Fin 64)
  /-- EMIT_DROP (R168): Terminal drop with a program reason code 0x80 to 0xFF -/
  | emitDrop (t : ThreadRef) (gd : Guard) (a : GReg) (reason : Byte) (rsrc : Bool)
  /-- EMIT_RECIRC (R169): Terminal recirculation with a 32-bit argument, or RECIRC_LIMIT on a second pass -/
  | emitRecirc (t : ThreadRef) (gd : Guard) (a : GReg)
  /-- MIRROR (R230): Requests a mirror copy to a session, at most 2 sessions -/
  | mirror (t : ThreadRef) (gd : Guard) (session : Fin 16)
  /-- COUNT (R231): Requests a counter pair update at retirement -/
  | count (t : ThreadRef) (gd : Guard) (a b : GReg) (bsrc : Bool)
  /-- METER (R232): Requests a meter charge with a colour policy at retirement -/
  | meter (t : ThreadRef) (gd : Guard) (a : GReg)
  /-- LEARN (R234): Requests learning of a station at retirement -/
  | learn (t : ThreadRef) (gd : Guard) (a b : GReg) (ksrc : Bool)
  /-- PUSH4 (R235): Adds an edit pushing 4 bytes at an offset -/
  | push4 (t : ThreadRef) (gd : Guard) (a b : GReg) (o : Fin 128)
  /-- PUSH8 (R235): Adds an edit pushing 8 bytes at an offset -/
  | push8 (t : ThreadRef) (gd : Guard) (a b : GReg) (o : Fin 128)
  /-- POP4 (R235): Adds an edit removing 4 bytes at an offset -/
  | pop4 (t : ThreadRef) (gd : Guard) (a : GReg) (o : Fin 128)
  /-- POP8 (R235): Adds an edit removing 8 bytes at an offset -/
  | pop8 (t : ThreadRef) (gd : Guard) (a : GReg) (o : Fin 128)
  /-- REPLACE4 (R235): Adds an edit replacing 4 bytes at an offset -/
  | replace4 (t : ThreadRef) (gd : Guard) (a b : GReg) (o : Fin 128)
  /-- REPLACE8 (R235): Adds an edit replacing 8 bytes at an offset -/
  | replace8 (t : ThreadRef) (gd : Guard) (a b : GReg) (o : Fin 128)
  /-- DEC_TTL (R236): Adds an edit decrementing the outer TTL or hop limit -/
  | decTtl (t : ThreadRef) (gd : Guard)
  /-- RESULT_ARRIVE (R25): An invocation's result reaches the retire sequencer, in time or late -/
  | resultArrive (inv : Nat)
  /-- HELD_RETIRE_RESUME (R257): On the tick after a held frame's result arrives, it and the overdue frames retire at up to 4,096 per tick -/
  | heldRetireResume
  /-- HOLD_TIMEOUT (R257): A frame held for HOLD_MAX ticks is dropped with LATE and retirement resumes -/
  | holdTimeout
  /-- LATE_LIST (R255): A partner late list for a retire tick is received and held for the retirement decision -/
  | lateList (tick : Nat) (all : Bool) (positions : List Nat)
  /-- LATE_LIST_MISSING (R256): No partner late list held by t − 1: the active retires on its own list, the standby drops with LATE_PARTNER -/
  | lateListMissing (tick : Nat) (atPartner : Bool)
  /-- STOVE_FAIL (R258): A stove fails: its queued and running invocations are lost, tickets passed, lanes rehomed and a spare brought in -/
  | stoveFail (stove : Fin 68)
  /-- STOVE_DRAINED (R243): A DRAINING stove has no invocation left and leaves DRAINING -/
  | stoveDrained (stove : Fin 68)
  /-- FREQ_WRITE (R261): A STOVE_GROUP_CFG.FREQ write schedules a lowered Q and later clock switch, or a clock switch then raised Q -/
  | freqWrite (group : Fin 17) (value : Word)
  /-- CLOCK_SWITCH_DONE (R261): A stove group's clock switch completes, raising event 0x1308 and letting a raised Q take effect -/
  | clockSwitchDone (group : Fin 17)
  /-- PARK (R262): Setting PARK takes the group's stoves out of service at its effect tick -/
  | park (group : Fin 17) (value : Word)
  /-- GROUP_DOMAIN_OFF (R262): Once all four stoves of a parking group have drained, its ember slices are written back and its domain switched off -/
  | groupDomainOff (group : Fin 17)
  /-- UNPARK (R262): Clearing PARK powers the group and its stoves become WAKING -/
  | unpark (group : Fin 17) (value : Word)
  /-- GROUP_WAKE_READY (R262): A woken group's stoves join under R242 at an effect tick at least 2,048 ticks after the write -/
  | groupWakeReady (group : Fin 17)
  /-- TABLE_WRITE (R273): Mailbox host write of a table record with an effect tick, accepted, queued or refused -/
  | tableWrite (h : MbxHdr) (code : Fin 65536) (record : List Byte)
  /-- TABLE_READ (R476): Mailbox read of a table entry as of a tick into BUF_OUT -/
  | tableRead (h : MbxHdr) (code : Fin 65536) (record : List Byte)
  /-- TABLE_AUDIT (R474): Mailbox command auditing a range of a table against the shadow -/
  | tableAudit (h : MbxHdr) (code : Fin 65536) (first count : Nat) (shadow : List (Nat × Nat))
  /-- HOST_WRITE_APPLY (R34): At its effect tick a host write is applied, in the order of R28 -/
  | hostWriteApply
  /-- CHANGE_COMPLETE (R266): At E + RET_DELAY the newer version replaces the older and the next queued change becomes pending -/
  | changeComplete (tbl key : Nat)
  /-- VERSION_STORE_WAIT (R270): In solo a completion blocked by a full version store completes when a record frees -/
  | versionStoreWait (tbl key : Nat)
  /-- PUBLISH_APPLY (R296): At S the scheduled publish becomes the published version and cached copies are invalidated -/
  | publishApply (rec : Fin 1048576)
  /-- EMBER_HOST_WRITE (R295): A host write's ticket comes up on its ember lane and the home stove writes the half -/
  | emberHostWrite (lane : Fin 262144)
  /-- PRIVATE_HALF_READ (R295): A TABLE_READ ticket comes up on its ember lane and the private half is read -/
  | privateHalfRead (lane : Fin 262144)
  /-- TBL_EVICT_SEED_WRITE (R283): A write of TBL_EVICT_SEED loads the eviction generator state -/
  | tblEvictSeedWrite (value : Word)
  /-- ROUTE_REGION_WRITE (R285): A TBL_ROUTE_REGION write is applied or ignored with event 0x1409 -/
  | routeRegionWrite (v6 : Bool) (len : Fin 129) (value : Word)
  /-- TCAM_TXN_OPEN (R320): Opens a TCAM transaction, copying the slot in force into the next slot -/
  | tcamTxnOpen (h : MbxHdr) (id : Fin 65536)
  /-- TCAM_TXN_COMMIT (R324): Commits the open transaction with effect tick E, or refuses with CONFIG -/
  | tcamTxnCommit (h : MbxHdr) (id : Fin 65536)
  /-- TCAM_TXN_ABORT (R325): Aborts the open transaction, freeing next-slot-only entries -/
  | tcamTxnAbort (h : MbxHdr) (id : Fin 65536)
  /-- TCAM_ENTRY_WRITE (R321): Stores an entry at a free index as a member of the next slot only -/
  | tcamEntryWrite (h : MbxHdr) (record : List Byte)
  /-- TCAM_ENTRY_WITHDRAW (R321): Clears an entry's membership of the next slot -/
  | tcamEntryWithdraw (h : MbxHdr) (index : Fin 131072)
  /-- TCAM_ENTRY_CLEAR (R321): Frees an entry that is a member of the next slot only -/
  | tcamEntryClear (h : MbxHdr) (index : Fin 131072)
  /-- TCAM_TXN_APPLY (R324): At E the next slot becomes the slot in force and the transaction is COMPLETING -/
  | tcamTxnApply
  /-- TCAM_TXN_IDLE (R324): After E + RET_DELAY and the end of old invocations, the transaction reaches IDLE and frees entries -/
  | tcamTxnIdle
  /-- TCAM_COURSE_WRITE (R320): A course or profile register write changes the next slot, both slots when stopped, or is ignored -/
  | tcamCourseWrite (off : Fin 1048576) (value : Word)
  /-- RESIDUE_RETRY (R365): Every 16 ticks a residue copy is retried and linked when its queue is ready -/
  | residueRetry
  /-- RESIDUE_TIMEOUT (R366): A residue copy not made by e + RT is dropped with MCAST_RESIDUE_TIMEOUT -/
  | residueTimeout
  /-- HOST_DMA_TAKE (R485): The active or solo twin takes the head frame of a host queue when buffers, ring room and budget allow -/
  | hostDmaTake (hq : Fin 64) (bufs : List Nat)
  /-- HOST_FRAME_WRITE (R485): After the take's effect tick the frame and its RX completion are written to host memory -/
  | hostFrameWrite (hq : Fin 64)
  /-- METER_WRITE_EFFECT (R383): A meter write takes effect at E + RET_DELAY, or after held earlier frames retire, and refills the buckets -/
  | meterWriteEffect (meter : Fin 262144)
  /-- MIRROR_MAC_TAKE (R389): The mirror MAC takes a copy from MQ00 to MQ15 in round robin and encapsulates it for its port's mirror slot -/
  | mirrorMacTake
  /-- TWIN_ROLE_ACCEPT (R401): A new TWIN_ROLE level held for 3 samples, after the dwell, takes effect at the next tick boundary -/
  | twinRoleAccept (level : Bool)
  /-- HELLO (R405): A partner HELLO is received and pairing begins or proceeds -/
  | hello (body nonce : List Byte)
  /-- CONFIRM (R405): A partner CONFIRM is checked and the session key derived -/
  | confirm (tag : List Byte) (theirs : Nat)
  /-- TICK_SYNC (R408): The joiner receives the tick count of the next TWIN_TSYNC_O pulse -/
  | tickSync (count : Nat)
  /-- TSYNC_PULSE (R408): At the TWIN_TSYNC_I pulse the joiner adopts the master's tick count and phase -/
  | tsyncPulse
  /-- PAIRING_TIMEOUT (R406): A handshake not complete within 100 ms of the first HELLO is refused with TIMEOUT -/
  | pairingTimeout
  /-- PAIRING_RETRY (R406): A refused twin retries pairing after 1 s -/
  | pairingRetry (nonce : List Byte)
  /-- COLD_START (R409): At the named start tick both twins enable forwarding and enter ACTIVE or STANDBY -/
  | coldStart
  /-- FLUE_FRAME_RECEIVE (R414): A flue frame is authenticated and its messages passed on, or it is discarded -/
  | flueFrameReceive (frame : List Byte)
  /-- FLUE_LINK_CHANGE (R404): A flue lane group gains or loses alignment lock -/
  | flueLinkChange (group : Fin 2) (lock : Bool)
  /-- KEEPALIVE (R415): A KEEPALIVE message shows that the partner is not silent -/
  | keepalive (tick : Nat)
  /-- DIGEST (R421): A partner digest is received and compared with this twin's digest for the same tick -/
  | digest (tick : Nat) (digest : Nat) (counts : List Nat) (st : Nat)
  /-- DIGEST_MISSING (R421): A partner digest not held by t + 5 counts as a mismatch -/
  | digestMissing (tick : Nat)
  /-- DETECT (R112): A partner's link or underrun detections are combined with this twin's -/
  | detect (entries : List DetectEntry)
  /-- HOST_WRITE (R418): A partner's HOST_WRITE message is held for application at its effect tick -/
  | hostWrite (effTick : Nat) (side : Bool) (seq : Nat) (entry : List Byte)
  /-- INJECT (R480): A partner's injected frame with its apply tick is received for admission on port 2,048 -/
  | inject (apply : Nat) (body : List Byte)
  /-- DMA_TAKE (R360): A DMA_TAKE message agrees a host-queue take and its release tick -/
  | dmaTake (effTick : Nat) (hq : Fin 64) (frames : Nat)
  /-- TIME (R456): A TIME message is compared with or adopted as time state, or relays a report record -/
  | time (body : List Byte)
  /-- TIME_STATE_ADOPT (R456): At k + 256 a twin adopts the sender's time state -/
  | timeStateAdopt
  /-- SNAP_DATA (R428): The joiner applies a bulk snapshot item record -/
  | snapData (flags : Nat) (records : List Byte)
  /-- SNAP_LOG (R427): The joiner applies a later change to a snapshot item -/
  | snapLog (tick : Nat) (record : List Byte)
  /-- LANE_CLEAR (R430): A LANE_CLEAR marks ember lanes clear on the joiner -/
  | laneClear (map : Bool) (body : List Byte)
  /-- PLACEHOLDER (R431): The joiner links a placeholder copy at its link tick and schedules it as the source does -/
  | placeholder (tick : Nat) (body : List Byte)
  /-- SNAP_END (R427): SNAP_END names the join tick J to the joiner -/
  | snapEnd (join : Nat)
  /-- SNAP_LATE (R427): SNAP_END not sent by J − 8 fails the attempt -/
  | snapLate
  /-- JOIN (R429): At J the joiner enters WARMING and admits under the source's bitmaps and late lists -/
  | join
  /-- WARM_DONE (R432): WARM_DONE names the warm tick W to the joiner -/
  | warmDone (warmTick : Nat)
  /-- WARM (R432): At W both twins use each other's messages and enter ACTIVE or STANDBY -/
  | warm
  /-- STILL_WARMING (R432): After 1 s in WARMING event 0x180A is raised with STILL_WARMING -/
  | stillWarming
  /-- FAULT (R411): A partner's FAULT message names its demotion tick D -/
  | faultMsg (demote cause faultTick : Nat) (detail : List Byte)
  /-- SWAP_REQ (R425): A SWAP_REQ passes a host swap request to the standby -/
  | swapReq
  /-- PARTNER_ABSENT (R411): A silent or demoted partner sends the twin into SOLO at tick k, and its solo ports go down -/
  | partnerAbsent
  /-- ROLE_UNCONFIRMED (R412): A former standby in SOLO without TWIN_ROLE high within 50 µs enters DIVERGED -/
  | roleUnconfirmed
  /-- DEMOTION (R422): At the demotion tick D a self-faulted twin enters DIVERGED -/
  | demotion
  /-- SWAP_REQUEST_RAISE (R425): After SWAP_S seconds, or on request, a standby raises TWIN_SWAP_REQ -/
  | swapRequestRaise
  /-- SWAP_REQUEST_EXPIRE (R425): An ungranted TWIN_SWAP_REQ is lowered after 100 ms -/
  | swapRequestExpire
  /-- RESYNC_START (R426): A DIVERGED twin starts resynchronisation once its conditions and hold-off are met -/
  | resyncStart (nonce : List Byte)
  /-- TWIN_CMD_STATUS (R474): Returns TWIN_STATUS, the partner's HELLO and the last FAULT -/
  | twinCmdStatus (h : MbxHdr)
  /-- TWIN_CMD_SWAP (R425): Requests a role swap -/
  | twinCmdSwap (h : MbxHdr)
  /-- TWIN_CMD_RESYNC (R426): Starts a resynchronisation attempt and clears the failure count -/
  | twinCmdResync (h : MbxHdr)
  /-- TWIN_CMD_LEAVE (R410): Leaves the pair into SOLO or DIVERGED -/
  | twinCmdLeave (h : MbxHdr)
  /-- TWIN_CMD_PAIR (R406): Retries pairing at once -/
  | twinCmdPair (h : MbxHdr) (nonce : List Byte)
  /-- TIME_STEP_SET (R441): Sets the time of day at E and locks, or is refused when LOCKED -/
  | timeStepSet (h : MbxHdr) (sec ns frac : Nat)
  /-- TIME_STEP_ADJUST (R441): Adds an offset to ToD when unlocked, or to the remaining slew within JUMP_THRESH -/
  | timeStepAdjust (h : MbxHdr) (off : Int)
  /-- TIME_RATE (R441): Sets the rate word INC at E, or refuses with RANGE -/
  | timeRate (h : MbxHdr) (inc : Nat)
  /-- TIME_UNLOCK (R441): Returns the time unit to UNLOCKED at E and discards the remaining slew -/
  | timeUnlock (h : MbxHdr)
  /-- TRIG_ARM (R451): A TIME_TRIG_CFG write arms a time trigger from its effect tick -/
  | trigArm (trig : Fin 8) (value : Word)
  /-- TRIGGER_FIRE (R451): An armed trigger whose target is reached fires, clears ARM, sets FIRED and drives its pin -/
  | triggerFire (trig : Fin 8) (cycle : Fin 40)
  /-- TRIGGER_PULSE_END (R451): A trigger pulse ends after WIDTH cycles -/
  | triggerPulseEnd (trig : Fin 8) (cycle : Fin 40)
  /-- PPS_IN_CAPTURE (R453): A rising PPS_IN edge captures the time of day -/
  | ppsInCapture (cycle : Fin 40)
  /-- PPS_OUT_RISE (R454): PPS_OUT rises when NS first reaches OFFSET in a second while LOCKED -/
  | ppsOutRise (cycle : Fin 40)
  /-- PPS_OUT_FALL (R454): PPS_OUT falls after WIDTH × 100 µs -/
  | ppsOutFall (cycle : Fin 40)
  /-- TIMESTAMP_TIMEOUT (R448): No departure time by grant + 256 consumes a SEQ and counts a loss -/
  | timestampTimeout (tsid : Fin 65536)
  /-- POP (R458): TIME_TSF_CTRL.POP removes the oldest timestamp record -/
  | pop
  /-- TIME_NOW_LATCH (R458): A read of TIME_NOW_FRAC latches the NOW registers of the same cycle -/
  | timeNowLatch (cycle : Fin 40)
  /-- LOW_WORD_READ (R9): A read of a 64-bit quantity's low word latches its high word -/
  | lowWordRead (off : Nat)
  /-- HIGH_WORD_WRITE (R10): A write of a 64-bit RW high word is held until the next low-word write -/
  | highWordWrite (off : Nat) (value : Word)
  /-- RC_READ (R13): A read of an RC field returns and clears it -/
  | rcRead (rd : BarRead)
  /-- REGISTER_WRITE (R464): A direct BAR0 write to a register without its own row is applied per its access type, agreed-block rules and range clamps -/
  | registerWrite (wr : BarWrite)
  /-- BAD_ACCESS (R463): A BAR0 access that is not one aligned 32-bit word completes with Unsupported Request -/
  | badAccess (off bytes : Nat)
  /-- HOST_RING_PROD_WRITE (R466): Host software writes a host-filled ring's PROD, handing entries to the device -/
  | hostRingProdWrite (ring : Fin 259) (value : Word)
  /-- HOST_RING_CONS_WRITE (R488): Host software writes a device-filled ring's CONS, freeing entries and re-arming its interrupt vector -/
  | hostRingConsWrite (ring : Fin 259) (value : Word)
  /-- RING_CFG_WRITE (R467): A ring CFG write enables a ring or, clearing ENABLE, zeroes PROD and CONS -/
  | ringCfgWrite (ring : Fin 259) (value : Word)
  /-- VERSION_QUERY (R472): Negotiates the mailbox command set version -/
  | versionQuery (h : MbxHdr) (high low : Nat)
  /-- PROGRAM_LOAD (R191): Verifies an image and stores it as the pending image in every stove -/
  | programLoad (h : MbxHdr) (image : List Byte)
  /-- PROGRAM_ACTIVATE (R192): Schedules activation of the pending image at an effect tick E -/
  | programActivate (h : MbxHdr) (id : Nat) (partner : List Byte)
  /-- PROGRAM_ACTIVATION (R192): At E the new image becomes active, K takes effect and program counters roll over -/
  | programActivation
  /-- OLD_IMAGE_FREE (R192): The old image is freed at E + RET_DELAY + 1 or when its last held frame retires -/
  | oldImageFree
  /-- PORT_SET (R474): Sets a port's enable, rate, lane and channel at an effect tick, or refuses with CONFIG -/
  | portSet (h : MbxHdr) (port : Nat) (enable : Bool) (rate lane chan : Nat)
  /-- QUEUE_SET (R474): Writes a queue's masked configuration registers at one effect tick -/
  | queueSet (h : MbxHdr) (port uq mask : Nat) (values : List Nat)
  /-- REG_WRITE (R464): Agreed masked write of a BAR0 register at an effect tick -/
  | regWrite (h : MbxHdr) (off : Nat) (value mask : Word)
  /-- IMAGE_WRITE_DATA (R508): Writes whole 256-byte pages of erased flash in a non-boot slot -/
  | imageWriteData (h : MbxHdr) (slot : Nat) (off : Nat) (data : List Byte)
  /-- IMAGE_WRITE_COMMIT (R506): Copies the running image to another slot and writes a signed runtime overlay -/
  | imageWriteCommit (h : MbxHdr) (slot : Nat)
  /-- IMAGE_WRITE_ERASE (R508): Erases a whole non-boot slot, trailer included -/
  | imageWriteErase (h : MbxHdr) (slot : Nat) (off : Nat)
  /-- IMAGE_SELECT (R503): Authenticates a slot and writes a select record making it the next start's choice -/
  | imageSelect (h : MbxHdr) (slot : Nat)
  /-- BIST_RUN_MBIST (R544): Runs MBIST on an off domain, or any non-AON domain in the safe hearth state -/
  | bistRunMbist (h : MbxHdr) (domain : Nat)
  /-- BIST_RUN_LBIST (R544): Runs LBIST on an off domain, or any non-AON domain in the safe hearth state -/
  | bistRunLbist (h : MbxHdr) (domain : Nat)
  /-- BIST_RUN_SWEEP (R540): Starts a stove sweep visit to a group at once -/
  | bistRunSweep (h : MbxHdr) (group : Nat)
  /-- HEALTH_READ (R543): Writes the health map to BUF_OUT -/
  | healthRead (h : MbxHdr)
  /-- TX_DESCRIPTOR_TAKE (R478): The device takes one TX descriptor from the next enabled queue pair and reads its frame -/
  | txDescriptorTake (qp : Fin 64) (desc : TxDesc)
  /-- TX_FRAME_READ_DONE (R479): An injected frame has been read; it is checked, segmented and given an apply tick -/
  | txFrameReadDone (qp : Fin 64) (frame : List Byte)
  /-- TX_COMPLETION_WRITE (R481): A TX completion is written after the last frame retires and the timestamp outcome is known -/
  | txCompletionWrite (qp : Fin 64)
  /-- MSI_X_MESSAGE (R488): A vector sends a message once COUNT records are pending or TIMER µs have passed -/
  | msiXMessage (vec : Fin 68)
  /-- PCIE_LINK_CHANGE (R460): The PCI Express link speed or width changes -/
  | pcieLinkChange (status : Word)
  /-- PCIE_ERROR (R493): A PCIe error on a command, buffer, descriptor or ring access completes with DMA_ERROR or disables the ring -/
  | pcieError (what : PcieErr)
  /-- MDIO_CMD (R489): A HOST_MDIO_CMD write starts one Clause 22 or Clause 45 access -/
  | mdioCmd (master : Fin 8) (value : Word)
  /-- MDIO_DONE (R489): An MDIO access ends and BUSY clears -/
  | mdioDone (master : Fin 8) (data : Fin 65536)
  /-- GO (R490): HOST_TWI_CMD.GO starts one two-wire transaction -/
  | go (master : Fin 8) (value : Word)
  /-- TWI_DONE (R490): A two-wire transaction ends with STOP, or with NACK, lost arbitration or timeout -/
  | twiDone (master : Fin 8) (res : TwiResult)
  /-- TWI_FIFO_READ (R492): A read of HOST_TWI_FIFO pops a byte read -/
  | twiFifoRead (master : Fin 8)
  /-- UART_SEND (R491): A write of HOST_UART_DATA queues a byte to send, or drops it when full -/
  | uartSend (value : Word)
  /-- UART_READ (R491): A read of HOST_UART_DATA pops a received byte -/
  | uartRead
  /-- UART_RECEIVE (R491): A byte arrives on UART_RX into the receive FIFO -/
  | uartReceive (byte : Byte)
  /-- FUSE_PROGRAM_CUST_HASH (R518): Programs an unprogrammed customer key hash slot -/
  | fuseProgramCustHash (slot : Fin 4)
  /-- FUSE_REVOKE (R518): Revokes a customer key slot -/
  | fuseRevoke (slot : Fin 4)
  /-- FUSE_ROOT_DISABLE (R518): Blows ROOT_DISABLE -/
  | fuseRootDisable
  /-- FUSE_PROGRAM_CWK (R518): Programs the customer wrap key while unprogrammed -/
  | fuseProgramCwk
  /-- FUSE_ADVANCE_SVN (R518): Advances the fused security version count -/
  | fuseAdvanceSvn (svn : Fin 128)
  /-- FUSE_OP_DONE (R518): A fuse operation ends with its read-back result and event 0x1B09 -/
  | fuseOpDone (verified : Bool)
  /-- DOMAIN_SWITCH_OFF (R523): A PWR_DOMAIN_CTRL bit cleared switches its domain off at once, or is refused -/
  | domainSwitchOff (bit : Fin 13)
  /-- DOMAIN_SWITCH_ON (R524): A PWR_DOMAIN_CTRL bit set queues the domain's ramp -/
  | domainSwitchOn (bit : Fin 13)
  /-- DOMAIN_READY (R524): A domain's ramp and MBIST complete and it is ready -/
  | domainReady (failed : List (Nat × Nat))
  /-- AVS_RECOMPUTE (R527): Every 1 ms the device recomputes its core voltage setpoint, and lowers FREQ when the code limit is reached -/
  | avsRecompute (need : List Nat)
  /-- VID_STEP (R527): CORE_VID moves one code toward the setpoint, at most every 10 µs -/
  | vidStep
  /-- THERMAL_SAMPLE (R530): Every 1 ms the sensors are read, warning and throttling applied -/
  | thermalSample (die : List Int) (hbm0 hbm1 : Int)
  /-- AGING_REPORT (R545): Every 1 s DEGRADE, LIFE_USED and the life hours are updated -/
  | agingReport (degrade : List Nat)
  /-- SWEEP_VISIT (R539): A stove sweep visit starts on the oldest group, bringing cover and taking its stoves out of service -/
  | sweepVisit
  /-- SWEEP_DRAINED (R539): The swept group has drained; its caches are written back, secrets zeroised and its tests started -/
  | sweepDrained
  /-- SWEEP_TEST_DONE (R539): LBIST and MBIST of the swept group end and the program stores are copied -/
  | sweepTestDone (failed : Fin 16)
  /-- SWEEP_RETURN (R539): At effect tick y the passing stoves become eligible and the cover group parks -/
  | sweepReturn
  /-- EXTEST (R542): JTAG EXTEST locks the device out with cause SCAN after zeroising secrets -/
  | extest
  /-- INTSCAN (R542): JTAG INTSCAN locks the device out with cause SCAN after zeroising secrets -/
  | intscan
  /-- BISTCTL (R542): JTAG BISTCTL locks the device out with cause SCAN after zeroising secrets -/
  | bistctl
  /-- SAMPLE_PRELOAD (R542): JTAG SAMPLE/PRELOAD without lockout -/
  | samplePreload
  /-- IDCODE (R516): JTAG IDCODE shifts out 0x1624_098F -/
  | idcode
  /-- IDREAD (R515): JTAG IDREAD shifts out the 128-bit identity record -/
  | idread
  /-- BYPASS (R542): JTAG BYPASS, also for any unlisted instruction code -/
  | bypass (code : Byte)
  /-- LANE_BLOCK_ERROR (R61): An invalid sync header, an undecodable block, an ordered set with a bad CRC-8, a PCS error or uncorrectable RS(544,514) codeword outside any frame, or a loss of block or alignment lock is received on a lane and is a wire error that makes the lane not clean -/
  | laneBlockError (lane : Fin 512) (lockLost : Bool)
  /-- SUPPLY_MONITOR_RELEASE (R560): VDD_CORE, VDD_SRAM and VDDIO all return above their monitor thresholds, and the device leaves the monitor's reset as it does at a rising edge of RESET_N -/
  | supplyMonitorRelease (inp : StartInput)
  /-- RECEIVE_LPI (R109): A plain lane's PCS starts or stops signalling low-power idle, so the port enters or leaves receive LPI and RX_LPI and RX_LPI_TICKS follow it -/
  | receiveLpi (lane : Fin 512) (on : Bool)
  /-- LONG_COMMAND_DONE (R469): A long mailbox command (PROGRAM_LOAD, TABLE_AUDIT, IMAGE_WRITE, IMAGE_SELECT or BIST_RUN) finishes, writes its completion, and lets the next long command in sequence order start -/
  | longCommandDone (inp : LongInput)
  /-- TX_FRAME_END (R86): The last byte and FCS of a transmitted frame leave the MAC, the Hearth frame-status set follows, and the transmit statistics and the decay count of frames sent without underrun advance -/
  | txFrameEnd (port : Fin 2048)
  deriving DecidableEq, Repr

end Sys2Proof
end

