-- ==== Sys2Proof/Decode.lean ====
section
/-! DEFINITION. No row of the command table has bits: the device's commands are events and operations with operands, and
no word spells one. -/

namespace Sys2Proof

/-- The command that a word of `nbits` bits spells by the command table's bits: none, since no row gives bits. -/
def decodeTableWord (_nbits _w : Nat) : Option Instr := none

end Sys2Proof
end

