-- ==== Sys2Proof/Machine/FMap.lean ====
section
/-! DEFINITION. Sparse maps keyed by numbers, in one canonical form: keys strictly rising, no entry equal to the
default. They hold every register array, memory and table of the device as plain data. -/

namespace Sys2Proof.Machine

/-- A sparse map: pairs of key and value. -/
abbrev FMap (α : Type) := List (Nat × α)

/-- The value at a key, `d` where nothing is listed. -/
def FMap.get {α : Type} (d : α) : FMap α → Nat → α
  | [], _ => d
  | (k, v) :: m, i => if i = k then v else FMap.get d m i

/-- The entry at a key, if listed. -/
def FMap.find? {α : Type} : FMap α → Nat → Option α
  | [], _ => none
  | (k, v) :: m, i => if i = k then some v else FMap.find? m i

/-- Remove a key, wherever it is listed. -/
def FMap.erase {α : Type} : FMap α → Nat → FMap α
  | [], _ => []
  | (k, v) :: m, i => if i = k then FMap.erase m i else (k, v) :: FMap.erase m i

/-- Set a key, keeping the keys rising. -/
def FMap.put {α : Type} : FMap α → Nat → α → FMap α
  | [], i, x => [(i, x)]
  | (k, v) :: m, i, x =>
    if i < k then (i, x) :: (k, v) :: m
    else if i = k then (i, x) :: m
    else (k, v) :: FMap.put m i x

/-- Set a key in a map with default `d`: a value equal to the default removes the entry. -/
def FMap.set {α : Type} [DecidableEq α] (d : α) (m : FMap α) (i : Nat) (x : α) : FMap α :=
  if x = d then FMap.erase m i else FMap.put m i x

/-- The keys of a map lie above a bound and rise strictly. -/
def FMap.risesFrom {α : Type} : Option Nat → FMap α → Bool
  | _, [] => true
  | none, (k, _) :: m => FMap.risesFrom (some k) m
  | some b, (k, _) :: m => decide (b < k) && FMap.risesFrom (some k) m

/-- The canonical form of a map with default `d`. -/
def FMap.wf {α : Type} [DecidableEq α] (d : α) (m : FMap α) : Bool :=
  FMap.risesFrom none m && m.all (fun e => !decide (e.2 = d))

/-- Change one entry of a map with default `d`. -/
def FMap.upd {α : Type} [DecidableEq α] (d : α) (m : FMap α) (i : Nat) (f : α → α) : FMap α :=
  FMap.set d m i (f (FMap.get d m i))

/-- Read `n` consecutive bytes. -/
def FMap.bytes (d : Byte) (m : FMap Byte) (a : Nat) : Nat → List Byte
  | 0 => []
  | n + 1 => FMap.get d m a :: FMap.bytes d m (a + 1) n

/-- Write consecutive bytes. -/
def FMap.putBytes (d : Byte) (m : FMap Byte) (a : Nat) : List Byte → FMap Byte
  | [] => m
  | b :: bs => FMap.putBytes d (FMap.set d m a b) (a + 1) bs

end Sys2Proof.Machine
end

