-- ==== Sys2Proof/Machine/Bits.lean ====
section
/-! DEFINITION. Bit fields, byte orders and the checks over bytes that the manual defines: little-endian structures and
network-order frame bytes (R7), the CRC-8 of R50, the CRC-32C of R206, the frame check sequence. -/

namespace Sys2Proof.Machine

/-- Insert an element before the first that it does not come after. -/
def insertBy {α : Type} (le : α → α → Bool) (x : α) : List α → List α
  | [] => [x]
  | y :: ys => if le x y then x :: y :: ys else y :: insertBy le x ys

/-- A list in order; equal elements keep their places. -/
def sortBy {α : Type} (le : α → α → Bool) (l : List α) : List α := l.foldr (insertBy le) []

/-- Field [hi:lo] of a number. -/
def fld (x hi lo : Nat) : Nat := (x / 2 ^ lo) % 2 ^ (hi + 1 - lo)

/-- Bit `i` of a number. -/
def tb (x i : Nat) : Bool := x.testBit i

/-- A number's bit `i` as 0 or 1. -/
def b2n (b : Bool) : Nat := if b then 1 else 0

/-- Field [hi:lo] of a register. -/
def wfld (x : Word) (hi lo : Nat) : Nat := fld x.toNat hi lo

/-- The rounded-up quotient. -/
def cdiv (a b : Nat) : Nat := if b = 0 then 0 else (a + b - 1) / b

/-- The value of little-endian bytes. -/
def leVal : List Byte → Nat
  | [] => 0
  | b :: bs => b.toNat + 256 * leVal bs

/-- The value of network-order bytes. -/
def beVal (bs : List Byte) : Nat := bs.foldl (fun a b => 256 * a + b.toNat) 0

/-- The low `n` bytes of a value, little-endian. -/
def leBytes : Nat → Nat → List Byte
  | 0, _ => []
  | n + 1, v => BitVec.ofNat 8 v :: leBytes n (v / 256)

/-- The low `n` bytes of a value, network order. -/
def beBytes (n v : Nat) : List Byte := (leBytes n v).reverse

/-- Byte `i` of a list, zero beyond it. -/
def byteAt (bs : List Byte) (i : Nat) : Byte := bs.getD i 0

/-- `n` bytes from offset `i`, zero beyond the list. -/
def slice (bs : List Byte) (i n : Nat) : List Byte :=
  let t := (bs.drop i).take n
  t ++ List.replicate (n - t.length) 0

/-- Replace bytes from offset `i` on (within the list). -/
def splice (bs : List Byte) (i : Nat) (v : List Byte) : List Byte :=
  bs.take i ++ v ++ bs.drop (i + v.length)

/-- One step of a most-significant-bit-first CRC-8 of polynomial 0x07. -/
def crc8Bit (c : BitVec 8) : BitVec 8 := if c.msb then (c <<< 1) ^^^ 0x07 else c <<< 1

/-- R50: CRC-8, polynomial 0x07, initial 0, no inversion, bytes in order, most significant bit first. -/
def crc8 (bs : List Byte) : Byte :=
  bs.foldl (fun c b => (List.range 8).foldl (fun x _ => crc8Bit x) (c ^^^ b)) 0

/-- One byte of a reflected 32-bit CRC. -/
def crc32Byte (poly : Word) (c : Word) (b : Byte) : Word :=
  (List.range 8).foldl (fun x _ => if x.getLsbD 0 then (x >>> 1) ^^^ poly else x >>> 1) (c ^^^ b.setWidth 32)

/-- R206: CRC-32C (polynomial 0x1EDC_6F41 reflected). -/
def crc32c (bs : List Byte) : Word := (bs.foldl (crc32Byte 0x82F63B78) 0xFFFFFFFF) ^^^ 0xFFFFFFFF

/-- The IEEE 802.3 CRC-32 of the frame check sequence. -/
def crc32 (bs : List Byte) : Word := (bs.foldl (crc32Byte 0xEDB88320) 0xFFFFFFFF) ^^^ 0xFFFFFFFF

/-- The four FCS bytes of a frame body, in transmission order. -/
def fcsBytes (body : List Byte) : List Byte := leBytes 4 (crc32 body).toNat

/-- The frame's last four bytes are the FCS of the bytes before them. -/
def fcsGood (frame : List Byte) : Bool :=
  decide (4 ≤ frame.length ∧ frame.drop (frame.length - 4) = fcsBytes (frame.take (frame.length - 4)))

/-- The one's complement sum of 16-bit network-order words, folded. -/
def onesSum (bs : List Byte) : Nat :=
  let rec go : List Byte → Nat
    | [] => 0
    | [a] => a.toNat * 256
    | a :: b :: r => a.toNat * 256 + b.toNat + go r
  let s := go bs
  let s1 := s / 65536 + s % 65536
  s1 / 65536 + s1 % 65536

/-- Saturating increment of a register counter of `w` bits. -/
def satAdd (w a n : Nat) : Nat := Nat.min (a + n) (2 ^ w - 1)

end Sys2Proof.Machine
end

