-- ==== Sys2Proof/Machine/Crypto.lean ====
section
/-! DEFINITION. The public algorithms that the manual names: SHA-384 (FIPS 180-4), AES-256-GCM (NIST SP 800-38D), ECDSA
P-384 verification (FIPS 186-5), and the CRC-64 of R420. The manual gives their names, the standards their definition
(PRESUMED, notes/assumptions/4.md). -/

namespace Sys2Proof.Machine

/-! ### SHA-384 -/

/-- SHA-384 round constants, part 0 (FIPS 180-4). -/
def shaK0 : List DWord :=
  [0x428A2F98D728AE22, 0x7137449123EF65CD, 0xB5C0FBCFEC4D3B2F, 0xE9B5DBA58189DBBC,
   0x3956C25BF348B538, 0x59F111F1B605D019, 0x923F82A4AF194F9B, 0xAB1C5ED5DA6D8118,
   0xD807AA98A3030242, 0x12835B0145706FBE, 0x243185BE4EE4B28C, 0x550C7DC3D5FFB4E2,
   0x72BE5D74F27B896F, 0x80DEB1FE3B1696B1, 0x9BDC06A725C71235, 0xC19BF174CF692694,
   0xE49B69C19EF14AD2, 0xEFBE4786384F25E3, 0x0FC19DC68B8CD5B5, 0x240CA1CC77AC9C65]

/-- SHA-384 round constants, part 1 (FIPS 180-4). -/
def shaK1 : List DWord :=
  [0x2DE92C6F592B0275, 0x4A7484AA6EA6E483, 0x5CB0A9DCBD41FBD4, 0x76F988DA831153B5,
   0x983E5152EE66DFAB, 0xA831C66D2DB43210, 0xB00327C898FB213F, 0xBF597FC7BEEF0EE4,
   0xC6E00BF33DA88FC2, 0xD5A79147930AA725, 0x06CA6351E003826F, 0x142929670A0E6E70,
   0x27B70A8546D22FFC, 0x2E1B21385C26C926, 0x4D2C6DFC5AC42AED, 0x53380D139D95B3DF,
   0x650A73548BAF63DE, 0x766A0ABB3C77B2A8, 0x81C2C92E47EDAEE6, 0x92722C851482353B]

/-- SHA-384 round constants, part 2 (FIPS 180-4). -/
def shaK2 : List DWord :=
  [0xA2BFE8A14CF10364, 0xA81A664BBC423001, 0xC24B8B70D0F89791, 0xC76C51A30654BE30,
   0xD192E819D6EF5218, 0xD69906245565A910, 0xF40E35855771202A, 0x106AA07032BBD1B8,
   0x19A4C116B8D2D0C8, 0x1E376C085141AB53, 0x2748774CDF8EEB99, 0x34B0BCB5E19B48A8,
   0x391C0CB3C5C95A63, 0x4ED8AA4AE3418ACB, 0x5B9CCA4F7763E373, 0x682E6FF3D6B2B8A3,
   0x748F82EE5DEFB2FC, 0x78A5636F43172F60, 0x84C87814A1F0AB72, 0x8CC702081A6439EC]

/-- SHA-384 round constants, part 3 (FIPS 180-4). -/
def shaK3 : List DWord :=
  [0x90BEFFFA23631E28, 0xA4506CEBDE82BDE9, 0xBEF9A3F7B2C67915, 0xC67178F2E372532B,
   0xCA273ECEEA26619C, 0xD186B8C721C0C207, 0xEADA7DD6CDE0EB1E, 0xF57D4F7FEE6ED178,
   0x06F067AA72176FBA, 0x0A637DC5A2C898A6, 0x113F9804BEF90DAE, 0x1B710B35131C471B,
   0x28DB77F523047D84, 0x32CAAB7B40C72493, 0x3C9EBE0A15C9BEBC, 0x431D67C49C100D4C,
   0x4CC5D4BECB3E42B6, 0x597F299CFC657E2A, 0x5FCB6FAB3AD6FAEC, 0x6C44198C4A475817]

/-- SHA-384 initial hash value (FIPS 180-4). -/
def shaH0 : List DWord :=
  [0xCBBB9D5DC1059ED8, 0x629A292A367CD507, 0x9159015A3070DD17, 0x152FECD8F70E5939,
   0x67332667FFC00B31, 0x8EB44A8768581511, 0xDB0C2E0D64F98FA7, 0x47B5481DBEFA4FA4]

/-- The 80 round constants. -/
def shaK : List DWord := shaK0 ++ shaK1 ++ shaK2 ++ shaK3

/-- Split bytes into `n` words of 8 bytes, network order. -/
def beWords : Nat → List Byte → List DWord
  | 0, _ => []
  | n + 1, bs => BitVec.ofNat 64 (beVal (bs.take 8)) :: beWords n (bs.drop 8)

/-- The 64 further words of the message schedule; the window holds the last 16 words, oldest first. -/
def shaExpand : Nat → List DWord → List DWord
  | 0, _ => []
  | n + 1, w =>
    let w1 := w.getD 1 0
    let w14 := w.getD 14 0
    let s0 := w1.rotateRight 1 ^^^ w1.rotateRight 8 ^^^ (w1 >>> 7)
    let s1 := w14.rotateRight 19 ^^^ w14.rotateRight 61 ^^^ (w14 >>> 6)
    let x := s1 + w.getD 9 0 + s0 + w.getD 0 0
    x :: shaExpand n (w.drop 1 ++ [x])

/-- One round on the eight working variables. -/
def shaRound (v : List DWord) (kw : DWord × DWord) : List DWord :=
  match v with
  | [a, b, c, d, e, f, g, h] =>
    let s1 := e.rotateRight 14 ^^^ e.rotateRight 18 ^^^ e.rotateRight 41
    let ch := (e &&& f) ^^^ (~~~e &&& g)
    let t1 := h + s1 + ch + kw.1 + kw.2
    let s0 := a.rotateRight 28 ^^^ a.rotateRight 34 ^^^ a.rotateRight 39
    let maj := (a &&& b) ^^^ (a &&& c) ^^^ (b &&& c)
    [t1 + (s0 + maj), a, b, c, d + t1, e, f, g]
  | _ => v

/-- One 128-byte block. -/
def shaBlock (h : List DWord) (blk : List Byte) : List DWord :=
  let w := beWords 16 blk
  let v := (shaK.zip (w ++ shaExpand 64 w)).foldl shaRound h
  (h.zip v).map fun p => p.1 + p.2

/-- All blocks of a padded message. -/
def shaBlocks : Nat → List DWord → List Byte → List DWord
  | 0, h, _ => h
  | n + 1, h, bs => shaBlocks n (shaBlock h (bs.take 128)) (bs.drop 128)

/-- SHA-384 of a byte string: 48 bytes. -/
def sha384 (bs : List Byte) : List Byte :=
  let n := bs.length
  let padded := bs ++ [0x80] ++ List.replicate ((239 - n % 128) % 128) 0 ++ beBytes 16 (8 * n)
  ((shaBlocks (padded.length / 128) shaH0 padded).flatMap fun w => beBytes 8 w.toNat).take 48

/-! ### AES-256 and GCM -/

/-- Multiply by x in the field of AES. -/
def aesX (a : Byte) : Byte := if a.msb then (a <<< 1) ^^^ 0x1B else a <<< 1

/-- Multiply in the field of AES. -/
def aesMul (a b : Byte) : Byte :=
  ((List.range 8).foldl (fun (p : Byte × Byte) i => (if b.getLsbD i then p.1 ^^^ p.2 else p.1, aesX p.2)) (0, a)).1

/-- The inverse in the field of AES: the 254th power; zero for zero. -/
def aesInv (a : Byte) : Byte :=
  let p2 := aesMul a a
  let p4 := aesMul p2 p2
  let p8 := aesMul p4 p4
  let p16 := aesMul p8 p8
  let p32 := aesMul p16 p16
  let p64 := aesMul p32 p32
  let p128 := aesMul p64 p64
  aesMul p128 (aesMul p64 (aesMul p32 (aesMul p16 (aesMul p8 (aesMul p4 p2)))))

/-- The S-box. -/
def aesSub (a : Byte) : Byte :=
  let b := aesInv a
  b ^^^ b.rotateLeft 1 ^^^ b.rotateLeft 2 ^^^ b.rotateLeft 3 ^^^ b.rotateLeft 4 ^^^ 0x63

/-- Exclusive OR of byte strings. -/
def xorBytes (a b : List Byte) : List Byte := (a.zip b).map fun p => p.1 ^^^ p.2

/-- The key schedule of AES-256: `n` further 4-byte words, `i` the index of the next; the window holds the last eight. -/
def aesKeys : Nat → Nat → Byte → List (List Byte) → List (List Byte)
  | 0, _, _, _ => []
  | n + 1, i, rcon, w =>
    let t := w.getD 7 []
    let u := if i % 8 = 0 then
        match (t.drop 1 ++ t.take 1).map aesSub with
        | b :: r => (b ^^^ rcon) :: r
        | [] => []
      else if i % 8 = 4 then t.map aesSub else t
    let x := xorBytes (w.getD 0 []) u
    x :: aesKeys n (i + 1) (if i % 8 = 0 then aesX rcon else rcon) (w.drop 1 ++ [x])

/-- Cut bytes into `n` pieces of `k`. -/
def pieces (k : Nat) : Nat → List Byte → List (List Byte)
  | 0, _ => []
  | n + 1, bs => bs.take k :: pieces k n (bs.drop k)

/-- The fifteen round keys of a 32-byte key. -/
def aesRoundKeys (key : List Byte) : List (List Byte) :=
  let w := pieces 4 8 key
  pieces 16 15 ((w ++ aesKeys 52 8 1 w).flatten)

/-- ShiftRows on sixteen bytes in column order. -/
def aesShift (b : List Byte) : List Byte := (List.range 16).map fun i => byteAt b ((i + 4 * (i % 4)) % 16)

/-- MixColumns on one column. -/
def aesMix (c : List Byte) : List Byte :=
  (List.range 4).map fun i =>
    let x (j : Nat) : Byte := byteAt c ((i + j) % 4)
    aesX (x 0) ^^^ (aesX (x 1) ^^^ x 1) ^^^ x 2 ^^^ x 3

/-- One round behind the initial key: SubBytes, ShiftRows, MixColumns except in the last, the round key. -/
def aesRound (last : Bool) (b k : List Byte) : List Byte :=
  let x := aesShift (b.map aesSub)
  xorBytes (if last then x else ((pieces 4 4 x).map aesMix).flatten) k

/-- AES-256 of one block. -/
def aesEncrypt (ks : List (List Byte)) (b : List Byte) : List Byte :=
  let x := ((ks.drop 1).take 13).foldl (aesRound false) (xorBytes b (ks.getD 0 []))
  aesRound true x (ks.getD 14 [])

/-- Multiply in GCM's field; bit 127 of the number is the first bit. -/
def gcmMul (x y : BitVec 128) : BitVec 128 :=
  ((List.range 128).foldl (fun (p : BitVec 128 × BitVec 128) i =>
    (if x.getMsbD i then p.1 ^^^ p.2 else p.1,
     if p.2.getLsbD 0 then (p.2 >>> 1) ^^^ 0xE1000000000000000000000000000000 else p.2 >>> 1)) (0, y)).1

/-- Pad to whole blocks with zeros. -/
def padBlocks (bs : List Byte) : List Byte := slice bs 0 (16 * cdiv bs.length 16)

/-- GHASH over whole blocks. -/
def ghash (h : BitVec 128) : Nat → BitVec 128 → List Byte → BitVec 128
  | 0, a, _ => a
  | n + 1, a, bs => ghash h n (gcmMul (a ^^^ BitVec.ofNat 128 (beVal (bs.take 16))) h) (bs.drop 16)

/-- The counter-mode key stream of `n` blocks from counter `c` on. -/
def gcmStream (ks : List (List Byte)) (iv : List Byte) : Nat → Nat → List Byte
  | 0, _ => []
  | n + 1, c => aesEncrypt ks (iv ++ beBytes 4 c) ++ gcmStream ks iv n (c + 1)

/-- AES-256-GCM's transformation of the text under a 12-byte IV: encryption and decryption alike. -/
def gcmCrypt (key iv text : List Byte) : List Byte :=
  xorBytes text (gcmStream (aesRoundKeys key) iv (cdiv text.length 16) 2)

/-- The 16-byte tag over additional data and ciphertext. -/
def gcmTag (key iv aad cipher : List Byte) : List Byte :=
  let ks := aesRoundKeys key
  let h := BitVec.ofNat 128 (beVal (aesEncrypt ks (List.replicate 16 0)))
  let m := padBlocks aad ++ padBlocks cipher ++ beBytes 8 (8 * aad.length) ++ beBytes 8 (8 * cipher.length)
  xorBytes (beBytes 16 (ghash h (m.length / 16) 0 m).toNat) (aesEncrypt ks (iv ++ beBytes 4 1))

/-! ### ECDSA P-384 -/

/-- The prime of P-384. -/
def p384p : Nat := 2 ^ 384 - 2 ^ 128 - 2 ^ 96 + 2 ^ 32 - 1

/-- The order of the base point. -/
def p384n : Nat :=
  0xFFFFFFFFFFFFFFFFFFFFFFFFFFFFFFFFFFFFFFFFFFFFFFFFC7634D81F4372DDF581A0DB248B0A77AECEC196ACCC52973

/-- The coefficient b. -/
def p384b : Nat :=
  0xB3312FA7E23EE7E4988E056BE3F82D19181D9C6EFE8141120314088F5013875AC656398D8A2ED19D2A85C8EDD3EC2AEF

/-- The base point. -/
def p384g : Nat × Nat :=
  (0xAA87CA22BE8B05378EB1C71EF320AD746E1D3B628BA79B9859F741E082542A385502F25DBF55296C3A545E3872760AB7,
   0x3617DE4A96262C6F5D9E98BF9292DC29F8F41DBD289A147CE9DA3113B5F0B8C00A60B1CE1D7E819D7A431D7C90EA0E5F)

/-- Power modulo `m` by squaring over `k` exponent bits. -/
def powMod (m : Nat) : Nat → Nat → Nat → Nat
  | 0, _, _ => 1 % m
  | k + 1, b, e =>
    let r := powMod m k (b * b % m) (e / 2)
    if e % 2 = 1 then b * r % m else r

/-- The inverse modulo the prime `m`. -/
def invMod (m x : Nat) : Nat := powMod m 384 (x % m) (m - 2)

/-- Subtraction modulo the prime of P-384. -/
def pSub (a b : Nat) : Nat := (a + p384p - b) % p384p

/-- Doubling in Jacobian coordinates; the point at infinity has Z zero. -/
def jDouble (q : Nat × Nat × Nat) : Nat × Nat × Nat :=
  let (x, y, z) := q
  let zz := z * z % p384p
  let yy := y * y % p384p
  let m := 3 * (pSub x zz * ((x + zz) % p384p) % p384p) % p384p
  let s := 4 * (x * yy % p384p) % p384p
  let x1 := pSub (m * m % p384p) (2 * s % p384p)
  (x1, pSub (m * pSub s x1 % p384p) (8 * (yy * yy % p384p) % p384p), 2 * (y * z % p384p) % p384p)

/-- Addition in Jacobian coordinates. -/
def jAdd (a b : Nat × Nat × Nat) : Nat × Nat × Nat :=
  let (x1, y1, z1) := a
  let (x2, y2, z2) := b
  if z1 = 0 then b else if z2 = 0 then a
  else
    let w1 := z1 * z1 % p384p
    let w2 := z2 * z2 % p384p
    let u1 := x1 * w2 % p384p
    let u2 := x2 * w1 % p384p
    let s1 := y1 * (w2 * z2 % p384p) % p384p
    let s2 := y2 * (w1 * z1 % p384p) % p384p
    if u1 = u2 then (if s1 = s2 then jDouble a else (1, 1, 0))
    else
      let h := pSub u2 u1
      let r := pSub s2 s1
      let hh := h * h % p384p
      let hhh := hh * h % p384p
      let v := u1 * hh % p384p
      let x3 := pSub (pSub (r * r % p384p) hhh) (2 * v % p384p)
      (x3, pSub (r * pSub v x3 % p384p) (s1 * hhh % p384p), h * (z1 * z2 % p384p) % p384p)

/-- `k` times a point, over `n` bits. -/
def jMul : Nat → Nat → Nat × Nat × Nat → Nat × Nat × Nat
  | 0, _, _ => (1, 1, 0)
  | n + 1, k, q =>
    let r := jDouble (jMul n (k / 2) q)
    if k % 2 = 1 then jAdd r q else r

/-- ECDSA P-384 verification of a 48-byte digest, a 96-byte public key (X, then Y) and a 96-byte signature (r, then s),
each number in network order. -/
def ecdsaVerify (digest key sig : List Byte) : Bool :=
  let x := beVal (key.take 48)
  let y := beVal ((key.drop 48).take 48)
  let r := beVal (sig.take 48)
  let s := beVal ((sig.drop 48).take 48)
  let onCurve := decide (x < p384p ∧ y < p384p
    ∧ y * y % p384p = (x * x % p384p * x + 3 * (p384p - x) + p384b) % p384p)
  if !onCurve ∨ r = 0 ∨ s = 0 ∨ p384n ≤ r ∨ p384n ≤ s then false
  else
    let w := invMod p384n s
    let u1 := beVal digest * w % p384n
    let u2 := r * w % p384n
    let (qx, _, qz) := jAdd (jMul 384 u1 (p384g.1, p384g.2, 1)) (jMul 384 u2 (x, y, 1))
    if qz = 0 then false
    else
      let zi := invMod p384p qz
      decide (qx * (zi * zi % p384p) % p384p % p384n = r)

/-! ### CRC-64 (R420) -/

/-- One byte of the reflected CRC-64 of polynomial 0x42F0_E1EB_A9EA_3693. -/
def crc64Byte (c : DWord) (b : Byte) : DWord :=
  (List.range 8).foldl (fun x _ => if x.getLsbD 0 then (x >>> 1) ^^^ 0xC96C5795D7870F42 else x >>> 1)
    (c ^^^ b.setWidth 64)

/-- The CRC-64 of R420. -/
def crc64 (bs : List Byte) : DWord := (bs.foldl crc64Byte 0xFFFFFFFFFFFFFFFF) ^^^ 0xFFFFFFFFFFFFFFFF

end Sys2Proof.Machine
end

