-- ==== Sys2Proof/Config.lean ====
section
/-! DEFINITION. Values that the manual leaves open. Each is an opaque constant: no proof can see its value. A first argument
`n` is the model's own counter of free values (notes/assumptions/2.md). -/

namespace Sys2Proof

/-- R561: a RESET_N pulse of 8 µs or more but shorter than 10 µs may or may not reset the device. -/
opaque Config.shortPulseResets : Nat → Bool

/-- R554, R542: the instruction code that event 0x1C0B carries when TEST_EN, no JTAG instruction, locks the device out. -/
opaque Config.testEnCode : BitVec 16

/-- R212, Table HOB-1: the byte of KC at an offset beyond the image's KC_BYTES, by load number and offset. -/
opaque Config.kcBeyond : Nat → Nat → Byte

/-- R234: the 11-bit PORT that a LEARN from IN_PORT 2,048 or 2,049 stores. -/
opaque Config.learnPort : Nat → BitVec 11

/-- R299: the entry that a full ember cache slice gives up. -/
opaque Config.cacheVictim : Nat → Nat

/-- R437, R456: the 32 bits below FRAC of a time of day that a TIME message carries without them. -/
opaque Config.todBelowFrac : Nat → BitVec 32

/-- R391: the HBM image of a counter pair (second argument) is updated now, within its bound of 2^16 ticks. -/
opaque Config.imageWrites : Nat → Nat → Bool

/-- R407: the zero-run compression of a SNAP_DATA body, whose coding the spec does not give, and its inverse. -/
opaque Config.zeroRunPack : List Byte → List Byte
opaque Config.zeroRunExpand : List Byte → List Byte

/-- Table TWIN-9: the EMIT KIND that a RETIRE record gives a timer firing that ends at END, without any EMIT. -/
opaque Config.timerEndKind : BitVec 3

end Sys2Proof
end

