-- ==== Sys2Proof/Machine/RegMap.lean ====
section
/-! DEFINITION. The register map: every BAR0 register of the spec by the manual's own name, with its offset, its
instances, its reset value and the masks of its access types (R8, R11, R463; the register tables of each chapter). -/

namespace Sys2Proof.Machine

/-- The registers of BAR0. `HOST_RING_x` is the set of the rings MBX_CMD, MBX_CPL and EVT, `HOST_QRING_x` that of
TXq, TXCq, RXBq and RXCq (Table HOST-4); `TBL_ROUTE_REGION6` is the IPv6 array of R303. -/
inductive Reg where
  | GLOBAL_TICK_LO | GLOBAL_TICK_HI | GLOBAL_PATH_DELAY | LANE_GCFG | LANE_BANK_STATUS | LANE_MODE | LANE_HCFG
  | LANE_CHMAP | LANE_TXEQ | LANE_STATUS | LANE_EVENT | LANE_PROVEN_TICK | LANE_WIRE_ERR_CNT | LANE_UNCLEAN_CNT
  | LANE_CTRL | MAC_PORT_CFG | MAC_ADDR_LO | MAC_ADDR_HI | MAC_FC_CFG | MAC_PFC_MAP | MAC_WATCHDOG | MAC_TX_CT
  | MAC_EEE_CFG | MAC_LINK_CFG | MAC_PORT_STATUS | MAC_PORT_EVENT | MAC_PORT_CTRL | MAC_RX_NOCELL_CNT
  | ADM_GOV_CFG | ADM_GOV_STATUS | ADM_GOV_COST | ADM_GOV_TICKS | ADM_PARSE_CFG | ADM_AGREE_MISS | ADM_RELAY_LOST
  | ADM_EVENT | ADM_PORT_CFG | ADM_PORT_HOME | ADM_PORT_PCPMAP | ADM_PORT_TRUNC_CNT | STOVE_PROG_STATUS
  | STOVE_PROG_PENDING | STOVE_PROG_ACT_TICK_LO | STOVE_PROG_ACT_TICK_HI | STOVE_PROG_STORE | STOVE_PROG_FAULT_CNT
  | STOVE_PROG_LAST_FAULT | STOVE_PROG_EVENT | STOVE_CFG | STOVE_HOLD_CFG | STOVE_SERVICE | STOVE_SLOTS
  | STOVE_LATE_CNT | STOVE_LATE_PARTNER_CNT | STOVE_HELD_CNT | STOVE_LATELIST_MISS | STOVE_EVENT | STOVE_GROUP_CFG
  | STOVE_GROUP_STATUS | STOVE_STATUS | STOVE_QDEPTH | STOVE_STOLEN_CNT | TBL_AGE_CFG | TBL_MOVE_CFG
  | TBL_EVICT_CFG | TBL_EVICT_SEED | TBL_ECMP_CFG | TBL_CHANGE_STATUS | TBL_LEARN_DROP_CNT | TBL_MOVE_REFUSED_CNT
  | TBL_EVICT_CNT | TBL_ECC_CNT | TBL_STATION_COUNT | TBL_EMBER_MISS_CNT | TBL_AUDIT_CFG | TBL_AUDIT_BASE_LO
  | TBL_AUDIT_BASE_HI | TBL_AUDIT_STATUS | TBL_AUDIT_MISMATCH_CNT | TBL_EVENT | TBL_ROUTE_REGION | TBL_ROUTE_REGION6
  | TCAM_TXN_STATUS | TCAM_SUPPRESSED | TCAM_BRICK_STATUS | TCAM_SCRUB_CFG | TCAM_SCRUB_PASSES | TCAM_SCRUB_MISMATCH_CNT
  | TCAM_ECC_CNT | TCAM_EVENT | TCAM_POS_MAP | TCAM_COURSE | TCAM_PROF_CFG | TCAM_PROF_SEL | BUF_POOL_CFG
  | BUF_FC_CFG | BUF_MC_CFG | BUF_RECIRC_CFG | BUF_BANK_CFG | BUF_OWNER_POOL | BUF_SHARED_SIZE | BUF_SHARED_USED
  | BUF_RX_RESERVE | BUF_CELLS_FREE | BUF_BANK_STATUS | BUF_RESIDUE_STATUS | BUF_DOUBLE_FREE_CNT | BUF_RX_NOCELL_CNT
  | BUF_EVENT | BUF_SLICE_STATUS | BUF_SLICE_RETIRED | BUF_OWNER_CFG | BUF_OWNER_HDRM | BUF_OWNER_USE
  | BUF_OWNER_DROP_CNT | BUF_QUEUE_CFG | BUF_QUEUE_BANK | BUF_QUEUE_DEPTH | BUF_QUEUE_BANKED | EGR_REQ_DISCARD_CNT
  | EGR_EVENT | EGR_POLICY | EGR_MIR_CFG | EGR_MIR_SAMPLE | EGR_PORT_SHAPE | EGR_PORT_SBURST | EGR_PORT_STATUS
  | EGR_QUEUE_SCHED | EGR_QUEUE_MIN | EGR_QUEUE_MAX | TWIN_CFG | TWIN_SWAP_CFG | TWIN_SNAP_CFG | TWIN_STATUS
  | TWIN_LAST_FAULT | TWIN_FAULT_TICK | TWIN_DIGEST_MISMATCH_CNT | TWIN_FLUE_AUTH_FAIL_CNT | TWIN_RESYNC_CNT
  | TWIN_EVENT | TIME_STATUS | TIME_CFG | TIME_PPS_OUT_OFF | TIME_INC_LO | TIME_INC_HI | TIME_NOW_FRAC
  | TIME_NOW_NS | TIME_NOW_SEC_LO | TIME_NOW_SEC_HI | TIME_NOW_TICK | TIME_SLEW_REMAIN | TIME_PPS_IN_NS
  | TIME_PPS_IN_SEC | TIME_TSF_STATUS | TIME_TSF_W | TIME_TSF_CTRL | TIME_TSF_OVF_CNT | TIME_TSF_TIMEOUT_CNT
  | TIME_CHECK_MISMATCH_CNT | TIME_EVENT | TIME_TRIG_CFG | TIME_TRIG_TARGET | TIME_LANE_COMP | HOST_ID
  | HOST_PCIE_STATUS | HOST_MBX_STATUS | HOST_ERR | HOST_EVT_MASK | HOST_EVENT_LOST_CNT | HOST_QP_CFG
  | HOST_IRQ_MOD | HOST_MDIO_CFG | HOST_MDIO_CMD | HOST_MDIO_DATA | HOST_TWI_CFG | HOST_TWI_CMD | HOST_TWI_STATUS
  | HOST_TWI_FIFO | HOST_UART_CFG | HOST_UART_DATA | BOOT_STATUS | BOOT_IMAGE | BOOT_IMAGE_VERSION | BOOT_KEY_LOADED_LO
  | BOOT_KEY_LOADED_HI | BOOT_REFUSAL_CNT | BOOT_CTRL | BOOT_FUSE_CTRL | BOOT_FUSE_DATA | BOOT_EVENT
  | PWR_DOMAIN_CTRL | PWR_DOMAIN_STATUS | PWR_AVS_CFG | PWR_AVS_STATUS | PWR_THERM_CFG | PWR_THERM_STATUS
  | PWR_LIFE_BASE | PWR_LIFE_HOURS | PWR_EVENT | PWR_ENERGY_LO | PWR_ENERGY_HI | PWR_AGING | BIST_SWEEP_CFG
  | BIST_SWEEP_STATUS | BIST_EVENT | BOOT_ID | BOOT_FACTORY_HEALTH | HOST_RING_BASE_LO | HOST_QRING_BASE_LO
  | HOST_RING_BASE_HI | HOST_QRING_BASE_HI | HOST_RING_CFG | HOST_QRING_CFG | HOST_RING_PROD | HOST_QRING_PROD
  | HOST_RING_CONS | HOST_QRING_CONS
  deriving DecidableEq, Repr

/-- One register array: absolute BAR0 offset of instance 0, two strides with their counts (instance
`i * n2 + j` lies at `off + st1 * i + st2 * j`), reset value, and the masks of RW, RC, W1C and WO fields; every other
bit is RO or reserved. -/
structure RegInfo where
  off : Nat
  st1 : Nat
  n1 : Nat
  st2 : Nat
  n2 : Nat
  reset : Word
  rw : Word
  rc : Word
  w1c : Word
  wo : Word
  deriving DecidableEq, Repr

/-- The register tables of the manual. -/
def Reg.info : Reg → RegInfo
  | .GLOBAL_TICK_LO => ⟨0x0000100, 0x0, 1, 0, 1, 0x00000000, 0x00000000, 0x0, 0x0, 0x0⟩ -- R39
  | .GLOBAL_TICK_HI => ⟨0x0000104, 0x0, 1, 0, 1, 0x00000000, 0x00000000, 0x0, 0x0, 0x0⟩ -- R39
  | .GLOBAL_PATH_DELAY => ⟨0x0000108, 0x0, 1, 0, 1, 0x00300018, 0x03FF00FF, 0x0, 0x80000000, 0x0⟩ -- R39
  | .LANE_GCFG => ⟨0x0100000, 0x0, 1, 0, 1, 0x00003201, 0x0000FF01, 0x0, 0x0, 0x0⟩ -- R71
  | .LANE_BANK_STATUS => ⟨0x0100010, 0x0, 1, 0, 1, 0x00000000, 0x00000000, 0x0, 0x0, 0x0⟩ -- R71
  | .LANE_MODE => ⟨0x0110000, 0x80, 512, 0, 1, 0x00000000, 0x000001FF, 0x0, 0x0, 0x0⟩ -- R71
  | .LANE_HCFG => ⟨0x0110004, 0x80, 512, 0, 1, 0x00000007, 0x0000000F, 0x0, 0x0, 0x0⟩ -- R71
  | .LANE_CHMAP => ⟨0x0110008, 0x80, 512, 4, 4, 0x00000000, 0xFFFFFFFF, 0x0, 0x0, 0x0⟩ -- R71
  | .LANE_TXEQ => ⟨0x0110018, 0x80, 512, 0, 1, 0x00003C00, 0x003F3F3F, 0x0, 0x0, 0x0⟩ -- R71
  | .LANE_STATUS => ⟨0x0110020, 0x80, 512, 0, 1, 0x00000000, 0x00000000, 0x0, 0x0, 0x0⟩ -- R71
  | .LANE_EVENT => ⟨0x0110024, 0x80, 512, 0, 1, 0x00000000, 0x00000000, 0x0, 0x3F, 0x0⟩ -- R71
  | .LANE_PROVEN_TICK => ⟨0x0110028, 0x80, 512, 0, 1, 0x00000000, 0x00000000, 0x0, 0x0, 0x0⟩ -- R71
  | .LANE_WIRE_ERR_CNT => ⟨0x011002C, 0x80, 512, 0, 1, 0x00000000, 0x00000000, 0xFFFFFFFF, 0x0, 0x0⟩ -- R71
  | .LANE_UNCLEAN_CNT => ⟨0x0110030, 0x80, 512, 0, 1, 0x00000000, 0x00000000, 0xFFFFFFFF, 0x0, 0x0⟩ -- R71
  | .LANE_CTRL => ⟨0x0110034, 0x80, 512, 0, 1, 0x00000000, 0x00000000, 0x0, 0x0, 0x1⟩ -- R71
  | .MAC_PORT_CFG => ⟨0x0210000, 0x40, 2048, 0, 1, 0x00002600, 0x00FF3FFF, 0x0, 0x0, 0x0⟩ -- R120
  | .MAC_ADDR_LO => ⟨0x0210004, 0x40, 2048, 0, 1, 0x00000000, 0xFFFFFFFF, 0x0, 0x0, 0x0⟩ -- R120
  | .MAC_ADDR_HI => ⟨0x0210008, 0x40, 2048, 0, 1, 0x00000000, 0x0000FFFF, 0x0, 0x0, 0x0⟩ -- R120
  | .MAC_FC_CFG => ⟨0x021000C, 0x40, 2048, 0, 1, 0xFFFF0000, 0xFFFF000F, 0x0, 0x0, 0x0⟩ -- R120
  | .MAC_PFC_MAP => ⟨0x0210010, 0x40, 2048, 0, 1, 0x00FAC688, 0x00FFFFFF, 0x0, 0x0, 0x0⟩ -- R120
  | .MAC_WATCHDOG => ⟨0x0210014, 0x40, 2048, 0, 1, 0x03E800C8, 0xFFFFFFFF, 0x0, 0x0, 0x0⟩ -- R120
  | .MAC_TX_CT => ⟨0x0210018, 0x40, 2048, 0, 1, 0x00008404, 0x0000807F, 0x0, 0x0, 0x0⟩ -- R120
  | .MAC_EEE_CFG => ⟨0x021001C, 0x40, 2048, 0, 1, 0x00584000, 0x0FFFFFF1, 0x0, 0x0, 0x0⟩ -- R120
  | .MAC_LINK_CFG => ⟨0x0210020, 0x40, 2048, 0, 1, 0x01E0A501, 0x0FFFFF7F, 0x0, 0x0, 0x0⟩ -- R120
  | .MAC_PORT_STATUS => ⟨0x0210024, 0x40, 2048, 0, 1, 0x00000000, 0x00000000, 0x0, 0x0, 0x0⟩ -- R120
  | .MAC_PORT_EVENT => ⟨0x0210028, 0x40, 2048, 0, 1, 0x00000000, 0x00000000, 0x0, 0x3F, 0x0⟩ -- R120
  | .MAC_PORT_CTRL => ⟨0x021002C, 0x40, 2048, 0, 1, 0x00000000, 0x00000000, 0x0, 0x0, 0x7⟩ -- R120
  | .MAC_RX_NOCELL_CNT => ⟨0x0210030, 0x40, 2048, 0, 1, 0x00000000, 0x00000000, 0xFFFFFFFF, 0x0, 0x0⟩ -- R120
  | .ADM_GOV_CFG => ⟨0x0300000, 0x0, 1, 0, 1, 0x064000F0, 0x0FFF00FF, 0x0, 0x0, 0x0⟩ -- R150
  | .ADM_GOV_STATUS => ⟨0x0300004, 0x0, 1, 0, 1, 0x00000000, 0x00000000, 0x0, 0x0, 0x0⟩ -- R150
  | .ADM_GOV_COST => ⟨0x0300008, 0x0, 1, 0, 1, 0x00000000, 0x00000000, 0x0, 0x0, 0x0⟩ -- R150
  | .ADM_GOV_TICKS => ⟨0x030000C, 0x0, 1, 0, 1, 0x00000000, 0x00000000, 0xFFFFFFFF, 0x0, 0x0⟩ -- R150
  | .ADM_PARSE_CFG => ⟨0x0300020, 0x0, 1, 0, 1, 0x910012B5, 0xFFFFFFFF, 0x0, 0x0, 0x0⟩ -- R150
  | .ADM_AGREE_MISS => ⟨0x0300030, 0x0, 1, 0, 1, 0x00000000, 0x00000000, 0xFFFFFFFF, 0x0, 0x0⟩ -- R150
  | .ADM_RELAY_LOST => ⟨0x0300034, 0x0, 1, 0, 1, 0x00000000, 0x00000000, 0xFFFFFFFF, 0x0, 0x0⟩ -- R150
  | .ADM_EVENT => ⟨0x0300040, 0x0, 1, 0, 1, 0x00000000, 0x00000000, 0x0, 0x3F, 0x0⟩ -- R150
  | .ADM_PORT_CFG => ⟨0x0310000, 0x10, 2050, 0, 1, 0x00010000, 0x0FFF3FFF, 0x0, 0x0, 0x0⟩ -- R150
  | .ADM_PORT_HOME => ⟨0x0310004, 0x10, 2050, 0, 1, 0x00000000, 0x800FFFFF, 0x0, 0x0, 0x0⟩ -- R150
  | .ADM_PORT_PCPMAP => ⟨0x0310008, 0x10, 2050, 0, 1, 0x00FAC688, 0x00FFFFFF, 0x0, 0x0, 0x0⟩ -- R150
  | .ADM_PORT_TRUNC_CNT => ⟨0x031000C, 0x10, 2050, 0, 1, 0x00000000, 0x00000000, 0xFFFFFFFF, 0x0, 0x0⟩ -- R150
  | .STOVE_PROG_STATUS => ⟨0x0400800, 0x0, 1, 0, 1, 0x00000000, 0x00000000, 0x0, 0x0, 0x0⟩ -- R194
  | .STOVE_PROG_PENDING => ⟨0x0400804, 0x0, 1, 0, 1, 0x00000000, 0x00000000, 0x0, 0x0, 0x0⟩ -- R194
  | .STOVE_PROG_ACT_TICK_LO => ⟨0x0400808, 0x0, 1, 0, 1, 0x00000000, 0x00000000, 0x0, 0x0, 0x0⟩ -- R194
  | .STOVE_PROG_ACT_TICK_HI => ⟨0x040080C, 0x0, 1, 0, 1, 0x00000000, 0x00000000, 0x0, 0x0, 0x0⟩ -- R194
  | .STOVE_PROG_STORE => ⟨0x0400810, 0x0, 1, 0, 1, 0x00000000, 0x00000000, 0x0, 0x0, 0x0⟩ -- R194
  | .STOVE_PROG_FAULT_CNT => ⟨0x0400814, 0x0, 1, 0, 1, 0x00000000, 0x00000000, 0xFFFFFFFF, 0x0, 0x0⟩ -- R194
  | .STOVE_PROG_LAST_FAULT => ⟨0x0400818, 0x0, 1, 0, 1, 0x00000000, 0x00000000, 0x0, 0x0, 0x0⟩ -- R194
  | .STOVE_PROG_EVENT => ⟨0x040081C, 0x0, 1, 0, 1, 0x00000000, 0x00000000, 0x0, 0x1F, 0x0⟩ -- R194
  | .STOVE_CFG => ⟨0x0400000, 0x0, 1, 0, 1, 0x00000084, 0x0001FFF7, 0x0, 0x0, 0x0⟩ -- R263
  | .STOVE_HOLD_CFG => ⟨0x0400004, 0x0, 1, 0, 1, 0x00000400, 0x0000FFFF, 0x0, 0x0, 0x0⟩ -- R263
  | .STOVE_SERVICE => ⟨0x0400008, 0x0, 1, 0, 1, 0x00000000, 0x00000000, 0x0, 0x0, 0x0⟩ -- R263
  | .STOVE_SLOTS => ⟨0x040000C, 0x0, 1, 0, 1, 0x00000000, 0x00000000, 0x0, 0x0, 0x0⟩ -- R263
  | .STOVE_LATE_CNT => ⟨0x0400010, 0x0, 1, 0, 1, 0x00000000, 0x00000000, 0xFFFFFFFF, 0x0, 0x0⟩ -- R263
  | .STOVE_LATE_PARTNER_CNT => ⟨0x0400014, 0x0, 1, 0, 1, 0x00000000, 0x00000000, 0xFFFFFFFF, 0x0, 0x0⟩ -- R263
  | .STOVE_HELD_CNT => ⟨0x0400018, 0x0, 1, 0, 1, 0x00000000, 0x00000000, 0xFFFFFFFF, 0x0, 0x0⟩ -- R263
  | .STOVE_LATELIST_MISS => ⟨0x040001C, 0x0, 1, 0, 1, 0x00000000, 0x00000000, 0xFFFFFFFF, 0x0, 0x0⟩ -- R263
  | .STOVE_EVENT => ⟨0x0400020, 0x0, 1, 0, 1, 0x00000000, 0x00000000, 0x0, 0xFF, 0x0⟩ -- R263
  | .STOVE_GROUP_CFG => ⟨0x0401000, 0x10, 17, 0, 1, 0x00000008, 0x0000001F, 0x0, 0x0, 0x0⟩ -- R263
  | .STOVE_GROUP_STATUS => ⟨0x0401004, 0x10, 17, 0, 1, 0x00000000, 0x00000000, 0x0, 0x0, 0x0⟩ -- R263
  | .STOVE_STATUS => ⟨0x0410000, 0x40, 68, 0, 1, 0x00000000, 0x00000000, 0x0, 0x0, 0x0⟩ -- R263
  | .STOVE_QDEPTH => ⟨0x0410004, 0x40, 68, 0, 1, 0x00000000, 0x00000000, 0x0, 0x0, 0x0⟩ -- R263
  | .STOVE_STOLEN_CNT => ⟨0x0410008, 0x40, 68, 0, 1, 0x00000000, 0x00000000, 0xFFFFFFFF, 0x0, 0x0⟩ -- R263
  | .TBL_AGE_CFG => ⟨0x0500000, 0x0, 1, 0, 1, 0x000115D4, 0x0001FFFF, 0x0, 0x0, 0x0⟩ -- R303
  | .TBL_MOVE_CFG => ⟨0x0500004, 0x0, 1, 0, 1, 0x27103E84, 0xFFFFFFFF, 0x0, 0x0, 0x0⟩ -- R303
  | .TBL_EVICT_CFG => ⟨0x0500008, 0x0, 1, 0, 1, 0x00000000, 0x00000001, 0x0, 0x0, 0x0⟩ -- R303
  | .TBL_EVICT_SEED => ⟨0x050000C, 0x0, 1, 0, 1, 0x00000001, 0xFFFFFFFF, 0x0, 0x0, 0x0⟩ -- R303
  | .TBL_ECMP_CFG => ⟨0x0500010, 0x0, 1, 0, 1, 0x00000001, 0x00000001, 0x0, 0x0, 0x0⟩ -- R303
  | .TBL_CHANGE_STATUS => ⟨0x0500014, 0x0, 1, 0, 1, 0x00000000, 0x00000000, 0x0, 0x0, 0x0⟩ -- R303
  | .TBL_LEARN_DROP_CNT => ⟨0x0500018, 0x0, 1, 0, 1, 0x00000000, 0x00000000, 0xFFFFFFFF, 0x0, 0x0⟩ -- R303
  | .TBL_MOVE_REFUSED_CNT => ⟨0x050001C, 0x0, 1, 0, 1, 0x00000000, 0x00000000, 0xFFFFFFFF, 0x0, 0x0⟩ -- R303
  | .TBL_EVICT_CNT => ⟨0x0500020, 0x0, 1, 0, 1, 0x00000000, 0x00000000, 0xFFFFFFFF, 0x0, 0x0⟩ -- R303
  | .TBL_ECC_CNT => ⟨0x0500024, 0x0, 1, 0, 1, 0x00000000, 0x00000000, 0xFFFFFFFF, 0x0, 0x0⟩ -- R303
  | .TBL_STATION_COUNT => ⟨0x0500028, 0x0, 1, 0, 1, 0x00000000, 0x00000000, 0x0, 0x0, 0x0⟩ -- R303
  | .TBL_EMBER_MISS_CNT => ⟨0x050002C, 0x0, 1, 0, 1, 0x00000000, 0x00000000, 0xFFFFFFFF, 0x0, 0x0⟩ -- R303
  | .TBL_AUDIT_CFG => ⟨0x0500030, 0x0, 1, 0, 1, 0x00000400, 0x0000FF07, 0x0, 0x0, 0x0⟩ -- R303
  | .TBL_AUDIT_BASE_LO => ⟨0x0500034, 0x0, 1, 0, 1, 0x00000000, 0xFFFFF000, 0x0, 0x0, 0x0⟩ -- R303
  | .TBL_AUDIT_BASE_HI => ⟨0x0500038, 0x0, 1, 0, 1, 0x00000000, 0xFFFFFFFF, 0x0, 0x0, 0x0⟩ -- R303
  | .TBL_AUDIT_STATUS => ⟨0x050003C, 0x0, 1, 0, 1, 0x00000000, 0x00000000, 0x0, 0x0, 0x0⟩ -- R303
  | .TBL_AUDIT_MISMATCH_CNT => ⟨0x0500040, 0x0, 1, 0, 1, 0x00000000, 0x00000000, 0xFFFFFFFF, 0x0, 0x0⟩ -- R303
  | .TBL_EVENT => ⟨0x0500044, 0x0, 1, 0, 1, 0x00000000, 0x00000000, 0x0, 0x3FF, 0x0⟩ -- R303
  | .TBL_ROUTE_REGION => ⟨0x0501000, 0x4, 33, 0, 1, 0x00000000, 0x007FFFFF, 0x0, 0x0, 0x0⟩ -- R303
  | .TBL_ROUTE_REGION6 => ⟨0x0501100, 0x4, 129, 0, 1, 0x00000000, 0x007FFFFF, 0x0, 0x0, 0x0⟩ -- R303
  | .TCAM_TXN_STATUS => ⟨0x0600000, 0x0, 1, 0, 1, 0x00000000, 0x00000000, 0x0, 0x0, 0x0⟩ -- R332
  | .TCAM_SUPPRESSED => ⟨0x0600004, 0x0, 1, 0, 1, 0x00000000, 0x00000000, 0x0, 0x0, 0x0⟩ -- R332
  | .TCAM_BRICK_STATUS => ⟨0x0600008, 0x0, 1, 0, 1, 0x00000008, 0x00000000, 0x0, 0x0, 0x0⟩ -- R332
  | .TCAM_SCRUB_CFG => ⟨0x0600010, 0x0, 1, 0, 1, 0x00000401, 0x0000FF01, 0x0, 0x0, 0x0⟩ -- R332
  | .TCAM_SCRUB_PASSES => ⟨0x0600014, 0x0, 1, 0, 1, 0x00000000, 0x00000000, 0x0, 0x0, 0x0⟩ -- R332
  | .TCAM_SCRUB_MISMATCH_CNT => ⟨0x0600018, 0x0, 1, 0, 1, 0x00000000, 0x00000000, 0xFFFFFFFF, 0x0, 0x0⟩ -- R332
  | .TCAM_ECC_CNT => ⟨0x060001C, 0x0, 1, 0, 1, 0x00000000, 0x00000000, 0xFFFFFFFF, 0x0, 0x0⟩ -- R332
  | .TCAM_EVENT => ⟨0x0600020, 0x0, 1, 0, 1, 0x00000000, 0x00000000, 0x0, 0xFF, 0x0⟩ -- R332
  | .TCAM_POS_MAP => ⟨0x0600400, 0x4, 240, 0, 1, 0x00000000, 0x00000000, 0x0, 0x0, 0x0⟩ -- R332
  | .TCAM_COURSE => ⟨0x0601000, 0x4, 16, 0, 1, 0x00000000, 0x003FFFFF, 0x0, 0x0, 0x0⟩ -- R332
  | .TCAM_PROF_CFG => ⟨0x0602000, 0x100, 16, 0, 1, 0x00000000, 0x0000001F, 0x0, 0x0, 0x0⟩ -- R332
  | .TCAM_PROF_SEL => ⟨0x0602004, 0x100, 16, 4, 40, 0x00000000, 0x0FFF0FFF, 0x0, 0x0, 0x0⟩ -- R332
  | .BUF_POOL_CFG => ⟨0x0700000, 0x0, 1, 0, 1, 0x20000800, 0xFFFFFFFF, 0x0, 0x0, 0x0⟩ -- R370
  | .BUF_FC_CFG => ⟨0x0700004, 0x0, 1, 0, 1, 0x00800040, 0x0FFF0FFF, 0x0, 0x0, 0x0⟩ -- R370
  | .BUF_MC_CFG => ⟨0x0700008, 0x0, 1, 0, 1, 0x200003E8, 0xFFFFFFFF, 0x0, 0x0, 0x0⟩ -- R370
  | .BUF_RECIRC_CFG => ⟨0x070000C, 0x0, 1, 0, 1, 0x0000003F, 0x0000003F, 0x0, 0x0, 0x0⟩ -- R370
  | .BUF_BANK_CFG => ⟨0x0700010, 0x0, 1, 0, 1, 0x00020000, 0x0003FFFF, 0x0, 0x0, 0x0⟩ -- R370
  | .BUF_OWNER_POOL => ⟨0x0700014, 0x0, 1, 0, 1, 0x00000000, 0x00000000, 0x0, 0x0, 0x0⟩ -- R370
  | .BUF_SHARED_SIZE => ⟨0x0700018, 0x0, 1, 0, 1, 0x00000000, 0x00000000, 0x0, 0x0, 0x0⟩ -- R370
  | .BUF_SHARED_USED => ⟨0x070001C, 0x0, 1, 0, 1, 0x00000000, 0x00000000, 0x0, 0x0, 0x0⟩ -- R370
  | .BUF_RX_RESERVE => ⟨0x0700020, 0x0, 1, 0, 1, 0x00000000, 0x00000000, 0x0, 0x0, 0x0⟩ -- R370
  | .BUF_CELLS_FREE => ⟨0x0700024, 0x0, 1, 0, 1, 0x00000000, 0x00000000, 0x0, 0x0, 0x0⟩ -- R370
  | .BUF_BANK_STATUS => ⟨0x0700028, 0x0, 1, 0, 1, 0x00000000, 0x00000000, 0x0, 0x0, 0x0⟩ -- R370
  | .BUF_RESIDUE_STATUS => ⟨0x070002C, 0x0, 1, 0, 1, 0x00000000, 0x00000000, 0x0, 0x0, 0x0⟩ -- R370
  | .BUF_DOUBLE_FREE_CNT => ⟨0x0700030, 0x0, 1, 0, 1, 0x00000000, 0x00000000, 0xFFFFFFFF, 0x0, 0x0⟩ -- R370
  | .BUF_RX_NOCELL_CNT => ⟨0x0700034, 0x0, 1, 0, 1, 0x00000000, 0x00000000, 0xFFFFFFFF, 0x0, 0x0⟩ -- R370
  | .BUF_EVENT => ⟨0x0700038, 0x0, 1, 0, 1, 0x00000000, 0x00000000, 0x0, 0x7FF, 0x0⟩ -- R370
  | .BUF_SLICE_STATUS => ⟨0x0700200, 0x10, 16, 0, 1, 0x00000000, 0x00000000, 0x0, 0x0, 0x0⟩ -- R370
  | .BUF_SLICE_RETIRED => ⟨0x0700204, 0x10, 16, 0, 1, 0x00000000, 0x00000000, 0x0, 0x0, 0x0⟩ -- R370
  | .BUF_OWNER_CFG => ⟨0x0710000, 0x10, 16512, 0, 1, 0x00070002, 0x000FFFFF, 0x0, 0x0, 0x0⟩ -- R370
  | .BUF_OWNER_HDRM => ⟨0x0710004, 0x10, 16512, 0, 1, 0x00000000, 0x0000FFFF, 0x0, 0x0, 0x0⟩ -- R370
  | .BUF_OWNER_USE => ⟨0x0710008, 0x10, 16512, 0, 1, 0x00000000, 0x00000000, 0x0, 0x0, 0x0⟩ -- R370
  | .BUF_OWNER_DROP_CNT => ⟨0x071000C, 0x10, 16512, 0, 1, 0x00000000, 0x00000000, 0xFFFFFFFF, 0x0, 0x0⟩ -- R370
  | .BUF_QUEUE_CFG => ⟨0x0780000, 0x10, 16472, 0, 1, 0x00002000, 0x001FFFFF, 0x0, 0x0, 0x0⟩ -- R370
  | .BUF_QUEUE_BANK => ⟨0x0780004, 0x10, 16472, 0, 1, 0x04001000, 0xFFFFFFFF, 0x0, 0x0, 0x0⟩ -- R370
  | .BUF_QUEUE_DEPTH => ⟨0x0780008, 0x10, 16472, 0, 1, 0x00000000, 0x00000000, 0x0, 0x0, 0x0⟩ -- R370
  | .BUF_QUEUE_BANKED => ⟨0x078000C, 0x10, 16472, 0, 1, 0x00000000, 0x00000000, 0x0, 0x0, 0x0⟩ -- R370
  | .EGR_REQ_DISCARD_CNT => ⟨0x0800000, 0x0, 1, 0, 1, 0x00000000, 0x00000000, 0xFFFFFFFF, 0x0, 0x0⟩ -- R396
  | .EGR_EVENT => ⟨0x0800004, 0x0, 1, 0, 1, 0x00000000, 0x00000000, 0x0, 0x3F, 0x0⟩ -- R396
  | .EGR_POLICY => ⟨0x0800100, 0x4, 16, 0, 1, 0x00000000, 0x3FFF3FFF, 0x0, 0x0, 0x0⟩ -- R396
  | .EGR_MIR_CFG => ⟨0x0800200, 0x10, 16, 0, 1, 0x00000000, 0x0007FFFF, 0x0, 0x0, 0x0⟩ -- R396
  | .EGR_MIR_SAMPLE => ⟨0x0800204, 0x10, 16, 0, 1, 0x00000000, 0x0000FFFF, 0x0, 0x0, 0x0⟩ -- R396
  | .EGR_PORT_SHAPE => ⟨0x0804000, 0x10, 2048, 0, 1, 0x00000000, 0x0FFFFFFF, 0x0, 0x0, 0x0⟩ -- R396
  | .EGR_PORT_SBURST => ⟨0x0804004, 0x10, 2048, 0, 1, 0x00000040, 0x00000FFF, 0x0, 0x0, 0x0⟩ -- R396
  | .EGR_PORT_STATUS => ⟨0x0804008, 0x10, 2048, 0, 1, 0x00000000, 0x00000000, 0x0, 0x0, 0x0⟩ -- R396
  | .EGR_QUEUE_SCHED => ⟨0x0810000, 0x10, 16384, 0, 1, 0x00400100, 0x0FFFFF01, 0x0, 0x0, 0x0⟩ -- R396
  | .EGR_QUEUE_MIN => ⟨0x0810004, 0x10, 16384, 0, 1, 0x00000000, 0x0FFFFFFF, 0x0, 0x0, 0x0⟩ -- R396
  | .EGR_QUEUE_MAX => ⟨0x0810008, 0x10, 16384, 0, 1, 0x00000000, 0x0FFFFFFF, 0x0, 0x0, 0x0⟩ -- R396
  | .TWIN_CFG => ⟨0x0900000, 0x0, 1, 0, 1, 0x000A1002, 0x00FFFF03, 0x0, 0x0, 0x0⟩ -- R435
  | .TWIN_SWAP_CFG => ⟨0x0900004, 0x0, 1, 0, 1, 0x00015180, 0x003FFFFF, 0x0, 0x0, 0x0⟩ -- R435
  | .TWIN_SNAP_CFG => ⟨0x0900008, 0x0, 1, 0, 1, 0x00020000, 0x001FFFFF, 0x0, 0x0, 0x0⟩ -- R435
  | .TWIN_STATUS => ⟨0x0900010, 0x0, 1, 0, 1, 0x00000000, 0x00000000, 0x0, 0x0, 0x0⟩ -- R435
  | .TWIN_LAST_FAULT => ⟨0x0900014, 0x0, 1, 0, 1, 0x00000000, 0x00000000, 0x0, 0x0, 0x0⟩ -- R435
  | .TWIN_FAULT_TICK => ⟨0x0900018, 0x0, 1, 0, 1, 0x00000000, 0x00000000, 0x0, 0x0, 0x0⟩ -- R435
  | .TWIN_DIGEST_MISMATCH_CNT => ⟨0x090001C, 0x0, 1, 0, 1, 0x00000000, 0x00000000, 0xFFFFFFFF, 0x0, 0x0⟩ -- R435
  | .TWIN_FLUE_AUTH_FAIL_CNT => ⟨0x0900020, 0x0, 1, 0, 1, 0x00000000, 0x00000000, 0xFFFFFFFF, 0x0, 0x0⟩ -- R435
  | .TWIN_RESYNC_CNT => ⟨0x0900024, 0x0, 1, 0, 1, 0x00000000, 0x00000000, 0x0, 0x0, 0x0⟩ -- R435
  | .TWIN_EVENT => ⟨0x0900028, 0x0, 1, 0, 1, 0x00000000, 0x00000000, 0x0, 0xFFF, 0x0⟩ -- R435
  | .TIME_STATUS => ⟨0x0A00000, 0x0, 1, 0, 1, 0x00000000, 0x00000000, 0x0, 0x0, 0x0⟩ -- R458
  | .TIME_CFG => ⟨0x0A00004, 0x0, 1, 0, 1, 0x0A00000A, 0xFF03FFFF, 0x0, 0x0, 0x0⟩ -- R458
  | .TIME_PPS_OUT_OFF => ⟨0x0A00008, 0x0, 1, 0, 1, 0x00000000, 0x3FFFFFFF, 0x0, 0x0, 0x0⟩ -- R458
  | .TIME_INC_LO => ⟨0x0A0000C, 0x0, 1, 0, 1, 0x147AE148, 0x00000000, 0x0, 0x0, 0x0⟩ -- R458
  | .TIME_INC_HI => ⟨0x0A00010, 0x0, 1, 0, 1, 0x000047AE, 0x00000000, 0x0, 0x0, 0x0⟩ -- R458
  | .TIME_NOW_FRAC => ⟨0x0A00014, 0x0, 1, 0, 1, 0x00000000, 0x00000000, 0x0, 0x0, 0x0⟩ -- R458
  | .TIME_NOW_NS => ⟨0x0A00018, 0x0, 1, 0, 1, 0x00000000, 0x00000000, 0x0, 0x0, 0x0⟩ -- R458
  | .TIME_NOW_SEC_LO => ⟨0x0A0001C, 0x0, 1, 0, 1, 0x00000000, 0x00000000, 0x0, 0x0, 0x0⟩ -- R458
  | .TIME_NOW_SEC_HI => ⟨0x0A00020, 0x0, 1, 0, 1, 0x00000000, 0x00000000, 0x0, 0x0, 0x0⟩ -- R458
  | .TIME_NOW_TICK => ⟨0x0A00024, 0x0, 1, 0, 1, 0x00000000, 0x00000000, 0x0, 0x0, 0x0⟩ -- R458
  | .TIME_SLEW_REMAIN => ⟨0x0A00028, 0x0, 1, 0, 1, 0x00000000, 0x00000000, 0x0, 0x0, 0x0⟩ -- R458
  | .TIME_PPS_IN_NS => ⟨0x0A00030, 0x0, 1, 0, 1, 0x00000000, 0x00000000, 0x0, 0x0, 0x0⟩ -- R458
  | .TIME_PPS_IN_SEC => ⟨0x0A00034, 0x0, 1, 0, 1, 0x00000000, 0x00000000, 0x0, 0x0, 0x0⟩ -- R458
  | .TIME_TSF_STATUS => ⟨0x0A00040, 0x0, 1, 0, 1, 0x00000000, 0x00000000, 0x0, 0x0, 0x0⟩ -- R458
  | .TIME_TSF_W => ⟨0x0A00044, 0x4, 4, 0, 1, 0x00000000, 0x00000000, 0x0, 0x0, 0x0⟩ -- R458
  | .TIME_TSF_CTRL => ⟨0x0A00054, 0x0, 1, 0, 1, 0x00000000, 0x00000000, 0x0, 0x0, 0x1⟩ -- R458
  | .TIME_TSF_OVF_CNT => ⟨0x0A00058, 0x0, 1, 0, 1, 0x00000000, 0x00000000, 0xFFFFFFFF, 0x0, 0x0⟩ -- R458
  | .TIME_TSF_TIMEOUT_CNT => ⟨0x0A0005C, 0x0, 1, 0, 1, 0x00000000, 0x00000000, 0xFFFFFFFF, 0x0, 0x0⟩ -- R458
  | .TIME_CHECK_MISMATCH_CNT => ⟨0x0A00060, 0x0, 1, 0, 1, 0x00000000, 0x00000000, 0xFFFFFFFF, 0x0, 0x0⟩ -- R458
  | .TIME_EVENT => ⟨0x0A00064, 0x0, 1, 0, 1, 0x00000000, 0x00000000, 0x0, 0x1FF, 0x0⟩ -- R458
  | .TIME_TRIG_CFG => ⟨0x0A00100, 0x10, 8, 0, 1, 0x00000100, 0x00FFFF0F, 0x0, 0x10, 0x0⟩ -- R458
  | .TIME_TRIG_TARGET => ⟨0x0A00104, 0x10, 8, 0, 1, 0x00000000, 0xFFFFFFFF, 0x0, 0x0, 0x0⟩ -- R458
  | .TIME_LANE_COMP => ⟨0x0A10000, 0x4, 512, 0, 1, 0x00000000, 0xFFFFFFFF, 0x0, 0x0, 0x0⟩ -- R458
  | .HOST_ID => ⟨0x0B00000, 0x0, 1, 0, 1, 0x62401E5B, 0x00000000, 0x0, 0x0, 0x0⟩ -- R492
  | .HOST_PCIE_STATUS => ⟨0x0B00004, 0x0, 1, 0, 1, 0x00000000, 0x00000000, 0x0, 0x0, 0x0⟩ -- R492
  | .HOST_MBX_STATUS => ⟨0x0B00008, 0x0, 1, 0, 1, 0x00000000, 0x00000000, 0x0, 0x0, 0x0⟩ -- R492
  | .HOST_ERR => ⟨0x0B0000C, 0x0, 1, 0, 1, 0x00000000, 0x00000000, 0x0, 0xF, 0x0⟩ -- R492
  | .HOST_EVT_MASK => ⟨0x0B00010, 0x0, 1, 0, 1, 0x00001FFF, 0x00001FFF, 0x0, 0x0, 0x0⟩ -- R492
  | .HOST_EVENT_LOST_CNT => ⟨0x0B00014, 0x0, 1, 0, 1, 0x00000000, 0x00000000, 0xFFFFFFFF, 0x0, 0x0⟩ -- R492
  | .HOST_QP_CFG => ⟨0x0B10080, 0x100, 64, 0, 1, 0x00000000, 0x00000103, 0x0, 0x0, 0x0⟩ -- R492
  | .HOST_IRQ_MOD => ⟨0x0B02000, 0x4, 68, 0, 1, 0x00010000, 0xFFFFFFFF, 0x0, 0x0, 0x0⟩ -- R492
  | .HOST_MDIO_CFG => ⟨0x0B03000, 0x10, 8, 0, 1, 0x00000013, 0x000001FF, 0x0, 0x0, 0x0⟩ -- R492
  | .HOST_MDIO_CMD => ⟨0x0B03004, 0x10, 8, 0, 1, 0x00000000, 0xFFFF0FFF, 0x0, 0x0, 0x0⟩ -- R492
  | .HOST_MDIO_DATA => ⟨0x0B03008, 0x10, 8, 0, 1, 0x00000000, 0x0000FFFF, 0x0, 0x0, 0x0⟩ -- R492
  | .HOST_TWI_CFG => ⟨0x0B03100, 0x10, 8, 0, 1, 0x00000000, 0x00000007, 0x0, 0x0, 0x0⟩ -- R492
  | .HOST_TWI_CMD => ⟨0x0B03104, 0x10, 8, 0, 1, 0x00000000, 0x007F3F7F, 0x0, 0x0, 0x80000000⟩ -- R492
  | .HOST_TWI_STATUS => ⟨0x0B03108, 0x10, 8, 0, 1, 0x00000000, 0x00000000, 0x0, 0x0, 0x0⟩ -- R492
  | .HOST_TWI_FIFO => ⟨0x0B0310C, 0x10, 8, 0, 1, 0x00000000, 0x000000FF, 0x0, 0x0, 0x0⟩ -- R492
  | .HOST_UART_CFG => ⟨0x0B03200, 0x0, 1, 0, 1, 0x00010036, 0x0001FFFF, 0x0, 0x0, 0x0⟩ -- R492
  | .HOST_UART_DATA => ⟨0x0B03204, 0x0, 1, 0, 1, 0x00000000, 0x000000FF, 0x0, 0x0, 0x0⟩ -- R492
  | .BOOT_STATUS => ⟨0x0C00000, 0x0, 1, 0, 1, 0x00000000, 0x00000000, 0x0, 0x0, 0x0⟩ -- R520
  | .BOOT_IMAGE => ⟨0x0C00004, 0x0, 1, 0, 1, 0x00000000, 0x00000000, 0x0, 0x0, 0x0⟩ -- R520
  | .BOOT_IMAGE_VERSION => ⟨0x0C00008, 0x0, 1, 0, 1, 0x00000000, 0x00000000, 0x0, 0x0, 0x0⟩ -- R520
  | .BOOT_KEY_LOADED_LO => ⟨0x0C00020, 0x0, 1, 0, 1, 0x00000000, 0x00000000, 0x0, 0x0, 0x0⟩ -- R520
  | .BOOT_KEY_LOADED_HI => ⟨0x0C00024, 0x0, 1, 0, 1, 0x00000000, 0x00000000, 0x0, 0x0, 0x0⟩ -- R520
  | .BOOT_REFUSAL_CNT => ⟨0x0C00028, 0x0, 1, 0, 1, 0x00000000, 0x00000000, 0xFFFFFFFF, 0x0, 0x0⟩ -- R520
  | .BOOT_CTRL => ⟨0x0C00030, 0x0, 1, 0, 1, 0x00000000, 0x00000000, 0x0, 0x0, 0xFFFF0003⟩ -- R520
  | .BOOT_FUSE_CTRL => ⟨0x0C00080, 0x0, 1, 0, 1, 0x00000000, 0x00007F1F, 0x0, 0x0, 0x10000⟩ -- R520
  | .BOOT_FUSE_DATA => ⟨0x0C00084, 0x4, 12, 0, 1, 0x00000000, 0x00000000, 0x0, 0x0, 0xFFFFFFFF⟩ -- R520
  | .BOOT_EVENT => ⟨0x0C00040, 0x0, 1, 0, 1, 0x00000000, 0x00000000, 0x0, 0x1FF, 0x0⟩ -- R520
  | .PWR_DOMAIN_CTRL => ⟨0x0D00000, 0x0, 1, 0, 1, 0x00001FFF, 0x00001FFF, 0x0, 0x0, 0x0⟩ -- R547
  | .PWR_DOMAIN_STATUS => ⟨0x0D00004, 0x0, 1, 0, 1, 0x00000000, 0x00000000, 0x0, 0x0, 0x0⟩ -- R547
  | .PWR_AVS_CFG => ⟨0x0D00008, 0x0, 1, 0, 1, 0x00001401, 0x0000FF01, 0x0, 0x0, 0x0⟩ -- R547
  | .PWR_AVS_STATUS => ⟨0x0D0000C, 0x0, 1, 0, 1, 0x00000064, 0x00000000, 0x0, 0x0, 0x0⟩ -- R547
  | .PWR_THERM_CFG => ⟨0x0D00010, 0x0, 1, 0, 1, 0x00036762, 0x00FFFFFF, 0x0, 0x0, 0x0⟩ -- R547
  | .PWR_THERM_STATUS => ⟨0x0D00014, 0x0, 1, 0, 1, 0x00000000, 0x00000000, 0x0, 0x0, 0x0⟩ -- R547
  | .PWR_LIFE_BASE => ⟨0x0D00018, 0x0, 1, 0, 1, 0x00000000, 0xFFFFFFFF, 0x0, 0x0, 0x0⟩ -- R547
  | .PWR_LIFE_HOURS => ⟨0x0D0001C, 0x0, 1, 0, 1, 0x00000000, 0x00000000, 0x0, 0x0, 0x0⟩ -- R547
  | .PWR_EVENT => ⟨0x0D00030, 0x0, 1, 0, 1, 0x00000000, 0x00000000, 0x0, 0x3F, 0x0⟩ -- R547
  | .PWR_ENERGY_LO => ⟨0x0D00100, 0x8, 31, 0, 1, 0x00000000, 0x00000000, 0x0, 0x0, 0x0⟩ -- R547
  | .PWR_ENERGY_HI => ⟨0x0D00104, 0x8, 31, 0, 1, 0x00000000, 0x00000000, 0x0, 0x0, 0x0⟩ -- R547
  | .PWR_AGING => ⟨0x0D00200, 0x4, 31, 0, 1, 0x00000000, 0x00000000, 0x0, 0x0, 0x0⟩ -- R547
  | .BIST_SWEEP_CFG => ⟨0x0E00000, 0x0, 1, 0, 1, 0x00001803, 0x0000FF03, 0x0, 0x0, 0x0⟩ -- R548
  | .BIST_SWEEP_STATUS => ⟨0x0E00004, 0x0, 1, 0, 1, 0x0000001F, 0x00000000, 0x0, 0x0, 0x0⟩ -- R548
  | .BIST_EVENT => ⟨0x0E00008, 0x0, 1, 0, 1, 0x00000000, 0x00000000, 0x0, 0xF, 0x0⟩ -- R548
  | .BOOT_ID => ⟨0x0C00010, 0x4, 4, 0, 1, 0x00000000, 0x00000000, 0x0, 0x0, 0x0⟩ -- R520
  | .BOOT_FACTORY_HEALTH => ⟨0x0C00050, 0x4, 11, 0, 1, 0x00000000, 0x00000000, 0x0, 0x0, 0x0⟩ -- R520
  | .HOST_RING_BASE_LO => ⟨0x0B01000, 0x20, 3, 0, 1, 0x00000000, 0xFFFFF000, 0x0, 0x0, 0x0⟩ -- R492
  | .HOST_QRING_BASE_LO => ⟨0x0B10000, 0x100, 64, 32, 4, 0x00000000, 0xFFFFF000, 0x0, 0x0, 0x0⟩ -- R492
  | .HOST_RING_BASE_HI => ⟨0x0B01004, 0x20, 3, 0, 1, 0x00000000, 0xFFFFFFFF, 0x0, 0x0, 0x0⟩ -- R492
  | .HOST_QRING_BASE_HI => ⟨0x0B10004, 0x100, 64, 32, 4, 0x00000000, 0xFFFFFFFF, 0x0, 0x0, 0x0⟩ -- R492
  | .HOST_RING_CFG => ⟨0x0B01008, 0x20, 3, 0, 1, 0x00000004, 0x0000001F, 0x0, 0x0, 0x0⟩ -- R492
  | .HOST_QRING_CFG => ⟨0x0B10008, 0x100, 64, 32, 4, 0x00000004, 0x0000001F, 0x0, 0x0, 0x0⟩ -- R492
  | .HOST_RING_PROD => ⟨0x0B0100C, 0x20, 3, 0, 1, 0x00000000, 0x0000FFFF, 0x0, 0x0, 0x0⟩ -- R492
  | .HOST_QRING_PROD => ⟨0x0B1000C, 0x100, 64, 32, 4, 0x00000000, 0x0000FFFF, 0x0, 0x0, 0x0⟩ -- R492
  | .HOST_RING_CONS => ⟨0x0B01010, 0x20, 3, 0, 1, 0x00000000, 0x0000FFFF, 0x0, 0x0, 0x0⟩ -- R492
  | .HOST_QRING_CONS => ⟨0x0B10010, 0x100, 64, 32, 4, 0x00000000, 0x0000FFFF, 0x0, 0x0, 0x0⟩ -- R492

/-- Part 0 of the list of all registers. -/
def Reg.part0 : List Reg :=
  [.GLOBAL_TICK_LO, .GLOBAL_TICK_HI, .GLOBAL_PATH_DELAY, .LANE_GCFG, .LANE_BANK_STATUS, .LANE_MODE, .LANE_HCFG,
   .LANE_CHMAP, .LANE_TXEQ, .LANE_STATUS, .LANE_EVENT, .LANE_PROVEN_TICK, .LANE_WIRE_ERR_CNT, .LANE_UNCLEAN_CNT,
   .LANE_CTRL, .MAC_PORT_CFG, .MAC_ADDR_LO, .MAC_ADDR_HI, .MAC_FC_CFG, .MAC_PFC_MAP, .MAC_WATCHDOG, .MAC_TX_CT,
   .MAC_EEE_CFG, .MAC_LINK_CFG, .MAC_PORT_STATUS, .MAC_PORT_EVENT, .MAC_PORT_CTRL, .MAC_RX_NOCELL_CNT,
   .ADM_GOV_CFG, .ADM_GOV_STATUS, .ADM_GOV_COST, .ADM_GOV_TICKS, .ADM_PARSE_CFG, .ADM_AGREE_MISS, .ADM_RELAY_LOST,
   .ADM_EVENT, .ADM_PORT_CFG, .ADM_PORT_HOME, .ADM_PORT_PCPMAP, .ADM_PORT_TRUNC_CNT, .STOVE_PROG_STATUS,
   .STOVE_PROG_PENDING, .STOVE_PROG_ACT_TICK_LO, .STOVE_PROG_ACT_TICK_HI, .STOVE_PROG_STORE, .STOVE_PROG_FAULT_CNT,
   .STOVE_PROG_LAST_FAULT, .STOVE_PROG_EVENT, .STOVE_CFG, .STOVE_HOLD_CFG]

/-- Part 1 of the list of all registers. -/
def Reg.part1 : List Reg :=
  [.STOVE_SERVICE, .STOVE_SLOTS, .STOVE_LATE_CNT, .STOVE_LATE_PARTNER_CNT, .STOVE_HELD_CNT, .STOVE_LATELIST_MISS,
   .STOVE_EVENT, .STOVE_GROUP_CFG, .STOVE_GROUP_STATUS, .STOVE_STATUS, .STOVE_QDEPTH, .STOVE_STOLEN_CNT,
   .TBL_AGE_CFG, .TBL_MOVE_CFG, .TBL_EVICT_CFG, .TBL_EVICT_SEED, .TBL_ECMP_CFG, .TBL_CHANGE_STATUS, .TBL_LEARN_DROP_CNT,
   .TBL_MOVE_REFUSED_CNT, .TBL_EVICT_CNT, .TBL_ECC_CNT, .TBL_STATION_COUNT, .TBL_EMBER_MISS_CNT, .TBL_AUDIT_CFG,
   .TBL_AUDIT_BASE_LO, .TBL_AUDIT_BASE_HI, .TBL_AUDIT_STATUS, .TBL_AUDIT_MISMATCH_CNT, .TBL_EVENT, .TBL_ROUTE_REGION,
   .TBL_ROUTE_REGION6, .TCAM_TXN_STATUS, .TCAM_SUPPRESSED, .TCAM_BRICK_STATUS, .TCAM_SCRUB_CFG, .TCAM_SCRUB_PASSES,
   .TCAM_SCRUB_MISMATCH_CNT, .TCAM_ECC_CNT, .TCAM_EVENT, .TCAM_POS_MAP, .TCAM_COURSE, .TCAM_PROF_CFG,
   .TCAM_PROF_SEL, .BUF_POOL_CFG, .BUF_FC_CFG, .BUF_MC_CFG, .BUF_RECIRC_CFG, .BUF_BANK_CFG, .BUF_OWNER_POOL]

/-- Part 2 of the list of all registers. -/
def Reg.part2 : List Reg :=
  [.BUF_SHARED_SIZE, .BUF_SHARED_USED, .BUF_RX_RESERVE, .BUF_CELLS_FREE, .BUF_BANK_STATUS, .BUF_RESIDUE_STATUS,
   .BUF_DOUBLE_FREE_CNT, .BUF_RX_NOCELL_CNT, .BUF_EVENT, .BUF_SLICE_STATUS, .BUF_SLICE_RETIRED, .BUF_OWNER_CFG,
   .BUF_OWNER_HDRM, .BUF_OWNER_USE, .BUF_OWNER_DROP_CNT, .BUF_QUEUE_CFG, .BUF_QUEUE_BANK, .BUF_QUEUE_DEPTH,
   .BUF_QUEUE_BANKED, .EGR_REQ_DISCARD_CNT, .EGR_EVENT, .EGR_POLICY, .EGR_MIR_CFG, .EGR_MIR_SAMPLE, .EGR_PORT_SHAPE,
   .EGR_PORT_SBURST, .EGR_PORT_STATUS, .EGR_QUEUE_SCHED, .EGR_QUEUE_MIN, .EGR_QUEUE_MAX, .TWIN_CFG, .TWIN_SWAP_CFG,
   .TWIN_SNAP_CFG, .TWIN_STATUS, .TWIN_LAST_FAULT, .TWIN_FAULT_TICK, .TWIN_DIGEST_MISMATCH_CNT, .TWIN_FLUE_AUTH_FAIL_CNT,
   .TWIN_RESYNC_CNT, .TWIN_EVENT, .TIME_STATUS, .TIME_CFG, .TIME_PPS_OUT_OFF, .TIME_INC_LO, .TIME_INC_HI,
   .TIME_NOW_FRAC, .TIME_NOW_NS, .TIME_NOW_SEC_LO, .TIME_NOW_SEC_HI, .TIME_NOW_TICK]

/-- Part 3 of the list of all registers. -/
def Reg.part3 : List Reg :=
  [.TIME_SLEW_REMAIN, .TIME_PPS_IN_NS, .TIME_PPS_IN_SEC, .TIME_TSF_STATUS, .TIME_TSF_W, .TIME_TSF_CTRL,
   .TIME_TSF_OVF_CNT, .TIME_TSF_TIMEOUT_CNT, .TIME_CHECK_MISMATCH_CNT, .TIME_EVENT, .TIME_TRIG_CFG, .TIME_TRIG_TARGET,
   .TIME_LANE_COMP, .HOST_ID, .HOST_PCIE_STATUS, .HOST_MBX_STATUS, .HOST_ERR, .HOST_EVT_MASK, .HOST_EVENT_LOST_CNT,
   .HOST_QP_CFG, .HOST_IRQ_MOD, .HOST_MDIO_CFG, .HOST_MDIO_CMD, .HOST_MDIO_DATA, .HOST_TWI_CFG, .HOST_TWI_CMD,
   .HOST_TWI_STATUS, .HOST_TWI_FIFO, .HOST_UART_CFG, .HOST_UART_DATA, .BOOT_STATUS, .BOOT_IMAGE, .BOOT_IMAGE_VERSION,
   .BOOT_KEY_LOADED_LO, .BOOT_KEY_LOADED_HI, .BOOT_REFUSAL_CNT, .BOOT_CTRL, .BOOT_FUSE_CTRL, .BOOT_FUSE_DATA,
   .BOOT_EVENT, .PWR_DOMAIN_CTRL, .PWR_DOMAIN_STATUS, .PWR_AVS_CFG, .PWR_AVS_STATUS, .PWR_THERM_CFG,
   .PWR_THERM_STATUS, .PWR_LIFE_BASE, .PWR_LIFE_HOURS, .PWR_EVENT, .PWR_ENERGY_LO]

/-- Part 4 of the list of all registers. -/
def Reg.part4 : List Reg :=
  [.PWR_ENERGY_HI, .PWR_AGING, .BIST_SWEEP_CFG, .BIST_SWEEP_STATUS, .BIST_EVENT, .BOOT_ID, .BOOT_FACTORY_HEALTH,
   .HOST_RING_BASE_LO, .HOST_QRING_BASE_LO, .HOST_RING_BASE_HI, .HOST_QRING_BASE_HI, .HOST_RING_CFG,
   .HOST_QRING_CFG, .HOST_RING_PROD, .HOST_QRING_PROD, .HOST_RING_CONS, .HOST_QRING_CONS]

/-- Every register. -/
def Reg.all : List Reg := Reg.part0 ++ Reg.part1 ++ Reg.part2 ++ Reg.part3 ++ Reg.part4

/-- The BAR0 offset of instance `i` of a register. -/
def Reg.addr (r : Reg) (i : Nat) : Nat :=
  let f := r.info
  f.off + f.st1 * (i / f.n2) + f.st2 * (i % f.n2)

/-- The instance of `r` at BAR0 offset `a`, if `a` is one. -/
def Reg.instanceAt (r : Reg) (a : Nat) : Option Nat :=
  let f := r.info
  if a < f.off then none
  else
    let d := a - f.off
    let i := if f.st1 = 0 then 0 else min (d / f.st1) (f.n1 - 1)
    let e := d - f.st1 * i
    let j := if f.st2 = 0 then 0 else min (e / f.st2) (f.n2 - 1)
    if e = f.st2 * j then some (i * f.n2 + j) else none

/-- The register and instance at BAR0 offset `a`; `none` where no register lies. -/
def Reg.find (a : Nat) : Option (Reg × Nat) :=
  Reg.all.findSome? fun r => (r.instanceAt a).map fun i => (r, i)

/-- The block number of a BAR0 offset (Table HOST-2). -/
def blockOf (a : Nat) : Nat := a / 0x100000

/-- The agreed blocks of R464: LANE, MAC, ADM, STOVE, TBL, TCAM, BUF, EGR and TIME. -/
def agreedBlock (a : Nat) : Bool := (1 ≤ blockOf a && blockOf a ≤ 8) || blockOf a = 10

end Sys2Proof.Machine
end

