-- ==== Sys2Proof/Machine/State.lean ====
section
/-! DEFINITION. The device's state as plain data: every register, counter, queue, mode and pin the manual gives it, and the
queue of waiting commands. Each field's comment gives its width or content, the file and rule that name it and its reset
value; a field without a reset value in the manual is zero, false or empty at reset (notes/assumptions/1.md). -/

namespace Sys2Proof.Machine

/-! ### Lanes (chapter 02) -/

/-- The training states of Table LANE-2. -/
inductive LaneState where
  | disabled | acquire | negotiate | align | inService | outOfStep
  deriving DecidableEq, Repr

/-- One front lane: Hearth training and tracking (R46 to R65), the plain link, and the channels' sequence numbers. -/
structure Lane where
  st : LaneState := .disabled  -- 3 bits, LANE_STATUS.STATE, Table LANE-2; reset DISABLED (R71)
  hver : Nat := 0  -- agreed framing version, 1 or 2; 0 none yet, 02 R47
  blockLock : Bool := false  -- LANE_STATUS.BLOCK_LOCK, 02 R71
  linked : Bool := false  -- plain lane's PCS link, 02 R46, 03 R111
  partnerCap : Nat := 0  -- 4 bits, LANE_STATUS.PARTNER_CAP, 02 R71
  partnerChans : Option Nat := none  -- channel count of the last training set, 02 R45
  setsRx : Nat := 0  -- consecutive agreeing training sets received, 02 Table LANE-2
  setsTx : Nat := 0  -- training sets sent since, 02 Table LANE-2
  markers : Nat := 0  -- consecutive accepted markers, 02 Table LANE-2
  trainFrom : Nat := 0  -- tick from which TRAIN_TIMEOUT counts, 02 R46
  noMeet : Bool := false  -- the versions of the last training set did not meet; event 0x1004 raised, 02 R47
  refused : Bool := false  -- event 0x1007 raised since the training state was entered, 02 R45, R71
  highStamp : Option Nat := none  -- highest stamp received, 02 R58, R60
  lastGood : Option Nat := none  -- stamp of the last good stamped block, 02 R62
  openErr : Option Nat := none  -- wire error open from this tick until the next good stamp, 02 R62
  unclean : List (Nat × Nat) := []  -- ticks (from, through) made not clean, 02 R62
  lostPre : Nat := 0  -- the count U of R63, 02
  pseq : FMap (Option Nat) := []  -- last PSEQ of each channel, 24 bits, 02 R51
  eseq : FMap Nat := []  -- next ESEQ of each channel, 24 bits, 02 R51
  chLink : Nat := 0  -- 8 bits, partner's link-up bitmap, 02 Table LANE-6
  chLpi : Nat := 0  -- 8 bits, partner's LPI bitmap, 02 Table LANE-6
  chFault : Nat := 0  -- 8 bits, partner's access fault bitmap, 02 Table LANE-6
  lockLostAt : Option Nat := none  -- tick at which block lock was lost, 02 R60
  statusSent : Option (Nat × Nat × Nat) := none  -- last channel-status set: tick, link bits, LPI bits, 02 R57
  reservedSets : Nat := 0  -- ordered sets of reserved subtype counted, 02 R52
  wired : Bool := false  -- plain lane that this twin has had linked: its port is this twin's own, 04 R130
  port : Option Nat := none  -- plain lane: the port that PORT_SET put on its lane group, 14 R474
  deriving DecidableEq, Repr

/-! ### Frames on the way in (chapters 02 to 04) -/

/-- Host injection that a frame carries from its TX descriptor (chapter 14). -/
structure InjInfo where
  qp : Nat := 0  -- queue pair, 14 R478
  slot : Nat := 0  -- descriptor number in the queue, 14 R478
  bypass : Bool := false  -- bypasses programs, 14 Table HOST-9
  port : Nat := 0  -- port or destination word of a bypass frame, 14
  queue : Nat := 0  -- queue of a bypass frame, 14
  tsReq : Bool := false  -- timestamp requested, 14, 13 R445
  launch : Option Nat := none  -- launch time, TS32, 13 R452
  last : Bool := true  -- last frame of its descriptor, 14 R483
  deriving DecidableEq, Repr

/-- A received frame held for admission: its cells, arrival tick, port and flags (R21, R137). -/
structure Rx where
  port : Nat := 0  -- admitting port 0 to 2,049, 04 R124
  lane : Nat := 512  -- front lane; 512 none, 04 R127
  arrival : Nat := 0  -- arrival tick T, 01 Table PATH-1
  bytes : List Byte := []  -- the frame as stored in its cells, FCS included, 03 R74
  wireLen : Nat := 0  -- length on the wire, 03 R121
  flags : Nat := 0  -- receive status flags, 03 Table MAC-1
  seq : Nat := 0  -- PSEQ, or the frame's order on its port, 01 R21, 12 Table TWIN-9
  errHq : Option Nat := none  -- host queue of a frame delivered under R79, 03
  cls : Nat := 0  -- governor class, 3 bits, 04 R137
  owner : Nat := 0  -- ingress owner, 10 Table BUF-1
  cells : List Nat := []  -- cells written, 10 R335
  ts : Option (Nat × Nat × Bool) := none  -- ingress timestamp: TS32, FRAC, STEPPED, 13 R443
  capture : Option (Nat × Nat) := none  -- capture delta and SUBTICK of a Hearth frame not yet stamped, 02 R54
  recircArg : Option Nat := none  -- RECIRC argument of a second pass, 05 R169
  inj : Option InjInfo := none  -- host injection, 14
  deriving DecidableEq, Repr

/-! ### Ports (chapter 03) -/

/-- A frame in a port's transmit MAC: granted, staged, leaving. -/
structure TxFrame where
  bytes : List Byte := []  -- the edited frame, FCS included, 03 R89, 11 R378
  rxLen : Nat := 0  -- received length, 11 Table EGR-5
  grant : Nat := 0  -- grant tick, 03 R83
  queue : Nat := 0  -- unicast queue 0 to 7; 8 for a mirror copy, 11
  cells : List Nat := []  -- cells it is read from, in order, 03 R568
  staged : Nat := 0  -- of these, the cells staged so far, 03 R568
  counted : Bool := false  -- the decay count has counted it at its grant, 03 R87
  offDie : Bool := false  -- fetched back from a banked queue and not yet on die, 03 R568
  started : Option Nat := none  -- tick of the first block, 03 R83
  eseq : Nat := 0  -- ESEQ on a Hearth channel, 02 R51
  tsid : Option Nat := none  -- TSID when a departure report is asked for, 13 R445
  srcPos : Nat := 0  -- admission number of the frame, 14 R481
  inj : Option InjInfo := none  -- host injection, 14 R481
  deriving DecidableEq, Repr

/-- One front port: link, pause, EEE, flap damping, cut-through, flow control, transmission. -/
structure Port where
  up : Bool := false  -- MAC_PORT_STATUS.LINK_UP, 03 R112
  det : Bool := false  -- link as this twin detects it, 03 R111
  ownAt : List (Nat × Bool) := []  -- this twin's link transitions by effect tick, 03 R111
  partnerAt : List (Nat × Bool) := []  -- the partner's link transitions by effect tick, 03 R112
  recheck : Option Nat := none  -- tick at which a port whose suppression has ended is judged, 03 R119
  ownUp : Bool := false  -- this twin's link after its effect ticks, 03 R112
  partnerUp : Bool := false  -- the partner's link after its effect ticks, 03 R112
  downL : Option Nat := none  -- the down effect tick L while down, 03 R114
  lastUp : Nat := 0  -- last up effect tick, 03 R115, 12 Table TWIN-17
  lastDown : Nat := 0  -- last down effect tick, 03 R114, 12 Table TWIN-17
  flushed : Bool := true  -- LINK_HOLD expired: retiring frames are dropped, 03 R116
  pauseExp : Nat := 0  -- PAUSE expiry tick, 03 R94
  pfcExp : FMap Nat := []  -- PFC expiry of each priority, 03 R94
  pauseFrom : FMap (Option Nat) := []  -- since when paused continuously; key 8 PAUSE, 0 to 7 PFC, 03 R102
  lastNonZero : FMap Nat := []  -- tick of the last pause with non-zero quanta, keyed alike, 03 R105
  pauseStorm : Bool := false  -- MAC_PORT_STATUS.PAUSE_STORM, 03 R103
  pfcStorm : Nat := 0  -- 8 bits, MAC_PORT_STATUS.PFC_STORM, 03 R103
  txLpi : Bool := false  -- MAC_PORT_STATUS.TX_LPI, 03 R106
  rxLpi : Bool := false  -- MAC_PORT_STATUS.RX_LPI, 03 R109
  emptyFrom : Nat := 0  -- tick from which all eight queues have been empty, when they are, 03 R106
  wakeUntil : Nat := 0  -- first tick at which a frame may start after a wake, 03 R107
  suppressed : Bool := false  -- MAC_PORT_STATUS.SUPPRESSED, 03 R117
  flaps : List Nat := []  -- down effect ticks, newest first, 03 R117
  ctThresh : Nat := 4  -- MAC_TX_CT.CT_THRESH, 7 bits; reset 4, 03 R120
  decay : Nat := 0  -- frames sent without underrun, 03 R86
  ctRaiseAt : List Nat := []  -- effect ticks of underruns agreed with the partner, 03 R87
  fcSent : Nat := 0  -- flow control advertised: bit 8 PAUSE, bits 7:0 PFC classes, 03 R99
  fcSentAt : Nat := 0  -- tick of the last generated pause frame, 03 R100
  fcQuanta : Nat := 0  -- quanta that it advertised, 03 R100
  tx : List TxFrame := []  -- granted frames, oldest first, 03 R83
  deriving DecidableEq, Repr

/-! ### Programs (chapters 05 and 06) -/

/-- One timer slot of a program image (Table HOB-7). -/
structure TimerSlot where
  entry : Nat
  interval : Nat
  phase : Nat
  retOffset : Nat
  homeEmber : Nat
  homeValid : Bool
  arg : Nat
  tmpl : Option (List Byte)
  deriving DecidableEq, Repr

/-- A verified program image (Table HOB-6). -/
structure Image where
  gen : Nat := 0  -- load number, names this copy in the store
  id : Nat := 0  -- IMAGE_ID, 05 R190
  hash : List Byte := []  -- SHA-384 of the whole image, 05 R191
  feature : Nat := 1  -- FEATURE_LEVEL, 05 R239
  frameBudget : Nat := 512  -- FRAME_BUDGET, 05 R190
  timerBudget : Nat := 8192  -- TIMER_BUDGET, 05 R190
  k : Nat := 0  -- governor cost K, 05 R184
  wcyc : Nat := 0  -- W_CYC of FRAME_ENTRY, 05 R182
  entry : Nat := 0  -- FRAME_ENTRY, 05 R190
  code : List DWord := []  -- instructions, 05 R190
  handlers : List Nat := []  -- handler table, 05 R190
  kc : List Byte := []  -- constants, 05 R190
  slots : List TimerSlot := []  -- timer slots, 05 R190
  deriving DecidableEq, Repr

/-- The program store, alike in every stove (R191, R192). -/
structure Programs where
  active : Option Image := none  -- active image, 05 R192
  pendingImg : Option Image := none  -- pending image, 05 R191
  olds : List (Image × Nat) := []  -- earlier images with the tick from which they may be freed, 05 R192
  actAt : Option (Nat × Nat) := none  -- scheduled activation: tick E and IMAGE_ID, 05 R192
  activeFrom : Nat := 0  -- tick from which the active image runs, 05 R185
  nextGen : Nat := 1  -- next load number (model's own)
  lastFaultPc : Nat := 0  -- STOVE_PROG_LAST_FAULT.PC, 16 bits; reset 0, 05 R194
  lastFaultCause : Nat := 0  -- STOVE_PROG_LAST_FAULT.CAUSE, 4 bits; reset 0, 05 R194
  deriving DecidableEq, Repr

/-- One edit of a script (Table HOB-3). A rewrite lists its written bytes by offset. -/
inductive Edit where
  | rewrite (block : Nat) (bytes : FMap Byte)
  | push (off : Nat) (val : List Byte)
  | pop (off size : Nat)
  | replace (off : Nat) (val : List Byte)
  | decTtl
  deriving DecidableEq, Repr

/-- The disposition a program ends with (Table HOB-4); `done` is a completed timer firing. -/
inductive Disp where
  | none
  | fwd (dest : DWord) (queue : Nat)
  | mcast (group : Nat)
  | trap (hq code : Nat)
  | drop (reason : Nat)
  | recirc (arg : Nat)
  | fault
  | lost
  | done
  deriving DecidableEq, Repr

/-- What an invocation hands to the retire sequencer (R180). -/
structure Result where
  disp : Disp := .none  -- disposition, 05 R166
  edits : List Edit := []  -- edit script, 05 R160
  mirrors : List Nat := []  -- mirror sessions, 05 R167
  counts : List (Nat × Nat) := []  -- counter pair and bytes, 06 R231
  meters : List (Nat × Nat) := []  -- meter and colour policy, 06 R232
  learn : Option (Nat × Nat × Nat) := none  -- FID, MAC and port, 06 R234
  publish : Option (List Byte) := none  -- the value to publish, 05 R177
  hits : List (Nat × Nat) := []  -- station entries hit: FID and MAC, 06 R226
  cycles : Nat := 0  -- issue cycles charged along the path, 11 Table EGR-5
  entryId : Nat := 0  -- entry id of class 11, 11 Table EGR-5
  deriving DecidableEq, Repr

/-- What happens to an admitted frame between admission and retirement. -/
inductive InKind where
  | program          -- dispatched to a program
  | errored          -- delivered under R79 and R80
  | conflictDrop     -- dropped with LEN_CONFLICT at A + 1 (R145); kept until its invocation record is gone
  | conflictTrap (hq : Nat)  -- trapped under R145 to host queue `hq`, as of admission (R26)
  | bypass           -- host-injected, bypassing programs (chapter 14)
  | timer (slot : Nat)
  deriving DecidableEq, Repr

/-- An admitted frame or a timer firing on its way to retirement. -/
structure Inflight where
  id : Nat := 0  -- admission number (model's own name of the frame)
  kind : InKind := .program  -- 04 R136, R145
  rx : Rx := {}  -- the frame
  adm : Nat := 0  -- admission tick A, 01 R21
  pos : Nat := 0  -- position in its tick's admission order, 07 R254
  ret : Nat := 0  -- retire tick, 01 R25, 05 R186
  md : List Byte := []  -- metadata bytes 0 to 63, 05 R159
  homeKey : Nat := 0  -- 64 bits, 04 R147
  emberLane : Nat := 0  -- 18 bits, 07 R244
  ember : Option Nat := none  -- home record, 04 R149
  turn : Nat := 0  -- place in the ember lane's order, fixed at admission, 05 R172
  ticket : Option Nat := none  -- ticket of the ember lane, taken at dispatch, 05 R172
  gen : Nat := 0  -- image the frame runs, 05 R192
  slot : Bool := false  -- holds a frame slot, 07 R248
  ended : Bool := false  -- its invocation has ended, 07 R248
  retired : Bool := false  -- it has retired or been dropped, 07 R248
  preHit : Option (Nat × Nat) := none  -- pre-lookup hit: FID and MAC, 04 R149
  result : Option Result := none  -- result of the ended invocation
  arrived : Option Nat := none  -- tick at which the result reached the retire sequencer, 01 R25
  late : Bool := false  -- late on this twin, 01 R25
  heldAt : Option Nat := none  -- tick from which it is held, 07 R257
  deriving DecidableEq, Repr

/-- What a thread waits for (R152, R201). -/
inductive Wait where
  | ready
  | lookup (table keysel param dst pd : Nat) (va vb : DWord)
  | feld (record pd : Nat)
  | fetch (dst : Nat) (off size : Nat)
  | heLoad (dst : Nat) (off size : Nat)
  | ticket
  deriving DecidableEq, Repr

/-- The ordered-section state of an invocation (R173). -/
inductive Section where
  | before | inside | after
  deriving DecidableEq, Repr

/-- A LOOP in progress (R218): body, iteration and count. -/
structure LoopState where
  first : Nat
  last : Nat
  iter : Nat
  count : Nat
  dst : Nat
  deriving DecidableEq, Repr

/-- One hob thread with the invocation it runs (R153). -/
structure Thread where
  inv : Nat := 0  -- the frame or firing it runs, 05 R152
  pc : Nat := 0  -- instruction index, 06 R217
  g : FMap DWord := []  -- g1 to g31, 64 bits each; zero at the start, 05 R153
  p : FMap Bool := []  -- p1 to p7; false at the start, 05 R153
  sc : FMap Byte := []  -- SC space, 256 bytes; zero at the start, 05 R153
  fe : List Byte := []  -- FE space, 32 bytes, 05 R178
  wait : Wait := .ready  -- 05 R152
  sect : Section := .before  -- 05 R173
  loop : Option LoopState := none  -- 06 R218
  publishing : Bool := false  -- PUBLISH executed, 05 R177
  res : Result := {}  -- edits and requests so far, 05 R160, R180
  deriving DecidableEq, Repr

/-! ### Stoves (chapter 07) -/

/-- Stove states of Table STOVE-2. -/
inductive StoveState where
  | parked | spare | inService | draining | sweep | failed | waking
  deriving DecidableEq, Repr

/-- One stove. -/
structure Stove where
  st : StoveState := .parked  -- STOVE_STATUS.STATE; reset 0 (PARKED), 07 R241
  queue : List Nat := []  -- work queue, at most 2,048 descriptors, 07 R240
  timerQueue : List Nat := []  -- firings waiting for the reserved thread, 05 R188
  deriving DecidableEq, Repr

/-- One stove group's clock and power (R260 to R262). -/
structure Group where
  freq : Nat := 0  -- STOVE_GROUP_STATUS.FREQ, clock code in effect; reset 0, 07 R263
  powered : Bool := false  -- STOVE_GROUP_STATUS.POWERED; reset 0, 07 R263
  switchTo : Option (Nat × Nat) := none  -- clock code to switch to and the tick from which it switches, 07 R261
  qLimit : Option Nat := none  -- clock code whose Q applies, when it differs from the clock in effect, 07 R261
  parking : Bool := false  -- out of service, draining towards power-off, 07 R262
  wakeFrom : Option Nat := none  -- tick from which woken stoves may join, 07 R262
  joinAt : Option Nat := none  -- effect tick at which they join, 07 R262
  sweeping : Bool := false  -- under the stove sweep, 16 R539
  deriving DecidableEq, Repr

/-- The tickets of one ember lane (R172, R173). -/
structure Tickets where
  issued : Nat := 0  -- next ticket to issue, 05 R172
  low : Nat := 0  -- every ticket below has passed, 05 R173
  passed : List Nat := []  -- passed tickets at or above `low`, 05 R173
  deriving DecidableEq, Repr

/-- A late list (R254). -/
structure LateList where
  all : Bool := false
  pos : List Nat := []
  deriving DecidableEq, Repr

/-- A flue message (Table TWIN-7). -/
structure FlueMsg where
  type : Nat
  flags : Nat
  tick : Nat
  body : List Byte
  deriving DecidableEq, Repr

/-- Admission: arrived frames, bitmaps, relay and governor. -/
structure Admission where
  arrived : List Rx := []  -- frames held for admission, in order of reception, 01 R21
  own : FMap (BitVec 512) := []  -- this twin's clean bitmaps by tick, 04 R126
  partner : FMap (BitVec 512) := []  -- the partner's clean bitmaps by tick, 04 R126
  relayEnds : List (Nat × Nat) := []  -- relay-end records held: lane and tick, 04 R131
  relayWait : List FlueMsg := []  -- the 4 MiB relay queue: messages that wait for the flue link, 04 R133
  relaySeq : FMap Nat := []  -- order of the next relayed frame of each port, modulo 2^16, 12 R417
  relayPart : FMap (List Byte) := []  -- relayed frames not yet whole by port × 2^16 + order, 12 R417
  relayBad : List Nat := []  -- relayed frames that lost a chunk, by the same key, until their last chunk, 04 R131
  relayBroken : List Nat := []  -- lanes of which a relayed frame was left incomplete since the last relay-end record, 04 R131
  flueLoss : Nat := 0  -- flue frames known lost (model's own count), 04 R131
  relaySeen : FMap Nat := []  -- that count at each lane's last relay-end record, 04 R131
  relayLost : List (Nat × Nat) := []  -- lane ticks whose relay data was discarded, 04 R133
  hForce : Nat := 0  -- this twin's H in force, 04 R134
  qForce : Nat := 0  -- this twin's Q in force, 04 R134
  partnerH : Option Nat := none  -- the partner's H in force, 04 R134, 12 R418
  partnerQ : Option Nat := none  -- the partner's Q in force, 04 R134, 12 R418
  kForce : Nat := 0  -- ADM_GOV_COST.K; reset 0, 04 R134
  cForce : Nat := 0  -- ADM_GOV_STATUS.C; reset 0, 04 R134
  announced : Option (Nat × Nat) := none  -- H and Q last given an effect tick, 04 R135
  capAt : List (Nat × Bool × Nat × Nat) := []  -- changes awaiting their effect tick: tick, partner's, H, Q, 12 R418
  govDropping : Bool := false  -- the governor dropped in the last tick, 04 R139
  admPos : Nat := 0  -- admission positions given in this tick, 07 R254
  missed : List Nat := []  -- ticks whose partner bitmap was missing, 04 R128
  nextId : Nat := 1  -- next admission number (model's own)
  deriving DecidableEq, Repr

/-- Stoves, threads, homing, tickets and retirement. -/
structure Hobs where
  stoves : FMap Stove := []  -- ST00 to ST67, 07 R240
  groups : FMap Group := []  -- SG00 to SG16, 07 R240
  threads : FMap (Option Thread) := []  -- running threads by (stove × 32 + hob) × 8 + thread, 05 R152
  hobNext : FMap Nat := []  -- the thread from which each hob's round robin goes on, by stove × 32 + hob, 05 R152
  homeBase : List Nat := []  -- in-service stoves at start-up, 07 R246
  homeExc : FMap Nat := []  -- rehomed lanes: stove + 1, 07 R246
  tickets : FMap Tickets := []  -- by ember lane, 05 R172
  flight : List Inflight := []  -- admitted frames and firings, in admission order, 01 R25
  dispWait : List Nat := []  -- frames waiting at dispatch, 07 R249
  slotsUsed : Nat := 0  -- STOVE_SLOTS.IN_USE, 0 to 262,144; reset 0, 07 R263
  lateOwn : FMap LateList := []  -- this twin's late lists by retire tick, 07 R254
  latePartner : FMap (Option LateList) := []  -- the partner's late lists by retire tick, 07 R255
  retMissing : List Nat := []  -- retire ticks without a timely partner list, 07 R256
  heldFrom : Option Nat := none  -- admission number of the frame that holds retirement, 07 R257
  deriving DecidableEq, Repr
/-- A mailbox command taken and not yet complete (R469, R470). -/
structure MbxCmd where
  seq : Nat  -- mailbox sequence, 32 bits
  cookie : Nat
  opcode : Nat
  quiet : Bool := false  -- its completion is discarded, 14 R461
  deriving DecidableEq, Repr

/-! ### Tables and ember records (chapter 08) -/

/-- Two versions and one effect tick (R265): each version is a DATA word with its valid bit. -/
structure Ver where
  old : Nat := 0  -- older version
  new : Nat := 0  -- newer version
  eff : Nat := 0  -- effect tick E of the newer version
  deriving DecidableEq, Repr

/-- A station entry: its key, versions and the status fields of Table TBL-3. -/
structure Station where
  key : Nat := 0  -- KEY0, 08 Table TBL-2
  ver : Ver := {}  -- DATA
  hitEpoch : Nat := 0  -- 16 bits, 08 Table TBL-3
  moveCount : Nat := 0  -- 4 bits, 08 Table TBL-3
  moveStart : Nat := 0  -- 32 bits, 08 Table TBL-3
  lockEnd : Nat := 0  -- 32 bits, 08 Table TBL-3
  eccBad : Bool := false  -- uncorrectable ECC error, 08 R271
  deriving DecidableEq, Repr

/-- A route slot, or the even slot of an IPv6 pair. -/
structure Route where
  v6 : Bool := false  -- IPv6 pair
  len : Nat := 0  -- prefix length
  addr : Nat := 0  -- masked address, 32 or 128 bits
  ver : Ver := {}  -- DATA
  eccBad : Bool := false  -- uncorrectable ECC error, 08 R271
  deriving DecidableEq, Repr

/-- An entry of an indexed table. -/
structure Entry where
  ver : Ver := {}  -- DATA
  eccBad : Bool := false  -- uncorrectable ECC error, 08 R271
  deriving DecidableEq, Repr

/-- Names an entry for change control: table code and key (index, KEY0 or route key). Code 16 names a length-filter
word. -/
structure EntryKey where
  tbl : Nat
  key : Nat
  deriving DecidableEq, Repr

/-- What one part of a change does to its entry, judged at its effect tick (R28, R268). -/
inductive PartAct where
  | ageRemove
  | lockExpire
  | learn (port : Nat)
  | write (data : Nat)
  | mark
  deriving DecidableEq, Repr

/-- A part of a change: class 0 scanner, 1 retirement, 2 host; the part's order in its class. -/
structure Part where
  cls : Nat
  ord : Nat
  act : PartAct
  deriving DecidableEq, Repr

/-- The change an entry holds (R266): pending until `eff`, completing until `done`; the aging removal's own effect tick
E; and the change queued behind it (R268). -/
structure Change where
  key : EntryKey
  eff : Nat  -- effect tick
  done : Nat  -- completion tick
  applied : Bool  -- effect tick reached
  parts : List Part
  ageE : Option Nat  -- E of an aging removal, 08 R267
  queued : Option (Nat × List Part)  -- queued change: its own effect tick and parts
  place : Option Nat := none  -- way an insertion waits for, 08 R282
  waiting : Bool := false  -- a queued change with nothing before it in its entry, 08 R268, R282, R289
  linked : Bool := false  -- a route's queued change that is one change with its filter word's, 08 R289
  deriving DecidableEq, Repr

/-- One record of the version store (R270): the value an entry had before `eff`. -/
structure VersionRec where
  key : EntryKey
  old : Nat
  eff : Nat
  deriving DecidableEq, Repr

/-- An ember record's lane-ordered halves and its published versions (R293 to R298). -/
structure Ember where
  priv : List Byte := List.replicate 24 0  -- private half, 24 bytes
  staging : List Byte := List.replicate 32 0  -- staging copy, 32 bytes
  pubs : List (Nat × List Byte) := []  -- published versions: effect tick and 32 bytes, newest first
  lastPub : Option Nat := none  -- P, effect tick of the version last applied, 08 R296
  lastHost : Option Nat := none  -- latest effect tick of an accepted host publish, 08 R297
  sched : Option (Nat × List Byte) := none  -- scheduled frame publish, 08 R296
  hostSched : List (Nat × List Byte × Option MbxCmd) := []  -- scheduled host publishes: E, value, command, 08 R297
  deriving DecidableEq, Repr

/-- A host ticket on an ember lane (R295): a write of the private half or staging copy, or a read of the private half. -/
structure LaneOp where
  lane : Nat
  ticket : Nat
  record : Nat
  write : Option (Bool × List Byte)  -- true: private half; false: staging copy
  cmd : Option MbxCmd  -- command to complete
  homeKey : Nat := 0  -- the named home key
  tick : Nat := 0  -- effect tick, or as-of tick of a read
  bufAddr : Nat := 0  -- BUF_OUT of a read
  deriving DecidableEq, Repr

/-- The table complex. -/
structure Tables where
  stations : FMap Station := []  -- by physical index: bucket × 8 + way, stash at 1,048,576, 08 R274
  routes : FMap Route := []  -- by slot, stash at 1,048,576, 08 R285
  filters : FMap Ver := []  -- length-filter words G4, G6, B4 and B6, 08 R288
  badFilters : List Nat := []  -- filter words with an uncorrectable error, 08 R271
  routeCnt : FMap Nat := []  -- routes per filter bit, 32 bits, 08 R288
  nexthops : FMap Entry := []  -- 262,144, 08 R291
  groups : FMap Entry := []  -- 16,384 ECMP groups, 08 R292
  members : FMap Entry := []  -- 262,144 ECMP members, 08 R292
  headers : FMap Entry := []  -- 1,048,576 ember headers, 08 R293
  changes : List Change := []  -- entries with a change, 08 R266
  vstore : List VersionRec := []  -- version store, at most 65,536 records, 08 R270
  embers : FMap Ember := []  -- ember records' halves, 08 R293
  laneOps : List LaneOp := []  -- host tickets waiting, 08 R295
  cached : List (Nat × Nat × Nat) := []  -- ember cache: stove, record (published copies at 2^20 + record), lane, 08 R299
  cacheFree : Nat := 0  -- the model's own count of the entries that full slices gave up
  evictX : Nat := 1  -- eviction generator state, 32 bits; reset 1 (R303), 08 R283
  linkHist : List (Nat × Nat × Bool) := []  -- changes of ports' link state: effect tick, port, new state, 08 R292
  awareHist : List (Nat × Bool) := []  -- changes of LINK_AWARE: effect tick, new value, 01 R26
  gone : FMap Nat := []  -- effect tick of the removal that emptied a way or slot, 08 R301
  hitQ : List (Nat × Nat × Nat × Nat) := []  -- hits to take effect: tick, KEY0, admission tick, order, 08 R276
  auditTbl : Nat := 0  -- table under audit, 08 R300
  auditIdx : Nat := 0  -- next index to visit, 08 R300
  auditPasses : Nat := 0  -- TBL_AUDIT_STATUS.PASSES; reset 0, 08 R303
  auditBad : List (Nat × Nat) := []  -- entries reported in this pass, 08 R302
  auditMism : Nat := 0  -- mismatches in this pass, 08 Table TBL-10
  deriving DecidableEq, Repr

/-! ### TCAM (chapter 09) -/

/-- A TCAM entry (R314) with its membership of the two slots. -/
structure TcamEntry where
  value : Nat := 0  -- 160 × W bits
  mask : Nat := 0  -- 160 × W bits
  width : Nat := 0  -- width code
  prio : Nat := 0  -- 16 bits
  action : Nat := 0  -- 64 bits
  arg : Nat := 0  -- 32 bits
  m0 : Bool := false  -- member of slot 0
  m1 : Bool := false  -- member of slot 1
  deriving DecidableEq, Repr

/-- Transaction states (R319). -/
inductive TxnState where
  | idle | open | committed | completing
  deriving DecidableEq, Repr

/-- The TCAM. -/
structure Tcam where
  entries : FMap TcamEntry := []  -- by entry index, 122,880, 09 R306
  slot : Nat := 0  -- TCAM_TXN_STATUS.SLOT; reset 0, 09 R332
  txn : TxnState := .idle  -- TCAM_TXN_STATUS.STATE; reset IDLE, 09 R332
  txnId : Nat := 0  -- TCAM_TXN_STATUS.TXN_ID, 16 bits; reset 0, 09 R332
  txnE : Nat := 0  -- effect tick of the commit, 09 R324
  courses : FMap Nat := []  -- TCAM_COURSE by slot × 16 + course; reset 0, 09 R319, R332
  profs : FMap Nat := []  -- TCAM_PROF_CFG by slot × 16 + profile; reset 0, 09 R332
  sels : FMap Nat := []  -- TCAM_PROF_SEL by (slot × 16 + profile) × 40 + k; reset 0, 09 R332
  suppressed : List Nat := []  -- suppressed entry indices, 09 R327
  hardSuppressed : List Nat := []  -- suppressed until host software writes the index, 09 R328
  repair : List (Nat × Nat × Nat × Nat) := []  -- rows to rewrite: firebrick, row, tick of the mismatch, entry index, 09 R328
  posMap : FMap Nat := []  -- moved positions: firebrick + 1, 09 R305
  unavailable : List Nat := []  -- unavailable positions, 09 R331
  failedBricks : List Nat := []  -- failed firebricks, 09 R330
  moves : List (Nat × Nat × Nat) := []  -- loaded moves: position, spare, effect tick, 09 R330
  scrubPos : Nat := 0  -- next firebrick × 512 + row to scrub, 09 R326
  scrubPasses : Nat := 0  -- TCAM_SCRUB_PASSES; reset 0, 09 R332
  brickMism : FMap Nat := []  -- mismatching rows of each firebrick in this pass, 09 R330
  deriving DecidableEq, Repr
/-! ### Buffer pool and queues (chapter 10) -/

/-- One buffer slice: free-cell cache and ash ring as runs (first cell, length), oldest first. -/
structure Slice where
  cache : List (Nat × Nat) := []  -- on-chip cache, at most 1,024 entries, 10 R338
  ring : List (Nat × Nat) := []  -- ash ring in HBM, 32,768 entries, 10 R337
  retired : Nat := 0  -- BUF_SLICE_RETIRED; reset 0, 10 R370
  deriving DecidableEq, Repr

/-- One owner's charges (R346, R349). -/
structure Owner where
  minUsed : Nat := 0  -- cells charged to the minimum, 10 R346
  shUsed : Nat := 0  -- shared cells charged, 10 R346
  hdUsed : Nat := 0  -- headroom cells charged, 10 R346
  fc : Bool := false  -- BUF_OWNER_USE.FC_ASSERTED; reset 0, 10 R370
  deriving DecidableEq, Repr

/-- A colour remark: the fields a policy writes (R384). -/
structure Remark where
  dscp : Option Nat := none
  pcp : Option Nat := none
  dei : Bool := false
  deriving DecidableEq, Repr

/-- A frame in the buffer with its replication descriptor (R347, R367). -/
structure Stored where
  rx : Rx := {}  -- the frame and its cells
  md : List Byte := []  -- parse record and metadata
  edits : List Edit := []  -- edit script, 05 R165
  remark : Remark := {}  -- colour remarks, 11 R384
  colour : Nat := 0  -- 0 green, 1 yellow, 2 red, 11 R384
  adm : Nat := 0  -- admission tick
  ret : Nat := 0  -- retire tick
  mirrors : List Nat := []  -- egress sessions the FWD copy is a candidate of, 11 R385
  refs : Nat := 0  -- REFCOUNT, 10 R367
  copies : Nat := 0  -- copies that still need the frame's bytes, banked ones included, 10 R356
  shared : Bool := false  -- it has a replication descriptor: more than one copy, 10 R367
  reading : Bool := false  -- a transmit MAC has been granted a copy, and may still be reading the cells, 10 R344
  owner : Nat := 0  -- LAST_OWNER, 10 R367
  cMin : Nat := 0  -- charged to the minimum, 10 R347
  cShared : Nat := 0  -- charged to the shared pool, 10 R347
  cHdrm : Nat := 0  -- charged to the headroom, 10 R347
  deriving DecidableEq, Repr

/-- What a copy is (R352, R359). -/
inductive CopyKind where
  | unicast | mcast (group : Nat) | mirror (session : Nat) | trap (code : Nat) | errored | conflict | recirc (arg : Nat)
  deriving DecidableEq, Repr

/-- A copy descriptor: a frame on an output queue. -/
structure Copy where
  frame : Nat := 0  -- admission number of the frame
  kind : CopyKind := .unicast
  cells : Nat := 0  -- cells the copy reads, 10 R353
  from_ : Nat := 0  -- first tick at which it may be scheduled, 10 R358
  fetched : Bool := false  -- accounted to FETCH_RESERVE, 10 R358
  offDie : Bool := false  -- HBM read not arrived, 03 R568
  phys : List Nat := []  -- cells of a copy fetched back, 10 R344
  body : Option (List Byte) := none  -- captured bytes of a mirror copy, 11 R387
  orig : Nat := 0  -- frame length before truncation, 11 Table EGR-4
  port : Nat := 0  -- IN_PORT or egress port of a mirror copy, 11 Table EGR-4
  queue : Nat := 0  -- UQ of an egress capture, 11 Table EGR-4
  seq : Nat := 0  -- session sequence of a mirror copy, 11 Table EGR-4
  stamp : Nat := 0  -- timestamp of a mirror copy, ns, 11 Table EGR-4
  release : Option Nat := none  -- agreed release tick of a host take, 10 R360
  deriving DecidableEq, Repr

/-- One output queue (R352 to R358). -/
structure Queue where
  copies : List Copy := []  -- linked copies, head first, 10 R352
  bank : List Copy := []  -- banked copies, head first, 10 R356
  depth : Nat := 0  -- BUF_QUEUE_DEPTH; reset 0, 10 R370
  banked : Nat := 0  -- BUF_QUEUE_BANKED.BANKED; reset 0, 10 R370
  bankHead : Nat := 0  -- cells already fetched from the first chunk, 10 R356
  deriving DecidableEq, Repr

/-- What takes effect at the next tick: a release (R344), a change of an owner's flow control (R349), a flushed copy's REFCOUNT
step (R368). -/
inductive Release where
  | owner (owner m s h : Nat)
  | depth (queue cells : Nat)
  | fetch (cells : Nat)
  | fc (owner : Nat) (on : Bool)
  | unref (frame : Nat)
  deriving DecidableEq, Repr

/-- A copy on the residue list (R365). -/
structure Residue where
  frame : Nat
  queue : Nat
  cells : Nat
  group : Nat
  entered : Nat
  rt : Nat
  deriving DecidableEq, Repr

/-- The buffer pool: cells, owners, queues. -/
structure Buffer where
  slices : FMap Slice := []  -- BS0 to BS15, 10 R334
  alloc : FMap Bool := []  -- state bit of each cell, true ALLOCATED, 10 R339
  rotor : Nat := 0  -- next slice in rotation, 10 R336
  toReturn : List Nat := []  -- cells awaiting their last read, 10 R344
  owners : FMap Owner := []  -- 16,512 owners, 10 R342
  sharedUsed : Nat := 0  -- BUF_SHARED_USED; reset 0, 10 R370
  rxReserve : Nat := 0  -- BUF_RX_RESERVE; reset 0, 10 R370
  ownerPool : Nat := 0  -- BUF_OWNER_POOL; reset 0, 10 R370
  sharedSize : Nat := 0  -- BUF_SHARED_SIZE; reset 0, 10 R370
  frames : FMap (Option Stored) := []  -- frames in the buffer by admission number, 10 R367
  queues : FMap Queue := []  -- 16,472 output queues, 10 R352
  releases : List Release := []  -- releases taking effect next tick, 10 R344
  fetchUsed : Nat := 0  -- cells accounted to FETCH_RESERVE, 10 R341
  residue : List Residue := []  -- residue list, at most 65,536, 10 R365
  bankBudget : Nat := 60  -- cells left of this tick's bank budget, 10 R357
  replBudget : Nat := 0  -- copies left of this tick's replication budget, 10 R364
  lastFetch : Nat := 0  -- queue served last by fetch, 10 R358
  recircCredit : Int := 0  -- recirculation credit in bytes; DESIGN CHOICE 0 at reset, 10 R361
  flush : FMap (List Nat) := []  -- flushing ports: copies left to unlink of UQ0 to UQ7, 10 R368
  mcGroups : FMap Ver := []  -- MC_GROUP entries, 10 R362
  mcMembers : FMap Ver := []  -- MC_MEMBER entries, 10 R362
  deriving DecidableEq, Repr

/-! ### Egress (chapter 11) -/

/-- One port's scheduler state (R373 to R377). Buckets are in 1/65,536 byte, the credit in 1/1,000 byte. -/
structure Sched where
  credit : Int := 0  -- wire credit; DESIGN CHOICE 0 at reset, 11 R373
  shaper : Int := 0  -- port shaper bucket, 11 R377
  rr : Nat := 0  -- round-robin pointer; DESIGN CHOICE 0 at reset, 11 R376
  deficit : FMap Nat := []  -- deficit of each queue, bytes; DESIGN CHOICE 0 at reset, 11 R376
  minB : FMap Int := []  -- minimum buckets, 11 R377
  maxB : FMap Int := []  -- maximum buckets, 11 R377
  mirSlot : Option Copy := none  -- mirror slot, 11 R389
  deriving DecidableEq, Repr

/-- One meter (R381 to R383). Buckets are in 1/65,536 byte. -/
structure Meter where
  cir : Nat := 0  -- CIR_GAIN, 28 bits
  mode : Bool := false  -- MODE
  valid : Bool := false  -- VALID
  pir : Nat := 0  -- PIR_GAIN, 28 bits
  cbs : Nat := 0  -- CBS, 24 bits
  ebs : Nat := 0  -- EBS_PBS, 24 bits
  tc : Nat := 0  -- committed bucket
  te : Nat := 0  -- excess or peak bucket
  last : Nat := 0  -- tick of the last update
  pendE : Option Nat := none  -- effect tick of the incomplete write, 11 R383
  writes : List (Nat × Nat × Nat × Nat) := []  -- its parts: mailbox order, DATA0 to DATA2, 11 R383
  queued : List (Nat × Nat × Nat × Nat × Nat) := []  -- the queued write: effect tick asked for, order, DATA0 to DATA2, 08 R268
  deriving DecidableEq, Repr

/-- One mirror session's counters (R386, R388). -/
structure MirSession where
  count : Nat := 0  -- sample counter, 11 R386
  seq : Nat := 0  -- copies made, 16 bits, 11 Table EGR-4
  encap : List Nat := [0, 0, 0x88B5 * 2 ^ 32, 0, 0, 0, 0]  -- MIRROR_ENCAP words DATA0 to DATA6; GRE_PTYPE 0x88B5, 11 Table EGR-3
  deriving DecidableEq, Repr

/-- The egress side: schedulers, meters, mirrors, counters, energy. -/
structure Egress where
  sched : FMap Sched := []  -- by front port, 11 R372
  meters : FMap Meter := []  -- 262,144, 11 R381
  mirrors : FMap MirSession := []  -- 16 sessions, 11 R385
  mirNext : Nat := 0  -- next mirror queue in round robin, 11 R389
  counters : FMap (Nat × Nat) := []  -- counter pairs: pool by index, class c at (c + 1) × 2^32 + index, 11 R390
  image : FMap (Nat × Nat) := []  -- HBM image of the counter pairs that BAR2 shows, 11 R391, 14 R465
  imageDue : FMap Nat := []  -- pairs whose image lags, and the tick since which it does, 11 R391
  ctrPend : List (Nat × Nat × Nat × Nat) := []  -- updates to take effect: tick, pair, first, second, 11 R390
  stats : FMap Nat := []  -- MAC statistics by port × 32 + index, 64 bits; reset 0, 03 R121
  policyHist : List (Nat × Nat × Word) := []  -- changes of EGR_POLICY: effect tick, policy, value before, 01 R26
  bytesMoved : FMap Nat := []  -- bytes received and transmitted in the energy interval by port, 11 R395
  activeTicks : FMap Nat := []  -- ticks out of LPI in the interval by port, 11 R395
  cyclesRun : FMap Nat := []  -- issue cycles in the interval by group × 1,024 + class-14 index, 11 R395
  deriving DecidableEq, Repr
/-! ### Twin operation (chapter 12) -/

/-- Twin states of Table TWIN-5. -/
inductive TwinState where
  | solo | pairing | syncing | warming | active | standby | diverged
  deriving DecidableEq, Repr

/-- An item record of a snapshot (Table TWIN-16). -/
structure ItemRec where
  kind : Nat
  code : Nat
  index : Nat
  body : List Byte
  deriving DecidableEq, Repr

/-- The pairing exchange (R405 to R409). -/
structure Pairing where
  nonce : List Byte := []  -- this twin's nonce, 32 bytes, 12 Table TWIN-3
  started : Option Nat := none  -- tick of the first HELLO, 12 R406
  hello : List Byte := []  -- the partner's HELLO body, 176 bytes, 12 R405
  sentHello : List Byte := []  -- this twin's HELLO body, 12 R405
  passed : Bool := false  -- CONFIRM checked and pairing passed, 12 R405
  master : Bool := false  -- this twin is the master, 12 R408
  ks : List Byte := []  -- session key K_S, 32 bytes, 12 R405
  saltA : List Byte := []  -- salt for messages from side A, 12 R405
  saltB : List Byte := []  -- salt for messages from side B, 12 R405
  syncTick : Option Nat := none  -- tick count named by TICK_SYNC, 12 R408
  synced : Bool := false  -- tick count adopted, 12 R408
  coldAt : Option Nat := none  -- start tick of a cold start, 12 R409
  retryAt : Option Nat := none  -- tick of the next pairing try, 12 R406
  deriving DecidableEq, Repr

/-- The twin controller. -/
structure Twin where
  st : TwinState := .solo  -- TWIN_STATUS.STATE; reset 0 (SOLO), 12 R435
  side : Bool := false  -- TWIN_SIDE as strapped, true side B; reset 0, 12 R398
  role : Bool := false  -- accepted TWIN_ROLE; reset 0, 12 R401
  roleNext : Option Bool := none  -- accepted level that takes effect at the next tick, 12 R401
  roleSince : Option Nat := none  -- tick of the last accepted change, 12 R401
  bySilence : Bool := false  -- SOLO entered from STANDBY by silence, 12 R412
  soloSince : Nat := 0  -- tick at which SOLO was entered under R411, 12 R412
  stSince : Nat := 0  -- tick of the last state change, 12 R426, R432
  pairSince : Nat := 0  -- tick at which the pair was formed: its start tick or W, 12 R409, R432
  failNow : Option Nat := none  -- reason found in this tick for the attempt to fail, 12 R429
  fault : Option (Nat × Nat × Nat) := none  -- self-reported fault: cause, f, D, 12 R422
  partnerFault : Option (Nat × Nat × Nat) := none  -- FAULT received: cause, f, D, 12 R411
  absent : Bool := false  -- TWIN_STATUS.PARTNER_ABSENT; reset 0, 12 R435
  soloBy411 : Bool := false  -- SOLO was entered under R411, 12 R401
  heard : Nat := 0  -- latest send tick of a message held, 12 R411
  groups : Nat := 0  -- TWIN_STATUS.FLUE_GROUPS, 2 bits; reset 0, 12 R404
  flueVer : Nat := 0  -- TWIN_STATUS.FLUE_VER; reset 0, 12 R407
  feature : Nat := 2  -- operating feature level, 06 R239, 12 R407
  partnerState : Nat := 0  -- TWIN_STATUS.PARTNER_STATE; reset 0, 12 R435
  source : Bool := false  -- TWIN_STATUS.SOURCE; reset 0, 12 R435
  pair : Pairing := {}  -- pairing exchange, 12 R405
  written : Bool := false  -- a host write has been applied since start, 12 Table TWIN-3
  lastCause : Nat := 0  -- TWIN_LAST_FAULT.CAUSE; reset 0, 12 R435
  lastRefusal : Nat := 0  -- TWIN_LAST_FAULT.REFUSAL; reset 0, 12 R435
  lastResyncFail : Nat := 0  -- TWIN_LAST_FAULT.RESYNC_FAIL; reset 0, 12 R435
  faultTick : Nat := 0  -- TWIN_FAULT_TICK; reset 0, 12 R435
  lastFaultMsg : List Byte := []  -- body of the last FAULT message, 12 Table TWIN-14
  resyncDone : Nat := 0  -- TWIN_RESYNC_CNT.DONE; reset 0, 12 R435
  resyncFailed : Nat := 0  -- TWIN_RESYNC_CNT.FAILED; reset 0, 12 R435
  fails : Nat := 0  -- consecutive failed attempts, 12 R426
  resyncCmd : Bool := false  -- TWIN_CMD RESYNC issued, 12 R426
  txCounter : Nat := 0  -- next flue frame counter, 64 bits, 12 R414
  rxCounter : Option Nat := none  -- last counter accepted, 12 R414
  inbox : List FlueMsg := []  -- messages passed on by authenticated frames, 12 R414
  partial_ : List FlueMsg := []  -- segments of messages not yet whole, 12 R416
  swapReq : Option Nat := none  -- TWIN_SWAP_REQ high since, 12 R425
  swapNext : Option Nat := none  -- tick of the next request, 12 R425
  swapAsked : Bool := false  -- TWIN_CMD SWAP or SWAP_REQ outstanding, 12 R425
  lastMismatch : Option Nat := none  -- tick of the last digest mismatch, 12 R425
  recAdmit : List (Nat × Nat) := []  -- ADMIT and GOV_DROP records of the tick, 12 R420
  recRetire : List (Nat × Nat) := []  -- RETIRE records of the tick, 12 R420
  recGrant : List (Nat × Nat) := []  -- GRANT records of the tick, 12 R420
  recWrite : List (Nat × Nat) := []  -- HOST_WRITE records of the tick, 12 R420
  digests : FMap Nat := []  -- this twin's digests by tick, 12 R420
  partnerDigests : FMap (Option Nat) := []  -- the partner's digests held, 12 R421
  joinTick : Option Nat := none  -- J, 12 R427
  warmTick : Option Nat := none  -- W, 12 R432
  bulkSent : Bool := false  -- SNAP_END sent or received, 12 R427
  snapSent : List ItemRec := []  -- items as last sent, 12 R427
  clearAll : Bool := true  -- every ember lane is clear, 12 R430
  unclear : List Nat := []  -- lanes not clear once the map of R430 has come, 12 R430
  lanesOwed : List (Nat × Nat × List Nat) := []  -- source: lanes not clear, the first ticket after J, their records, 12 R430
  effOwed : List (Nat × Nat × Nat × Nat) := []  -- source: items to log after J: from tick, kind, code, index, 12 R431
  placeWait : List (Nat × List Byte) := []  -- joiner: placeholders that wait for their link tick, 12 R431
  bulkAt : Option Nat := none  -- source: tick from which the snapshot starts, 12 R408, R427
  partnerRole : Bool := false  -- the partner's accepted TWIN_ROLE as its HELLO gave it, 12 Table TWIN-3
  warnedWarm : Bool := false  -- STILL_WARMING raised, 12 R432
  goodDigests : Nat := 0  -- consecutive matching joiner digests, 12 R432
  hb : Bool := false  -- TWIN_HB, 12 R399
  frameOrder : FMap Nat := []  -- per-port frame order for digests of plain ports, 12 Table TWIN-9
  grantCount : FMap Nat := []  -- per-port grant count for digests of plain ports, 12 Table TWIN-9
  deriving DecidableEq, Repr
/-! ### Time (chapter 13) -/

/-- An outstanding departure report (R446, R448). -/
structure TsPending where
  tsid : Nat
  port : Nat
  qp : Nat
  grant : Nat
  inj : Nat  -- transmit completion it belongs to, 14 R481
  deriving DecidableEq, Repr

/-- A past tick's time: TT, INC and slew share (2^-32 ns) of its advance (R440). -/
structure TickTime where
  tt : Nat
  inc : Nat
  share : Int
  locked : Bool
  slew : Int
  deriving DecidableEq, Repr

/-- A time command (Table TIME-1): SET in 2^-48 ns, ADJUST in 2^-16 ns. -/
inductive TimeAct where
  | stepSet (tod : Nat)
  | stepAdjust (off : Int)
  | rate (inc : Nat)
  | unlock
  deriving DecidableEq, Repr

/-- The part of the time unit that time commands and time state messages act on (R441, R456). -/
structure TimeCore where
  tod : Nat := 0  -- TT of the current tick: SEC, NS, FRAC and 32 bits below, 2^-48 ns; reset 0, 13 R437, R441
  locked : Bool := false  -- TIME_STATUS.LOCKED; reset 0, 13 R441
  inc : Nat := 0x47AE147AE148  -- INC, 48 bits; reset 0x47AE_147A_E148, 13 R438
  slew : Int := 0  -- remaining slew, 2^-32 ns; reset 0, 13 R442
  deriving DecidableEq, Repr

/-- The time unit. Times of day are in 2^-48 ns, the slew in 2^-32 ns. -/
structure TimeUnit where
  core : TimeCore := {}  -- time of day, rate, lock and slew, 13 R437 to R442
  acts : List (Nat × TimeAct) := []  -- time commands applied in the last 1,024 ticks, 13 R456
  hist : List TickTime := []  -- the last 4,096 ticks, newest first: TT is kept for 1,024 ticks, and slow frames started earlier, 13 R440
  steps : List Nat := []  -- ticks at which a step took effect, 13 R443
  nowLatch : Nat × Nat := (0, 0)  -- time of day and tick latched by TIME_NOW_FRAC, 13 R458
  ppsNs : Nat := 0  -- TIME_PPS_IN_NS; reset 0, 13 R458
  ppsSec : Nat := 0  -- TIME_PPS_IN_SEC; reset 0, 13 R458
  ppsOut : Bool := false  -- PPS_OUT, 13 R454
  ppsFall : Option Nat := none  -- CK_TIME cycle at which PPS_OUT falls, 13 R454
  ppsLast : Option Nat := none  -- second in which PPS_OUT last rose, 13 R454
  pins : Nat := 0  -- TIME_TRIG[7:0], 13 R451
  pulses : FMap (Option Nat) := []  -- CK_TIME cycle at which a trigger pulse ends, 13 R451
  fifo : List (Nat × Nat × Nat × Nat) := []  -- egress timestamp FIFO, oldest first, W0 to W3, 13 R447
  nextSeq : Nat := 0  -- TIME_TSF_STATUS.NEXT_SEQ, 16 bits; reset 0, 13 R458
  nextTsid : Nat := 1  -- next TSID, 13 R445
  tsPend : List TsPending := []  -- outstanding departure reports, 13 R448
  adoptAt : List (Nat × TimeCore) := []  -- time states to adopt: tick k of the message and its state, 13 R456
  deriving DecidableEq, Repr

/-! ### Host interface (chapter 14) -/

/-- One ring's counts (R466). Rings: 0 MBX_CMD, 1 MBX_CPL, 2 EVT, 3 + 4q TXq, 4 + 4q TXCq, 5 + 4q RXBq, 6 + 4q RXCq. -/
structure Ring where
  prod : Nat := 0  -- PROD, 16 bits; reset 0, 14 R492
  cons : Nat := 0  -- CONS, 16 bits; reset 0, 14 R492
  made : Nat := 0  -- records written since ENABLE, for PHASE, 14 R467
  deriving DecidableEq, Repr

/-- What a host write does when it is applied (Table HOST-8, R464). -/
inductive WriteAct where
  | reg (addr value mask : Nat)
  | table (code : Nat) (words : List Nat)
  | portSet (port : Nat) (enable : Bool) (rate lane chan : Nat)
  | queueSet (port uq mask : Nat) (values : List Nat)
  | activate (image : Nat)
  | time (a : TimeAct)
  deriving DecidableEq, Repr

/-- A host write accepted and waiting for its effect tick (R34, R418, R470). -/
structure HostWrite where
  eff : Nat  -- effect tick E
  side : Bool := false  -- accepting twin's side, 12 R418
  seq : Nat  -- mailbox sequence; direct writes follow the mailbox writes
  direct : Bool := false  -- direct BAR0 write, 14 R464
  gen : Nat := 0  -- tells writes of one sequence number apart (model's own)
  cmd : Option MbxCmd := none  -- command to complete on this twin
  act : WriteAct
  deriving DecidableEq, Repr

/-- A read waiting for its as-of tick (R471). -/
structure PendingRead where
  tick : Nat
  cmd : MbxCmd
  code : Nat
  words : List Nat
  bufAddr : Nat
  bufLen : Nat
  deriving DecidableEq, Repr

/-- A long command in its queue (R469): its bytes are its input buffer. -/
structure LongCmd where
  cmd : MbxCmd
  args : List Byte
  bufIn : List Byte
  bufAddr : Nat
  bufLen : Nat
  tick : Nat
  shadow : List (Nat × Nat)  -- shadow records a TABLE_AUDIT reads from host memory
  deriving DecidableEq, Repr

/-- A descriptor taken whose completion is owed (R481). -/
structure TxDone where
  id : Nat  -- descriptor number
  qp : Nat
  cookie : Nat
  left : Nat := 0  -- frames not yet retired
  read : Bool := false  -- the frame has been read and judged, 14 R479
  invalid : Bool := false
  dropped : Option Nat := none  -- reason of the first frame dropped
  segmented : Bool := false
  tsWait : Bool := false  -- a timestamp outcome is awaited
  tsid : Nat := 0
  seq : Nat := 0
  ts32 : Nat := 0
  tsValid : Bool := false
  tsLost : Bool := false
  desc : TxDesc := {}
  deriving DecidableEq, Repr

/-- One MSI-X vector (R488). -/
structure Vector where
  count : Nat := 0  -- records pending since the last message
  since : Option Nat := none  -- tick of the first pending record
  armed : Bool := true  -- may send
  deriving DecidableEq, Repr

/-- One MDIO master in work (R489). -/
structure Mdio where
  busy : Bool := false  -- HOST_MDIO_DATA.BUSY; reset 0, 14 R492
  deriving DecidableEq, Repr

/-- One two-wire master (R490). -/
structure Twi where
  status : Nat := 0  -- HOST_TWI_STATUS; reset 0, 14 R492
  toSend : List Byte := []  -- bytes pushed to send, 14 R492
  got : List Byte := []  -- bytes read, 14 R492
  deriving DecidableEq, Repr

/-- A raised event held until EVT is enabled (R521), and events in general. -/
structure Event where
  code : Nat
  tick : Nat
  data : List Byte
  deriving DecidableEq, Repr

/-- The host interface. -/
structure HostIf where
  rings : FMap Ring := []  -- the rings of Table HOST-4, 14 R466
  version : Nat := 0  -- HOST_MBX_STATUS.VERSION; reset 0, 14 R472
  nextSeq : Nat := 0  -- mailbox sequence of the next command, 32 bits, 14 R469
  nextDirect : Nat := 0  -- order of direct writes (model's own)
  outstanding : List MbxCmd := []  -- commands taken and not complete, at most 255, 14 R469
  longs : List LongCmd := []  -- long commands, the first one running, 14 R469
  reads : List PendingRead := []  -- reads waiting for their tick, 14 R471
  cplWait : List (Nat × List Byte) := []  -- completions not yet written, MBX_CPL full: sequence and record bytes
  evLast : FMap (Option Nat) := []  -- ticks of the last rate-limited event records by code × 2^20 + index, 14 R486
  lost : Bool := false  -- events were lost before the next record, 14 R487
  held : List Event := []  -- events held before EVT is enabled, at most 64, 15 R521
  lastPair : Nat := 63  -- TX queue pair served last, 14 R478
  pacing : Int := 0  -- host pacing credit in bytes; DESIGN CHOICE 0 at reset, 14 R478
  lastApply : Nat := 0  -- apply tick of the previous injected frame, 14 R478
  txDone : List TxDone := []  -- descriptors whose completion is owed, 14 R481
  nextDesc : Nat := 1  -- next descriptor number (model's own)
  rxBudget : Int := 0  -- receive budget in bytes; DESIGN CHOICE 0 at reset, 14 R485
  takes : List (Nat × Nat × Nat × List Nat) := []  -- agreed takes: effect tick, host queue, frames, this twin's buffers, 14 R485
  taken : List (Nat × List Byte × List (Nat × List Byte)) := []  -- frames taken, to write: queue, record, buffer contents, 14 R485
  vectors : FMap Vector := []  -- 68 MSI-X vectors, 14 R488
  stallFrom : FMap (Option Nat) := []  -- since when a host queue has no buffer, 14 Table HOST-15
  mdio : FMap Mdio := []  -- 8 MDIO masters, 14 R489
  twi : FMap Twi := []  -- 8 two-wire masters, 14 R490
  uartTx : List Byte := []  -- UART transmit FIFO, 64 bytes, 14 R491
  uartRx : List Byte := []  -- UART receive FIFO, 64 bytes, 14 R491
  uartNext : Nat := 0  -- tick from which the UART may send its next byte, 14 R491
  pcie : Nat := 0  -- HOST_PCIE_STATUS; reset 0, 14 R492
  hostMem : FMap Byte := []  -- host memory as the device wrote it; unlisted bytes 0 (DESIGN CHOICE), 14 R466
  hbmHost : FMap Byte := []  -- host region of HBM, 128 MiB; unlisted bytes 0 (DESIGN CHOICE), 14 R465
  deriving DecidableEq, Repr

/-! ### Kindling image, fuses and start-up (chapter 15) -/

/-- Causes of the safe hearth state (R513). -/
inductive SafeCause where
  | none | noImage | strap | sliceFailed | hbmFailed | fuseError | scan
  deriving DecidableEq, Repr

/-- The fuse array (Table BOOT-9): only fuse programming changes it. -/
structure Fuses where
  identity : List Byte := List.replicate 16 0  -- identity record; DESIGN CHOICE zero, 15 R515
  factoryHealth : Nat := 0  -- 324 bits; DESIGN CHOICE 0, 15 R517
  rootHash : List Byte := List.replicate 48 0  -- ROOT_HASH; DESIGN CHOICE zero, 15 R517
  rootDisable : Bool := false  -- ROOT_DISABLE, 15 R517
  custHash : FMap (List Byte) := []  -- CUST_HASH0 to 3 when programmed, 15 R517
  custRevoke : Nat := 0  -- 4 bits, 15 R517
  cwk : Option (List Byte) := none  -- CWK when programmed, 15 R517
  svn : Nat := 0  -- fused count, 0 to 64, 15 R517
  deriving DecidableEq, Repr

/-- A fuse operation in progress (R518): its OP, slot, count and data. -/
structure FuseOp where
  op : Nat
  slot : Nat
  svn : Nat
  refused : Bool
  deriving DecidableEq, Repr

/-- A health-map entry (R499, R543): kind, number, source. -/
structure Health where
  kind : Nat
  num : Nat
  src : Nat
  deriving DecidableEq, Repr

/-- Start-up, image and identity. -/
structure Boot where
  inReset : Bool := true  -- RESET_N is low or a supply monitor holds the device, 15 R509, 17 R560
  resetLow : Bool := true  -- RESET_N low, 17 R560
  supplyLow : Bool := false  -- a supply is below its monitor threshold, 17 R560
  step : Nat := 0  -- BOOT_STATUS.STEP; reset 0, 15 R520
  holding : Option StartInput := none  -- start held in step 2 until the PLLs lock, 15 R510
  safe : SafeCause := .none  -- BOOT_STATUS.SAFE_HEARTH and SAFE_CAUSE; reset none, 15 R513
  slot : Option Nat := none  -- boot slot, 15 R506
  fallback : Bool := false  -- BOOT_STATUS.FALLBACK; reset 0, 15 R520
  overlay : Bool := false  -- BOOT_STATUS.OVERLAY; reset 0, 15 R520
  vfuseOk : Bool := false  -- BOOT_STATUS.VFUSE_OK; reset 0, 15 R520
  reasonA : Nat := 0  -- BOOT_IMAGE.REASON_A; reset 0, 15 R520
  reasonB : Nat := 0  -- BOOT_IMAGE.REASON_B; reset 0, 15 R520
  imageSvn : Nat := 0  -- BOOT_IMAGE.IMAGE_SVN; reset 0, 15 R520
  imageVersion : Nat := 0  -- BOOT_IMAGE_VERSION; reset 0, 15 R520
  image : List Byte := []  -- the running image, kept in HBM, 15 R500
  imageHash : List Byte := []  -- its SHA-384, 15 R506
  mapHash : List Byte := []  -- MAP_HASH, 15 R499
  initHash : List Byte := []  -- INIT_HASH, 15 R499
  kpSlot : Nat := 0  -- KP_SLOT of the TWIN section, 15 Table BOOT-3
  enables : List Nat := []  -- lanes whose ENABLE takes effect at S, 15 R512
  startS : Option Nat := none  -- start tick S, 15 R512
  pairWait : Option Nat := none  -- end of the 10 s wait for a partner, 12 R409
  flash : FMap Byte := []  -- 256 MiB flash; unlisted bytes 0xFF (erased; DESIGN CHOICE), 15 R495
  keys : FMap (Option (List Byte × Nat)) := []  -- key store: key and usage of each slot, 15 R519
  cwkSensed : Bool := false  -- the sensed copy of CWK is held, 16 R542
  fuseData : FMap Nat := []  -- BOOT_FUSE_DATA words; reads zero, 15 R520
  fuseOp : Option FuseOp := none  -- fuse operation in progress, 15 R518
  fuseResult : Nat := 0  -- BOOT_FUSE_CTRL.RESULT; reset 0, 15 R520
  health : List Health := []  -- health map, 16 R543
  healthTick : Nat := 0  -- tick of its last change, 16 R543
  refusedSects : List Nat := []  -- section types whose refusal event is raised, 15 R511
  byHand : Bool := false  -- brought up by FORWARD, pairs only as a joiner, 15 R514
  deriving DecidableEq, Repr

/-! ### Power, self-test, life (chapter 16) -/

/-- A stove sweep visit (R539): group, cover group, stage and effect tick. -/
structure Visit where
  group : Nat
  cover : Option Nat
  stage : Nat  -- 0 waiting for cover, 1 draining, 2 testing, 3 returning
  failed : Nat := 0  -- failed stoves found, bit per stove of the group
  at_ : Nat := 0  -- effect tick x or y
  deriving DecidableEq, Repr

/-- Power, temperature, energy and self-test. -/
structure Power where
  ready : Nat := 0  -- PWR_DOMAIN_STATUS.ON, 31 bits; reset 0, 16 R547
  rampQ : List Nat := []  -- domains in order of their switch-on requests, the first ramping, 16 R524
  vid : Nat := 100  -- PWR_AVS_STATUS.VID; reset 0x64, 16 R547
  vidTarget : Nat := 100  -- voltage setpoint, 16 R527
  avsLimit : Bool := false  -- PWR_AVS_STATUS.LIMIT; reset 0, 16 R547
  tjMax : Int := 0  -- PWR_THERM_STATUS.TJ_MAX; reset 0, 16 R547
  tjSensor : Nat := 0  -- PWR_THERM_STATUS.SENSOR; reset 0, 16 R547
  hbm0 : Int := 0  -- PWR_THERM_STATUS.HBM0; reset 0, 16 R547
  hbm1 : Int := 0  -- PWR_THERM_STATUS.HBM1; reset 0, 16 R547
  throttling : Bool := false  -- PWR_THERM_STATUS.THROTTLING; reset 0, 16 R547
  coolFor : Nat := 0  -- consecutive ms below THROTTLE − HYST, 16 R530
  thermtrip : Bool := false  -- tripped until RESET_N; THERMTRIP_N low, 16 R531
  energy : FMap Nat := []  -- PWR_ENERGY of domain d in nJ; reset 0, 16 R533
  aging : FMap Nat := []  -- DEGRADE of domain d in 0.01 %; reset 0, 16 R545
  agingWarned : Bool := false  -- event 0x1C07 raised, 16 R545
  lifeAdded : Nat := 0  -- equivalent time since start, 10^-12 hours, 16 R546
  fEff : FMap Nat := []  -- lowered clock codes by group: code + 1, 16 R529, R530
  lastLbist : FMap Nat := []  -- tick of each group's last LBIST, 16 R538
  nextVisit : Nat := 0  -- tick of the next sweep visit, 16 R538
  visit : Option Visit := none  -- visit in progress, BIST_SWEEP_STATUS, 16 R539
  visits : Nat := 0  -- BIST_SWEEP_STATUS.VISITS; reset 0, 16 R548
  scanned : Bool := false  -- locked out by scan, 16 R542
  deriving DecidableEq, Repr

/-! ### Clock, registers, pins -/

/-- The tick, the frame path and the forwarding gate. -/
structure Clock where
  tick : Nat := 0  -- GLOBAL_TICK, 64 bits; reset 0, 01 R16, R39
  pllLocked : Bool := false  -- the reference PLL is locked, 01 R17
  zeroNext : Bool := false  -- the next tick boundary zeroes the count, 01 R17
  forwarding : Bool := false  -- BOOT_STATUS.FORWARDING; reset 0, 15 R520
  free : Nat := 0  -- MODEL'S OWN: counter that free values are applied to (DESIGN CHOICE 0 at reset)
  deriving DecidableEq, Repr

/-- Register storage (R8 to R13). -/
structure Regs where
  vals : FMap (Option Word) := []  -- written registers by BAR0 offset; unlisted: reset value, 00 R11
  latch : FMap (Option Word) := []  -- latched high words by offset, 00 R9
  high : FMap (Option Word) := []  -- held high-word writes by offset, 00 R10
  rdData : Option Word := none  -- last BAR0 read completion; none: Unsupported Request, 14 R463
  rdBytes : List Byte := []  -- last BAR2 read completion, 14 R465
  deriving DecidableEq, Repr

/-- One transmission on a front lane in this tick. -/
inductive LaneOut where
  | oset (lane : Nat) (bytes : List Byte)
  | frame (lane : Nat) (preamble : Option (List Byte)) (bytes : List Byte) (inverted : Bool)
  | pause (port : Nat) (bytes : List Byte)
  | lpi (lane : Nat) (on : Bool)
  | idle (port : Nat)
  deriving DecidableEq, Repr

/-- What leaves the device; TICK clears it. -/
structure Outputs where
  lanes : List LaneOut := []  -- blocks on the front lanes, 02
  flue : List FlueMsg := []  -- flue messages, 12 R415
  flueFrames : List (List Byte) := []  -- flue frames, encrypted, 12 R414
  msix : List Nat := []  -- MSI-X messages by vector, 14 R488
  uart : List Byte := []  -- bytes sent by the UART, 14 R491
  mdio : List (Nat × Nat × Nat) := []  -- MDIO accesses: master, command, data, 14 R489
  twi : List (Nat × Nat × List Byte) := []  -- two-wire transactions: master, command, bytes, 14 R490
  jtag : List Nat := []  -- values shifted out of JTAG, 16 R542
  tsync : Bool := false  -- TWIN_TSYNC_O pulse, 12 Table TWIN-1
  deriving DecidableEq, Repr

/-- The whole device. -/
structure State where
  pending : List Instr := []  -- commands waiting, first in first out
  clk : Clock := {}  -- tick and forwarding
  regs : Regs := {}  -- register storage
  writes : List HostWrite := []  -- host writes waiting for their effect ticks, 01 R34
  lanes : FMap Lane := []  -- FL000 to FL511, 02
  ports : FMap Port := []  -- P0000 to P2047, 03
  adm : Admission := {}  -- hearth sequencer and governor, 04
  prog : Programs := {}  -- program store, 05
  hob : Hobs := {}  -- stoves, threads and retirement, 05, 07
  tbl : Tables := {}  -- tables and ember records, 08
  tcam : Tcam := {}  -- TCAM, 09
  buf : Buffer := {}  -- buffer pool and queues, 10
  egr : Egress := {}  -- egress, meters, counters, 11
  twin : Twin := {}  -- twin controller, 12
  time : TimeUnit := {}  -- time unit, 13
  host : HostIf := {}  -- host interface, 14
  boot : Boot := {}  -- start-up, 15
  fuses : Fuses := {}  -- fuse array, 15 R517
  pwr : Power := {}  -- power and self-test, 16
  out : Outputs := {}  -- outputs of the current tick
  deriving DecidableEq, Repr

/-- What stops the machine. No command of this model does: every rule of the manual gives an effect. -/
inductive Fault where
  /-- Never raised: the manual describes no condition without an effect. Safe. -/
  | noEffectGiven
  deriving DecidableEq, Repr

/-- Why a command has no meaning. -/
inductive Refusal where
  /-- Raised by Dispatch.lean alone, for a row without a meaning yet; safe. -/
  | notModelled (mnemonic : String)
  deriving DecidableEq, Repr

/-- The device as power-on leaves it, RESET_N low (R509): every field at its reset value. -/
def State.reset : State := {}

end Sys2Proof.Machine
end

