-- ==== Sys2Proof/Machine/Ops.lean ====
section
/-! DEFINITION. The named operations that the meanings share: register storage, counters, the rings of the host
interface, events, mailbox completions, drop accounting. -/

namespace Sys2Proof.Machine

/-! ### Parts of the state by number -/

/-- Lane `l`. -/
def laneOf (s : State) (l : Nat) : Lane := FMap.get {} s.lanes l

/-- Change lane `l`. -/
def modLane (l : Nat) (f : Lane → Lane) (s : State) : State := { s with lanes := FMap.upd {} s.lanes l f }

/-- Port `p`. -/
def portOf (s : State) (p : Nat) : Port := FMap.get {} s.ports p

/-- Change port `p`. -/
def modPort (p : Nat) (f : Port → Port) (s : State) : State := { s with ports := FMap.upd {} s.ports p f }

/-- Change the clock and the forwarding gate. -/
def modClk (f : Clock → Clock) (s : State) : State := { s with clk := f s.clk }

/-- Change the admission part. -/
def modAdm (f : Admission → Admission) (s : State) : State := { s with adm := f s.adm }

/-- Change the program store. -/
def modProg (f : Programs → Programs) (s : State) : State := { s with prog := f s.prog }

/-- Change the hobs. -/
def modHob (f : Hobs → Hobs) (s : State) : State := { s with hob := f s.hob }

/-- Change the tables. -/
def modTbl (f : Tables → Tables) (s : State) : State := { s with tbl := f s.tbl }

/-- Change the TCAM. -/
def modTcam (f : Tcam → Tcam) (s : State) : State := { s with tcam := f s.tcam }

/-- Change the buffer. -/
def modBuf (f : Buffer → Buffer) (s : State) : State := { s with buf := f s.buf }

/-- Change the egress side. -/
def modEgr (f : Egress → Egress) (s : State) : State := { s with egr := f s.egr }

/-- Change the twin controller. -/
def modTwin (f : Twin → Twin) (s : State) : State := { s with twin := f s.twin }

/-- Change the time unit. -/
def modTime (f : TimeUnit → TimeUnit) (s : State) : State := { s with time := f s.time }

/-- Change the host interface. -/
def modHost (f : HostIf → HostIf) (s : State) : State := { s with host := f s.host }

/-- Change the start-up part. -/
def modBoot (f : Boot → Boot) (s : State) : State := { s with boot := f s.boot }

/-- Change the power part. -/
def modPwr (f : Power → Power) (s : State) : State := { s with pwr := f s.pwr }

/-- Change the outputs. -/
def modOut (f : Outputs → Outputs) (s : State) : State := { s with out := f s.out }

/-- Apply `f` when `c` holds. -/
def whenB (c : Bool) (f : State → State) (s : State) : State := if c then f s else s

/-- Apply `f` for each element, in order. -/
def forEach {α : Type} (l : List α) (f : α → State → State) (s : State) : State := l.foldl (fun a x => f x a) s

/-! ### Registers (R8 to R13) -/

/-- The stored value of a register: the reset value until something is written. -/
def regVal (s : State) (r : Reg) (i : Nat) : Word := (FMap.get none s.regs.vals (r.addr i)).getD r.info.reset

/-- Store a register's value. -/
def regSet (r : Reg) (i : Nat) (v : Word) (s : State) : State :=
  { s with regs := { s.regs with
      vals := FMap.set none s.regs.vals (r.addr i) (if v = r.info.reset then none else some v) } }

/-- Field [hi:lo] of a register. -/
def regFld (s : State) (r : Reg) (i hi lo : Nat) : Nat := wfld (regVal s r i) hi lo

/-- Bit `b` of a register. -/
def regBit (s : State) (r : Reg) (i b : Nat) : Bool := (regVal s r i).getLsbD b

/-- The value with field [hi:lo] replaced. -/
def setFld (v : Word) (hi lo x : Nat) : Word :=
  let m := BitVec.ofNat 32 ((2 ^ (hi + 1 - lo) - 1) * 2 ^ lo)
  (v &&& ~~~m) ||| (BitVec.ofNat 32 (x * 2 ^ lo) &&& m)

/-- Store field [hi:lo] of a register. -/
def regSetFld (r : Reg) (i hi lo x : Nat) (s : State) : State := regSet r i (setFld (regVal s r i) hi lo x) s

/-- Add `n` to the saturating counter in field [hi:0] of a register. -/
def regCountN (r : Reg) (i hi n : Nat) (s : State) : State :=
  regSetFld r i hi 0 (satAdd (hi + 1) (regFld s r i hi 0) n) s

/-- Count one in a 32-bit saturating counter register. -/
def regCount (r : Reg) (i : Nat) (s : State) : State := regCountN r i 31 1 s

/-! ### Rings (R466, R467) -/

/-- The CFG register of a ring and its instance. -/
def ringCfg (k : Nat) : Reg × Nat := if k < 3 then (.HOST_RING_CFG, k) else (.HOST_QRING_CFG, k - 3)

/-- The ring's CFG value. -/
def ringCfgVal (s : State) (k : Nat) : Word := regVal s (ringCfg k).1 (ringCfg k).2

/-- The ring is in use. -/
def ringEnabled (s : State) (k : Nat) : Bool := (ringCfgVal s k).getLsbD 4

/-- The ring's number of entries: 2^LOG2_SIZE. -/
def ringSize (s : State) (k : Nat) : Nat := 2 ^ wfld (ringCfgVal s k) 3 0

/-- The ring's base address. -/
def ringBase (s : State) (k : Nat) : Nat :=
  if k < 3 then (regVal s .HOST_RING_BASE_HI k).toNat * 2 ^ 32 + (regVal s .HOST_RING_BASE_LO k).toNat
  else (regVal s .HOST_QRING_BASE_HI (k - 3)).toNat * 2 ^ 32 + (regVal s .HOST_QRING_BASE_LO (k - 3)).toNat

/-- Bytes of a ring entry (Table HOST-4). -/
def ringEntry (k : Nat) : Nat :=
  if k = 0 then 64 else if k < 3 then 32
  else match (k - 3) % 4 with
    | 0 => 32
    | 1 => 16
    | 2 => 16
    | _ => 64

/-- Host software fills the ring (Table HOST-4). -/
def ringByHost (k : Nat) : Bool := k = 0 || (3 ≤ k && ((k - 3) % 4 = 0 || (k - 3) % 4 = 2))

/-- The offset of a ring's register set in the HOST block (Table HOST-4). -/
def ringOffset (k : Nat) : Nat :=
  if k < 3 then 0x1000 + 0x20 * k else 0x10000 + 0x100 * ((k - 3) / 4) + 0x20 * ((k - 3) % 4)

/-- The ring's counts. -/
def ringOf (s : State) (k : Nat) : Ring := FMap.get {} s.host.rings k

/-- Change a ring's counts. -/
def modRing (k : Nat) (f : Ring → Ring) (s : State) : State :=
  modHost (fun h => { h with rings := FMap.upd {} h.rings k f }) s

/-- Entries in the ring: PROD − CONS modulo 2^16. -/
def ringUsed (s : State) (k : Nat) : Nat := ((ringOf s k).prod + 65536 - (ringOf s k).cons) % 65536

/-- The ring is full. -/
def ringFull (s : State) (k : Nat) : Bool := decide (ringSize s k ≤ ringUsed s k)

/-- Rings by name: TXq, TXCq, RXBq and RXCq of a queue pair. -/
def txRing (q : Nat) : Nat := 3 + 4 * q
def txcRing (q : Nat) : Nat := 4 + 4 * q
def rxbRing (q : Nat) : Nat := 5 + 4 * q
def rxcRing (q : Nat) : Nat := 6 + 4 * q

/-- The MSI-X vector that serves a device-filled ring (R488). -/
def ringVector (k : Nat) : Nat := if k = 1 then 0 else if k = 2 then 1 else 4 + (k - 3) / 4

/-- A record becomes pending on a vector (R488). -/
def vectorPend (v : Nat) (s : State) : State :=
  modHost (fun h => { h with vectors := FMap.upd {} h.vectors v fun x =>
    { x with count := x.count + 1, since := some (x.since.getD s.clk.tick) } }) s

/-- Write a record to a device-filled ring that has room: the bytes at base + (PROD mod size) × entry size with PHASE in
bit 0 of byte `ph` (R466, R467), PROD advanced, the vector's count advanced. -/
def ringPut (k ph : Nat) (rec : List Byte) (s : State) : State :=
  let r := ringOf s k
  let phase := b2n (r.made / ringSize s k % 2 = 0)
  let rec1 := splice rec ph [byteAt rec ph &&& 0xFE ||| BitVec.ofNat 8 phase]
  let a := ringBase s k + r.prod % ringSize s k * ringEntry k
  vectorPend (ringVector k)
    (modRing k (fun x => { x with prod := (x.prod + 1) % 65536, made := x.made + 1 })
      (modHost (fun h => { h with hostMem := FMap.putBytes 0 h.hostMem a rec1 }) s))

/-- Set a bit of HOST_ERR; MSI-X vector 2 serves it (R488, R492). -/
def hostErr (b : Nat) (s : State) : State := vectorPend 2 (regSetFld .HOST_ERR 0 b b 1 s)

/-! ### Events (R486, R487, R521) -/

/-- The event register and bit that a code sets; none where its block's EVENT register has no bit for it. -/
def evBit (code : Nat) : Option (Reg × Nat) :=
  match code with
  | 0x1003 => some (.LANE_EVENT, 0)
  | 0x1004 => some (.LANE_EVENT, 1)
  | 0x1005 => some (.LANE_EVENT, 2)
  | 0x1006 => some (.LANE_EVENT, 3)
  | 0x1007 => some (.LANE_EVENT, 4)
  | 0x1008 => some (.LANE_EVENT, 5)
  | 0x1101 => some (.MAC_PORT_EVENT, 0)
  | 0x1102 => some (.MAC_PORT_EVENT, 1)
  | 0x1103 => some (.MAC_PORT_EVENT, 2)
  | 0x1104 => some (.MAC_PORT_EVENT, 3)
  | 0x1106 => some (.MAC_PORT_EVENT, 4)
  | 0x1108 => some (.MAC_PORT_EVENT, 5)
  | 0x1380 => some (.STOVE_PROG_EVENT, 0)
  | 0x1381 => some (.STOVE_PROG_EVENT, 1)
  | 0x1383 => some (.STOVE_PROG_EVENT, 2)
  | 0x1384 => some (.STOVE_PROG_EVENT, 1)
  | 0x1385 => some (.STOVE_PROG_EVENT, 3)
  | 0x1386 => some (.STOVE_PROG_EVENT, 4)
  | 0x1801 => some (.TWIN_EVENT, 0)
  | 0x1802 => some (.TWIN_EVENT, 1)
  | 0x1803 => some (.TWIN_EVENT, 2)
  | 0x1804 => some (.TWIN_EVENT, 3)
  | 0x1805 => some (.TWIN_EVENT, 4)
  | 0x1806 => some (.TWIN_EVENT, 5)
  | 0x1808 => some (.TWIN_EVENT, 6)
  | 0x1809 => some (.TWIN_EVENT, 6)
  | 0x180A => some (.TWIN_EVENT, 6)
  | 0x180B => some (.TWIN_EVENT, 7)
  | 0x180C => some (.TWIN_EVENT, 8)
  | 0x180D => some (.TWIN_EVENT, 9)
  | 0x180E => some (.TWIN_EVENT, 10)
  | 0x180F => some (.TWIN_EVENT, 11)
  | 0x1C01 => some (.PWR_EVENT, 0)
  | 0x1C02 => some (.PWR_EVENT, 1)
  | 0x1C03 => some (.PWR_EVENT, 2)
  | 0x1C04 => some (.PWR_EVENT, 3)
  | 0x1C05 => some (.PWR_EVENT, 4)
  | 0x1C07 => some (.PWR_EVENT, 5)
  | 0x1C08 => some (.BIST_EVENT, 0)
  | 0x1C09 => some (.BIST_EVENT, 1)
  | 0x1C0A => some (.BIST_EVENT, 2)
  | 0x1C0C => some (.BIST_EVENT, 3)
  | _ =>
    let n := code % 256 - 1
    match code / 256 with
    | 0x12 => some (.ADM_EVENT, n)
    | 0x13 => if n < 8 then some (.STOVE_EVENT, n) else none
    | 0x14 => some (.TBL_EVENT, n)
    | 0x15 => some (.TCAM_EVENT, n)
    | 0x16 => some (.BUF_EVENT, n)
    | 0x17 => some (.EGR_EVENT, n)
    | 0x19 => some (.TIME_EVENT, n)
    | 0x1B => some (.BOOT_EVENT, n)
    | _ => none

/-- Set an event's register bit (R486); `inst` is the lane or port of LANE_EVENT and MAC_PORT_EVENT. -/
def setEventBit (code inst : Nat) (s : State) : State :=
  match evBit code with
  | none => s
  | some (r, b) =>
    let i := match r with
      | .LANE_EVENT => inst
      | .MAC_PORT_EVENT => inst
      | _ => 0
    regSetFld r i b b 1 s

/-- The 32 bytes of an event record (Table HOST-13), PHASE apart. -/
def eventRecord (e : Event) (lost : Bool) : List Byte :=
  slice (leBytes 2 e.code ++ [BitVec.ofNat 8 (2 * b2n lost), 0] ++ leBytes 4 e.tick ++ e.data) 0 32

/-- Count an event that is lost; the next record carries OVERFLOW (R487). -/
def loseEvent (s : State) : State :=
  modHost (fun h => { h with lost := true }) (regCount .HOST_EVENT_LOST_CNT 0 s)

/-- Write an event to the EVT ring when its block's mask bit is set (R486); hold it while EVT is not enabled (R521);
lose it when the ring or the hold is full (R487, R521). -/
def putEvent (e : Event) (s : State) : State :=
  if !regBit s .HOST_EVT_MASK 0 (e.code / 256 - 16) then s
  else if !ringEnabled s 2 then
    if s.host.held.length < 64 then modHost (fun h => { h with held := h.held ++ [e] }) s else loseEvent s
  else if ringFull s 2 then loseEvent s
  else modHost (fun h => { h with lost := false }) (ringPut 2 2 (eventRecord e s.host.lost) s)

/-- Raise an event: its register bit, its ring record. -/
def raiseEv (code inst : Nat) (data : List Byte) (s : State) : State :=
  putEvent { code := code, tick := s.clk.tick, data := data } (setEventBit code inst s)

/-- Raise an event whose ring records are written at most once per `period` ticks for `key` (R486). -/
def raiseLim (code inst key period : Nat) (data : List Byte) (s : State) : State :=
  let k := code * 2 ^ 20 + key
  let due := match FMap.get none s.host.evLast k with
    | none => true
    | some t => decide (t + period ≤ s.clk.tick)
  let s1 := setEventBit code inst s
  if due then
    modHost (fun h => { h with evLast := FMap.set none h.evLast k (some s.clk.tick) })
      (putEvent { code := code, tick := s.clk.tick, data := data } s1)
  else s1

/-- Items of Table HOST-14: two, four, six and eight bytes. -/
def w2 (n : Nat) : List Byte := leBytes 2 n
def w4 (n : Nat) : List Byte := leBytes 4 n
def w8 (n : Nat) : List Byte := leBytes 8 n

/-! ### Mailbox completions (R469, R470, Table HOST-6) -/

/-- Completion status codes of Table HOST-7. -/
def stOk : Nat := 0x00
def stBadOpcode : Nat := 0x01
def stBadVersion : Nat := 0x02
def stBadArgs : Nat := 0x03
def stTooSoon : Nat := 0x04
def stTooFar : Nat := 0x05
def stQueueFull : Nat := 0x06
def stNoRoom : Nat := 0x07
def stNotOpen : Nat := 0x08
def stBadEntry : Nat := 0x09
def stConfig : Nat := 0x0A
def stLocked : Nat := 0x0B
def stJump : Nat := 0x0C
def stRange : Nat := 0x0D
def stRefused : Nat := 0x0E
def stBusy : Nat := 0x0F
def stNotAllowed : Nat := 0x10
def stDmaError : Nat := 0x11
def stAuth : Nat := 0x12

/-- The bytes of a completion entry, PHASE apart (Table HOST-6). -/
def completionRecord (c : MbxCmd) (status tick : Nat) (result : List Byte) : List Byte :=
  leBytes 4 c.seq ++ leBytes 4 c.cookie ++ leBytes 2 c.opcode ++ [BitVec.ofNat 8 status, 0, 0, 0, 0, 0]
    ++ leBytes 8 tick ++ slice result 0 8

/-- Write the waiting completions while MBX_CPL is enabled and has room, oldest first. -/
def drainCompletions : List (Nat × List Byte) → State → State
  | [], s => modHost (fun h => { h with cplWait := [] }) s
  | e :: es, s =>
    if ringEnabled s 1 && !ringFull s 1 then drainCompletions es (ringPut 1 11 e.2 s)
    else modHost (fun h => { h with cplWait := e :: es }) s

/-- A command finishes: it leaves the outstanding commands and its completion is written, unless a reset has discarded
it (R461, R469, R470). -/
def complete (c : MbxCmd) (status tick : Nat) (result : List Byte) (s : State) : State :=
  if c.quiet then s
  else
    let s1 := modHost (fun h => { h with outstanding := h.outstanding.filter fun x => !decide (x.seq = c.seq) }) s
    drainCompletions (s1.host.cplWait ++ [(c.seq, completionRecord c status tick result)]) s1

/-- Complete a command if there is one. -/
def completeOpt (c : Option MbxCmd) (status tick : Nat) (result : List Byte) (s : State) : State :=
  match c with
  | none => s
  | some c => complete c status tick result s

/-- Write bytes to host memory. -/
def hostPut (a : Nat) (bs : List Byte) (s : State) : State :=
  modHost (fun h => { h with hostMem := FMap.putBytes 0 h.hostMem a bs }) s

/-! ### Counters and drops (R37, R390) -/

/-- The key of index `i` of fixed counter class `c`. -/
def fixedKey (c i : Nat) : Nat := (c + 1) * 2 ^ 32 + i

/-- An update of a counter pair with effect tick `e`. -/
def countAt (e key a b : Nat) (s : State) : State :=
  modEgr (fun g => { g with ctrPend := g.ctrPend ++ [(e, key, a, b)] }) s

/-- An update of a counter pair with effect tick now + 1. -/
def countPair (key a b : Nat) (s : State) : State := countAt (s.clk.tick + 1) key a b s

/-- A frame or copy is dropped with a reason code (R37, class 2 of Table EGR-5). -/
def countDrop (reason bytes : Nat) (s : State) : State := countPair (fixedKey 2 reason) 1 bytes s

/-- Drop-reason codes of Table PATH-7. -/
def drRunt : Nat := 0x01
def drFcsError : Nat := 0x02
def drSymbolError : Nat := 0x03
def drTooLong : Nat := 0x04
def drPreambleCrc : Nat := 0x05
def drChannelInvalid : Nat := 0x06
def drTickOutOfRange : Nat := 0x07
def drPortSuppressed : Nat := 0x08
def drLateArrival : Nat := 0x10
def drLaneNotClean : Nat := 0x11
def drGovernor : Nat := 0x12
def drLenConflict : Nat := 0x13
def drLate : Nat := 0x20
def drLatePartner : Nat := 0x21
def drProgramFault : Nat := 0x22
def drNoDisposition : Nat := 0x23
def drRecircLimit : Nat := 0x24
def drNextHopInvalid : Nat := 0x25
def drEcmpEmpty : Nat := 0x26
def drMeterRed : Nat := 0x30
def drMeterYellow : Nat := 0x31
def drIngressLimit : Nat := 0x40
def drQueueLimit : Nat := 0x41
def drBankLimit : Nat := 0x42
def drResidueTimeout : Nat := 0x43
def drMemberDown : Nat := 0x44
def drHoldFlush : Nat := 0x45
def drHostQueueFull : Nat := 0x46
def drMirrorQueueFull : Nat := 0x47
def drTtlExpired : Nat := 0x50
def drEditFault : Nat := 0x51
def drEgressTooLong : Nat := 0x52
def drUnderrun : Nat := 0x53
def drLinkDownAbort : Nat := 0x54
def drInjectInvalid : Nat := 0x60

/-! ### Modes -/

/-- The state has a partner whose messages count: every twin state but SOLO and DIVERGED agrees writes (R418). -/
def isSolo (s : State) : Bool := s.twin.st = .solo

/-- The device is in the safe hearth state. -/
def isSafe (s : State) : Bool := s.boot.safe ≠ .none

/-- Enter a failure in the health map, or add a source to its entry (R543). -/
def addHealth (kind num src : Nat) (s : State) : State :=
  let has := s.boot.health.any fun h => decide (h.kind = kind ∧ h.num = num)
  let l := if has then s.boot.health.map fun h =>
      if h.kind = kind ∧ h.num = num then { h with src := h.src ||| src } else h
    else s.boot.health ++ [⟨kind, num, src⟩]
  modBoot (fun b => { b with health := l, healthTick := s.clk.tick }) s

/-- The least frame number of a placeholder: a joiner's frame that its source holds (R431, notes/assumptions/41.md). -/
def placeholderBase : Nat := 2 ^ 40

/-- The frame is a placeholder's. -/
def isPlaceholder (f : Nat) : Bool := decide (placeholderBase ≤ f)

/-- The delays in force (R22, R39). -/
def admDelay (s : State) : Nat := regFld s .GLOBAL_PATH_DELAY 0 7 0
def retDelay (s : State) : Nat := regFld s .GLOBAL_PATH_DELAY 0 25 16

/-- Ticks of a number of nanoseconds, rounded up (00, Numbers and units): one tick is 51.2 ns. -/
def ticksOfNs (ns : Nat) : Nat := cdiv (ns * 5) 256

/-- A new free value's number. -/
def useFree (s : State) : State := modClk (fun c => { c with free := c.free + 1 }) s

/-- The activation tick that is set (R192): of a PROGRAM_ACTIVATE, or the start tick of the pending image (R512). -/
def activationSet (s : State) : Option Nat :=
  match s.prog.actAt, s.boot.startS, s.prog.pendingImg with
  | some (e, _), _, _ => some e
  | none, some t, some _ => if s.clk.tick < t then some t else none
  | _, _, _ => none

end Sys2Proof.Machine
end

