-- ==== Sys2Proof/Machine/TwinOps.lean ====
section
/-! DEFINITION. What the other blocks need of the twin controller: sending a flue message, declaring a self-reported
fault, the digest's records. -/

namespace Sys2Proof.Machine

/-- The twin runs in lockstep with a partner. -/
def inPair (s : State) : Bool := s.twin.st = .active || s.twin.st = .standby

/-- R413: the twin of a pair that counts as the standby: the one in STANDBY or, where both twins are in one state, that of side B. -/
def countsAsStandby (s : State) : Bool :=
  if (s.twin.st = .active && s.twin.partnerState = 4) || (s.twin.st = .standby && s.twin.partnerState = 5) then s.twin.side
  else s.twin.st = .standby

/-- The twin of a pair that does not count as the standby (R128, R256, R413). -/
def countsAsActive (s : State) : Bool := inPair s && !countsAsStandby s

/-- This twin's decisions are recorded for a digest: every state of a pair in which it admits (R420, R432). -/
def digesting (s : State) : Bool := inPair s || s.twin.st = .warming || s.twin.source

/-- Agreement messages leave: in a pair, from a source, and ahead of the first deadline of a pair about to form (R409, R432,
Table TWIN-5). -/
def sendsAgreement (s : State) : Bool :=
  let soon (w : Option Nat) : Bool := match w with
    | some w => decide (w ≤ s.clk.tick + 4)
    | none => false
  inPair s || s.twin.source || (s.twin.st = .warming && soon s.twin.warmTick) || (s.twin.st = .pairing && soon s.twin.pair.coldAt)

/-- This tick's deadlines fell while the pair was formed: both twins' messages count (R432). -/
def agrees (s : State) : Bool := inPair s && decide (s.twin.pairSince < s.clk.tick)

/-- This twin follows its source's messages alone: a joiner warming, and at W for the deadlines before it (R429, R432). -/
def underSource (s : State) : Bool :=
  s.twin.st = .warming || (inPair s && decide (s.twin.pairSince = s.clk.tick) && !s.twin.pair.master)

/-- A reason for which the resynchronisation attempt fails is found (R429). -/
def failAttempt (reason : Nat) (s : State) : State :=
  modTwin (fun t => { t with failNow := some (t.failNow.getD reason) }) s

/-- The effect tick that the device assigns now (R418, R470, R473). -/
def assignTick (s : State) : Nat :=
  if isSafe s then s.clk.tick
  else if inPair s then s.clk.tick + regFld s .TWIN_CFG 0 15 8
  else s.clk.tick + 2

/-- The full tick that a message's low 32 bits name: the one nearest to the current tick. -/
def fullTick (s : State) (w : Nat) : Nat :=
  let lo := s.clk.tick + 2 ^ 31
  s.clk.tick + (w % 2 ^ 32 + 2 ^ 32 - lo % 2 ^ 32) % 2 ^ 32 - 2 ^ 31

/-- Cut a body into segments of 1,024 bytes; an empty body is one segment. -/
def segments : Nat → List Byte → List (List Byte)
  | 0, bs => [bs]
  | n + 1, bs => if bs.length ≤ 1024 then [bs] else bs.take 1024 :: segments n (bs.drop 1024)

/-- Send a flue message (R415, R416): its segments, MORE set on all but the last. Nothing leaves while no lane group of
the flue link has lock. -/
def flueSend (type flags tick : Nat) (body : List Byte) (s : State) : State :=
  if s.twin.groups = 0 then s
  else
    let segs := segments (body.length / 1024 + 1) body
    let n := segs.length
    let msgs := segs.zipIdx.map fun x =>
      ({ type := type, flags := flags + (if x.2 + 1 = n then 0 else 128), tick := tick % 2 ^ 32, body := x.1 } : FlueMsg)
    modOut (fun o => { o with flue := o.flue ++ msgs }) s

/-- A message that the partner sent at tick `k` is held (R411). -/
def hear (k : Nat) (s : State) : State := modTwin (fun t => { t with heard := Nat.max t.heard k }) s

/-- A message without a send tick of its own is held: it was sent in the tick before at the latest (notes/assumptions/40.md). -/
def hearNow (s : State) : State := hear (s.clk.tick - 1) s

/-- R430: ember lane `l` is clear; on every twin but a joiner all lanes are. -/
def laneIsClear (s : State) (l : Nat) : Bool := s.twin.clearAll && !s.twin.unclear.contains l

/-- The source has begun the time before J in which it relays its solo ports (R429). -/
def sourceRelays (s : State) : Bool :=
  s.twin.source && (match s.twin.joinTick with
    | some j => decide (j ≤ s.clk.tick + regFld s .GLOBAL_PATH_DELAY 0 7 0 + 4)
    | none => false)

/-- Declare a self-reported fault (R422): only a twin of a pair does, and once: it names D = f + 5 and sends FAULT. -/
def selfFault (cause : Nat) (detail : Nat) (s : State) : State :=
  if inPair s && s.twin.fault.isNone then
    let f := s.clk.tick
    let d := f + 5
    let body := leBytes 2 cause ++ [0, 0] ++ leBytes 4 f ++ leBytes 8 detail
    raiseEv 0x1805 0 (w2 cause ++ w4 f ++ w4 d)
      (flueSend 0x60 0 d body
        (modTwin (fun t => { t with fault := some (cause, f, d), lastCause := cause, faultTick := f % 2 ^ 32 }) s))
  else s

/-- Records of the current tick's digest (Table TWIN-9). -/
def recAdmit (w0 w1 : Nat) (s : State) : State :=
  whenB (digesting s) (modTwin fun t => { t with recAdmit := t.recAdmit ++ [(w0, w1)] }) s
def recRetire (w0 w1 : Nat) (s : State) : State :=
  whenB (digesting s) (modTwin fun t => { t with recRetire := t.recRetire ++ [(w0, w1)] }) s
def recGrant (w0 w1 : Nat) (s : State) : State :=
  whenB (digesting s) (modTwin fun t => { t with recGrant := t.recGrant ++ [(w0, w1)] }) s
def recWrite (w0 w1 : Nat) (s : State) : State :=
  whenB (digesting s) (modTwin fun t => { t with recWrite := t.recWrite ++ [(w0, w1)] }) s

end Sys2Proof.Machine
end

