-- ==== Sys2Proof/Machine/Version.lean ====
section
/-! DEFINITION. Versioned entries (R26, R265, R270): the value that an admission tick observes. -/

namespace Sys2Proof.Machine

/-- Table codes of the records (Tables TBL-1, TCAM-2, BUF-3, EGR-1). -/
def tcStation : Nat := 0
def tcRoute : Nat := 1
def tcNexthop : Nat := 2
def tcGroup : Nat := 3
def tcMember : Nat := 4
def tcHeader : Nat := 5
def tcPriv : Nat := 6
def tcPub : Nat := 7
def tcTcam : Nat := 8
def tcTcamX : Nat := 9
def tcMcGroup : Nat := 10
def tcMcMember : Nat := 11
def tcMeter : Nat := 12
def tcMirror : Nat := 13
def tcCounter : Nat := 14
def tcFixed : Nat := 15
def tcFilter : Nat := 16

/-- The value as of tick `a` (R26, R265, R270): the newer version once its effect tick has come, else the older one; a
record of the version store gives the value for ticks before its own effect tick. -/
def verAt (s : State) (k : EntryKey) (v : Ver) (a : Nat) : Nat :=
  let recs := (s.tbl.vstore.filter fun r => decide (r.key = k ∧ a < r.eff)).map fun r => (r.eff, r.old)
  let first := recs.foldl (fun (b : Option (Nat × Nat)) r =>
    match b with
    | none => some r
    | some x => if r.1 < x.1 then some r else b) none
  match first with
  | some (e, o) => if a < v.eff ∧ v.eff < e then v.old else o
  | none => if v.eff ≤ a then v.new else v.old

/-- The value in force at the current tick. -/
def verNow (s : State) (k : EntryKey) (v : Ver) : Nat := verAt s k v s.clk.tick

/-- A multicast group's DATA as of a tick (Table BUF-3). -/
def mcGroupAt (s : State) (g a : Nat) : Nat := verAt s ⟨tcMcGroup, g⟩ (FMap.get {} s.buf.mcGroups g) a

/-- A multicast member's DATA as of a tick (Table BUF-3). -/
def mcMemberAt (s : State) (i a : Nat) : Nat := verAt s ⟨tcMcMember, i⟩ (FMap.get {} s.buf.mcMembers i) a

end Sys2Proof.Machine
end

