-- ==== Sys2Proof/Machine/Tables.lean ====
section
/-! DEFINITION. The table complex (chapter 08): versioned entries and their changes, the station table, the route store
and its length filters, next hops and ECMP. -/

namespace Sys2Proof.Machine

/-! ### Entries by key -/

/-- The physical index of the station entry with a key (R274). -/
def stationAt (s : State) (key : Nat) : Option Nat :=
  s.tbl.stations.findSome? fun e => if e.2.key = key then some e.1 else none

/-- A route's identity: family, prefix length and masked address. -/
def routeKey (v6 : Bool) (len addr : Nat) : Nat := (b2n v6 * 256 + len) * 2 ^ 128 + addr

/-- The slot of the route with an identity. -/
def routeAt (s : State) (rk : Nat) : Option Nat :=
  s.tbl.routes.findSome? fun e => if routeKey e.2.v6 e.2.len e.2.addr = rk then some e.1 else none

/-- The versions that a key's entry holds. -/
def verOf (s : State) (k : EntryKey) : Ver :=
  match k.tbl with
  | 0 => match stationAt s k.key with
    | some i => (FMap.get {} s.tbl.stations i).ver
    | none => {}
  | 1 => match routeAt s k.key with
    | some i => (FMap.get {} s.tbl.routes i).ver
    | none => {}
  | 2 => (FMap.get {} s.tbl.nexthops k.key).ver
  | 3 => (FMap.get {} s.tbl.groups k.key).ver
  | 4 => (FMap.get {} s.tbl.members k.key).ver
  | 5 => (FMap.get {} s.tbl.headers k.key).ver
  | 10 => FMap.get {} s.buf.mcGroups k.key
  | 11 => FMap.get {} s.buf.mcMembers k.key
  | _ => FMap.get {} s.tbl.filters k.key

/-- Change a station entry by physical index. -/
def modStation (i : Nat) (f : Station → Station) (s : State) : State :=
  modTbl (fun t => { t with stations := FMap.upd {} t.stations i f }) s

/-- Change a route by slot. -/
def modRoute (i : Nat) (f : Route → Route) (s : State) : State :=
  modTbl (fun t => { t with routes := FMap.upd {} t.routes i f }) s

/-- Replace the versions of a key's entry. -/
def setVer (k : EntryKey) (v : Ver) (s : State) : State :=
  let put (m : FMap Entry) : FMap Entry := FMap.upd {} m k.key fun e => { e with ver := v }
  match k.tbl with
  | 0 => match stationAt s k.key with
    | some i => modStation i (fun e => { e with ver := v }) s
    | none => s
  | 1 => match routeAt s k.key with
    | some i => modRoute i (fun e => { e with ver := v }) s
    | none => s
  | 2 => modTbl (fun t => { t with nexthops := put t.nexthops }) s
  | 3 => modTbl (fun t => { t with groups := put t.groups }) s
  | 4 => modTbl (fun t => { t with members := put t.members }) s
  | 5 => modTbl (fun t => { t with headers := put t.headers }) s
  | 10 => modBuf (fun b => { b with mcGroups := FMap.set {} b.mcGroups k.key v }) s
  | 11 => modBuf (fun b => { b with mcMembers := FMap.set {} b.mcMembers k.key v }) s
  | _ => modTbl (fun t => { t with filters := FMap.set {} t.filters k.key v }) s

/-- Mark the entry at a physical index as unreadable, or as readable again (R271). -/
def markEcc (tbl i : Nat) (bad : Bool) (s : State) : State :=
  let put (m : FMap Entry) : FMap Entry := FMap.upd {} m i fun e => { e with eccBad := bad }
  match tbl with
  | 0 => if (FMap.find? s.tbl.stations i).isSome then modStation i (fun e => { e with eccBad := bad }) s else s
  | 1 => if (FMap.find? s.tbl.routes i).isSome then modRoute i (fun e => { e with eccBad := bad }) s else s
  | 2 => modTbl (fun t => { t with nexthops := put t.nexthops }) s
  | 3 => modTbl (fun t => { t with groups := put t.groups }) s
  | 4 => modTbl (fun t => { t with members := put t.members }) s
  | 5 => modTbl (fun t => { t with headers := put t.headers }) s
  | _ => modTbl (fun t => { t with badFilters := t.badFilters.filter (· ≠ i) ++ if bad then [i] else [] }) s

/-- The physical index that a completion or an event names; 0xFFFF_FFFF where the key has no place. -/
def physIndex (s : State) (k : EntryKey) : Nat :=
  match k.tbl with
  | 0 => (stationAt s k.key).getD 0xFFFFFFFF
  | 1 => (routeAt s k.key).getD 0xFFFFFFFF
  | _ => k.key

/-- Give an entry a newer version from tick `t` (R265). A further part of the same tick changes that version alone. -/
def setNew (k : EntryKey) (data t : Nat) (s : State) : State :=
  let v := verOf s k
  setVer k (if v.eff = t then { v with new := data } else { old := v.new, new := data, eff := t }) s

/-! ### Changes (R266 to R270) -/

/-- The change of an entry. -/
def changeOf (s : State) (k : EntryKey) : Option Change := s.tbl.changes.find? fun c => decide (c.key = k)

/-- Replace the change of an entry, or add one. -/
def putChange (c : Change) (s : State) : State :=
  modTbl (fun t => { t with changes := (t.changes.filter fun x => !decide (x.key = c.key)) ++ [c] }) s

/-- Take away the change of an entry. -/
def dropChange (k : EntryKey) (s : State) : State :=
  modTbl (fun t => { t with changes := t.changes.filter fun x => !decide (x.key = k) }) s

/-- The change that waits in the queue for an entry (R268): behind another change of the entry, behind an eviction (R282), or with a
filter word (R289). -/
def isQueued (c : Change) : Bool := c.waiting || c.queued.isSome

/-- The places that it takes: the queued change of a filter word and its routes is one change, counted with the word (R289). -/
def queuePlaces (c : Change) : Nat := b2n (isQueued c && !c.linked)

/-- TBL_CHANGE_STATUS.QUEUED. -/
def queuedCount (s : State) : Nat := s.tbl.changes.foldl (fun a c => a + queuePlaces c) 0

/-- The change queue is full (R268). -/
def queueFull (s : State) : Bool := decide (16384 ≤ queuedCount s)

/-- Event 0x1404 (R268). -/
def queueFullEvent (k : EntryKey) (s : State) : State :=
  raiseLim 0x1404 0 0 1024 (w2 k.tbl ++ w4 (physIndex s k)) s

/-- A change would have to queue: its entry has another change that it does not join (R268). -/
def mustQueue (s : State) (k : EntryKey) (eff : Nat) : Bool :=
  match changeOf s k with
  | none => false
  | some c => !(c.waiting || c.queued.isSome || (!c.applied && decide (c.eff = eff) && c.ageE.isNone))

/-- The effect tick that a change reaching an entry takes (R268). -/
def effFor (s : State) (k : EntryKey) (eff : Nat) : Nat :=
  match changeOf s k with
  | none => eff
  | some c =>
    if c.waiting then Nat.max c.eff eff
    else match c.queued with
      | some (e, _) => Nat.max (Nat.max e eff) c.done
      | none => if !c.applied ∧ c.eff = eff ∧ c.ageE = none then eff else Nat.max eff c.done

/-- The filter word and bit of a route (R288): G4 0, G6 1, B4 from 2, B6 from 65,538. -/
def filterOf (v6 : Bool) (len addr : Nat) : Nat × Nat :=
  if v6 then
    if len < 32 then (1, len) else (65538 + (crc32c (beBytes 4 (addr / 2 ^ 96))).toNat % 65536, len - 32)
  else if len < 16 then (0, len) else (2 + fld addr 31 16, len - 16)

/-- A route identity's parts. -/
def routeV6 (rk : Nat) : Bool := decide (1 ≤ rk / 2 ^ 136)
def routeLen (rk : Nat) : Nat := rk / 2 ^ 128 % 256
def routeAddr (rk : Nat) : Nat := rk % 2 ^ 128

/-- The filter word of a route's identity. -/
def wordOf (rk : Nat) : Nat := (filterOf (routeV6 rk) (routeLen rk) (routeAddr rk)).1

/-- The change belongs to filter word `w`: it is the word's, or a route's that is one change with it (R289). -/
def ofWord (w : Nat) (c : Change) : Bool :=
  decide (c.key = ⟨tcFilter, w⟩) || (c.linked && decide (c.key.tbl = tcRoute ∧ wordOf c.key.key = w))

/-- The effect tick of the queued change. -/
def queuedTick (c : Change) : Nat :=
  if c.waiting then c.eff else match c.queued with
    | some (e, _) => Nat.max e c.done
    | none => 0

/-- Delay the queued change to tick `e`. -/
def delayTo (e r : Nat) (c : Change) : Change :=
  if c.waiting then { c with eff := Nat.max e c.eff, done := Nat.max e c.eff + r }
  else { c with queued := c.queued.map fun q => (Nat.max e q.1, q.2) }

/-- The queued changes of filter word `w` and of its routes take the latest of their effect ticks (R289). -/
def syncWord (w : Nat) (s : State) : State :=
  let e := (s.tbl.changes.filter (ofWord w)).foldl (fun a c => Nat.max a (queuedTick c)) 0
  modTbl (fun t => { t with changes := t.changes.map fun c => if ofWord w c then delayTo e (retDelay s) c else c }) s

/-- After a change of `k`'s queued change, those that are one change with it follow. -/
def syncKey (k : EntryKey) (s : State) : State :=
  if k.tbl = tcFilter then syncWord k.key s
  else match changeOf s k with
    | some c => if c.linked then syncWord (wordOf k.key) s else s
    | none => s

/-- A change reaches an entry (R266, R268); the caller has checked that a queue place is free where one is needed. -/
def reach (k : EntryKey) (eff : Nat) (ps : List Part) (s : State) : State :=
  match changeOf s k with
  | none => putChange { key := k, eff := eff, done := eff + retDelay s, applied := false, parts := ps, ageE := none,
                        queued := none } s
  | some c =>
    if c.waiting then
      let e := Nat.max c.eff eff
      syncKey k (putChange { c with eff := e, done := e + retDelay s, parts := c.parts ++ ps } s)
    else match c.queued with
      | some (e, qs) => syncKey k (putChange { c with queued := some (Nat.max e eff, qs ++ ps) } s)
      | none =>
        if !c.applied ∧ c.eff = eff ∧ c.ageE = none then putChange { c with parts := c.parts ++ ps } s
        else putChange { c with queued := some (eff, ps) } s

/-- A change of an entry that queues whatever the entry holds, since a word or a route that it is one change with is busy (R289). -/
def enqueue (k : EntryKey) (eff : Nat) (ps : List Part) (linked : Bool) (s : State) : State :=
  let c : Change := match changeOf s k with
    | none => { key := k, eff := eff, done := eff + retDelay s, applied := false, parts := ps, ageE := none, queued := none, waiting := true }
    | some c =>
      if c.waiting then { c with eff := Nat.max c.eff eff, done := Nat.max c.eff eff + retDelay s, parts := c.parts ++ ps }
      else match c.queued with
        | some (e, qs) => { c with queued := some (Nat.max e eff, qs ++ ps) }
        | none => { c with queued := some (Nat.max c.done eff, ps) }
  putChange { c with linked := c.linked || linked } s

/-- An invocation admitted before tick `e` is still running (R270). -/
def runningBefore (s : State) (e : Nat) : Bool := s.hob.flight.any fun f => !f.ended && decide (f.adm < e)

/-- Version-store records in use: older values of entries, and published versions beyond a record's two copies (R270,
R298). -/
def vstoreUsed (s : State) : Nat :=
  s.tbl.embers.foldl (fun a e => a + (e.2.pubs.length - 2)) s.tbl.vstore.length

/-- The change queued behind `c` becomes the entry's change at tick `t`, with an effect tick no earlier than `least`. -/
def promote (c : Change) (least : Nat) (s : State) : State :=
  match c.queued with
  | none => dropChange c.key s
  | some (own, ps) =>
    let e := Nat.max own least
    syncKey c.key (putChange { key := c.key, eff := e, done := e + retDelay s, applied := false, parts := ps, ageE := none,
                               queued := none, waiting := true, linked := c.linked } s)

/-- An insertion that waits for the way `i` takes an effect tick no earlier than `least` (R270, R282). -/
def delayInsertion (i least : Nat) (s : State) : State :=
  modTbl (fun t => { t with
    changes := t.changes.map fun c => if c.place = some i then delayTo least (retDelay s) c else c }) s

/-- The completion of a change (R266, R270): the newer version replaces the older one, which goes to the version store
while an invocation needs it; a removed key gives its place up. -/
def completeOp (c : Change) (t : Nat) (s : State) : State :=
  let v := verOf s c.key
  let least := if c.done < t then t + 1 else t
  let needs := runningBefore s v.eff
  let full := needs && decide (65536 ≤ vstoreUsed s)
  if full && !inPair s then s
  else
    let s1 := if full then selfFault 0x03 0 (raiseEv 0x1405 0 (w4 c.done) s)
      else if needs then modTbl (fun x => { x with vstore := x.vstore ++ [⟨c.key, v.old, v.eff⟩] }) s
      else s
    let gone (i : Nat) (tbl : Nat) (st : State) : State :=
      modTbl (fun x => { x with gone := FMap.put x.gone (tbl * 2 ^ 32 + i) v.eff }) st
    let s2 :=
      if c.key.tbl = 0 ∧ !tb v.new 63 then
        match stationAt s1 c.key.key with
        | some i => delayInsertion i least (gone i 0 (modTbl (fun x => { x with stations := FMap.erase x.stations i }) s1))
        | none => s1
      else if c.key.tbl = 1 ∧ !tb v.new 59 then
        match routeAt s1 c.key.key with
        | some i =>
          let s2 := gone i 1 (modTbl (fun x => { x with routes := FMap.erase x.routes i }) s1)
          if routeV6 c.key.key then gone (i + 1) 1 s2 else s2
        | none => s1
      else setVer c.key { v with old := v.new } s1
    promote c least s2

/-- Complete every change whose completion tick has come. -/
def completeDue (s : State) : State :=
  forEach (s.tbl.changes.filter fun c => c.applied && decide (c.done ≤ s.clk.tick)) (fun c => completeOp c s.clk.tick) s

/-- Free the version-store records that no running invocation needs (R270). -/
def freeVersions (s : State) : State :=
  modTbl (fun x => { x with vstore := x.vstore.filter fun r => runningBefore s r.eff }) s

/-! ### Host writes of records -/

/-- The mailbox order of a host write: side A before side B, then mailbox sequence, direct writes last (R28, R418). -/
def hostOrd (w : HostWrite) : Nat := ((b2n w.side * 2 + b2n w.direct) * 2 ^ 32 + w.seq) * 2 ^ 16 + w.gen

/-- A host write ends at tick `t`: it leaves the waiting writes, an applied one makes a digest record of index `idx` (Table
TWIN-9), and its command completes (R470); in the safe hearth state its completion TICK is 0 (R473). -/
def endWrite (w : HostWrite) (status idx t : Nat) (result : List Byte) (s : State) : State :=
  let code := match w.act with
    | .table c _ => c % 256
    | _ => 0xFF
  let s1 := { s with writes := s.writes.filter fun x => !decide (hostOrd x = hostOrd w) }
  let s2 := if status = stOk ∧ !w.direct then
      modTwin (fun t => { t with written := true }) (recWrite (5 + b2n w.side * 256 + w.seq * 2 ^ 16) (idx + code * 2 ^ 32) s1)
    else s1
  completeOpt w.cmd status (if isSafe s then 0 else t) result s2

/-- A host write of a table record ends; its result is the physical index (R474). -/
def finishWrite (ord status idx t : Nat) (s : State) : State :=
  match s.writes.find? fun w => decide (hostOrd w = ord) with
  | none => s
  | some w => endWrite w status idx t (leBytes 4 idx) s

/-! ### Station table (R274 to R284) -/

/-- The bucket of a key (R274). -/
def stationBucket (key : Nat) : Nat := (crc32c (leBytes 8 key)).toNat % 131072

/-- The age epoch of a tick (R276). -/
def epochOf (t : Nat) : Nat := fld t 35 20

/-- The FID and MAC that a station event carries. -/
def stationId (key : Nat) : List Byte := w2 (fld key 59 48) ++ beBytes 6 (fld key 47 0)

/-- A way or stash entry is free: neither version valid, no change, no insertion waiting for it (R281). -/
def wayFree (s : State) (i : Nat) : Bool :=
  (FMap.find? s.tbl.stations i).isNone && !(s.tbl.changes.any fun c => decide (c.place = some i))

/-- The lowest free stash entry, searching from `n` down. -/
def freeStash (s : State) : Nat → Option Nat
  | 0 => none
  | n + 1 => if wayFree s (1052672 - (n + 1)) then some (1052672 - (n + 1)) else freeStash s n

/-- A way may be evicted (R281). -/
def evictable (s : State) (i : Nat) : Bool :=
  match FMap.find? s.tbl.stations i with
  | none => false
  | some e => tb e.ver.new 63 && !tb e.ver.new 37 && !tb e.ver.new 38 && (changeOf s ⟨tcStation, e.key⟩).isNone

/-- R283: the generator's next state. -/
def evictNext (x : Nat) : Nat :=
  let a : Word := BitVec.ofNat 32 x
  let b := a ^^^ (a <<< 13)
  let c := b ^^^ (b >>> 17)
  (c ^^^ (c <<< 5)).toNat

/-- R282: the way with the largest age, the lowest among equals. -/
def oldestWay (s : State) (t : Nat) (ways : List Nat) : Option Nat :=
  let age (i : Nat) : Nat := (epochOf t + 65536 - (FMap.get {} s.tbl.stations i).hitEpoch) % 65536
  ways.foldl (fun (b : Option Nat) i =>
    match b with
    | none => some i
    | some j => if age j < age i then some i else b) none

/-- R282: the victim way of a bucket, and the state after the choice. -/
def victimWay (ways : List Nat) (t : Nat) (s : State) : Option Nat × State :=
  if ways.isEmpty then (none, s)
  else if regBit s .TBL_EVICT_CFG 0 0 then
    let x := evictNext s.tbl.evictX
    (ways[x % ways.length]?, modTbl (fun u => { u with evictX := x }) s)
  else (oldestWay s t ways, s)

/-- Write a new station entry at a place (R276, Table TBL-4). -/
def insertAt (i key data t : Nat) (s : State) : State :=
  modStation i (fun e =>
    let v : Ver := if e.ver.eff = t ∧ e.key = key then { e.ver with new := data } else { old := 0, new := data, eff := t }
    { key := key, ver := v, hitEpoch := epochOf t, eccBad := e.eccBad }) s

/-- Evict a way at tick `t`: a removal of the victim; the insertion of `k` queues behind it until it has completed, and what was queued
for `k` merges into it (R268, R282). -/
def evictFor (i t : Nat) (k : EntryKey) (p : Part) (s : State) : State :=
  let vk : EntryKey := ⟨tcStation, (FMap.get {} s.tbl.stations i).key⟩
  let r := retDelay s
  let s1 := setNew vk 0 t (regCount .TBL_EVICT_CNT 0 s)
  let s2 := putChange { key := vk, eff := t, done := t + r, applied := true, parts := [], ageE := none, queued := none } s1
  let q := ((changeOf s k).bind fun c => c.queued).getD (0, [])
  let e := Nat.max (t + r) q.1
  putChange { key := k, eff := e, done := e + r, applied := false, parts := p :: q.2, ageE := none, queued := none, waiting := true,
              place := some i } s2

/-- A part that cannot be carried out: a learn is discarded, a host write refused. -/
def failPart (k : EntryKey) (p : Part) (status t : Nat) (s : State) : State :=
  match p.act with
  | .learn _ =>
    let s1 := regCount .TBL_LEARN_DROP_CNT 0 s
    if status = stNoRoom then raiseLim 0x1401 0 0 1024 (stationId k.key) s1 else queueFullEvent k s1
  | _ =>
    let s1 := finishWrite p.ord status 0xFFFFFFFF t s
    if status = stQueueFull then queueFullEvent k s1 else s1

/-- R281, R282: insert a key with a DATA word. -/
def insertStation (k : EntryKey) (data t : Nat) (p : Part) (s : State) : State :=
  let done (i : Nat) (st : State) : State :=
    let s1 := insertAt i k.key data t st
    match p.act with
    | .write _ => finishWrite p.ord stOk i t s1
    | _ => s1
  let held := match changeOf s k with
    | some c => c.place
    | none => none
  match (stationAt s k.key) <|> held with
  | some i => done i s
  | none =>
    let b := 8 * stationBucket k.key
    let ways := (List.range 8).map (b + ·)
    match (ways.find? fun i => wayFree s i) <|> freeStash s 4096 with
    | some i => done i s
    | none =>
      let victims := ways.filter fun i => evictable s i
      if victims.isEmpty then failPart k p stNoRoom t s
      else if queueFull s then failPart k p stQueueFull t s
      else
        let r := victimWay victims t s
        match r.1 with
        | some i => evictFor i t k p r.2
        | none => failPart k p stNoRoom t s

/-- R279: a station move. -/
def moveStation (i port t : Nat) (k : EntryKey) (s : State) : State :=
  let e := FMap.get {} s.tbl.stations i
  let limit := regFld s .TBL_MOVE_CFG 0 3 0
  let window := ticksOfNs (regFld s .TBL_MOVE_CFG 0 15 4 * 1000000)
  let data := e.ver.new / 2 ^ 11 * 2 ^ 11 + port
  if e.moveCount = 0 ∨ window ≤ (t + 2 ^ 32 - e.moveStart) % 2 ^ 32 then
    setNew k data t (modStation i (fun e => { e with moveStart := t % 2 ^ 32, moveCount := 1 }) s)
  else
    let n := e.moveCount + 1
    let s1 := modStation i (fun e => { e with moveCount := Nat.min n 15 }) s
    if limit = 0 ∨ n ≤ limit then setNew k data t s1
    else
      let lock := ticksOfNs (regFld s .TBL_MOVE_CFG 0 31 16 * 1000000)
      raiseEv 0x1402 0 (stationId k.key ++ w2 (fld e.ver.new 10 0) ++ w4 t)
        (regCount .TBL_MOVE_REFUSED_CNT 0
          (setNew k (e.ver.new + 2 ^ 39) t (modStation i (fun e => { e with lockEnd := (t + lock) % 2 ^ 32 }) s1)))

/-- Table TBL-4: a learn at its effect tick. -/
def learnStation (k : EntryKey) (port t : Nat) (p : Part) (s : State) : State :=
  match stationAt s k.key with
  | none => insertStation k (2 ^ 63 + port) t p s
  | some i =>
    let d := (verOf s k).new
    if !tb d 63 then insertStation k (2 ^ 63 + port) t p s
    else if fld d 10 0 = port then s
    else if tb d 37 || tb d 38 || tb d 39 then
      raiseLim 0x1403 0 0 1024 (stationId k.key ++ w2 port) (regCount .TBL_MOVE_REFUSED_CNT 0 s)
    else moveStation i port t k s

/-- R284: a host write of a station at its effect tick. -/
def writeStation (k : EntryKey) (data t : Nat) (p : Part) (s : State) : State :=
  match stationAt s k.key with
  | none =>
    if tb data 63 then insertStation k data t p s else finishWrite p.ord stOk 0xFFFFFFFF t s
  | some i =>
    let d := (verOf s k).new
    if !tb data 63 then
      finishWrite p.ord stOk i t (if tb d 63 then setNew k 0 t s else s)
    else if !tb d 63 then insertStation k data t p s
    else
      let s1 := if fld d 10 0 = fld data 10 0 then s else modStation i (fun e => { e with moveCount := 0 }) s
      finishWrite p.ord stOk i t (setNew k data t s1)

/-! ### Route store (R285 to R290) -/

/-- The region register of a length. -/
def regionVal (s : State) (v6 : Bool) (len : Nat) : Nat :=
  (if v6 then regVal s .TBL_ROUTE_REGION6 len else regVal s .TBL_ROUTE_REGION len).toNat

/-- The bucket of a route (R286). -/
def routeBucket (s : State) (v6 : Bool) (len addr : Nat) : Nat :=
  let r := regionVal s v6 len
  fld r 16 0 + (crc32c (beBytes (if v6 then 16 else 4) addr ++ [BitVec.ofNat 8 len])).toNat % 2 ^ fld r 21 17

/-- An address masked to a length (R286). -/
def maskTo (v6 : Bool) (len addr : Nat) : Nat :=
  let k := (if v6 then 128 else 32) - len
  addr / 2 ^ k * 2 ^ k

/-- A route occupies a slot. -/
def slotUsed (s : State) (i : Nat) : Bool :=
  (FMap.find? s.tbl.routes i).isSome ||
  (i % 2 = 1 && (match FMap.find? s.tbl.routes (i - 1) with
    | some r => r.v6
    | none => false))

/-- A slot, or the pair that begins at it, is free. -/
def slotFree (s : State) (v6 : Bool) (i : Nat) : Bool := !slotUsed s i && (!v6 || !slotUsed s (i + 1))

/-- The lowest free stash slot or pair, searching from `n` left. -/
def freeRouteStash (s : State) (v6 : Bool) : Nat → Option Nat
  | 0 => none
  | n + 1 =>
    let i := 1050624 - (n + 1)
    if (!v6 || i % 2 = 0) && slotFree s v6 i then some i else freeRouteStash s v6 n

/-- The place of a new route (R287). -/
def routePlace (s : State) (v6 : Bool) (len addr : Nat) : Option Nat :=
  let b := 8 * routeBucket s v6 len addr
  let slots := if v6 then [b, b + 2, b + 4, b + 6] else (List.range 8).map (b + ·)
  (slots.find? fun i => slotFree s v6 i) <|> freeRouteStash s v6 2048

/-- The HBM counter of a filter bit. -/
def filterCntKey (wb : Nat × Nat) : Nat := wb.1 * 128 + wb.2

/-- Routes valid in force that a filter bit counts. -/
def filterCnt (s : State) (wb : Nat × Nat) : Nat := FMap.get 0 s.tbl.routeCnt (filterCntKey wb)

/-- Count a route in or out of a filter bit; the bit follows at the same tick (R288, R289). -/
def countRoute (v6 : Bool) (len addr : Nat) (add : Bool) (t : Nat) (s : State) : State :=
  let wb := filterOf v6 len addr
  let n := filterCnt s wb
  let m := if add then n + 1 else n - 1
  let s1 := modTbl (fun x => { x with routeCnt := FMap.set 0 x.routeCnt (filterCntKey wb) m }) s
  let k : EntryKey := ⟨tcFilter, wb.1⟩
  let w := (verOf s1 k).new
  if n = 0 ∧ m = 1 ∧ !tb w wb.2 then markEcc tcFilter wb.1 false (setNew k (w + 2 ^ wb.2) t s1)
  else if n = 1 ∧ m = 0 ∧ tb w wb.2 then markEcc tcFilter wb.1 false (setNew k (w - 2 ^ wb.2) t s1)
  else s1

/-- A host write of a route at its effect tick (R287 to R289). -/
def writeRoute (k : EntryKey) (data t : Nat) (p : Part) (s : State) : State :=
  let v6 := routeV6 k.key
  let len := routeLen k.key
  let addr := routeAddr k.key
  let d := (verOf s k).new
  if !tb data 59 then
    match routeAt s k.key with
    | none => finishWrite p.ord stOk 0xFFFFFFFF t s
    | some i =>
      let s1 := if tb d 59 then countRoute v6 len addr false t (setNew k 0 t s) else s
      finishWrite p.ord stOk i t s1
  else
    match routeAt s k.key with
    | some i =>
      let s1 := if tb d 59 then setNew k data t s else countRoute v6 len addr true t (setNew k data t s)
      finishWrite p.ord stOk i t s1
    | none =>
      match routePlace s v6 len addr with
      | none => finishWrite p.ord stNoRoom 0xFFFFFFFF t s
      | some i =>
        finishWrite p.ord stOk i t (countRoute v6 len addr true t
          (modRoute i (fun _ => { v6 := v6, len := len, addr := addr, ver := { old := 0, new := data, eff := t } }) s))

/-! ### Effect ticks -/

/-- Carry out one part of a change at its effect tick; a host write makes an unreadable entry usable again (R271). A part whose entry's change has moved on (an insertion behind an
eviction) joins it there. -/
def applyPart (k : EntryKey) (p : Part) (t : Nat) (s : State) : State :=
  let moved := match changeOf s k with
    | some c => if !c.applied ∧ t < c.eff then some c else none
    | none => none
  match moved with
  | some c => putChange { c with parts := c.parts ++ [p] } s
  | none =>
    match p.act with
    | .ageRemove => if tb (verOf s k).new 63 then setNew k 0 t s else s
    | .lockExpire =>
      match stationAt s k.key with
      | none => s
      | some i =>
        let d := (verOf s k).new
        if tb d 63 && tb d 39 then
          raiseEv 0x140A 0 (stationId k.key ++ w4 t)
            (setNew k (d - 2 ^ 39) t (modStation i (fun e => { e with moveCount := 0 }) s))
        else s
    | .learn port => learnStation k port t p s
    | .write d =>
      let s1 := if k.tbl < 6 then markEcc k.tbl (physIndex s k) false s else s
      if k.tbl = tcStation then writeStation k d t p s1
      else if k.tbl = tcRoute then writeRoute k d t p s1
      else finishWrite p.ord stOk k.key t (setNew k d t s1)
    | .mark => s

/-- The order of parts at one tick (R28): scanner, retirement effects, host writes. -/
def partBefore (a b : EntryKey × Part) : Bool :=
  decide (a.2.cls < b.2.cls ∨ (a.2.cls = b.2.cls ∧ a.2.ord ≤ b.2.ord))

/-- After its parts a change is completing, or, where they changed nothing, has ended. -/
def settleChange (k : EntryKey) (t : Nat) (s : State) : State :=
  match changeOf s k with
  | none => s
  | some c =>
    if c.applied ∨ t < c.eff then s
    else if (verOf s k).eff = t then
      putChange { c with applied := true, waiting := false, linked := false, place := none, done := t + retDelay s, parts := [] } s
    else promote c t s

/-- The change has nothing to wait for but its effect tick: the way of an insertion behind an eviction has come free, and what is one
change with it waits for nothing either (R270, R282, R289). -/
def unblocked (s : State) (c : Change) : Bool :=
  let free := match c.place with
    | some i => match FMap.find? s.tbl.stations i with
      | some e => decide (e.key = c.key.key)
      | none => true
    | none => true
  let w := if c.key.tbl = tcFilter then c.key.key else wordOf c.key.key
  let joined := !(c.waiting && (c.linked || decide (c.key.tbl = tcFilter))) ||
    s.tbl.changes.all fun x => !ofWord w x || x.queued.isNone
  free && joined

/-- Apply every change whose effect tick has come, in the order of R28. -/
def effectsDue (s : State) : State :=
  let t := s.clk.tick
  let due := s.tbl.changes.filter fun c => !c.applied && decide (c.eff ≤ t) && unblocked s c
  let parts := sortBy partBefore (due.flatMap fun c => c.parts.map fun p => (c.key, p))
  let s1 := forEach parts (fun x => applyPart x.1 x.2 t) s
  forEach due (fun c => settleChange c.key t) s1

/-! ### Hits and the scanner (R276, R277, R280, R33) -/

/-- A hit's effect (R27, R33, R267): it cancels an aging removal whose effect tick is later than the hit's admission, and
sets HIT_EPOCH unless such a removal stands. A removal already applied stands also where the hit comes so late because retirement was held
(R257), which R33 does not provide for (DESIGN CHOICE, notes/assumptions/159.md). -/
def applyHit (t key a : Nat) (s : State) : State :=
  match stationAt s key with
  | none => s
  | some i =>
    let k : EntryKey := ⟨tcStation, key⟩
    let epoch (st : State) : State := modStation i (fun e => { e with hitEpoch := epochOf a }) st
    match changeOf s k with
    | none => epoch s
    | some c =>
      match c.ageE with
      | none => epoch s
      | some e => if a < e then epoch (if c.applied then s else promote c t s) else s

/-- Hits whose effect tick has come, in order. -/
def hitsDue (s : State) : State :=
  let t := s.clk.tick
  let due := s.tbl.hitQ.filter fun h => decide (h.1 ≤ t)
  forEach due (fun h => applyHit t h.2.1 h.2.2.1)
    (modTbl (fun x => { x with hitQ := x.hitQ.filter fun h => !decide (h.1 ≤ t) }) s)

/-- R277, R280: examine one entry at tick `t`: the aging removal, which a full change queue holds off (R268), then the lock's expiry
(R28). -/
def scanEntry (i : Nat) (s : State) : State :=
  let t := s.clk.tick
  match FMap.find? s.tbl.stations i with
  | none => s
  | some e =>
    let k : EntryKey := ⟨tcStation, e.key⟩
    let d := verNow s k e.ver
    let busy := (changeOf s k).isSome
    let locked := tb d 63 && tb d 39 && decide ((t + 2 ^ 32 - e.lockEnd) % 2 ^ 32 < 2 ^ 31)
    let old := decide (Nat.max 1 (regFld s .TBL_AGE_CFG 0 15 0) ≤ (epochOf t + 65536 - e.hitEpoch) % 65536)
    let s1 := if !(regBit s .TBL_AGE_CFG 0 16 && tb d 63 && !tb d 37 && !tb d 38 && !busy && old) then s
      else if queueFull s then queueFullEvent k s
      else
        let v := t + 1 + retDelay s
        putChange { key := k, eff := v, done := v + retDelay s, applied := false, parts := [⟨0, i, .ageRemove⟩],
                    ageE := some (t + 1), queued := none } s
    if !locked then s1
    else if mustQueue s1 k (t + 1) && queueFull s1 then queueFullEvent k s1
    else reach k (t + 1) [⟨0, 2 ^ 30 + i, .lockExpire⟩] s1

/-- R277: the scanner's bucket and stash entry of this tick. -/
def scanStep (s : State) : State :=
  let t := s.clk.tick
  scanEntry (1048576 + t % 4096) (forEach ((List.range 8).map fun w => 8 * (t % 131072) + w) scanEntry s)

/-! ### Lookups (R223 to R227, R265, R290 to R292) -/

/-- A station as of a tick: its physical index and DATA when valid and readable (R271). -/
def stationLookup (s : State) (key a : Nat) : Option Nat :=
  let k : EntryKey := ⟨tcStation, key⟩
  let bad := match stationAt s key with
    | some i => (FMap.get {} s.tbl.stations i).eccBad
    | none => false
  let d := verAt s k (verOf s k) a
  if tb d 63 && !bad then some d else none

/-- The lengths that a filter word lists, longest first. -/
def listedLengths (w lo n : Nat) : List Nat := (((List.range n).reverse).filter fun i => tb w i).map (lo + ·)

/-- A filter word as of a tick; an unreadable one lists no length (R271). -/
def filterAt (s : State) (i a : Nat) : Nat :=
  if s.tbl.badFilters.contains i then 0 else verAt s ⟨tcFilter, i⟩ (verOf s ⟨tcFilter, i⟩) a

/-- One probe: the route of a length as of a tick (R290). -/
def probeRoute (s : State) (v6 : Bool) (addr len a : Nat) : Option (Nat × Nat) :=
  let rk := routeKey v6 len (maskTo v6 len addr)
  let k : EntryKey := ⟨tcRoute, rk⟩
  let bad := match routeAt s rk with
    | some i => (FMap.get {} s.tbl.routes i).eccBad
    | none => false
  let d := verAt s k (verOf s k) a
  if tb d 59 && !bad then some (rk, d) else none

/-- Probe lengths longest first, at most `p` of them: the route found, or whether lengths were left (R225). -/
def probeAll (s : State) (v6 : Bool) (addr a : Nat) : Nat → List Nat → Option (Nat × Nat) × Bool
  | _, [] => (none, false)
  | 0, _ :: _ => (none, true)
  | p + 1, l :: ls =>
    match probeRoute s v6 addr l a with
    | some r => (some r, false)
    | none => probeAll s v6 addr a p ls

/-- The block filter word of an address (R288). -/
def blockWord (v6 : Bool) (addr : Nat) : Nat := (filterOf v6 (if v6 then 128 else 32) addr).1

/-- A route lookup: the route, or PROBE_LIMIT (R225, R290). -/
def routeLookup (s : State) (v6 : Bool) (addr p a : Nat) : Option (Nat × Nat) × Bool :=
  let block := blockWord v6 addr
  let lens := if v6 then listedLengths (filterAt s block a) 32 97 ++ listedLengths (filterAt s 1 a) 0 32
    else listedLengths (filterAt s block a) 16 17 ++ listedLengths (filterAt s 0 a) 0 16
  probeAll s v6 addr a p lens

/-- The route answer word (Table ISA-7): the destination word with the matched length, or PROBE_LIMIT. -/
def routeAnswer (r : Option (Nat × Nat) × Bool) : Nat :=
  match r.1 with
  | some (rk, d) => d % 2 ^ 48 + routeLen rk * 2 ^ 48 + fld d 63 62 * 2 ^ 62
  | none => b2n r.2 * 2 ^ 56

/-- An indexed entry's DATA as of a tick; zero when unreadable (R271). -/
def entryAt (s : State) (tbl : Nat) (m : FMap Entry) (i a : Nat) : Nat :=
  let e := FMap.get {} m i
  if e.eccBad then 0 else verAt s ⟨tbl, i⟩ e.ver a

/-- A next hop as of a tick (R291). -/
def nexthopAt (s : State) (i a : Nat) : Nat := entryAt s tcNexthop s.tbl.nexthops i a

/-- A port's link state as of a tick (R111, R112, R292). -/
def linkUpAt (s : State) (p a : Nat) : Bool :=
  let later := s.tbl.linkHist.filter fun h => decide (h.2.1 = p ∧ a < h.1)
  match later.foldl (fun (b : Option (Nat × Nat × Bool)) h =>
    match b with
    | none => some h
    | some x => if h.1 < x.1 then some h else b) none with
  | some h => !h.2.2
  | none => (portOf s p).up

/-- TBL_ECMP_CFG.LINK_AWARE as of a tick (R26). -/
def linkAwareAt (s : State) (a : Nat) : Bool :=
  let later := s.tbl.awareHist.filter fun h => decide (a < h.1)
  match later.foldl (fun (b : Option (Nat × Bool)) h =>
    match b with
    | none => some h
    | some x => if h.1 < x.1 then some h else b) none with
  | some h => !h.2
  | none => regBit s .TBL_ECMP_CFG 0 0

/-- R292: the next hop and position of a usable member, from position `j` on for `n` members. -/
def ecmpFrom (s : State) (base size a : Nat) : Nat → Nat → Option (Nat × Nat)
  | 0, _ => none
  | n + 1, j =>
    let m := entryAt s tcMember s.tbl.members (base + j) a
    let h := nexthopAt s (fld m 17 0) a
    if tb m 63 && tb h 63 && (!linkAwareAt s a || linkUpAt s (fld h 58 48) a) then some (fld m 17 0, j)
    else ecmpFrom s base size a n ((j + 1) % size)

/-- The members and next hops that R292 reads from position `j` on for `n` members. -/
def ecmpReads (s : State) (base size a : Nat) : Nat → Nat → List (Nat × Nat)
  | 0, _ => []
  | n + 1, j =>
    let m := entryAt s tcMember s.tbl.members (base + j) a
    let h := nexthopAt s (fld m 17 0) a
    [(tcMember, base + j), (tcNexthop, fld m 17 0)] ++
      if tb m 63 && tb h 63 && (!linkAwareAt s a || linkUpAt s (fld h 58 48) a) then [] else ecmpReads s base size a n ((j + 1) % size)

/-- R292: the member that a group selects for a hash. -/
def ecmpSelect (s : State) (g hash a : Nat) : Option (Nat × Nat) :=
  let d := entryAt s tcGroup s.tbl.groups g a
  let n := fld d 26 18
  if tb d 63 && decide (0 < n) then ecmpFrom s (fld d 17 0) n a n (hash * n / 65536) else none

/-- An uncorrectable error in an entry (R271); a filter word is named by the model's code 16 (notes/assumptions/164.md). -/
def eccFault (tbl idx : Nat) (s : State) : State :=
  let s1 := markEcc tbl idx true s
  let n := satAdd 16 (regFld s1 .TBL_ECC_CNT 0 31 16) 1
  selfFault 0x04 (tbl * 2 ^ 32 + idx) (raiseEv 0x1406 0 (w2 tbl ++ w4 idx) (regSetFld .TBL_ECC_CNT 0 31 16 n s1))

/-! ### Accepting record writes of versioned tables (R275, R285, R286, R292, R567) -/

/-- The record's DATA is well formed for its table (R12, R567). -/
def dataOk (tbl d : Nat) : Bool :=
  match tbl with
  | 0 => decide (fld d 15 11 = 0 ∧ fld d 62 40 = 0)
  | 1 => decide (fld d 58 56 = 0 ∧ fld d 61 61 = 0 ∧ fld d 47 18 = 0)
    && (!tb d 59 || (fld d 63 62 = 1 || (fld d 63 62 = 2 && fld d 17 14 = 0)))
    && decide (fld d 55 48 ≤ if tb d 60 then 128 else 32)
  | 2 => fld d 62 59 = 0
  | 3 => fld d 62 27 = 0 && (!tb d 63 || decide (1 ≤ fld d 26 18 ∧ fld d 26 18 ≤ 256))
    && decide (fld d 17 0 + fld d 26 18 ≤ 262144)
  | 4 => fld d 62 18 = 0
  | 5 => decide (fld d 7 2 = 0 ∧ fld d 31 16 = 0)
  | 10 => decide (fld d 18 0 + fld d 30 19 ≤ 2 ^ 19 ∧ fld d 62 32 = 0)
    && (!tb d 63 || decide (1 ≤ fld d 30 19 ∧ fld d 30 19 ≤ 2048))
  | _ => fld d 62 14 = 0

/-- The number of entries of an indexed table. -/
def tableSize : Nat → Nat
  | 2 => 262144
  | 3 => 16384
  | 4 => 262144
  | 5 => 1048576
  | 10 => 65536
  | 11 => 524288
  | _ => 0

/-- The entry and DATA of a record of tables 0 to 5, 10 and 11, or the status that refuses it. -/
def checkRecord (s : State) (code : Nat) (ws : List Nat) : Except Nat (EntryKey × Nat) :=
  let k0 := ws.getD 0 0
  if code = 0 then
    let d := ws.getD 1 0
    if fld k0 63 60 ≠ 0 ∨ tb k0 40 ∨ !dataOk 0 d then .error stBadEntry else .ok (⟨0, k0⟩, d)
  else if code = 1 then
    let k1 := ws.getD 1 0
    let d := ws.getD 2 0
    let v6 := tb d 60
    let len := fld d 55 48
    let addr := if v6 then k0 * 2 ^ 64 + k1 else k0
    if !dataOk 1 d ∨ (!v6 ∧ (k1 ≠ 0 ∨ 2 ^ 32 ≤ k0)) ∨ maskTo v6 len addr ≠ addr then .error stBadEntry
    else if !tb (regionVal s v6 len) 22 then .error stConfig
    else .ok (⟨1, routeKey v6 len addr⟩, d)
  else
    let d := ws.getD 1 0
    if tableSize code ≤ k0 ∨ !dataOk code d then .error stBadEntry
    else .ok (⟨code, k0⟩, if code = 5 then d % 2 ^ 32 else d)

/-- The filter word that a route write toggles, as far as the accepted changes tell (R289). -/
def toggledFilter (s : State) (k : EntryKey) (d : Nat) : Option EntryKey :=
  let wb := filterOf (routeV6 k.key) (routeLen k.key) (routeAddr k.key)
  let newest (c : Change) (v : Bool) : Bool :=
    let ps := c.parts ++ (match c.queued with
      | some (_, q) => q
      | none => [])
    ps.foldl (fun b p => match p.act with
      | .write x => tb x 59
      | _ => b) v
  let pendingOf (c : Change) : Int :=
    if c.key.tbl = tcRoute ∧ filterOf (routeV6 c.key.key) (routeLen c.key.key) (routeAddr c.key.key) = wb then
      let v := tb (verOf s c.key).new 59
      (b2n (newest c v) : Int) - (b2n v : Int)
    else 0
  let n : Int := s.tbl.changes.foldl (fun a c => a + pendingOf c) (filterCnt s wb : Nat)
  let had := match changeOf s k with
    | some c => newest c (tb (verOf s k).new 59)
    | none => tb (verOf s k).new 59
  if (tb d 59 && !had && decide (n = 0)) || (!tb d 59 && had && decide (n = 1)) then some ⟨tcFilter, wb.1⟩ else none

/-- A change with effect tick `e` would go to the entry's queue, or into its queued change. -/
def joinsQueue (s : State) (k : EntryKey) (e : Nat) : Bool :=
  match changeOf s k with
  | none => false
  | some c => isQueued c || !(!c.applied && decide (c.eff = e) && c.ageE.isNone)

/-- The tick before which a change that queues in an entry takes no effect (R268). -/
def queueTick (s : State) (k : EntryKey) : Nat :=
  match changeOf s k with
  | none => 0
  | some c => if isQueued c then queuedTick c else c.done

/-- The entry has a queued change. -/
def hasQueued (s : State) (k : EntryKey) : Bool :=
  match changeOf s k with
  | none => false
  | some c => isQueued c

/-- A record write of a versioned table reaches its entry (R266, R268, R289); false where the change queue has no place. -/
def reachWrite (k : EntryKey) (d eff ord : Nat) (s : State) : Bool × State :=
  let p : Part := ⟨2, ord, .write d⟩
  match if k.tbl = tcRoute then toggledFilter s k d else none with
  | none =>
    if mustQueue s k eff && queueFull s then (false, queueFullEvent k s) else (true, reach k eff [p] s)
  | some fk =>
    let mark : List Part := [⟨3, 0, .mark⟩]
    if !joinsQueue s k eff && !joinsQueue s fk eff then (true, reach fk eff mark (reach k eff [p] s))
    else if !hasQueued s k && !hasQueued s fk && queueFull s then (false, queueFullEvent k s)
    else
      let e := Nat.max eff (Nat.max (queueTick s k) (queueTick s fk))
      (true, syncWord fk.key (enqueue fk e mark false (enqueue k e [p] true s)))

/-- Learning at retirement (R27, R275, R278). -/
def requestLearn (key port ord : Nat) (s : State) : State :=
  let k : EntryKey := ⟨tcStation, key⟩
  let e := s.clk.tick + 1
  if tb key 40 then s
  else if mustQueue s k e && queueFull s then queueFullEvent k (regCount .TBL_LEARN_DROP_CNT 0 s)
  else reach k e [⟨1, ord, .learn port⟩] s

/-! ### Route regions (R285) -/

/-- PD_RSH is on. -/
def rshOn (s : State) : Bool := tb s.pwr.ready 29

/-- A region value and its length. -/
def regionList (s : State) : List (Bool × Nat × Nat) :=
  ((List.range 33).map fun l => (false, l, regionVal s false l))
    ++ (List.range 129).map fun l => (true, l, regionVal s true l)

/-- R285: a region write is in order. -/
def regionOk (s : State) (v6 : Bool) (len v : Nat) : Bool :=
  let holds := s.tbl.routes.any fun e => decide (e.2.v6 = v6 ∧ e.2.len = len)
  let lo := fld v 16 0
  let hi := lo + 2 ^ fld v 21 17
  let clash := (regionList s).any fun (f, l, r) =>
    !(decide (f = v6 ∧ l = len)) && tb r 22 && decide (lo < fld r 16 0 + 2 ^ fld r 21 17 ∧ fld r 16 0 < hi)
  !holds && decide (fld v 21 17 ≤ 17) && (!tb v 22 || (decide (hi ≤ if rshOn s then 131072 else 65536) && !clash))

/-- Apply a region write, or ignore it with event 0x1409. -/
def writeRegion (v6 : Bool) (len : Nat) (v : Word) (s : State) : State :=
  if regionOk s v6 len v.toNat then
    if v6 then regSet .TBL_ROUTE_REGION6 len v s else regSet .TBL_ROUTE_REGION len v s
  else raiseEv 0x1409 0 (w2 (if v6 then 6 else 4) ++ w2 len) s

/-! ### Commands -/

/-- Complete the change of one entry when its completion tick has come. -/
def completeKey (tbl key : Nat) (s : State) : State :=
  match changeOf s ⟨tbl, key⟩ with
  | none => s
  | some c => if c.applied && decide (c.done ≤ s.clk.tick) then completeOp c s.clk.tick s else s

/-- CHANGE_COMPLETE (R266). -/
def execChangeComplete (tbl key : Nat) (s : State) : Host.Outcome State Fault Refusal := .next (completeKey tbl key s)

/-- VERSION_STORE_WAIT (R270): a blocked completion completes once the store has a free record. -/
def execVersionStoreWait (tbl key : Nat) (s : State) : Host.Outcome State Fault Refusal :=
  .next (completeKey tbl key (freeVersions s))

end Sys2Proof.Machine
end

