-- ==== Sys2Proof/Machine/Embers.lean ====
section
/-! DEFINITION. Ember lanes, their tickets and the ember records (R172, R173, R244, R293 to R299). -/

namespace Sys2Proof.Machine

/-! ### Lanes and tickets -/

/-- The ember lane of a home key (R244). -/
def emberLaneOf (key : Nat) : Nat := (crc32c (leBytes 8 key)).toNat % 262144

/-- The tickets of a lane. -/
def ticketsOf (s : State) (lane : Nat) : Tickets := FMap.get {} s.hob.tickets lane

/-- Change the tickets of a lane. -/
def modTickets (lane : Nat) (f : Tickets → Tickets) (s : State) : State :=
  modHob (fun h => { h with tickets := FMap.upd {} h.tickets lane f }) s

/-- The stove on which a lane is homed (R245, R246). -/
def homeOf (s : State) (lane : Nat) : Nat :=
  match FMap.get 0 s.hob.homeExc lane with
  | 0 => s.hob.homeBase.getD (lane % s.hob.homeBase.length) 0
  | n + 1 => n

/-- Take the next place in a lane's order (R172, R295; notes/assumptions/9.md). -/
def takeTurn (lane : Nat) (s : State) : Nat × State :=
  ((ticketsOf s lane).issued, modTickets lane (fun t => { t with issued := t.issued + 1 }) s)

/-- Every earlier ticket of the lane has passed (R173); on a joiner, the lane is clear (R430). -/
def turnCome (s : State) (lane n : Nat) : Bool := laneIsClear s lane && decide (n ≤ (ticketsOf s lane).low)

/-- Raise `low` over the passed tickets. -/
def settleTickets : Nat → Tickets → Tickets
  | 0, t => t
  | k + 1, t =>
    if t.passed.contains t.low then settleTickets k { t with low := t.low + 1, passed := t.passed.erase t.low } else t

/-- A ticket passes; a ticket passes once (R173). -/
def passTurn (lane n : Nat) (s : State) : State :=
  modTickets lane (fun t =>
    if n < t.low ∨ t.passed.contains n then t
    else settleTickets (t.passed.length + 1) { t with passed := t.passed ++ [n] }) s

/-! ### Records -/

/-- Record `r`. -/
def emberOf (s : State) (r : Nat) : Ember := FMap.get {} s.tbl.embers r

/-- Change record `r`. -/
def modEmber (r : Nat) (f : Ember → Ember) (s : State) : State :=
  modTbl (fun t => { t with embers := FMap.upd {} t.embers r f }) s

/-- The published version in force as of a tick: effect tick and 32 bytes (R298). -/
def pubAt (e : Ember) (a : Nat) : Nat × List Byte :=
  (e.pubs.find? fun p => decide (p.1 ≤ a)).getD (0, List.replicate 32 0)

/-- A record's header as of a tick, PUB_TICK in place (R293). -/
def headerAt (s : State) (r a : Nat) : Nat :=
  entryAt s tcHeader s.tbl.headers r a % 2 ^ 32 + (pubAt (emberOf s r) a).1 % 2 ^ 32 * 2 ^ 32

/-- The record's valid bit as of a tick. -/
def emberValid (s : State) (r a : Nat) : Bool := tb (headerAt s r a) 0

/-- The 64 bytes of HE for an invocation admitted at `a` (R175); zero without a home record (R176). -/
def heBytes (s : State) (home : Option Nat) (a : Nat) : List Byte :=
  match home with
  | none => List.replicate 64 0
  | some r => leBytes 8 (headerAt s r a) ++ (emberOf s r).priv ++ (emberOf s r).staging

/-- Write bytes of HE from offset 8 on: the private half, then the staging copy. -/
def writeHe (r off : Nat) (bs : List Byte) (s : State) : State :=
  modEmber r (fun e => if off < 32 then { e with priv := splice e.priv (off - 8) bs }
                       else { e with staging := splice e.staging (off - 32) bs }) s

/-- The cause with which an HE write or a PUBLISH faults (R176, R221); `cls` is 1 for a timer program. -/
def heWriteFault (s : State) (home : Option Nat) (a cls : Nat) : Option Nat :=
  match home with
  | none => some 0x3
  | some r =>
    let h := headerAt s r a
    if !tb h 0 then some 0x3 else if fld h 1 1 ≠ cls then some 0x4 else none

/-! ### Publishing (R296 to R298) -/

/-- The published versions that stay: the two latest, and those that a running invocation may still read (R298). -/
def keptPubs (s : State) : Nat → Option Nat → List (Nat × List Byte) → List (Nat × List Byte)
  | _, _, [] => []
  | i, next, p :: ps =>
    let needed := match next with
      | none => true
      | some e => runningBefore s e
    if decide (i < 2) || needed then p :: keptPubs s (i + 1) (some p.1) ps else keptPubs s (i + 1) (some p.1) ps

/-- A publish is applied at its effect tick: it becomes the published version and every cached published copy of the record
is invalidated (R296, R297, R299). A pair whose version store is full reports it, and the version displaced is lost (R270). -/
def applyPub (r e : Nat) (v : List Byte) (s : State) : State :=
  let s1 := modEmber r (fun x => { x with pubs := keptPubs s 0 none ((e, v) :: x.pubs), lastPub := some e }) s
  let s2 := modTbl (fun t => { t with cached := t.cached.filter fun c => !decide (c.2.1 = 2 ^ 20 + r) }) s1
  if 65536 < vstoreUsed s2 then
    selfFault 0x03 0 (raiseEv 0x1405 0 (w4 e) (modEmber r (fun x => { x with pubs := x.pubs.dropLast }) s2))
  else s2

/-- In solo operation a publish waits while the version it displaces finds no place in the version store (R270). -/
def pubFits (r e : Nat) (v : List Byte) (s : State) : Bool :=
  inPair s || decide (vstoreUsed (modEmber r (fun x => { x with pubs := keptPubs s 0 none ((e, v) :: x.pubs) }) s) ≤ 65536)

/-- Drop the versions that no invocation needs any more. -/
def prunePubs (s : State) : State :=
  modTbl (fun t => { t with embers := t.embers.map fun e =>
    if 2 < e.2.pubs.length then (e.1, { e.2 with pubs := keptPubs s 0 none e.2.pubs }) else e }) s

/-- Publishes of a record that are due: the scheduled frame publish, then host publishes, which complete their commands. One that must wait
for the version store takes the tick after (R270). -/
def publishDue (r : Nat) (s : State) : State :=
  let t := s.clk.tick
  let s1 := match (emberOf s r).sched with
    | some (e, v) =>
      if t < e then s
      else if pubFits r e v s then applyPub r e v (modEmber r (fun x => { x with sched := none }) s)
      else modEmber r (fun x => { x with sched := some (t + 1, v) }) s
    | none => s
  let due := (emberOf s1 r).hostSched.filter fun h => decide (h.1 ≤ t)
  let s2 := modEmber r (fun x => { x with hostSched := x.hostSched.filter fun h => !decide (h.1 ≤ t) }) s1
  forEach due (fun h st =>
    if pubFits r h.1 h.2.1 st then completeOpt h.2.2 stOk (if isSafe s then 0 else h.1) (leBytes 4 r) (applyPub r h.1 h.2.1 st)
    else modEmber r (fun x => { x with hostSched := x.hostSched ++ [(t + 1, h.2.1, h.2.2)] }) st) s2

/-- Publishes of every record that are due. -/
def publishesDue (s : State) : State :=
  let due (e : Ember) : Bool :=
    (match e.sched with
      | some (t, _) => decide (t ≤ s.clk.tick)
      | none => false) || e.hostSched.any fun h => decide (h.1 ≤ s.clk.tick)
  forEach (s.tbl.embers.filter fun e => due e.2) (fun e => publishDue e.1) s

/-- R296, R297: an invocation admitted at `a` that published `v` retires at tick `t`. -/
def publishRetire (r a t : Nat) (v : List Byte) (s : State) : State :=
  let e := emberOf s r
  let stale := match e.lastHost with
    | some h => decide (a < h)
    | none => false
  if stale then s
  else
    let fresh := match e.lastPub with
      | some p => Nat.max (t + 1) (p + 2 * retDelay s)
      | none => t + 1
    let at_ := match e.sched with
      | some (x, _) => if t + 1 ≤ x then x else fresh
      | none => fresh
    modEmber r (fun x => { x with sched := some (at_, v) }) s

/-- A host publish may take effect tick `e` (R297). -/
def hostPublishOk (s : State) (r e : Nat) : Bool := (emberOf s r).hostSched.all fun h => decide (h.1 < e)

/-- A host publish is accepted with effect tick `e` (R297). -/
def hostPublish (r e : Nat) (v : List Byte) (cmd : Option MbxCmd) (s : State) : State :=
  modEmber r (fun x =>
    { x with hostSched := x.hostSched ++ [(e, v, cmd)], lastHost := some (Nat.max e (x.lastHost.getD 0)),
             sched := match x.sched with
               | some (y, w) => if e ≤ y then none else some (y, w)
               | none => none }) s

/-! ### Host tickets (R295) -/

/-- The frame or firing has a place in its ember lane's order. -/
def hasTurn (f : Inflight) : Bool := f.slot || (match f.kind with
  | .timer _ => true
  | _ => false)

/-- Place a host ticket on its lane, ahead of every invocation admitted at the current tick (R295). -/
def placeLaneOp (op : LaneOp) (s : State) : State :=
  let r := takeTurn op.lane s
  let behind (f : Inflight) : Bool := hasTurn f && decide (f.emberLane = op.lane ∧ f.adm = s.clk.tick)
  let n := (s.hob.flight.filter behind).foldl (fun a f => Nat.min a f.turn) r.1
  modTbl (fun t => { t with laneOps := t.laneOps ++ [{ op with ticket := n }] })
    (modHob (fun h => { h with flight := h.flight.map fun f => if behind f then { f with turn := f.turn + 1 } else f }) r.2)

/-- The first host ticket of a lane, when its turn has come. -/
def laneOpReady (s : State) (lane : Nat) : Option LaneOp :=
  match s.tbl.laneOps.find? fun o => decide (o.lane = lane) with
  | some o => if turnCome s lane o.ticket then some o else none
  | none => none

/-! ### Ember cache (R299) -/

/-- The bytes of a cached entry: a whole record, or a published copy (R293). -/
def lineBytes (c : Nat × Nat × Nat) : Nat := if c.2.1 < 2 ^ 20 then 64 else 32

/-- The bytes that a slice holds. -/
def sliceBytes (s : State) (stove : Nat) : Nat :=
  s.tbl.cached.foldl (fun a c => if c.1 = stove then a + lineBytes c else a) 0

/-- A slice of 128 KiB without room for `need` bytes gives up entries, at most `n`; which ones is a free value
(notes/assumptions/53.md). -/
def cacheEvict (stove need : Nat) : Nat → State → State
  | 0, s => s
  | n + 1, s =>
    let l := s.tbl.cached.filter fun c => decide (c.1 = stove)
    match l[Config.cacheVictim s.tbl.cacheFree % l.length]? with
    | none => s
    | some c =>
      if sliceBytes s stove + need ≤ 131072 then s
      else cacheEvict stove need n
        (modTbl (fun t => { t with cached := t.cached.erase c, cacheFree := t.cacheFree + 1 }) s)

/-- A slice is asked for a record: one that it does not hold is a miss and is loaded (R299). -/
def cacheTouch (stove rec lane : Nat) (s : State) : State :=
  if s.tbl.cached.any fun c => decide (c.1 = stove ∧ c.2.1 = rec) then s
  else
    let c := (stove, rec, lane)
    regCount .TBL_EMBER_MISS_CNT 0
      (modTbl (fun t => { t with cached := t.cached ++ [c] }) (cacheEvict stove (lineBytes c) 2 s))

/-- The slices write back and release the records of lanes homed elsewhere (R247). -/
def cacheReleaseMoved (s : State) : State :=
  modTbl (fun t => { t with cached := t.cached.filter fun c => decide (2 ^ 20 ≤ c.2.1 ∨ homeOf s c.2.2 = c.1) }) s

/-- A slice is written back whole. -/
def cacheFlush (stove : Nat) (s : State) : State :=
  modTbl (fun t => { t with cached := t.cached.filter fun c => !decide (c.1 = stove) }) s

/-- A host ticket is used up. -/
def dropLaneOp (o : LaneOp) (s : State) : State :=
  passTurn o.lane o.ticket (modTbl (fun t => { t with laneOps := t.laneOps.erase o }) s)

/-- The bytes that a TABLE_READ of a half writes (R476). -/
def halfRead (r key : Nat) (half : List Byte) : List Byte :=
  List.replicate 12 0 ++ leBytes 4 r ++ leBytes 8 r ++ leBytes 8 key ++ half ++ List.replicate (16 + half.length) 0

/-- The home stove writes the half of the host ticket whose turn has come (R295). -/
def emberWriteStep (lane : Nat) (s : State) : State :=
  match laneOpReady s lane with
  | none => s
  | some o =>
    match o.write with
    | none => s
    | some (toPriv, v) =>
      let s1 := modEmber o.record (fun e => if toPriv then { e with priv := v } else { e with staging := v })
        (cacheTouch (homeOf s lane) o.record lane s)
      completeOpt o.cmd stOk o.tick (leBytes 4 o.record) (dropLaneOp o s1)

/-- The private half is read when the read's ticket comes up (R295). -/
def emberReadStep (lane : Nat) (s : State) : State :=
  match laneOpReady s lane with
  | none => s
  | some o =>
    if o.write.isSome then s
    else
      let bs := halfRead o.record o.homeKey (emberOf s o.record).priv
      completeOpt o.cmd stOk o.tick (leBytes 4 bs.length) (hostPut o.bufAddr bs (dropLaneOp o (cacheTouch (homeOf s lane) o.record lane s)))

/-! ### Commands -/

/-- PUBLISH_APPLY (R296, R297). -/
def execPublishApply (rec : Fin 1048576) (s : State) : Host.Outcome State Fault Refusal := .next (publishDue rec.val s)

/-- EMBER_HOST_WRITE (R295). -/
def execEmberHostWrite (lane : Fin 262144) (s : State) : Host.Outcome State Fault Refusal :=
  .next (emberWriteStep lane.val s)

/-- PRIVATE_HALF_READ (R295). -/
def execPrivateHalfRead (lane : Fin 262144) (s : State) : Host.Outcome State Fault Refusal :=
  .next (emberReadStep lane.val s)

end Sys2Proof.Machine
end

