-- ==== Sys2Proof/Machine/Operands.lean ====
section
/-! DEFINITION. The operand forms of Edxa: the instruction word of each format (R196 to R198, Tables ISA-1 to ISA-3), the
registers and predicates of a thread (R153), the guard (R200). -/

namespace Sys2Proof.Machine

/-- The common fields of an instruction word (Table ISA-1). -/
def encBase (op dst a b : Nat) (gd : Guard) : Nat :=
  op * 2 ^ 56 + dst * 2 ^ 51 + a * 2 ^ 46 + b * 2 ^ 41 + gd.pred.val * 2 ^ 38 + b2n gd.neg * 2 ^ 37

/-- Format I. -/
def encI (op dst a : Nat) (gd : Guard) (imm : Word) : Nat := encBase op dst a 0 gd + imm.toNat

/-- Format F. -/
def encF (op dst a b : Nat) (gd : Guard) (pos len boff : Nat) : Nat :=
  encBase op dst a b gd + pos * 2 ^ 31 + len * 2 ^ 24 + boff * 2 ^ 16

/-- Format M. -/
def encM (op dst a b : Nat) (gd : Guard) (space size off pd : Nat) : Nat :=
  encBase op dst a b gd + space * 2 ^ 34 + size * 2 ^ 32 + off * 2 ^ 16 + pd * 2 ^ 13

/-- Format L. -/
def encL (dst a b : Nat) (gd : Guard) (pd table keysel param : Nat) : Nat :=
  encBase 0x58 dst a b gd + pd * 2 ^ 34 + table * 2 ^ 30 + keysel * 2 ^ 27 + param * 2 ^ 23

/-- Format B. -/
def encB (op dst a b : Nat) (gd : Guard) (lcount off : Nat) : Nat :=
  encBase op dst a b gd + lcount * 2 ^ 32 + off

/-- Format E: `e` is bits [36:0]. -/
def encE (op dst a b : Nat) (gd : Guard) (e : Nat) : Nat := encBase op dst a b gd + e

/-- Space codes of Table ISA-3. -/
def spaceCode : Space → Nat
  | .fw => 0
  | .md => 1
  | .he => 2
  | .fe => 3
  | .sc => 4
  | .kc => 5

/-- A register: g0 reads zero (R153). -/
def gGet (th : Thread) (i : GReg) : DWord := if i.val = 0 then 0 else FMap.get 0 th.g i.val

/-- Write a register: a write to g0 is discarded (R153). -/
def gSet (i : Nat) (v : DWord) (th : Thread) : Thread :=
  if i = 0 then th else { th with g := FMap.set 0 th.g i v }

/-- A predicate: p0 reads true (R153). -/
def pGet (th : Thread) (i : PReg) : Bool := if i.val = 0 then true else FMap.get false th.p i.val

/-- Write a predicate: a write to p0 is discarded (R153, R207). -/
def pSet (i : Nat) (v : Bool) (th : Thread) : Thread :=
  if i = 0 then th else { th with p := FMap.set false th.p i v }

/-- The instruction executes (R200). -/
def guardHolds (th : Thread) (gd : Guard) : Bool := pGet th gd.pred != gd.neg

/-- The width of an access: 1, 2, 4 or 8 bytes (Table ISA-2). -/
def sizeOf4 (size : Fin 4) : Nat := 2 ^ size.val

/-- Sign-extend a 32-bit immediate. -/
def immS (imm : Word) : DWord := imm.signExtend 64

/-- Zero-extend a 32-bit immediate. -/
def immZ (imm : Word) : DWord := imm.setWidth 64

/-- Count of one bits. -/
def popcount (x : DWord) : DWord :=
  BitVec.ofNat 64 ((List.range 64).foldl (fun a i => a + b2n (x.getLsbD i)) 0)

/-- Leading zero bits, 0 to 64. -/
def leadingZeros (x : DWord) : DWord :=
  BitVec.ofNat 64 (((List.range 64).map fun i => x.getLsbD (63 - i)).takeWhile (fun b => !b)).length

end Sys2Proof.Machine
end

