-- ==== Sys2Proof/Machine/Loader.lean ====
section
/-! DEFINITION. The loader (R174, R181 to R184, R187, R190, R191, R198, R199, R202, R203, R239): a program image is
verified or refused with a reason of Table HOB-8 and the instruction index concerned. The order of the checks, which
the manual does not give, is a DESIGN CHOICE (notes/assumptions/5.md). -/

namespace Sys2Proof.Machine

/-! ### Refusal reasons (Table HOB-8) -/

def ldBadHeader : Nat := 0x01
def ldBadEncoding : Nat := 0x02
def ldBackwardBranch : Nat := 0x03
def ldLoopForm : Nat := 0x04
def ldOpenPath : Nat := 0x05
def ldHandlerOrder : Nat := 0x06
def ldDoubleEnter : Nat := 0x07
def ldOrderedSection : Nat := 0x08
def ldOverBudget : Nat := 0x09
def ldKRange : Nat := 0x0A
def ldTimerSlot : Nat := 0x0B
def ldStoreFull : Nat := 0x0C
def ldFeatureLevel : Nat := 0x0D
def ldBusy : Nat := 0x0E
def ldNoPending : Nat := 0x0F
def ldHashMismatch : Nat := 0x10

/-! ### Instruction fields (Tables ISA-1 and ISA-2) -/

def iOp (w : Nat) : Nat := fld w 63 56
def iDst (w : Nat) : Nat := fld w 55 51
def iA (w : Nat) : Nat := fld w 50 46
def iB (w : Nat) : Nat := fld w 45 41
def iPred (w : Nat) : Nat := fld w 40 38
def iNeg (w : Nat) : Nat := fld w 37 37
def iLow (w : Nat) : Nat := fld w 36 0
def iOff (w : Nat) : Nat := fld w 15 0
def iCount (w : Nat) : Nat := fld w 35 32

/-- Opcodes that the loader's rules name. -/
def opLD : Nat := 0x50
def opST : Nat := 0x51
def opFELD : Nat := 0x52
def opFETCH : Nat := 0x53
def opLOOKUP : Nat := 0x58
def opBR : Nat := 0x60
def opLOOP : Nat := 0x61
def opBRX : Nat := 0x62
def opENTER : Nat := 0x63
def opLEAVE : Nat := 0x64
def opPUBLISH : Nat := 0x65
def opEND : Nat := 0x66
def opEMIT : Nat := 0x70

/-- The guard is p0 with PNEG 0. -/
def unguarded (w : Nat) : Bool := decide (iPred w = 0 ∧ iNeg w = 0)

/-- The guard is p0 with PNEG 1: the instruction never executes (R200). -/
def neverRuns (w : Nat) : Bool := decide (iPred w = 0 ∧ iNeg w = 1)

/-- What a register field names: a register, a predicate, or nothing (reserved). -/
inductive FieldUse where
  | g | p | z
  deriving DecidableEq, Repr

/-- Instruction formats (Table ISA-2). -/
inductive Fmt where
  | A | I | F | M | L | B | E
  deriving DecidableEq, Repr

/-- An opcode's format, level, cost and the use of DST, SRCA and SRCB (Table ISA-4, R204, R212 to R236). -/
structure OpRow where
  fmt : Fmt
  level : Nat
  cost : Nat
  d : FieldUse
  a : FieldUse
  b : FieldUse
  deriving DecidableEq, Repr

/-- The opcode map; none where the opcode is undefined (R199). The fields of LOOKUP, EMIT, COUNT and LEARN depend on
further bits and are judged apart. -/
def opRow (op : Nat) : Option OpRow :=
  match op with
  | 0x01 => some ⟨.A, 1, 1, .g, .g, .g⟩
  | 0x02 => some ⟨.A, 1, 1, .g, .g, .g⟩
  | 0x03 => some ⟨.A, 1, 1, .g, .g, .g⟩
  | 0x04 => some ⟨.A, 1, 1, .g, .g, .g⟩
  | 0x05 => some ⟨.A, 1, 1, .g, .g, .g⟩
  | 0x06 => some ⟨.A, 1, 1, .g, .g, .g⟩
  | 0x07 => some ⟨.A, 1, 1, .g, .g, .g⟩
  | 0x08 => some ⟨.A, 1, 1, .g, .g, .g⟩
  | 0x09 => some ⟨.A, 1, 1, .g, .g, .g⟩
  | 0x0A => some ⟨.A, 1, 2, .g, .g, .g⟩
  | 0x0B => some ⟨.A, 2, 1, .g, .g, .g⟩
  | 0x0C => some ⟨.A, 2, 1, .g, .g, .g⟩
  | 0x0D => some ⟨.A, 2, 1, .g, .g, .z⟩
  | 0x0E => some ⟨.A, 2, 1, .g, .g, .z⟩
  | 0x0F => some ⟨.A, 2, 2, .g, .g, .g⟩
  | 0x10 => some ⟨.A, 1, 1, .g, .g, .z⟩
  | 0x14 => some ⟨.A, 1, 1, .p, .p, .p⟩
  | 0x15 => some ⟨.A, 1, 1, .p, .p, .p⟩
  | 0x16 => some ⟨.A, 1, 1, .p, .p, .p⟩
  | 0x17 => some ⟨.A, 1, 1, .p, .p, .p⟩
  | 0x18 => some ⟨.A, 1, 1, .p, .g, .g⟩
  | 0x19 => some ⟨.A, 1, 1, .p, .g, .g⟩
  | 0x1A => some ⟨.A, 1, 1, .p, .g, .g⟩
  | 0x1B => some ⟨.A, 1, 1, .p, .g, .g⟩
  | 0x1C => some ⟨.A, 1, 1, .p, .g, .g⟩
  | 0x1D => some ⟨.A, 1, 1, .p, .g, .g⟩
  | 0x21 => some ⟨.I, 1, 1, .g, .g, .z⟩
  | 0x23 => some ⟨.I, 1, 1, .g, .g, .z⟩
  | 0x24 => some ⟨.I, 1, 1, .g, .g, .z⟩
  | 0x25 => some ⟨.I, 1, 1, .g, .g, .z⟩
  | 0x27 => some ⟨.I, 1, 1, .g, .g, .z⟩
  | 0x28 => some ⟨.I, 1, 1, .g, .g, .z⟩
  | 0x29 => some ⟨.I, 1, 1, .g, .g, .z⟩
  | 0x30 => some ⟨.I, 1, 1, .g, .z, .z⟩
  | 0x31 => some ⟨.I, 1, 1, .g, .g, .z⟩
  | 0x38 => some ⟨.I, 1, 1, .p, .g, .z⟩
  | 0x39 => some ⟨.I, 1, 1, .p, .g, .z⟩
  | 0x3A => some ⟨.I, 1, 1, .p, .g, .z⟩
  | 0x3B => some ⟨.I, 1, 1, .p, .g, .z⟩
  | 0x3C => some ⟨.I, 1, 1, .p, .g, .z⟩
  | 0x3D => some ⟨.I, 1, 1, .p, .g, .z⟩
  | 0x40 => some ⟨.F, 1, 1, .g, .g, .z⟩
  | 0x41 => some ⟨.F, 1, 1, .g, .g, .g⟩
  | 0x42 => some ⟨.F, 1, 1, .p, .g, .z⟩
  | 0x43 => some ⟨.F, 1, 1, .g, .g, .z⟩
  | 0x44 => some ⟨.F, 1, 1, .z, .g, .g⟩
  | 0x50 => some ⟨.M, 1, 1, .g, .g, .z⟩
  | 0x51 => some ⟨.M, 1, 1, .z, .g, .g⟩
  | 0x52 => some ⟨.M, 1, 4, .z, .g, .z⟩
  | 0x53 => some ⟨.M, 1, 4, .g, .g, .z⟩
  | 0x58 => some ⟨.L, 1, 6, .g, .g, .g⟩
  | 0x60 => some ⟨.B, 1, 1, .z, .z, .z⟩
  | 0x61 => some ⟨.B, 1, 1, .g, .z, .z⟩
  | 0x62 => some ⟨.B, 1, 2, .z, .g, .g⟩
  | 0x63 => some ⟨.B, 1, 2, .z, .z, .z⟩
  | 0x64 => some ⟨.B, 1, 1, .z, .z, .z⟩
  | 0x65 => some ⟨.B, 1, 1, .z, .z, .z⟩
  | 0x66 => some ⟨.B, 1, 1, .z, .z, .z⟩
  | 0x67 => some ⟨.B, 1, 1, .z, .z, .z⟩
  | 0x70 => some ⟨.E, 1, 2, .z, .g, .g⟩
  | 0x71 => some ⟨.E, 1, 1, .z, .z, .z⟩
  | 0x72 => some ⟨.E, 1, 1, .z, .g, .g⟩
  | 0x73 => some ⟨.E, 1, 1, .z, .g, .z⟩
  | 0x74 => some ⟨.E, 1, 1, .z, .g, .g⟩
  | 0x78 => some ⟨.E, 1, 1, .z, .g, .g⟩
  | 0x79 => some ⟨.E, 1, 1, .z, .g, .g⟩
  | 0x7A => some ⟨.E, 1, 1, .z, .g, .z⟩
  | 0x7B => some ⟨.E, 1, 1, .z, .g, .z⟩
  | 0x7C => some ⟨.E, 1, 1, .z, .g, .g⟩
  | 0x7D => some ⟨.E, 1, 1, .z, .g, .g⟩
  | 0x7E => some ⟨.E, 1, 1, .z, .z, .z⟩
  | _ => none

/-- A register field against its use (R198). -/
def fieldOk (u : FieldUse) (v : Nat) : Bool :=
  match u with
  | .g => true
  | .p => decide (v < 8)
  | .z => decide (v = 0)

/-- The format's own bits of an A-, I-, F- or M-format word (R205, R208, R209, R215, R216, Table ISA-3). -/
def lowOk (op low : Nat) : Fmt → Bool
  | .A => low = 0
  | .I => decide (low < 2 ^ 32) && (if op = 0x27 ∨ op = 0x28 ∨ op = 0x29 then decide (low < 64) else true)
  | .F =>
    let pos := fld low 36 31
    let len := fld low 30 24
    let boff := fld low 23 16
    fld low 15 0 = 0 &&
      (if op = 0x42 then decide (len = 0 ∧ boff = 0)
       else if op = 0x40 ∨ op = 0x41 then decide (1 ≤ len ∧ pos + len ≤ 64 ∧ boff = 0)
       else decide (1 ≤ len ∧ len ≤ 64 ∧ pos ≤ 7 ∧ boff ≤ 127))
  | .M =>
    let space := fld low 36 34
    fld low 12 0 = 0 && decide (space ≤ 5) && (op = opFELD || fld low 15 13 = 0)
      && (decide (op < opFELD) || space = 0) && (!(op = opFELD) || fld low 33 16 = 0)
  | .L => fld low 22 0 = 0
  | .B =>
    fld low 36 36 = 0 && fld low 31 16 = 0 &&
      (if op = opBR then fld low 35 32 = 0 else if op = opLOOP then decide (fld low 15 0 ≠ 0)
       else fld low 35 32 = 0 && fld low 15 0 = 0)
  | .E =>
    if op = opEMIT then
      match fld low 36 34 with
      | 0 => fld low 29 0 = 0
      | 1 => fld low 33 0 = 0
      | 2 => fld low 33 30 = 0 && fld low 7 0 = 0
      | 3 => fld low 33 31 = 0 && fld low 29 8 = 0
      | 4 => fld low 33 0 = 0
      | _ => false
    else if op = 0x71 then decide (low < 16)
    else if op = 0x72 ∨ op = 0x74 then decide (low < 2)
    else if op = 0x73 ∨ op = 0x7E then low = 0
    else decide (low < 128)

/-- LOOKUP's TABLE, KEYSEL and PARAM (Table ISA-6). -/
def lookupOk (w : Nat) : Bool :=
  let keysel := fld w 29 27
  let param := fld w 26 23
  match fld w 33 30 with
  | 0 => decide (keysel ≤ 2 ∧ param = 0)
  | 1 => decide (keysel ≤ 3 ∧ 4 ≤ param ∧ param ≤ 12)
  | 2 => decide (keysel ≤ 3 ∧ 4 ≤ param ∧ param ≤ 12)
  | 3 => decide (keysel = 0 ∧ param = 0)
  | 4 => decide (keysel = 0 ∧ param = 0)
  | 5 => decide (keysel = 0 ∧ 1 ≤ iDst w ∧ iDst w ≤ 30)
  | _ => false

/-- The uses of SRCA and SRCB of a word: those of its opcode, narrowed where further bits decide (R198). -/
def sourceUse (r : OpRow) (w : Nat) : FieldUse × FieldUse :=
  let g (c : Bool) : FieldUse := if c then .g else .z
  let op := iOp w
  if op = opLOOKUP then
    (g (fld w 29 27 = 0), g (fld w 33 30 = 5 || (fld w 33 30 = 2 && fld w 29 27 = 0)))
  else if op = opEMIT then
    let k := fld w 36 34
    (g (k = 0 || k = 1 || k = 4 || (k = 3 && tb w 30)), g (k = 0 && tb w 30))
  else if op = 0x72 then (.g, g (tb w 0))
  else if op = 0x74 then (g (tb w 0), g (tb w 0))
  else (r.a, r.b)

/-- The encoding check of one word (R198, R199, R202, R217): none, or the reason. -/
def checkWord (w : Nat) : Option Nat :=
  match opRow (iOp w) with
  | none => some ldBadEncoding
  | some r =>
    let u := sourceUse r w
    if !lowOk (iOp w) (iLow w) r.fmt || !(fieldOk r.d (iDst w) && fieldOk u.1 (iA w) && fieldOk u.2 (iB w))
        || (iOp w = opLOOKUP && !lookupOk w)
        || ((iOp w = opBRX || iOp w = opENTER || iOp w = opLEAVE) && !unguarded w) then some ldBadEncoding
    else if iOp w = opBR ∧ iOff w = 0 then some ldBackwardBranch
    else none

/-- The lowest feature level that includes a word (Table ISA-11). -/
def levelOf (w : Nat) : Nat :=
  if iOp w = opLOOKUP ∧ (fld w 33 30 = 1 ∨ fld w 33 30 = 2) ∧ 8 < fld w 26 23 then 2
  else match opRow (iOp w) with
    | some r => r.level
    | none => 1

/-- The loader cost of a word (Tables ISA-4 and ISA-6). -/
def costOf (w : Nat) : Nat :=
  if iOp w = opLOOKUP then
    match fld w 33 30 with
    | 0 => 8
    | 1 => 8 + 3 * (fld w 26 23 - 4)
    | 2 => 10 + 3 * (fld w 26 23 - 4)
    | 5 => 10
    | _ => 6
  else match opRow (iOp w) with
    | some r => r.cost
    | none => 1

/-! ### Control flow (R183) -/

/-- Distances to the successors of a word other than BRX. -/
def successors (w : Nat) : List Nat :=
  if iOp w = opBR then
    if neverRuns w then [1] else if unguarded w then [iOff w] else [1, iOff w]
  else if iOp w = opEMIT ∨ iOp w = opEND then if unguarded w then [] else [1]
  else if iOp w = opLOOP then if unguarded w then [1] else [1, iOff w + 1]
  else [1]

/-- Successor indices, the handlers of BRX included. -/
def targets (handlers : List Nat) (pc w : Nat) : List Nat :=
  if iOp w = opBRX then handlers else (successors w).map (pc + ·)

/-- Words with their indices. -/
def indexed (code : List Nat) : List (Nat × Nat) := code.zipIdx.map fun x => (x.2, x.1)

/-- The first refusal that a check finds over a list. -/
def firstBad {α : Type} (l : List α) (f : α → Option (Nat × Nat)) : Option (Nat × Nat) := l.findSome? f

/-- R183 and R174 of one LOOP at `pc`: its form, its body, branches into it. -/
def checkLoop (code : List (Nat × Nat)) (handlers : List Nat) (n pc w : Nat) : Option (Nat × Nat) :=
  let fin := pc + iOff w
  if n ≤ fin then some (ldLoopForm, pc)
  else
    let body := (code.drop (pc + 1)).take (iOff w)
    let inside := firstBad body fun (j, x) =>
      if iOp x = opLOOP ∨ iOp x = opEMIT ∨ iOp x = opEND then some (ldLoopForm, j)
      else if (iOp x = opBR ∨ iOp x = opBRX) ∧ ((targets handlers j x).any fun t => !decide (j < t ∧ t ≤ fin + 1)) then
        some (ldLoopForm, j)
      else if iOp x = opENTER ∧ 0 < iCount w then some (ldDoubleEnter, j)
      else if iOp x = opLEAVE ∧ 0 < iCount w then some (ldOrderedSection, j)
      else none
    inside <|> firstBad (code.take pc) fun (j, x) =>
      if (iOp x = opBR ∨ iOp x = opBRX) ∧ ((targets handlers j x).any fun t => decide (pc < t ∧ t ≤ fin)) then
        some (ldLoopForm, j)
      else none

/-- The instruction may stand in a section (R174, R214). -/
def inSection (w : Nat) : Bool :=
  match opRow (iOp w) with
  | some r =>
    match r.fmt with
    | .A => true
    | .I => true
    | .F => iOp w ≠ 0x44
    | _ => (iOp w = opST && (fld w 36 34 = 2 || fld w 36 34 = 4)) || iOp w = opLD || iOp w = opPUBLISH
        || iOp w = opLEAVE || iOp w = opENTER || iOp w = opBR
  | none => false

/-- The instruction touches HE. -/
def touchesHe (w : Nat) : Bool := (iOp w = opLD || iOp w = opST) && fld w 36 34 = 2

/-- Pass 1 of R183 from one entry point: section state (0 before, 1 inside, 2 after; plus 1) and length by index. -/
def sectionPass (handlers : List Nat) (fromHandler : Bool) :
    List (Nat × Nat) → FMap (Nat × Nat) → Option (Nat × Nat)
  | [], _ => none
  | (pc, w) :: rest, st =>
    match FMap.get (0, 0) st pc with
    | (0, _) => sectionPass handlers fromHandler rest st
    | (s1, l0) =>
      if iOp w = opBRX ∧ fromHandler then some (ldHandlerOrder, pc)
      else if iOp w = opENTER ∧ s1 ≠ 1 then some (ldDoubleEnter, pc)
      else
        let s2 := if iOp w = opENTER then 2 else s1
        let l := (if iOp w = opENTER then 0 else l0) + (if s2 = 2 then 1 else 0)
        if s2 = 2 ∧ (16 < l ∨ inSection w = false) then some (ldOrderedSection, pc)
        else if s2 ≠ 2 ∧ touchesHe w then some (ldOrderedSection, pc)
        else
          let s3 := if iOp w = opLEAVE then 3 else s2
          let ts := targets handlers pc w
          if ts.any fun t => decide ((FMap.get (0, 0) st t).1 ≠ 0 ∧ (FMap.get (0, 0) st t).1 ≠ s3) then
            some (ldOrderedSection, pc)
          else
            sectionPass handlers fromHandler rest
              (ts.foldl (fun m t => FMap.put m t (s3, Nat.max (FMap.get (0, 0) m t).2 l)) st)

/-- The maximum of costs, none being infinite. -/
def maxCost (l : List (Option Nat)) : Option Nat :=
  l.foldl (fun a x => match a, x with
    | some a, some b => some (Nat.max a b)
    | _, _ => none) (some 0)

/-- Pass 2 of R183: the costs from each index on, the end mark last; `wt` weighs an instruction. -/
def costPass (wt : Nat → Nat) (handlers : List Nat) : Nat → List Nat → List (Option Nat)
  | _, [] => [none]
  | pc, w :: rest =>
    let cs := costPass wt handlers (pc + 1) rest
    let at_ (d : Nat) : Option Nat := cs.getD (d - 1) none
    let c : Option Nat :=
      if iOp w = opLOOP then
        match at_ 1, at_ (iOff w + 1) with
        | some a, some b => some (wt w + (iCount w + 1) * (a - b) + b)
        | _, _ => none
      else if iOp w = opBRX then
        (maxCost (handlers.map fun h => if h ≤ pc then none else at_ (h - pc))).map (wt w + ·)
      else (maxCost ((successors w).map at_)).map (wt w + ·)
    c :: cs

/-- Ember loads and FETCHes of R187's M: an LD from HE waits as an ember load (DEDUCED, notes/assumptions/5.md). -/
def longAccess (w : Nat) : Nat := b2n (iOp w = opFELD || iOp w = opFETCH || (iOp w = opLD && fld w 36 34 = 2))

/-! ### The image (R190) -/

/-- Pad to a multiple of 8. -/
def pad8 (n : Nat) : Nat := 8 * cdiv n 8

/-- Little-endian value of `n` bytes at `i`. -/
def leAt (bs : List Byte) (i n : Nat) : Nat := leVal (slice bs i n)

/-- The header fields are in range (Table HOB-6). -/
def headerOk (bs : List Byte) : Bool :=
  let fb := leAt bs 12 2
  let tbu := leAt bs 16 2
  decide (64 ≤ bs.length ∧ leAt bs 0 4 = 0x41584445 ∧ leAt bs 4 2 = 1 ∧ 1 ≤ leAt bs 6 2
    ∧ 1 ≤ leAt bs 8 1 ∧ leAt bs 8 1 ≤ 2 ∧ leAt bs 9 3 = 0 ∧ (fb = 0 ∨ (16 ≤ fb ∧ fb ≤ 2048))
    ∧ (tbu = 0 ∨ 16 ≤ tbu) ∧ leAt bs 18 2 ≤ 256 ∧ leAt bs 20 2 ≤ 64 ∧ leAt bs 22 2 = 0
    ∧ 1 ≤ leAt bs 24 4 ∧ leAt bs 24 4 ≤ 32768 ∧ leAt bs 28 4 < leAt bs 24 4
    ∧ leAt bs 32 4 ≤ 65536 ∧ leAt bs 32 4 % 8 = 0 ∧ leAt bs 40 24 = 0
    ∧ bs.length = 64 + 8 * leAt bs 24 4 + pad8 (4 * leAt bs 18 2) + leAt bs 32 4 + 32 * leAt bs 20 2
        + pad8 (leAt bs 36 4))

/-- `n` little-endian numbers of `k` bytes. -/
def leNumbers (k : Nat) : Nat → List Byte → List Nat
  | 0, _ => []
  | n + 1, bs => leVal (bs.take k) :: leNumbers k n (bs.drop k)

/-- A slot entry of Table HOB-7 that the rest of the loader judges. -/
def slotOf (bs tmpls : List Byte) : TimerSlot :=
  let off := leAt bs 24 4
  { entry := leAt bs 0 4, interval := leAt bs 4 4, phase := leAt bs 8 4, retOffset := leAt bs 12 2,
    homeEmber := fld (leAt bs 16 4) 19 0, homeValid := tb (leAt bs 16 4) 31, arg := leAt bs 20 4,
    tmpl := if off = 0xFFFFFFFF then none else some (slice tmpls off (leAt bs 28 2)) }

/-- The slot entry's own limits (R187, Table HOB-8). -/
def slotOk (bs : List Byte) (tmplBytes codeCount : Nat) : Bool :=
  let off := leAt bs 24 4
  let len := leAt bs 28 2
  decide (leAt bs 0 4 < codeCount ∧ leAt bs 14 2 = 0 ∧ fld (leAt bs 16 4) 30 20 = 0 ∧ leAt bs 30 2 = 0
    ∧ 16 ≤ leAt bs 4 4 ∧ leAt bs 4 4 ≤ 2 ^ 24 ∧ leAt bs 8 4 < leAt bs 4 4
    ∧ 16 ≤ leAt bs 12 2 ∧ leAt bs 12 2 ≤ leAt bs 4 4
    ∧ (off = 0xFFFFFFFF ∨ (64 ≤ len ∧ len ≤ 1518 ∧ off + len ≤ tmplBytes)))

/-- An answer that refuses. -/
def reject (e : Option (Nat × Nat)) (k : Except (Nat × Nat) Image) : Except (Nat × Nat) Image :=
  match e with
  | some x => .error x
  | none => k

/-- Verify a program image at operating feature level `level`: the image, or the reason and the instruction index. -/
def verifyImage (level : Nat) (bs : List Byte) : Except (Nat × Nat) Image :=
  if !headerOk bs then .error (ldBadHeader, 0)
  else if level < leAt bs 8 1 then .error (ldFeatureLevel, 0)
  else
    let cc := leAt bs 24 4
    let hc := leAt bs 18 2
    let tc := leAt bs 20 2
    let kcb := leAt bs 32 4
    let oHt := 64 + 8 * cc
    let oKc := oHt + pad8 (4 * hc)
    let oTs := oKc + kcb
    let tmpls := (bs.drop (oTs + 32 * tc)).take (leAt bs 36 4)
    let code := leNumbers 8 cc (bs.drop 64)
    let ix := indexed code
    let handlers := leNumbers 4 hc (bs.drop oHt)
    let slotBytes := (List.range tc).map fun i => (bs.drop (oTs + 32 * i)).take 32
    let slots := slotBytes.map fun b => slotOf b tmpls
    let entry := leAt bs 28 4
    let fBudget := if leAt bs 12 2 = 0 then 512 else leAt bs 12 2
    let tBudget := if leAt bs 16 2 = 0 then 8192 else leAt bs 16 2
    let lastBrx := (ix.filter fun x => iOp x.2 = opBRX).foldl (fun (_ : Option Nat) x => some x.1) none
    let sect (e : Nat) (h : Bool) : Option (Nat × Nat) :=
      sectionPass handlers h (ix.drop e) [(e, (1, 0))]
    let costs := costPass costOf handlers 0 code
    let longs := costPass longAccess handlers 0 code
    let costAt (e : Nat) : Option Nat := costs.getD e none
    let overs (budget e : Nat) : Option (Nat × Nat) :=
      match costAt e with
      | none => some (ldOpenPath, e)
      | some c => if budget < c then some (ldOverBudget, e) else none
    let w := (costAt entry).getD 0
    let gov := leAt bs 14 2
    reject (firstBad ix fun (pc, x) => (checkWord x).map fun r => (r, pc)) <|
    reject (firstBad ix fun (pc, x) => if leAt bs 8 1 < levelOf x then some (ldFeatureLevel, pc) else none) <|
    reject (firstBad handlers fun h =>
      if cc ≤ h then some (ldHandlerOrder, 0)
      else match lastBrx with
        | some b => if h ≤ b then some (ldHandlerOrder, h) else none
        | none => none) <|
    reject (firstBad ix fun (pc, x) => if iOp x = opBRX ∧ handlers = [] then some (ldHandlerOrder, pc) else none) <|
    reject (firstBad ix fun (pc, x) => if iOp x = opLOOP then checkLoop ix handlers cc pc x else none) <|
    reject (firstBad slots fun t => if cc ≤ t.entry then some (ldTimerSlot, cc - 1) else none) <|
    reject (sect entry false) <|
    reject (firstBad handlers fun h => sect h true) <|
    reject (firstBad slots fun t => sect t.entry false) <|
    reject (overs fBudget entry) <|
    reject (firstBad handlers (overs fBudget)) <|
    reject (firstBad slots fun t => overs tBudget t.entry) <|
    reject (if w < gov then some (ldKRange, entry) else none) <|
    reject (firstBad slotBytes fun b =>
      let e := leAt b 0 4
      let need := cdiv ((costAt e).getD 0) 5 + 7 + 5 * (longs.getD e none).getD 0
      if slotOk b tmpls.length cc && decide (need ≤ leAt b 12 2) then none else some (ldTimerSlot, e)) <|
    .ok { id := leAt bs 6 2, hash := sha384 bs, feature := leAt bs 8 1, frameBudget := fBudget, timerBudget := tBudget,
          k := if gov = 0 then w else gov, wcyc := w, entry := entry, code := code.map (BitVec.ofNat 64),
          handlers := handlers, kc := (bs.drop oKc).take kcb, slots := slots }

/-- The pending and the active image together fit the store (R191). -/
def storeFits (active : Option Image) (img : Image) : Bool :=
  match active with
  | none => true
  | some a => decide (img.code.length + a.code.length ≤ 32768 ∧ img.kc.length + a.kc.length ≤ 65536)

/-- Load a program image (R191, R195): the new state, and the reason and index of a refusal. -/
def loadProgram (bs : List Byte) (s : State) : Option (Nat × Nat) × State :=
  let no (e : Nat × Nat) : Option (Nat × Nat) × State := (some e, raiseEv 0x1381 0 (w2 e.1 ++ w4 e.2) s)
  if (activationSet s).isSome then no (ldBusy, 0)
  else match verifyImage s.twin.feature bs with
    | .error e => no e
    | .ok img =>
      if storeFits s.prog.active img then
        (none, raiseEv 0x1380 0 (w2 img.id ++ w4 img.wcyc)
          (modProg (fun p => { p with pendingImg := some { img with gen := p.nextGen }, nextGen := p.nextGen + 1 }) s))
      else no (ldStoreFull, 0)

end Sys2Proof.Machine
end

