-- ==== Sys2Proof/Machine/Counter.lean ====
section
/-! DEFINITION. Counter pairs and MAC statistics (R121, R390 to R394), and the HBM image of the pairs that BAR2
shows (R391, R465). -/

namespace Sys2Proof.Machine

/-- Add to a counter pair; both counts wrap at 2^64 (R390). -/
def pairAdd (key a b : Nat) (s : State) : State :=
  modEgr (fun g => { g with counters := FMap.upd (0, 0) g.counters key fun p =>
    ((p.1 + a) % 2 ^ 64, (p.2 + b) % 2 ^ 64) }) s

/-- Set a counter pair (R391). -/
def pairSet (key a b : Nat) (s : State) : State :=
  modEgr (fun g => { g with counters := FMap.set (0, 0) g.counters key (a % 2 ^ 64, b % 2 ^ 64) }) s

/-- A counter pair as of the current tick. -/
def pairOf (s : State) (key : Nat) : Nat × Nat := FMap.get (0, 0) s.egr.counters key

/-- Apply every update whose effect tick has been reached. -/
def applyCounts (s : State) : State :=
  let due := s.egr.ctrPend.filter fun u => decide (u.1 ≤ s.clk.tick)
  let rest := s.egr.ctrPend.filter fun u => !decide (u.1 ≤ s.clk.tick)
  forEach due (fun u => pairAdd u.2.1 u.2.2.1 u.2.2.2) (modEgr (fun g => { g with ctrPend := rest }) s)

/-- The HBM image of a pair: it is updated within 2^16 ticks of a change, both words together, at a tick that the spec leaves free
(R391; notes/assumptions/12.md). -/
def imagePair (key : Nat) (s : State) : State :=
  let now := pairOf s key
  let since := (FMap.find? s.egr.imageDue key).getD s.clk.tick
  if FMap.get (0, 0) s.egr.image key = now then modEgr (fun g => { g with imageDue := FMap.erase g.imageDue key }) s
  else if since + 65535 ≤ s.clk.tick ∨ Config.imageWrites s.clk.free key then
    modEgr (fun g => { g with image := FMap.set (0, 0) g.image key now, imageDue := FMap.erase g.imageDue key }) s
  else modEgr (fun g => { g with imageDue := FMap.put g.imageDue key since }) s

/-- The image of every pair that it does not show as it stands. -/
def imageStep (s : State) : State :=
  forEach ((s.egr.counters.map (·.1)) ++ s.egr.image.map (·.1)).eraseDups imagePair (useFree s)

/-- The largest key of class `c` below `n`: the pairs of one class, by index. -/
def classPairs (s : State) (c : Nat) : List (Nat × Nat × Nat) :=
  s.egr.counters.filterMap fun e =>
    if e.1 / 2 ^ 32 = c + 1 then some (e.1 % 2 ^ 32, e.2.1, e.2.2) else none

/-- R392: at an activation class 11 is copied into class 12 and cleared; the low half of class 14 moves to its high
half. -/
def rollProgramCounters (s : State) : State :=
  let c11 := classPairs s 11
  let c14 := (classPairs s 14).filter fun e => decide (e.1 < 512)
  let clear (c : Nat) (x : Nat × Nat × Nat) : State → State := pairSet (fixedKey c x.1) 0 0
  let s1 := forEach (classPairs s 12) (clear 12) s
  let s2 := forEach c11 (fun x st => pairSet (fixedKey 11 x.1) 0 0 (pairSet (fixedKey 12 x.1) x.2.1 x.2.2 st)) s1
  let s3 := forEach ((classPairs s 14).filter fun e => decide (512 ≤ e.1)) (clear 14) s2
  forEach c14 (fun x st => pairSet (fixedKey 14 x.1) 0 0 (pairSet (fixedKey 14 (512 + x.1)) x.2.1 x.2.2 st)) s3

/-- Count `n` in statistic `i` of a port; the counters wrap at 2^64 (R121). -/
def statAdd (p i n : Nat) (s : State) : State :=
  if p < 2048 then
    modEgr (fun g => { g with stats := FMap.upd 0 g.stats (p * 32 + i) fun x => (x + n) % 2 ^ 64 }) s
  else s

/-- Bytes moved on a port in the energy interval (R395). -/
def movedBytes (p n : Nat) (s : State) : State :=
  modEgr (fun g => { g with bytesMoved := FMap.upd 0 g.bytesMoved p (· + n) }) s

/-- The statistic that counts a received length (Table MAC-3, 16 to 22). -/
def lengthStat (n : Nat) : Nat :=
  if n ≤ 64 then 16 else if n ≤ 127 then 17 else if n ≤ 255 then 18 else if n ≤ 511 then 19
  else if n ≤ 1023 then 20 else if n ≤ 1518 then 21 else 22

/-- The destination address is the broadcast address. -/
def isBroadcast (bs : List Byte) : Bool := slice bs 0 6 = List.replicate 6 0xFF

/-- The destination address has its group bit set. -/
def isGroup (bs : List Byte) : Bool := (byteAt bs 0).getLsbD 0

end Sys2Proof.Machine
end

