-- ==== Sys2Proof/Machine/PortMap.lean ====
section
/-! DEFINITION. The port map: which lane or Hearth channel each port is on, and the rates and groups of lanes (R40 to R45). -/

namespace Sys2Proof.Machine

/-- The instances of a register that hold a value other than the reset value, ascending. -/
def regInstances (s : State) (r : Reg) : List Nat := s.regs.vals.filterMap fun e => r.instanceAt e.1

/-- Send something on the lanes. -/
def sendLane (x : LaneOut) (s : State) : State := modOut (fun o => { o with lanes := o.lanes ++ [x] }) s

/-! ### The port map (R40 to R45) -/

/-- A rate in tenths of Gb/s, from a PORT_SET rate code (R474). -/
def codeRate (c : Nat) : Nat := [1, 10, 25, 50, 100, 250, 400, 500, 1000, 2000, 4000].getD c 0

/-- The MAC rate of a plain lane mode, in tenths of Gb/s; 0 for any other mode (Table LANE-1). -/
def plainRate (m : Nat) : Nat :=
  match m with
  | 0x1 => 10
  | 0x2 => 100
  | 0x3 => 250
  | 0x6 => 500
  | 0x7 => 1000
  | 0x8 => 2000
  | 0x9 => 4000
  | 0xB => 400
  | _ => 0

/-- The mode is H10 or H25. -/
def isHearth (m : Nat) : Bool := m = 4 || m = 5

/-- LANE_MODE.MODE of a lane. -/
def laneMode (s : State) (l : Nat) : Nat := regFld s .LANE_MODE l 3 0

/-- LANE_MODE.ENABLE of a lane. -/
def laneOn (s : State) (l : Nat) : Bool := regBit s .LANE_MODE l 4

/-- Channel `c` of a lane's map: port, rate code and VALID (R71). -/
def chanOf (s : State) (l c : Nat) : Nat × Nat × Bool :=
  let v := (regVal s .LANE_CHMAP (4 * l + c / 2)).toNat / 2 ^ (16 * (c % 2))
  (fld v 10 0, fld v 14 11, tb v 15)

/-- The Hearth lane and channel that a port is mapped to. -/
def hearthAt (s : State) (p : Nat) : Option (Nat × Nat) :=
  (regInstances s .LANE_CHMAP).findSome? fun i =>
    if isHearth (laneMode s (i / 4)) then
      [2 * (i % 4), 2 * (i % 4) + 1].findSome? fun c =>
        let x := chanOf s (i / 4) c
        if x.2.2 && decide (x.1 = p) then some (i / 4, c) else none
    else none

/-- The head lane of the plain lane group that a port is mapped to. -/
def plainAt (s : State) (p : Nat) : Option Nat :=
  (List.find? (fun e => decide (e.2.port = some p) && decide (0 < plainRate (laneMode s e.1))) s.lanes).map (·.1)

/-- A port's rate r in tenths of Gb/s (R43); 0 when it is not mapped. -/
def portRate (s : State) (p : Nat) : Nat :=
  match hearthAt s p with
  | some (l, c) => codeRate (chanOf s l c).2.1
  | none => match plainAt s p with
    | some l => plainRate (laneMode s l)
    | none => 0

/-- The lanes that follow the head of a plain lane group (R41). -/
def groupLanes (m : Nat) : Nat := if m = 7 then 2 else if m = 8 then 4 else if m = 9 then 8 else 1

/-- R41: the lane is the head of a valid group. -/
def groupOk (s : State) (l : Nat) : Bool :=
  let n := groupLanes (laneMode s l)
  decide (l % n = 0) && (List.range (n - 1)).all fun i => laneMode s (l + 1 + i) = 0xA

/-- A lane bank is marked failed in the health map (R44). -/
def bankFailed (s : State) (b : Nat) : Bool := s.boot.health.any fun h => decide (h.kind = 3 ∧ h.num = b)

/-- The lane operates: enabled, its bank powered and not failed, its group in order. -/
def laneOperates (s : State) (l : Nat) : Bool :=
  laneOn s l && tb s.pwr.ready (l / 64) && !bankFailed s (l / 64) && groupOk s l

/-- R45: the lane's channel map is in order. -/
def chanMapOk (s : State) (l : Nat) : Bool :=
  let m := laneMode s l
  let cs := (List.range 8).filter fun c => (chanOf s l c).2.2
  let sum := cs.foldl (fun a c => a + codeRate (chanOf s l c).2.1) 0
  cs.all (fun c => decide ((chanOf s l c).2.1 ≤ if m = 5 then 5 else 4) && !(m = 4 && decide (4 ≤ c))
    && (match (laneOf s l).partnerChans with
      | some n => decide (c < n)
      | none => true))
  && decide (sum ≤ if m = 5 then 250 else 100)

/-- The MAC of a plain lane port is this twin's own (R130; notes/assumptions/16.md). -/
def ownsPort (s : State) (p : Nat) : Bool :=
  match plainAt s p with
  | some l => (laneOf s l).wired
  | none => true

/-- This twin relays the frames of its solo ports: in a pair, and as a source from a little before J on (R130, R429). -/
def relaysPort (s : State) (p : Nat) : Bool := (inPair s || sourceRelays s) && (plainAt s p).isSome

end Sys2Proof.Machine
end

