-- ==== Sys2Proof/Machine/Buffer.lean ====
section
/-! DEFINITION. The buffer pool and the output queues (chapter 10): cells, ash rings, owners, charging, queues, banking,
replication, residue, flow control and flushing. -/

namespace Sys2Proof.Machine

/-! ### Cells (R334 to R340) -/

/-- Cells that a frame of `n` bytes occupies (R335). -/
def cellsOf (n : Nat) : Nat := cdiv n 256

/-- Free cells in a run list: pairs of first cell and length. -/
def runLen (r : List (Nat × Nat)) : Nat := r.foldl (fun a x => a + x.2) 0

/-- Take the first cell of a run list. -/
def runTake : List (Nat × Nat) → Option (Nat × List (Nat × Nat))
  | [] => none
  | (c, n) :: r => if n ≤ 1 then some (c, r) else some (c, (c + 1, n - 1) :: r)

/-- Add a cell at the end of a run list, joining it to the last run when it follows it. -/
def runAdd : List (Nat × Nat) → Nat → List (Nat × Nat)
  | [], c => [(c, 1)]
  | [(a, n)], c => if c = a + n then [(a, n + 1)] else [(a, n), (c, 1)]
  | x :: y :: r, c => x :: runAdd (y :: r) c

/-- Split off the first `k` cells of a run list. -/
def runSplit : Nat → List (Nat × Nat) → List (Nat × Nat) × List (Nat × Nat)
  | _, [] => ([], [])
  | k, (c, n) :: r =>
    if k = 0 then ([], (c, n) :: r)
    else if n ≤ k then
      let p := runSplit (k - n) r
      ((c, n) :: p.1, p.2)
    else ([(c, k)], (c + k, n - k) :: r)

/-- Slice `i`. -/
def sliceOf (s : State) (i : Nat) : Slice := FMap.get {} s.buf.slices i

/-- Change slice `i`. -/
def modSlice (i : Nat) (f : Slice → Slice) (s : State) : State :=
  modBuf (fun b => { b with slices := FMap.upd {} b.slices i f }) s

/-- A cell's state bit: true is ALLOCATED (R339). -/
def cellAlloc (s : State) (c : Nat) : Bool := FMap.get false s.buf.alloc c

/-- Set a cell's state bit. -/
def setAlloc (c : Nat) (v : Bool) (s : State) : State :=
  modBuf (fun b => { b with alloc := FMap.set false b.alloc c v }) s

/-- Take a cell from a slice's cache; entries whose bit is ALLOCATED are discarded as double allocations (R339). -/
def takeCell : Nat → Nat → State → Option Nat × State
  | 0, _, s => (none, s)
  | k + 1, i, s =>
    match runTake (sliceOf s i).cache with
    | none => (none, s)
    | some (c, r) =>
      let s1 := modSlice i (fun x => { x with cache := r }) s
      if cellAlloc s c then
        takeCell k i (selfFault 0x06 c (raiseEv 0x1605 0 (w4 c)
          (regSetFld .BUF_DOUBLE_FREE_CNT 0 31 16 (satAdd 16 (regFld s1 .BUF_DOUBLE_FREE_CNT 0 31 16) 1) s1)))
      else (some c, setAlloc c true s1)

/-- The slices in rotation order from the rotor. -/
def sliceOrder (s : State) : List Nat := (List.range 16).map fun i => (s.buf.rotor + i) % 16

/-- Take one cell from the first slice of `l` that has one; the rotation continues behind that slice (R336). -/
def takeFrom : List Nat → State → Option Nat × State
  | [], s => (none, s)
  | i :: l, s =>
    match takeCell 1100 i s with
    | (some c, s1) => (some c, modBuf (fun b => { b with rotor := (i + 1) % 16 }) s1)
    | (none, s1) => takeFrom l s1

/-- Take `n` cells, in chain order; fewer when no slice has one. -/
def takeCells : Nat → State → List Nat × State
  | 0, s => ([], s)
  | n + 1, s =>
    match takeFrom (sliceOrder s) s with
    | (none, s1) => ([], s1)
    | (some c, s1) => let r := takeCells n s1; (c :: r.1, r.2)

/-! ### Reserves (R341, R343) -/

/-- Front ports whose MAC_PORT_CFG.ENABLE is 1, ascending. -/
def enabledPorts (s : State) : List Nat :=
  (regInstances s .MAC_PORT_CFG).filter fun p => regBit s .MAC_PORT_CFG p 16

/-- The port is enabled. -/
def portEnabled (s : State) (p : Nat) : Bool := regBit s .MAC_PORT_CFG p 16

/-- The owner's MIN (R343). -/
def ownerMin (s : State) (o : Nat) : Nat := regFld s .BUF_OWNER_CFG o 15 0

/-- The owner's HEADROOM: only an ingress owner whose port has a TX_MODE other than 0b00 has one (R343). -/
def ownerHdrm (s : State) (o : Nat) : Nat :=
  if o < 16384 then
    if regFld s .MAC_FC_CFG (o / 8) 3 2 = 0 then 0 else regFld s .BUF_OWNER_HDRM o 15 0
  else 0

/-- Usable cells: all cells less the retired ones (R341). -/
def usableCells (s : State) : Nat := 524288 - s.buf.slices.foldl (fun a e => a + e.2.retired) 0

/-- OWNER_POOL for an admission delay and a pool configuration (R341). -/
def ownerPoolFor (s : State) (adm txr fr : Nat) : Int :=
  (usableCells s : Int) - ((adm + 4) * 1536 : Nat) - (txr : Nat) - (fr : Nat)

/-- OWNER_POOL of the registers in force (R341). -/
def ownerPoolOf (s : State) : Int :=
  ownerPoolFor s (admDelay s) (regFld s .BUF_POOL_CFG 0 15 0) (regFld s .BUF_POOL_CFG 0 31 16)

/-- Owners whose minima and headrooms the sums of R343 run over. -/
def summedOwners (s : State) : List Nat :=
  (enabledPorts s).flatMap (fun p => (List.range 8).map fun c => 8 * p + c)
    ++ (List.range 128).map fun i => 16384 + i

/-- SHARED_SIZE for an owner pool (R343). -/
def sharedSizeFor (s : State) (pool : Int) : Int :=
  (summedOwners s).foldl (fun a o => a - (ownerMin s o : Nat) - (ownerHdrm s o : Nat)) pool

/-- Size the reserves from the registers in force (R341, R343, step 9 of Table BOOT-7). -/
def sizeReserves (s : State) : State :=
  let pool := ownerPoolOf s
  let sh := sharedSizeFor s pool
  modBuf (fun b => { b with rxReserve := (admDelay s + 4) * 1536, ownerPool := pool.toNat, sharedSize := sh.toNat }) s

/-- A cell retired in service makes the usable cells fewer: reserves sized before are sized again (R341). -/
def resizeReserves (s : State) : State := if 0 < s.buf.rxReserve then sizeReserves s else s

/-! ### Retired and returned cells (R338 to R340, R537) -/

/-- Retire a cell with an uncorrectable link-word error (R537): it is kept out of its ring and entered in the health map. -/
def retireCell (c : Nat) (s : State) : State :=
  let i := c / 32768
  let s1 := modSlice i (fun x => { x with retired := x.retired + 1 }) (setAlloc c false s)
  let s2 := addHealth 4 c 8 s1
  let s3 := resizeReserves (raiseEv 0x1C0C 0 (w4 c) s2)
  if 1024 < (sliceOf s3 i).retired then selfFault 0x06 c s3 else s3

/-- Count and report a double free (R339). -/
def doubleFree (c : Nat) (s : State) : State :=
  selfFault 0x06 c (raiseEv 0x1604 0 (w4 c)
    (regSetFld .BUF_DOUBLE_FREE_CNT 0 15 0 (satAdd 16 (regFld s .BUF_DOUBLE_FREE_CNT 0 15 0) 1) s))

/-- R338: spill 256 entries of a cache that holds more than 768 to its ring. -/
def ashSpillOp (i : Nat) (s : State) : State :=
  let x := sliceOf s i
  if 768 < runLen x.cache then
    let p := runSplit 256 x.cache
    modSlice i (fun x => { x with cache := p.2, ring := x.ring ++ p.1 }) s
  else s

/-- Place a cell in its slice's cache; a cache that holds its 1,024 entries has spilled before (R338). -/
def cachePut (c : Nat) (s : State) : State :=
  let i := c / 32768
  modSlice i (fun x => { x with cache := runAdd x.cache c }) (if 1024 ≤ runLen (sliceOf s i).cache then ashSpillOp i s else s)

/-- Return a cell to its slice's cache (R339); a link-word error is handled as a double free and retires the cell (R340,
R537). -/
def returnCell (c : Nat) (eccBad : Bool) (s : State) : State :=
  let s0 := modBuf (fun b => { b with toReturn := b.toReturn.erase c }) s
  if eccBad then retireCell c (doubleFree c s0)
  else if !cellAlloc s0 c then doubleFree c s0
  else cachePut c (setAlloc c false s0)

/-- Return cells at once. -/
def returnCells (cs : List Nat) (s : State) : State := forEach cs (fun c => returnCell c false) s

/-- Cells that the transmit MAC is still to read: they return by CELL_RETURN (R344). -/
def awaitRead (cs : List Nat) (s : State) : State := modBuf (fun b => { b with toReturn := b.toReturn ++ cs }) s

/-- R338: refill a cache that holds fewer than 256 entries from its ring. -/
def ashRefillOp (i : Nat) (s : State) : State :=
  let x := sliceOf s i
  if runLen x.cache < 256 ∧ 0 < runLen x.ring then
    let p := runSplit 256 x.ring
    modSlice i (fun x => { x with cache := x.cache ++ p.1, ring := p.2 }) s
  else s

/-! ### Owners (R343 to R347) -/

/-- Owner `o`'s charges. -/
def ownerOf (s : State) (o : Nat) : Owner := FMap.get {} s.buf.owners o

/-- Change owner `o`. -/
def modOwner (o : Nat) (f : Owner → Owner) (s : State) : State :=
  modBuf (fun b => { b with owners := FMap.upd {} b.owners o f }) s

/-- The dynamic threshold of R346; negative while more is charged than the shared pool holds. -/
def dynThreshold (s : State) (o : Nat) : Int :=
  ((s.buf.sharedSize : Int) - s.buf.sharedUsed) * 2 ^ regFld s .BUF_OWNER_CFG o 19 16 / 128

/-- R346: the split (minimum, shared, headroom) with which a frame of `n` cells is charged; none where it is refused. -/
def chargeSplit (s : State) (o n : Nat) : Option (Nat × Nat × Nat) :=
  let w := ownerOf s o
  let m := Nat.min n (ownerMin s o - w.minUsed)
  let x := n - m
  let t := dynThreshold s o
  if x = 0 ∨ ((w.shUsed + x : Nat) : Int) ≤ t then some (m, x, 0)
  else if w.fc ∧ w.hdUsed + x ≤ ownerHdrm s o then some (m, 0, x)
  else none

/-- Charge a split to an owner. -/
def chargeOwner (o m x h : Nat) (s : State) : State :=
  modOwner o (fun w => { w with minUsed := w.minUsed + m, shUsed := w.shUsed + x, hdUsed := w.hdUsed + h })
    (modBuf (fun b => { b with sharedUsed := b.sharedUsed + x }) s)

/-- A refusal under R346 (R351, Table BUF-5). -/
def refuseCharge (o : Nat) (s : State) : State :=
  let s1 := raiseLim 0x1601 0 o 1024 (w2 o ++ w4 s.clk.tick) (regCount .BUF_OWNER_DROP_CNT o s)
  if (ownerOf s o).fc then raiseLim 0x1603 0 o 1024 (w2 o ++ w4 s.clk.tick) s1 else s1

/-- A release arising now; it takes effect at the next tick (R344). -/
def release (r : Release) (s : State) : State := modBuf (fun b => { b with releases := b.releases ++ [r] }) s

/-! ### Frames in the buffer (R344, R347, R367) -/

/-- The stored frame of an admission number. -/
def storedOf (s : State) (f : Nat) : Option Stored := FMap.get none s.buf.frames f

/-- Change a stored frame. -/
def modStored (f : Nat) (g : Stored → Stored) (s : State) : State :=
  match storedOf s f with
  | none => s
  | some x => modBuf (fun b => { b with frames := FMap.put b.frames f (some (g x)) }) s

/-- Put a frame in the buffer. -/
def putStored (f : Nat) (x : Stored) (s : State) : State :=
  modBuf (fun b => { b with frames := FMap.put b.frames f (some x) }) s

/-- Forget a frame that no copy needs. -/
def forgetStored (f : Nat) (s : State) : State :=
  modBuf (fun b => { b with frames := FMap.erase b.frames f }) s

/-- One reference to a frame's cells ends. At zero the cells are released from the charged owner at the next tick (R367);
`read` says that the reference ends with a grant or a take, whose MAC or DMA has still to read the cells: once one has, the last reference
leaves them to be returned as they are read. The frame is forgotten once no copy needs its bytes. -/
def unrefFrame (f : Nat) (read needsBytes : Bool) (s : State) : State :=
  match storedOf s f with
  | none => s
  | some x =>
    let refs := x.refs - 1
    let copies := if needsBytes then x.copies else x.copies - 1
    let reading := x.reading || read
    let s1 := modStored f (fun y => { y with refs := refs, copies := copies, reading := reading }) s
    let s2 := if refs = 0 ∧ x.refs ≠ 0 then
        let s2 := release (.owner x.owner x.cMin x.cShared x.cHdrm) s1
        if reading then awaitRead x.rx.cells s2 else returnCells x.rx.cells s2
      else s1
    if refs = 0 ∧ copies = 0 then forgetStored f s2 else s2

/-- One reference to a frame's cells begins. -/
def refFrame (f : Nat) (s : State) : State :=
  modStored f (fun x => { x with refs := x.refs + 1, copies := x.copies + 1 }) s

/-- Apply one release (R345 step 1, R347). -/
def applyRelease (r : Release) (s : State) : State :=
  match r with
  | .owner o m x h =>
    modOwner o (fun w => { w with minUsed := w.minUsed - m, shUsed := w.shUsed - x, hdUsed := w.hdUsed - h })
      (modBuf (fun b => { b with sharedUsed := b.sharedUsed - x }) s)
  | .depth q n => modBuf (fun b => { b with queues := FMap.upd {} b.queues q fun x => { x with depth := x.depth - n } }) s
  | .fetch n => modBuf (fun b => { b with fetchUsed := b.fetchUsed - n }) s
  | .fc o on =>
    let s1 := modOwner o (fun w => { w with fc := on }) s
    if on then raiseLim 0x1602 0 o 1024 (w2 o ++ w4 s.clk.tick) s1 else s1
  | .unref f => unrefFrame f false false s

/-- Step 1 of R345: the releases that arose in the tick before, and the flow control that its evaluation gave (R349). -/
def applyReleases (s : State) : State :=
  forEach s.buf.releases applyRelease (modBuf (fun b => { b with releases := [] }) s)

/-- R346: charge an admitted frame and keep it in the buffer, held once until it retires; refused, its cells return at
once. -/
def storeFrame (f : Nat) (rx : Rx) (md : List Byte) (adm ret : Nat) (s : State) : Bool × State :=
  match chargeSplit s rx.owner rx.cells.length with
  | none => (false, refuseCharge rx.owner (returnCells rx.cells s))
  | some (m, x, h) =>
    (true, putStored f { rx := rx, md := md, adm := adm, ret := ret, refs := 1, copies := 1, owner := rx.owner,
                         cMin := m, cShared := x, cHdrm := h } (chargeOwner rx.owner m x h s))

/-! ### Output queues (R352 to R360) -/

/-- Queue `q`. -/
def queueOf (s : State) (q : Nat) : Queue := FMap.get {} s.buf.queues q

/-- Change queue `q`. -/
def modQueue (q : Nat) (f : Queue → Queue) (s : State) : State :=
  modBuf (fun b => { b with queues := FMap.upd {} b.queues q f }) s

/-- Q_MAX of a queue. -/
def queueMax (s : State) (q : Nat) : Nat := regFld s .BUF_QUEUE_CFG q 19 0

/-- Queue numbers of R352. -/
def uqOf (p u : Nat) : Nat := 8 * p + u
def hqOf (h : Nat) : Nat := 16384 + h
def mqOf (m : Nat) : Nat := 16448 + m
def rcqOf (r : Nat) : Nat := 16464 + r

/-- Copy descriptors in use (R352): every copy that is linked, banked or on the residue list. -/
def copiesInUse (s : State) : Nat :=
  s.buf.queues.foldl (fun a e => a + e.2.copies.length + e.2.bank.length) s.buf.residue.length

/-- R107: a port in transmit LPI leaves it when a queue of it holds a frame. -/
def wakePort (p : Nat) (s : State) : State :=
  let x := portOf s p
  if x.txLpi then
    let s1 := modPort p (fun x => { x with txLpi := false, wakeUntil := s.clk.tick + regFld s .MAC_EEE_CFG p 27 16 }) s
    match plainAt s p with
    | some l => sendLane (.lpi l false) s1
    | none => s1
  else s

/-- A frame has come to queue `q`: a front port's queues are not empty (R106, R107). -/
def queueFilled (q : Nat) (s : State) : State :=
  if q < 16384 then wakePort (q / 8) (modPort (q / 8) (fun x => { x with emptyFrom := s.clk.tick }) s) else s

/-- Link a copy at the tail of a queue; its cells join the depth (R353). -/
def linkCopy (q : Nat) (c : Copy) (s : State) : State :=
  queueFilled q (modQueue q (fun x => { x with copies := x.copies ++ [c], depth := x.depth + c.cells }) s)

/-- Count a copy dropped from, or refused by, a queue (R37, class 1 of Table EGR-5). -/
def countQueueDrop (q reason bytes : Nat) (s : State) : State :=
  countPair (fixedKey 1 q) 1 bytes (countDrop reason bytes s)

/-- Bytes of a stored frame as received. -/
def storedLen (s : State) (f : Nat) : Nat :=
  match storedOf s f with
  | none => 0
  | some x => if isPlaceholder f then x.rx.wireLen else x.rx.bytes.length

/-- A banked copy ends: only the frame's bytes were still needed for it. -/
def dropBanked (f : Nat) (s : State) : State :=
  match storedOf s f with
  | none => s
  | some x =>
    if x.copies ≤ 1 ∧ x.refs = 0 then forgetStored f s else modStored f (fun y => { y with copies := y.copies - 1 }) s

/-- A copy leaves its queue: its depth, and its hold on cells, end (R344, R353, R367). -/
def releaseCopy (q : Nat) (c : Copy) (read : Bool) (s : State) : State :=
  let s1 := release (.depth q c.cells) s
  if c.fetched then
    let s2 := release (.fetch c.cells) s1
    let s3 := if read then awaitRead c.phys s2 else returnCells c.phys s2
    dropBanked c.frame s3
  else unrefFrame c.frame read false s1

/-- A FWD copy ends ungranted: the egress mirror copies still to be made of it are not made, and their references end (R367, R385). -/
def dropMirrors (c : Copy) (s : State) : State :=
  if c.kind = .unicast then
    match storedOf s c.frame with
    | some x => forEach x.mirrors (fun _ => unrefFrame c.frame false false) (modStored c.frame (fun y => { y with mirrors := [] }) s)
    | none => s
  else s

/-- A copy that was to join queue `q` is dropped: its reference to the frame, already counted, ends. -/
def dropCopy (q : Nat) (c : Copy) (reason : Nat) (s : State) : State :=
  unrefFrame c.frame false false (dropMirrors c (countQueueDrop q reason (storedLen s c.frame) s))

/-- Drop a copy that stands on a queue. -/
def dropLinked (q : Nat) (c : Copy) (reason : Nat) (s : State) : State :=
  releaseCopy q c false (dropMirrors c (countQueueDrop q reason (storedLen s c.frame) s))

/-- The frame has a replication descriptor (R367). -/
def isShared (s : State) (f : Nat) : Bool := ((storedOf s f).map (·.shared)).getD false

/-- The egress mirror copies of a FWD copy that a flush unlinks: the steps of REFCOUNT for them fall at the next tick (R368). -/
def flushMirrors (c : Copy) (s : State) : State :=
  if c.kind = .unicast then
    match storedOf s c.frame with
    | some x => forEach x.mirrors (fun _ => release (.unref c.frame)) (modStored c.frame (fun y => { y with mirrors := [] }) s)
    | none => s
  else s

/-- Drop a copy that a flush unlinks. Its release, or the step of REFCOUNT where its frame has more than one copy, falls at the next
tick (R368). -/
def flushLinked (q : Nat) (c : Copy) (s : State) : State :=
  let s1 := flushMirrors c s
  if isShared s c.frame && !c.fetched then
    release (.unref c.frame) (release (.depth q c.cells) (countQueueDrop q drHoldFlush (storedLen s c.frame) s1))
  else dropLinked q c drHoldFlush s1

/-! ### Banking (R356 to R358) -/

/-- Chunks that a queue's bank uses: its cells are packed from the first chunk on, `bankHead` of whose cells have been
fetched. -/
def chunksOf (x : Queue) : Nat := if x.banked = 0 then 0 else cdiv (x.bankHead + x.banked) 256

/-- Chunks in use. -/
def chunksUsed (s : State) : Nat := s.buf.queues.foldl (fun a e => a + chunksOf e.2) 0

/-- Banking is possible for a copy of `n` cells (R356). -/
def bankPossible (s : State) (q n : Nat) : Bool :=
  let x := queueOf s q
  let y := { x with banked := x.banked + n }
  decide (n ≤ s.buf.bankBudget ∧ chunksOf y ≤ regFld s .BUF_QUEUE_BANK q 31 16
    ∧ chunksUsed s - chunksOf x + chunksOf y ≤ regFld s .BUF_BANK_CFG 0 17 0)

/-- Bank a copy: its cells are written to HBM, and its hold on the frame's cells ends (R344, R357). -/
def bankCopy (q : Nat) (c : Copy) (s : State) : State :=
  let first := (queueOf s q).banked = 0
  let s1 := modQueue q (fun x => { x with bank := x.bank ++ [{ c with fetched := true }], banked := x.banked + c.cells,
                                          bankHead := if first then 0 else x.bankHead }) s
  let s2 := modBuf (fun b => { b with bankBudget := b.bankBudget - c.cells }) s1
  let s3 := if first then raiseEv 0x1607 0 (w2 q ++ w4 s.clk.tick) s2 else s2
  queueFilled q (unrefFrame c.frame false true s3)

/-- R354, R116: place a FWD copy of a frame on a unicast queue, or drop it. The frame's reference for the copy is already
counted. -/
def placeUnicast (q : Nat) (c : Copy) (s : State) : State :=
  let x := queueOf s q
  let drop (r : Nat) (t : State) : State := dropCopy q c r t
  let die (t : State) : State :=
    if x.depth + c.cells ≤ queueMax s q then linkCopy q c t else drop drQueueLimit t
  if (portOf s (q / 8)).flushed then drop drHoldFlush s
  else if 1048576 ≤ copiesInUse s then drop drQueueLimit s
  else if 0 < x.banked then
    if bankPossible s q c.cells then bankCopy q c s
    else raiseLim 0x1608 0 q 1024 (w2 q ++ w4 s.clk.tick) (drop drBankLimit s)
  else if regBit s .BUF_QUEUE_CFG q 20 ∧ regFld s .BUF_QUEUE_BANK q 15 0 < x.depth + c.cells
      ∧ bankPossible s q c.cells then bankCopy q c s
  else die s

/-- R359: place a copy on a host, mirror or recirculation queue, or drop it with `reason`. -/
def placeOther (q : Nat) (c : Copy) (reason : Nat) (s : State) : State :=
  if 1048576 ≤ copiesInUse s then dropCopy q c drQueueLimit s
  else if (queueOf s q).depth + c.cells ≤ queueMax s q then linkCopy q c s
  else dropCopy q c reason s

/-- Fetch whole frames from the head of a queue's bank while the budget and the reserve last (R358): the budget left. -/
def fetchQueue : Nat → Nat → Nat → State → Nat × State
  | 0, _, budget, s => (budget, s)
  | k + 1, q, budget, s =>
    match (queueOf s q).bank with
    | [] => (budget, s)
    | c :: r =>
      let room := regFld s .BUF_POOL_CFG 0 31 16 - s.buf.fetchUsed
      let got := takeCells c.cells s
      if budget < c.cells ∨ room < c.cells ∨ got.1.length < c.cells then (budget, s)
      else
        let c1 := { c with phys := got.1, fetched := true, offDie := true, from_ := s.clk.tick + 8 }
        let s1 := modBuf (fun b => { b with fetchUsed := b.fetchUsed + c.cells }) got.2
        let s2 := modQueue q (fun x =>
          let left := x.banked - c.cells
          { x with bank := r, banked := left, bankHead := if left = 0 then 0 else (x.bankHead + c.cells) % 256,
                   copies := x.copies ++ [c1], depth := x.depth + c.cells }) s1
        fetchQueue k q (budget - c.cells) s2

/-- Queues that hold banked cells, ascending from the one after the last served, wrapping. -/
def bankedQueues (s : State) : List Nat :=
  let l := (s.buf.queues.filter fun e => decide (0 < e.2.banked)).map (·.1)
  (l.filter fun q => decide (s.buf.lastFetch < q)) ++ (l.filter fun q => decide (q ≤ s.buf.lastFetch))

/-- Copies of queue `q` that a flush is still to unlink (R368). -/
def flushLeft (s : State) (q : Nat) : Nat := if q < 16384 then (FMap.get [] s.buf.flush (q / 8)).getD (q % 8) 0 else 0

/-- Step 6 of R345 (R358): fetch back from banked queues whose depth is below half their threshold; what a flush is to unlink is
unlinked from the bank (R368). -/
def fetchStep (s : State) : State :=
  let go (a : Nat × State) (q : Nat) : Nat × State :=
    let t := a.2
    if 2 * (queueOf t q).depth < regFld t .BUF_QUEUE_BANK q 15 0 ∧ 0 < a.1 ∧ flushLeft t q = 0 then
      let n := (queueOf t q).bank.length
      let r := fetchQueue n q a.1 t
      if r.1 < a.1 then (r.1, modBuf (fun b => { b with lastFetch := q }) r.2) else r
    else a
  ((bankedQueues s).foldl go (60, s)).2

/-- Mark the first frame of a list that waits for its HBM read as on die. -/
def arriveTx (u : Nat) : List TxFrame → Option (List TxFrame)
  | [] => none
  | f :: r => if f.offDie ∧ f.queue = u then some ({ f with offDie := false } :: r) else (arriveTx u r).map (f :: ·)

/-- Mark the first copy of a list that waits for its HBM read as on die. -/
def arriveCopy : List Copy → List Copy
  | [] => []
  | c :: r => if c.offDie then { c with offDie := false } :: r else c :: arriveCopy r

/-- The HBM read of the oldest fetched frame of a queue that is still off die arrives: a frame already granted, else the
first such copy (R358, R568). -/
def fetchArrive (q : Nat) (s : State) : State :=
  match arriveTx (q % 8) (portOf s (q / 8)).tx with
  | some l => modPort (q / 8) (fun x => { x with tx := l }) s
  | none => modQueue q (fun x => { x with copies := arriveCopy x.copies }) s

/-! ### Replication and residue (R362 to R367) -/

/-- A residue copy waits for the queue. -/
def residueWaits (s : State) (q : Nat) : Bool := s.buf.residue.any fun r => decide (r.queue = q)

/-- The queue is ready for a multicast copy of `n` cells (R364), the copy's own wait set apart. -/
def mcReady (s : State) (q n : Nat) (others : Bool) : Bool :=
  decide ((queueOf s q).banked = 0 ∧ (queueOf s q).depth + n ≤ queueMax s q ∧ 0 < s.buf.replBudget) && !others

/-- Link a multicast copy: one copy of the tick's replication budget. -/
def linkMulticast (q f cells g : Nat) (s : State) : State :=
  countPair (fixedKey 3 g) 0 1
    (linkCopy q { frame := f, kind := .mcast g, cells := cells, orig := if isPlaceholder f then storedLen s f else 0 }
      (modBuf (fun b => { b with replBudget := b.replBudget - 1 }) s))

/-- A residue drop (R366): counted per group and per port, event 0x1609 once per group per 1,024 ticks. -/
def dropResidue (r : Residue) (reason : Nat) (s : State) : State :=
  let p := r.queue / 8
  let s1 := countQueueDrop r.queue reason (storedLen s r.frame) s
  let s2 := countPair (fixedKey 6 p) 1 0 (countPair (fixedKey 5 r.group) 1 0 s1)
  unrefFrame r.frame false false (raiseLim 0x1609 0 r.group 1024 (w2 r.group ++ w2 p ++ w2 reason) s2)

/-- Take a residue copy off the list. -/
def residueErase (r : Residue) (s : State) : State := modBuf (fun b => { b with residue := b.residue.erase r }) s

/-- R364: one member's copy at retirement. The frame's reference for it is already counted. -/
def replicate (f cells g q : Nat) (s : State) : State :=
  let p := q / 8
  let drop (r : Nat) (t : State) : State := unrefFrame f false false (countQueueDrop q r (storedLen t f) t)
  let ready := mcReady s q cells (residueWaits s q)
  if 1048576 ≤ copiesInUse s then drop drQueueLimit s
  else if !(portOf s p).up && !ready then drop drMemberDown s
  else if (portOf s p).flushed then drop drHoldFlush s
  else if ready then linkMulticast q f cells g s
  else if 65536 ≤ s.buf.residue.length then
    raiseLim 0x160A 0 0 1024 (w2 g) (drop drQueueLimit s)
  else
    modBuf (fun b => { b with residue := b.residue ++
      [⟨f, q, cells, g, s.clk.tick, ticksOfNs (regFld s .BUF_MC_CFG 0 15 0 * 1000)⟩] }) s

/-- Ends of R366 that are due, in order of entry: residue copies whose time-out has come (first where both apply, R37), and those whose
port is down (R114). -/
def residueEnds (s : State) : State :=
  let timedOut (r : Residue) : Bool := decide (r.entered + r.rt ≤ s.clk.tick)
  let due := s.buf.residue.filter fun r => timedOut r || !(portOf s (r.queue / 8)).up
  forEach due (fun r t => dropResidue r (if timedOut r then drResidueTimeout else drMemberDown) (residueErase r t)) s

/-- R365: retries that are due at this tick, in order of entry tick and entry. -/
def residueRetries (s : State) : State :=
  let due := s.buf.residue.filter fun r => decide (r.entered < s.clk.tick ∧ (s.clk.tick - r.entered) % 16 = 0)
  let go (r : Residue) (t : State) : State :=
    let others := (t.buf.residue.erase r).any fun x => decide (x.queue = r.queue)
    if (portOf t (r.queue / 8)).flushed then dropResidue r drHoldFlush (residueErase r t)
    else if mcReady t r.queue r.cells others then linkMulticast r.queue r.frame r.cells r.group (residueErase r t)
    else t
  forEach due go s

/-- The members of a multicast group that take a copy, as of tick `a`, in ascending index (R363). -/
def mcMembers (s : State) (g inPort a : Nat) : List Nat :=
  let d := mcGroupAt s g a
  if tb d 63 then
    (List.range (fld d 30 19)).filterMap fun i =>
      let m := mcMemberAt s (fld d 18 0 + i) a
      if tb m 63 && !(tb d 31 && fld m 10 0 = inPort) then some (uqOf (fld m 10 0) (fld m 13 11)) else none
  else []

/-! ### Flow control (R349, R350) -/

/-- R349 for one owner: flow control is asserted or released from the next tick on. -/
def evalOwnerFc (o : Nat) (s : State) : State :=
  let w := ownerOf s o
  let t := dynThreshold s o
  let xoff : Int := regFld s .BUF_FC_CFG 0 11 0
  let hyst : Int := regFld s .BUF_FC_CFG 0 27 16
  if !w.fc ∧ t - xoff ≤ (w.shUsed : Int) + w.hdUsed then release (.fc o true) s
  else if w.fc ∧ w.hdUsed = 0 ∧ (w.shUsed : Int) ≤ t - xoff - hyst then release (.fc o false) s
  else s

/-- The flow control that the buffer asserts towards a port's MAC (R350): bit 8 PAUSE, bits 7 to 0 PFC priorities; none under TX_MODE
0b00, nor under the reserved 0b11, which is stored, evaluates its owners and gives them headroom, and sends nothing (DESIGN CHOICE,
notes/assumptions/156.md). -/
def fcWantedOf (s : State) (p : Nat) : Nat :=
  let on (c : Nat) : Bool := (ownerOf s (8 * p + c)).fc
  match regFld s .MAC_FC_CFG p 3 2 with
  | 1 => if (List.range 8).any on then 256 else 0
  | 2 => (List.range 8).foldl (fun a q => a + (if on (regFld s .ADM_PORT_PCPMAP p (3 * q + 2) (3 * q)) then 2 ^ q else 0)) 0
  | _ => 0

/-- Step 7 of R345: evaluate the ingress owners of every port whose TX_MODE is not 0b00. A port whose TX_MODE no longer sends has
nothing advertised (R98). -/
def flowControlStep (s : State) : State :=
  let ports := (regInstances s .MAC_FC_CFG).filter fun p => decide (regFld s .MAC_FC_CFG p 3 2 ≠ 0)
  let mute := (s.ports.filter fun e => e.2.fcSent ≠ 0 && (regFld s .MAC_FC_CFG e.1 3 2 = 0 || regFld s .MAC_FC_CFG e.1 3 2 = 3)).map (·.1)
  forEach mute (fun p => modPort p fun x => { x with fcSent := 0 })
    (forEach ports (fun p => forEach (List.range 8) fun c => evalOwnerFc (8 * p + c)) s)

/-! ### Flushing (R368, R369) -/

/-- Begin a flush of a port: every copy linked or banked in its unicast queues before this tick. -/
def flushBegin (p : Nat) (s : State) : State :=
  let left := (List.range 8).map fun u => (queueOf s (uqOf p u)).copies.length + (queueOf s (uqOf p u)).bank.length
  if (left.all fun n => n = 0) then s
  else modBuf (fun b => { b with flush := FMap.put b.flush p left }) s

/-- Unlink the head copy of a queue, on die first, then banked; a copy whose HBM read has not arrived waits (R368). -/
def flushHead (q : Nat) (s : State) : Option State :=
  let x := queueOf s q
  match x.copies, x.bank with
  | c :: r, _ =>
    if c.offDie then none
    else some (flushLinked q c (modQueue q (fun x => { x with copies := r }) s))
  | [], c :: r =>
    let head := if x.banked = c.cells then 0 else (x.bankHead + c.cells) % 256
    let s1 := modQueue q (fun x => { x with bank := r, banked := x.banked - c.cells, bankHead := head }) s
    some (dropBanked c.frame (flushMirrors c (countQueueDrop q drHoldFlush (storedLen s c.frame) s1)))
  | [], [] => none

/-- Flush up to `budget` copies of queues `u` to 7 of a port: copies left per queue, the budget left. -/
def flushPort : Nat → Nat → Nat → List Nat → State → List Nat × Nat × State
  | 0, _, b, l, s => (l, b, s)
  | k + 1, q, b, l, s =>
    match l with
    | [] => ([], b, s)
    | n :: rest =>
      if n = 0 then
        let r := flushPort k (q + 1) b rest s
        (0 :: r.1, r.2)
      else if b = 0 then (n :: rest, 0, s)
      else
        match flushHead q s with
        | none =>
          let r := flushPort k (q + 1) b rest s
          ((if (queueOf s q).copies.isEmpty ∧ (queueOf s q).bank.isEmpty then 0 else n) :: r.1, r.2)
        | some t => flushPort k q (b - 1) ((n - 1) :: rest) t

/-- R368: unlink up to 512 frames from the flushing ports, ports ascending. -/
def flushStep (s : State) : State :=
  let go (a : Nat × State) (e : Nat × List Nat) : Nat × State :=
    let r := flushPort 600 (8 * e.1) a.1 e.2 a.2
    let t := modBuf (fun b => { b with flush :=
      if (r.1.all fun n => n = 0) then FMap.erase b.flush e.1 else FMap.put b.flush e.1 r.1 }) r.2.2
    (r.2.1, t)
  (s.buf.flush.foldl go (512, s)).2

/-! ### Commands -/

/-- CELL_RETURN (R339). -/
def execCellReturn (cell : Fin 524288) (eccBad : Bool) (s : State) : Host.Outcome State Fault Refusal :=
  .next (returnCell cell.val eccBad s)

/-- ASH_REFILL (R338). -/
def execAshRefill (slice : Fin 16) (s : State) : Host.Outcome State Fault Refusal := .next (ashRefillOp slice.val s)

/-- ASH_SPILL (R338). -/
def execAshSpill (slice : Fin 16) (s : State) : Host.Outcome State Fault Refusal := .next (ashSpillOp slice.val s)

/-- RESIDUE_RETRY (R365). -/
def execResidueRetry (s : State) : Host.Outcome State Fault Refusal := .next (residueRetries s)

/-- RESIDUE_TIMEOUT (R366). -/
def execResidueTimeout (s : State) : Host.Outcome State Fault Refusal := .next (residueEnds s)

/-- BANK_FETCH_ARRIVE (R358). -/
def execBankFetchArrive (queue : Fin 16384) (s : State) : Host.Outcome State Fault Refusal :=
  .next (fetchArrive queue.val s)

end Sys2Proof.Machine
end

