-- ==== Sys2Proof/Machine/TimeUnit.lean ====
section
/-! DEFINITION. The time unit (chapter 13): the time-of-day counter, steps and slew, timestamps, triggers, pulse per second. -/

namespace Sys2Proof.Machine

/-! ### The counter (R437 to R442) -/

/-- The time of day wraps at 2^48 s. -/
def todMod : Nat := 1000000000 * 2 ^ 96

/-- A time of day plus an offset, both in 2^-48 ns. -/
def todAdd (t : Nat) (d : Int) : Nat := (((t : Int) + d) % (todMod : Int)).toNat

/-- A time of day from SEC, NS and FRAC. -/
def todOf (sec ns frac : Nat) : Nat := (sec * 1000000000 + ns) * 2 ^ 48 + frac * 2 ^ 32

/-- SEC, NS, FRAC, and TS32 of a time of day (R437, R440). -/
def todSec (t : Nat) : Nat := t / 2 ^ 48 / 1000000000
def todNs (t : Nat) : Nat := t / 2 ^ 48 % 1000000000
def todFrac (t : Nat) : Nat := t / 2 ^ 32 % 2 ^ 16
def ts32 (t : Nat) : Nat := t / 2 ^ 48 % 2 ^ 32

/-- The 12 bytes in which an event carries a time of day (Table HOST-14). -/
def todBytes (t : Nat) : List Byte := leBytes 6 (todSec t) ++ leBytes 4 (todNs t) ++ leBytes 2 (todFrac t)

/-- The bounds of INC (R439). -/
def incMin : Nat := 78632849493889
def incMax : Nat := 78993137464078

/-- The advance of a tick without slew, 2^-48 ns (R438). -/
def plainAdvance (inc : Nat) : Nat := 40 * (2 ^ 48 + inc)

/-- The margin of R442 in the direction of the slew, in 2^-32 ns, rounded down. -/
def slewMargin (c : TimeCore) : Nat := 40 * (if c.slew < 0 then c.inc - incMin else incMax - c.inc) / 2 ^ 16

/-- The slew share of a tick's advance, 2^-32 ns (R442): 2.56 ps is 10,995,116 units (notes/assumptions/15.md). -/
def slewShare (c : TimeCore) : Int :=
  let a : Nat := Nat.min c.slew.natAbs (Nat.min 10995116 (slewMargin c))
  if c.slew < 0 then -(a : Int) else a

/-- The counter at the next tick boundary (R438, R442). -/
def advanceCore (c : TimeCore) : TimeCore :=
  { c with tod := todAdd c.tod (plainAdvance c.inc + slewShare c * 2 ^ 16), slew := c.slew - slewShare c }

/-- Carry out a time command (Table TIME-1) under a jump threshold in µs: the state, or the status that refuses it. -/
def timeJudge (jump : Nat) (a : TimeAct) (c : TimeCore) : Except Nat TimeCore :=
  match a with
  | .stepSet v => if c.locked then .error stLocked else .ok { c with tod := v % todMod, locked := true }
  | .stepAdjust o =>
    if c.locked then
      if (c.slew + o * 2 ^ 16).natAbs ≤ jump * 1000 * 2 ^ 32 then .ok { c with slew := c.slew + o * 2 ^ 16 } else .error stJump
    else .ok { c with tod := todAdd c.tod (o * 2 ^ 32), locked := true }
  | .rate w => if incMin ≤ w ∧ w ≤ incMax then .ok { c with inc := w } else .error stRange
  | .unlock => .ok (if c.locked then { c with locked := false, slew := 0 } else c)

/-- The opcode that a time command came with (Table HOST-8). -/
def timeOpcode : TimeAct → Nat
  | .stepSet _ => 0x50
  | .stepAdjust _ => 0x50
  | .rate _ => 0x51
  | .unlock => 0x52

/-- JUMP_THRESH. -/
def jumpThresh (s : State) : Nat := regFld s .TIME_CFG 0 15 0

/-- A time command at its effect tick (R441): the status of its completion. -/
def timeApply (a : TimeAct) (s : State) : Nat × State :=
  let t := s.clk.tick
  let old := s.time.core
  match timeJudge (jumpThresh s) a old with
  | .error st => (st, raiseEv 0x1902 0 (w2 (timeOpcode a) ++ w2 st) s)
  | .ok c =>
    let s1 := modTime (fun u => { u with core := c, acts := (t, a) :: u.acts }) s
    let stepped (x : State) : State :=
      raiseEv 0x1901 0 (w4 t ++ todBytes c.tod) (modTime (fun u => { u with steps := t :: u.steps }) x)
    (stOk, match a with
      | .stepSet _ => stepped s1
      | .stepAdjust _ => if old.locked then s1 else stepped s1
      | .rate w => if old.inc = w then s1 else raiseEv 0x1904 0 (w4 t ++ w8 w) s1
      | .unlock => if old.locked then raiseEv 0x1903 0 (w4 t) s1 else s1)

/-- The boundary of a tick: the counter advances; the tick before is kept. -/
def timeAdvance (s : State) : State :=
  let c := s.time.core
  let t := s.clk.tick
  modTime (fun u => { u with
    core := advanceCore c
    hist := ({ tt := c.tod, inc := c.inc, share := slewShare c, locked := c.locked, slew := c.slew } :: u.hist).take 4096
    acts := u.acts.filter fun a => decide (t < a.1 + 1024)
    steps := u.steps.filter fun k => decide (t < k + 131072) }) s

/-- The time state of a tick, the current one or one of the kept ones. -/
def timeAt (s : State) (k : Nat) : TickTime :=
  let c := s.time.core
  let now : TickTime := { tt := c.tod, inc := c.inc, share := slewShare c, locked := c.locked, slew := c.slew }
  if s.clk.tick ≤ k then now else s.time.hist.getD (s.clk.tick - 1 - k) { tt := 0, inc := c.inc, share := 0, locked := false, slew := 0 }

/-- TT(k) of R440. -/
def ttAt (s : State) (k : Nat) : Nat := (timeAt s k).tt

/-- The time of day at CK_TIME cycle `j` of tick `k` (R438, R442). -/
def todAt (s : State) (k j : Nat) : Nat :=
  let x := timeAt s k
  todAdd x.tt (j * (2 ^ 48 + x.inc) + Int.tdiv (x.share * 2 ^ 16 * j) 40)

/-- The counter `n` ticks ahead, from the changes known to take effect until then (R452). -/
def coreAhead (s : State) : Nat → TimeCore × Nat
  | 0 => (s.time.core, jumpThresh s)
  | n + 1 =>
    let b := coreAhead s n
    let e := s.clk.tick + n + 1
    let due := s.writes.filter fun w => w.eff = e
    due.foldl (fun a w => match w.act with
      | .time x => match timeJudge a.2 x a.1 with
        | .ok c => (c, a.2)
        | .error _ => a
      | .reg addr v m =>
        if addr = Reg.addr .TIME_CFG 0 then
          (a.1, Nat.max 1 (fld (v % 2 ^ 32 &&& m ||| a.2 &&& (2 ^ 32 - 1 - m)) 15 0))
        else a
      | _ => a) (advanceCore b.1, b.2)

/-- A step took effect in ticks `a` to `b`. -/
def steppedIn (s : State) (a b : Nat) : Bool := s.time.steps.any fun k => decide (a ≤ k ∧ k ≤ b)

/-- R450: a TS32 value has reached a target. -/
def reached (x y : Nat) : Bool := decide ((x + 2 ^ 32 - y % 2 ^ 32) % 2 ^ 32 < 2 ^ 31)

/-- SUBTICK × 0.8 ns in 2^-48 ns. -/
def subtick (n : Nat) : Nat := n * 4 * 2 ^ 48 / 5

/-! ### Ingress timestamps (R443, R444) -/

/-- TS32, FRAC and STEPPED of a time. -/
def stampOf (t : Nat) (stepped : Bool) : Nat × Nat × Bool := (ts32 t, todFrac t, stepped)

/-- R443: the timestamp of a Hearth frame with arrival tick `t`, capture delta `c` and SUBTICK `n`. -/
def hearthStamp (s : State) (t c n : Nat) : Nat × Nat × Bool :=
  let base := if c < 1024 then ttAt s (t - c) else todAdd (ttAt s t) (-(c * plainAdvance (timeAt s t).inc : Nat))
  stampOf (todAdd base (subtick n)) (steppedIn s (t - c + 1) t)

/-- Stamp a frame whose arrival tick has come. -/
def stampRx (s : State) (r : Rx) : Rx :=
  match r.ts, r.capture with
  | none, some (c, n) =>
    if r.arrival ≤ s.clk.tick then { r with ts := some (hearthStamp s r.arrival c n), capture := none } else r
  | _, _ => r

/-- R444: the timestamp of a plain-lane frame. -/
def plainStamp (s : State) (lane k j : Nat) : Nat × Nat × Bool :=
  stampOf (todAdd (todAt s k j) (-(regFld s .TIME_LANE_COMP lane 15 0 * 2 ^ 44 : Nat))) (steppedIn s (k + 1) s.clk.tick)

/-! ### Egress timestamps (R445 to R449) -/

/-- The timestamp outcome of a TX descriptor is known (R449). -/
def tsOutcome (desc tsid seq t : Nat) (valid : Bool) (s : State) : State :=
  modHost (fun h => { h with txDone := h.txDone.map fun d =>
    if d.id = desc then { d with tsWait := false, tsid := tsid, seq := seq, ts32 := t, tsValid := valid, tsLost := !valid }
    else d }) s

/-- Take an outstanding departure report off the list. -/
def tsTake (tsid : Nat) (s : State) : State :=
  modTime (fun u => { u with tsPend := u.tsPend.filter fun p => p.tsid ≠ tsid }) s

/-- R447: a departure time becomes a record. -/
def tsAppend (p : TsPending) (w1 t frac : Nat) (s : State) : State :=
  let seq := s.time.nextSeq
  let s1 := tsTake p.tsid (modTime (fun u => { u with nextSeq := (seq + 1) % 65536 }) s)
  if s1.time.fifo.length < 4096 then
    tsOutcome p.inj p.tsid seq t true
      (vectorPend 3 (modTime (fun u => { u with fifo := u.fifo ++ [(seq + p.tsid * 65536, w1, t, frac)] }) s1))
  else
    tsOutcome p.inj p.tsid seq 0 false (raiseLim 0x1905 0 0 1024 (w4 seq) (regCount .TIME_TSF_OVF_CNT 0 s1))

/-- A departure time is known: the record, relayed to the partner for a solo port of a pair (R446, R457). -/
def tsDepart (p : TsPending) (plain : Bool) (dep time : Nat) (s : State) : State :=
  let w1 := p.port + 2 ^ 11 * b2n plain + 2 ^ 12 * b2n (steppedIn s (p.grant + 1) dep) + 2 ^ 16 * p.qp
  let s1 := if plain && inPair s then
      flueSend 0x40 0 s.clk.tick ([2] ++ List.replicate 7 0 ++ leBytes 2 0 ++ leBytes 2 p.tsid ++ leBytes 4 w1
        ++ leBytes 4 (ts32 time) ++ leBytes 4 (todFrac time)) s
    else s
  tsAppend p w1 (ts32 time) (todFrac time) s1

/-- The outstanding departure report of a TSID. -/
def tsPending (s : State) (tsid : Nat) : Option TsPending := s.time.tsPend.find? fun p => p.tsid = tsid

/-- No departure time in time (R448). -/
def tsMiss (tsid port : Nat) (s : State) : State :=
  raiseLim 0x1906 0 0 1024 (w2 tsid ++ w2 port) (regCount .TIME_TSF_TIMEOUT_CNT 0 s)

/-- R448: the departure report of a TSID is overdue. -/
def tsTimeout (tsid : Nat) (s : State) : State :=
  match tsPending s tsid with
  | none => s
  | some p =>
    if p.grant + 256 ≤ s.clk.tick then
      let seq := s.time.nextSeq
      tsOutcome p.inj tsid seq 0 false
        (tsMiss tsid p.port (tsTake tsid (modTime (fun u => { u with nextSeq := (seq + 1) % 65536 }) s)))
    else s

/-- R446: a Hearth timestamp report, by its TSID, the low 8 bits of the departure tick and SUBTICK. One that names no outstanding
request is counted and otherwise ignored (R448). -/
def tsReport (tsid low sub : Nat) (s : State) : State :=
  match tsPending s tsid with
  | none => regCount .TIME_TSF_TIMEOUT_CNT 0 s
  | some p =>
    let d := s.clk.tick - (s.clk.tick + 256 - low) % 256
    tsDepart p false d (todAdd (ttAt s d) (subtick sub)) s

/-- R445: a frame that asks for its departure time takes the next TSID at its grant. -/
def tsGrant (port qp desc : Nat) (s : State) : Nat × State :=
  let id := s.time.nextTsid
  (id, modTime (fun u => { u with nextTsid := if id = 65535 then 1 else id + 1,
                                  tsPend := u.tsPend ++ [{ tsid := id, port := port, qp := qp, grant := s.clk.tick, inj := desc }] }) s)

/-! ### Triggers and pulse per second (R451, R453, R454) -/

/-- The number of a CK_TIME cycle: 40 to a tick. -/
def cycleNo (s : State) (j : Nat) : Nat := s.clk.tick * 40 + j

/-- Set or clear a trigger pin. -/
def setPin (k : Nat) (v : Bool) (u : TimeUnit) : TimeUnit :=
  { u with pins := if tb u.pins k = v then u.pins else if v then u.pins + 2 ^ k else u.pins - 2 ^ k }

/-- R451: an armed trigger whose target is reached in cycle `j` fires. -/
def triggerFire (k j : Nat) (s : State) : State :=
  let cfg := regVal s .TIME_TRIG_CFG k
  if cfg.getLsbD 0 && reached (ts32 (todAt s s.clk.tick j)) (regVal s .TIME_TRIG_TARGET k).toNat then
    let s1 := regSet .TIME_TRIG_CFG k (setFld (setFld cfg 0 0 0) 4 4 1) s
    let s2 := modTime (fun u =>
      match wfld cfg 2 1 with
      | 0 => { setPin k true u with pulses := FMap.set none u.pulses k (some (cycleNo s j + wfld cfg 23 8)) }
      | 1 => { setPin k true u with pulses := FMap.set none u.pulses k none }
      | 2 => { setPin k false u with pulses := FMap.set none u.pulses k none }
      | _ => { setPin k (!tb u.pins k) u with pulses := FMap.set none u.pulses k none }) s1
    whenB (cfg.getLsbD 3) (raiseEv 0x1909 0 (w2 k ++ w4 s.clk.tick)) s2
  else s

/-- A trigger pulse ends. -/
def pulseEnd (k j : Nat) (s : State) : State :=
  match FMap.get none s.time.pulses k with
  | none => s
  | some e =>
    if e ≤ cycleNo s j then modTime (fun u => { setPin k false u with pulses := FMap.set none u.pulses k none }) s else s

/-- R453: a rising edge of PPS_IN in cycle `j`. -/
def ppsCapture (j : Nat) (s : State) : State :=
  if regBit s .TIME_CFG 0 17 then
    let t := todAt s s.clk.tick j
    raiseEv 0x1908 0 (leBytes 6 (todSec t) ++ leBytes 4 (todNs t) ++ [0, 0])
      (modTime (fun u => { u with ppsNs := todNs t, ppsSec := todSec t % 2 ^ 32 }) s)
  else s

/-- R454: PPS_OUT rises in the cycle in which NS first reaches OFFSET in a second; a step never makes it rise. -/
def ppsRise (j : Nat) (s : State) : State :=
  let k := s.clk.tick
  let t := todAt s k j
  let before := if j = 0 then
      (let x := timeAt s (k - 1); todAdd x.tt (39 * (2 ^ 48 + x.inc) + Int.tdiv (x.share * 2 ^ 16 * 39) 40))
    else todAt s k (j - 1)
  let off := regFld s .TIME_PPS_OUT_OFF 0 29 0
  let fresh := off ≤ todNs t ∧ (todNs before < off ∨ todSec before ≠ todSec t)
  let byStep := j = 0 ∧ steppedIn s k k
  if regBit s .TIME_CFG 0 16 ∧ s.time.core.locked ∧ fresh ∧ ¬byStep ∧ s.time.ppsLast ≠ some (todSec t) then
    modTime (fun u => { u with ppsOut := true, ppsLast := some (todSec t),
                               ppsFall := some (cycleNo s j + regFld s .TIME_CFG 0 31 24 * 78125) }) s
  else s

/-- PPS_OUT falls when its width has passed, or when it is no longer enabled or the unit is UNLOCKED. -/
def ppsFallOp (j : Nat) (s : State) : State :=
  let due := match s.time.ppsFall with
    | some e => decide (e ≤ cycleNo s j)
    | none => true
  if due || !s.time.core.locked || !regBit s .TIME_CFG 0 16 then
    modTime (fun u => { u with ppsOut := false, ppsFall := none }) s
  else s

/-! ### Time in a pair (R455 to R457) -/

/-- The body of a state message for the current tick (Table TIME-4). -/
def timeMessage (s : State) : List Byte :=
  let c := s.time.core
  [1] ++ List.replicate 7 0 ++ leBytes 8 s.clk.tick ++ leBytes 2 (todFrac c.tod) ++ leBytes 4 (todNs c.tod)
    ++ leBytes 6 (todSec c.tod) ++ leBytes 6 c.inc ++ [BitVec.ofNat 8 (b2n c.locked), 0]
    ++ leBytes 8 (c.slew % (2 : Int) ^ 64).toNat

/-- The time state in a message: its tick and state. -/
def timeOfMessage (b : List Byte) : Nat × TimeCore :=
  let n (i k : Nat) : Nat := leVal (slice b i k)
  let sl := n 36 8
  (n 8 8, { tod := todOf (n 22 6) (n 18 4) (n 16 2), inc := n 28 6, locked := tb (n 34 1) 0,
            slew := if 2 ^ 63 ≤ sl then (sl : Int) - 2 ^ 64 else sl })

/-- A time state differs from this twin's own at its tick, as far as the message shows it. -/
def timeDiffers (s : State) (k : Nat) (c : TimeCore) : Bool :=
  let x := timeAt s k
  decide (x.tt / 2 ^ 32 ≠ c.tod / 2 ^ 32 ∨ x.inc ≠ c.inc ∨ x.locked ≠ c.locked ∨ x.slew ≠ c.slew)

/-- R456, R457: a TIME message. -/
def timeReceive (b : List Byte) (s : State) : State :=
  match (byteAt b 0).toNat with
  | 1 =>
    let m := timeOfMessage b
    -- bits below FRAC do not travel: they are free (notes/assumptions/2.md)
    let c := { m.2 with tod := m.2.tod + (Config.todBelowFrac s.clk.free).toNat }
    let adopt (x : State) : State := useFree (modTime (fun u => { u with adoptAt := u.adoptAt ++ [(m.1, c)] }) x)
    if countsAsStandby s then
      if timeDiffers s m.1 m.2 then
        adopt (raiseEv 0x1907 0 (w4 m.1) (regCount .TIME_CHECK_MISMATCH_CNT 0 s))
      else s
    else if s.twin.st = .pairing ∨ s.twin.st = .syncing ∨ s.twin.st = .warming then adopt s
    else s
  | 2 =>
    let w0 := leVal (slice b 8 4)
    let tsid := w0 / 65536
    let p := (tsPending s tsid).getD { tsid := tsid, port := 0, qp := 0, grant := 0, inj := 0 }
    tsAppend p (leVal (slice b 12 4)) (leVal (slice b 16 4)) (leVal (slice b 20 4) % 65536) s
  | _ => s

/-- A state of tick `k` extended by `n` ticks with the time commands applied since (R456). -/
def extendCore (s : State) (k : Nat) (c : TimeCore) : Nat → TimeCore
  | 0 => c
  | n + 1 =>
    let b := advanceCore (extendCore s k c n)
    let acts := (s.time.acts.filter fun a => a.1 = k + n + 1).reverse
    acts.foldl (fun x a => match timeJudge (jumpThresh s) a.2 x with
      | .ok y => y
      | .error _ => x) b

/-- R456: time states whose tick k + 256 has come are adopted. -/
def adoptDue (s : State) : State :=
  let t := s.clk.tick
  let due := s.time.adoptAt.filter fun a => decide (a.1 + 256 ≤ t)
  let rest := s.time.adoptAt.filter fun a => !decide (a.1 + 256 ≤ t)
  forEach due (fun a x => modTime (fun u => { u with core := extendCore x a.1 a.2 (t - a.1) }) x)
    (modTime (fun u => { u with adoptAt := rest }) s)

/-- R456: the state message that this twin sends at a multiple of 256. -/
def timeSend (s : State) : State :=
  if s.clk.tick % 256 = 0 && (s.twin.st = .active || s.twin.source) then flueSend 0x40 0 s.clk.tick (timeMessage s) s else s

/-! ### Commands -/

/-- TIME (R456). -/
def execTime (body : List Byte) (s : State) : Host.Outcome State Fault Refusal := .next (timeReceive body (hearNow s))

/-- TIME_STATE_ADOPT (R456). -/
def execTimeStateAdopt (s : State) : Host.Outcome State Fault Refusal := .next (adoptDue s)

/-- TRIGGER_FIRE (R451). -/
def execTriggerFire (trig : Fin 8) (cycle : Fin 40) (s : State) : Host.Outcome State Fault Refusal :=
  .next (triggerFire trig.val cycle.val s)

/-- TRIGGER_PULSE_END (R451). -/
def execTriggerPulseEnd (trig : Fin 8) (cycle : Fin 40) (s : State) : Host.Outcome State Fault Refusal :=
  .next (pulseEnd trig.val cycle.val s)

/-- PPS_IN_CAPTURE (R453). -/
def execPpsInCapture (cycle : Fin 40) (s : State) : Host.Outcome State Fault Refusal := .next (ppsCapture cycle.val s)

/-- PPS_OUT_RISE (R454). -/
def execPpsOutRise (cycle : Fin 40) (s : State) : Host.Outcome State Fault Refusal := .next (ppsRise cycle.val s)

/-- PPS_OUT_FALL (R454). -/
def execPpsOutFall (cycle : Fin 40) (s : State) : Host.Outcome State Fault Refusal := .next (ppsFallOp cycle.val s)

/-- TIMESTAMP_TIMEOUT (R448). -/
def execTimestampTimeout (tsid : Fin 65536) (s : State) : Host.Outcome State Fault Refusal := .next (tsTimeout tsid.val s)

end Sys2Proof.Machine
end

