-- ==== Sys2Proof/Machine/Port.lean ====
section
/-! DEFINITION. Front ports (chapter 03): link state, pause and flow control, EEE, flap damping, the transmit
MAC. -/

namespace Sys2Proof.Machine

/-! ### Link state (R111 to R119) -/

/-- The link of a port as this twin detects it (R57, R111). -/
def portDetected (s : State) (p : Nat) : Bool :=
  match hearthAt s p with
  | some (l, c) => (laneOf s l).st = .inService && tb (laneOf s l).chLink c
  | none => match plainAt s p with
    | some l => (laneOf s l).linked && laneOperates s l
    | none => false

/-- R111, R112: a change of a port's link is detected at the current tick; the partner is told. -/
def linkJudge (p : Nat) (s : State) : State :=
  let d := portDetected s p
  if d = (portOf s p).det then s
  else
    let t := s.clk.tick
    let s1 := modPort p (fun x => { x with det := d, ownAt := x.ownAt ++ [(t + admDelay s, d)] }) s
    if !inPair s && !s.twin.source then s1
    else flueSend 0x14 0 t (w2 p ++ [if d then 2 else 1, 0] ++ w4 t) s1

/-- The ports of a Hearth lane's valid channels, and of a plain lane. -/
def lanePorts (s : State) (l : Nat) : List Nat :=
  if isHearth (laneMode s l) then
    (List.range 8).filterMap fun c => let x := chanOf s l c; if x.2.2 then some x.1 else none
  else (laneOf s l).port.toList

/-- Judge the links of a lane's ports. -/
def linkJudgeLane (l : Nat) (s : State) : State := forEach (lanePorts s l) linkJudge s

/-- The port's link after the effect ticks passed, suppression apart (R112). A joiner follows its source, its own solo ports
stay down (R429). -/
def linkNow (s : State) (p : Nat) : Bool :=
  let x := portOf s p
  if s.twin.st = .warming then !((plainAt s p).isSome && ownsPort s p) && x.partnerUp
  else if !inPair s then x.ownUp
  else if (plainAt s p).isSome then if ownsPort s p then x.ownUp else x.partnerUp
  else x.ownUp && x.partnerUp

/-- R114: the port goes down at the current tick. -/
def portDown (p : Nat) (s : State) : State :=
  let t := s.clk.tick
  let s1 := modPort p (fun x => { x with up := false, downL := some t, lastDown := t, pauseExp := 0, pfcExp := [], pauseFrom := [],
                                         pauseStorm := false, pfcStorm := 0 }) s
  modTbl (fun x => { x with linkHist := x.linkHist ++ [(t, p, false)] }) s1

/-- R115: the port comes up at the current tick. -/
def portUp (p : Nat) (s : State) : State :=
  modTbl (fun x => { x with linkHist := x.linkHist ++ [(s.clk.tick, p, true)] })
    (modPort p (fun x => { x with up := true, downL := none, lastUp := s.clk.tick, flushed := false }) s)

/-- A time of `n` seconds has passed since tick `t`. -/
def secondsPassed (s : State) (t n : Nat) : Bool := decide (n * 5000000000 ≤ (s.clk.tick - t) * 256)

/-- R117: a flap at the current tick; too many of them suppress the port. -/
def flap (p : Nat) (s : State) : State :=
  let t := s.clk.tick
  let s1 := modPort p (fun x => { x with flaps := (t :: x.flaps).take 16 }) s
  let limit := regFld s .MAC_LINK_CFG p 11 8
  let window := regFld s .MAC_LINK_CFG p 19 12
  let n := ((portOf s1 p).flaps.filter fun f => decide ((t - f) * 256 ≤ window * 5000000000)).length
  if limit ≠ 0 ∧ limit < n ∧ ¬(portOf s p).suppressed then
    raiseEv 0x1106 p (w2 p) (modPort p (fun x => { x with suppressed := true }) s1)
  else s1

/-- Bring a port's state in line with its link and suppression. A change of the link, which was `was`, is reported whether the
port is suppressed or not (R118, R123). -/
def linkSettle (p : Nat) (was : Bool) (s : State) : State :=
  let now := linkNow s p
  let s0 := if was = now then s else raiseEv (if now then 0x1101 else 0x1102) p (w2 p) s
  let s1 := if was && !now then flap p s0 else s0
  let want := now && !(portOf s1 p).suppressed
  if want = (portOf s1 p).up then s1 else if want then portUp p s1 else portDown p s1

/-- Carry out the link transitions of one effect tick together, this twin's and the partner's (R112). -/
def linkTransitions (p : Nat) (es : List (Nat × Bool × Bool)) (s : State) : State :=
  let was := linkNow s p
  linkSettle p was (forEach es (fun e => modPort p fun x =>
    if e.2.1 then { x with partnerUp := e.2.2 } else { x with ownUp := e.2.2 }) s)

/-- The link transitions of a port that are due, oldest first: tick, partner's, up. -/
def linkDue (s : State) (p : Nat) : List (Nat × Bool × Bool) :=
  let x := portOf s p
  let t := s.clk.tick
  sortBy (fun a b => decide (a.1 ≤ b.1))
    (((x.ownAt.map fun e => (e.1, false, e.2)) ++ x.partnerAt.map fun e => (e.1, true, e.2)).filter fun e =>
      decide (e.1 ≤ t))

/-- Carry out every link transition of a port that is due, and the judgement of R119. -/
def linkEffects (p : Nat) (s : State) : State :=
  let t := s.clk.tick
  let due := linkDue s p
  let s1 := modPort p (fun x => { x with ownAt := x.ownAt.filter fun e => decide (t < e.1),
                                         partnerAt := x.partnerAt.filter fun e => decide (t < e.1) }) s
  let s2 := forEach (due.map (·.1)).eraseDups (fun k => linkTransitions p (due.filter fun e => e.1 = k)) s1
  match (portOf s2 p).recheck with
  | some r => if r ≤ t then linkSettle p (linkNow s2 p) (modPort p (fun x => { x with recheck := none }) s2) else s2
  | none => s2

/-- R116: the hold of a port that is down has passed: its queues are flushed, event 0x1103. -/
def holdExpiry (p : Nat) (s : State) : State :=
  let x := portOf s p
  match x.downL with
  | none => s
  | some l =>
    if !x.up && !x.flushed && decide (l + ticksOfNs (regFld s .MAC_LINK_CFG p 6 0 * 1000000) ≤ s.clk.tick) then
      raiseEv 0x1103 p (w2 p) (flushBegin p (modPort p (fun x => { x with flushed := true }) s))
    else s

/-- Suppression ends (R119). -/
def endSuppression (p : Nat) (s : State) : State :=
  if (portOf s p).suppressed then
    raiseEv 0x1107 p (w2 p) (modPort p (fun x => { x with suppressed := false, recheck := some (s.clk.tick + 1) }) s)
  else s

/-- R119: the port has been quiet for FLAP_QUIET seconds. -/
def flapQuiet (p : Nat) (s : State) : State :=
  let q := regFld s .MAC_LINK_CFG p 27 20
  let last := (portOf s p).flaps.headD 0
  if q ≠ 0 && secondsPassed s last q then endSuppression p s else s

/-- FLAP_CLEAR (R119, R120). -/
def flapClear (p : Nat) (s : State) : State := modPort p (fun x => { x with flaps := [] }) (endSuppression p s)

/-! ### Pause (R90 to R105) -/

/-- The port's address in network order. -/
def portMac (s : State) (p : Nat) : List Byte := beBytes 2 (regFld s .MAC_ADDR_HI p 15 0) ++ beBytes 4 (regVal s .MAC_ADDR_LO p).toNat

/-- The multicast address of MAC control frames. -/
def pauseMac : List Byte := [0x01, 0x80, 0xC2, 0x00, 0x00, 0x01]

/-- R90: the frame is a MAC control frame of the port. -/
def isControl (s : State) (p : Nat) (bs : List Byte) : Bool :=
  decide (p < 2048 ∧ slice bs 12 2 = [0x88, 0x08] ∧ (slice bs 0 6 = pauseMac ∨ slice bs 0 6 = portMac s p))

/-- A pause of `q` quanta in ticks: ⌈10 q ÷ r⌉ (R94). -/
def pauseTicks (s : State) (p q : Nat) : Nat := cdiv (100 * q) (portRate s p)

/-- The expiry of PAUSE (key 8) or of a PFC priority. -/
def pauseExpOf (x : Port) (k : Nat) : Nat := if k = 8 then x.pauseExp else FMap.get 0 x.pfcExp k

/-- Set an expiry. -/
def setPauseExp (k e : Nat) (x : Port) : Port :=
  if k = 8 then { x with pauseExp := e } else { x with pfcExp := FMap.set 0 x.pfcExp k e }

/-- The port, or a priority of it, is in storm (R103). -/
def inStorm (x : Port) (k : Nat) : Bool := if k = 8 then x.pauseStorm else tb x.pfcStorm k

/-- R94 to R96: a pause takes effect at the current tick. -/
def applyPause (p k q : Nat) (s : State) : State :=
  let t := s.clk.tick
  let e := t + pauseTicks s p q
  modPort p (fun x =>
    let running := decide (t ≤ pauseExpOf x k)
    let from_ := if e ≤ t then none else match FMap.get none x.pauseFrom k with
      | some f => if running then some f else some t
      | none => some t
    setPauseExp k e { x with pauseFrom := FMap.set none x.pauseFrom k from_ }) s

/-- Note the last pause with non-zero quanta (R105). -/
def notePause (p k q : Nat) (s : State) : State :=
  if q = 0 then s else modPort p (fun x => { x with lastNonZero := FMap.put x.lastNonZero k s.clk.tick }) s

/-- R91 to R97, R104: a MAC control frame is consumed at its admission tick. A PFC frame of which some enabled priorities are honoured
does not count as ignored, nor does one that enables none, unless IGN_PFC is 1 (DESIGN CHOICE, notes/assumptions/151.md). -/
def consumeControl (p : Nat) (bs : List Byte) (s : State) : State :=
  let s1 := statAdd p 10 1 s
  let op := beVal (slice bs 14 2)
  if op = 1 then
    let q := beVal (slice bs 16 2)
    let s2 := notePause p 8 q (statAdd p 11 1 s1)
    if regBit s .MAC_FC_CFG p 0 || inStorm (portOf s p) 8 then statAdd p 14 1 s2 else applyPause p 8 q s2
  else if op = 0x0101 then
    let v := beVal (slice bs 16 2)
    let on := (List.range 8).filter fun i => tb v i
    let quanta (i : Nat) : Nat := beVal (slice bs (18 + 2 * i) 2)
    let s2 := forEach on (fun i => notePause p i (quanta i)) (statAdd p 12 1 s1)
    let honoured := on.filter fun i => !regBit s .MAC_FC_CFG p 1 && !inStorm (portOf s p) i
    let s3 := forEach honoured (fun i => applyPause p i (quanta i)) s2
    if regBit s .MAC_FC_CFG p 1 || (!on.isEmpty && honoured.isEmpty) then statAdd p 14 1 s3 else s3
  else statAdd p 13 1 s1

/-- PAUSE holds the port (R95). -/
def portPaused (s : State) (p : Nat) : Bool := decide (s.clk.tick < (portOf s p).pauseExp)

/-- PFC holds a priority (R95). -/
def prioPaused (s : State) (p k : Nat) : Bool := decide (s.clk.tick < FMap.get 0 (portOf s p).pfcExp k)

/-- PFC holds unicast queue `u` (R95). -/
def queuePaused (s : State) (p u : Nat) : Bool := prioPaused s p (regFld s .MAC_PFC_MAP p (3 * u + 2) (3 * u))

/-- Expiries that have passed are forgotten, and with them the run of continuous pause (R95, R102). -/
def pauseExpiry (p : Nat) (s : State) : State :=
  let t := s.clk.tick
  modPort p (fun x => (List.range 9).foldl (fun y k =>
    if pauseExpOf y k ≤ t then setPauseExp k 0 { y with pauseFrom := FMap.set none y.pauseFrom k none } else y) x) s

/-- R103: a pause held beyond the watchdog is cleared and no longer honoured. -/
def pauseWatch (p : Nat) (s : State) : State :=
  let wd := regFld s .MAC_WATCHDOG p 15 0
  let x := portOf s p
  let long := (List.range 9).filter fun k =>
    match FMap.get none x.pauseFrom k with
    | some f => decide (s.clk.tick < pauseExpOf x k ∧ wd * 5000000 < (s.clk.tick - f) * 256)
    | none => false
  if wd = 0 then s
  else forEach long (fun k t =>
    raiseEv 0x1104 p (w2 p ++ w2 (if k = 8 then 0xFF else k))
      (modPort p (fun y =>
        let z := setPauseExp k 0 { y with pauseFrom := FMap.set none y.pauseFrom k none }
        if k = 8 then { z with pauseStorm := true } else { z with pfcStorm := z.pfcStorm ||| 2 ^ k }) t)) s

/-- A storm ends (R105). -/
def endStorm (p k : Nat) (s : State) : State :=
  if inStorm (portOf s p) k then
    raiseEv 0x1105 p (w2 p)
      (modPort p (fun y => if k = 8 then { y with pauseStorm := false } else { y with pfcStorm := y.pfcStorm - 2 ^ k }) s)
  else s

/-- R105: storms without a pause of non-zero quanta for STORM_RECOVER ms end. -/
def stormQuiet (p : Nat) (s : State) : State :=
  let r := regFld s .MAC_WATCHDOG p 31 16
  let quiet := (List.range 9).filter fun k =>
    decide (r * 5000000 ≤ (s.clk.tick - FMap.get 0 (portOf s p).lastNonZero k) * 256)
  if r = 0 then s else forEach quiet (endStorm p) s

/-- STORM_CLEAR (R105). -/
def stormClear (p : Nat) (s : State) : State := forEach (List.range 9) (endStorm p) s

/-! ### Ordered sets and preambles (R49 to R54, Tables LANE-3 to LANE-6) -/

/-- An ordered set's eight bytes, CRC-8 included (Table LANE-5). -/
def osetBytes (sub d1 d2 d3 d5 d6 : Nat) : List Byte :=
  let b := [BitVec.ofNat 8 d1, BitVec.ofNat 8 d2, BitVec.ofNat 8 d3, BitVec.ofNat 8 (sub * 16 + 0xA), BitVec.ofNat 8 d5,
            BitVec.ofNat 8 d6]
  0x4B :: b ++ [crc8 b]

/-- The egress preamble (Table LANE-4). -/
def egressPreamble (ch ver eseq tsid : Nat) : List Byte :=
  let b := [BitVec.ofNat 8 (ch + (if ver = 2 then 8 else 0) + (if tsid = 0 then 0 else 16))] ++ beBytes 3 eseq ++ beBytes 2 tsid
  b ++ [crc8 b]

/-- The next ESEQ of a channel, which the frame takes (R51). -/
def takeEseq (l c : Nat) (s : State) : Nat × State :=
  let n := FMap.get 0 (laneOf s l).eseq c
  (n, modLane l (fun x => { x with eseq := FMap.set 0 x.eseq c ((n + 1) % 2 ^ 24) }) s)

/-! ### Transmission (R83 to R89) -/

/-- Put a frame on the wire: whole, or cut off with an inverted FCS; on a Hearth channel with its preamble and its
frame-status set; for a placeholder, idle (R431). -/
def putOnWire (p : Nat) (f : TxFrame) (inverted : Bool) (s : State) : State :=
  let s1 := movedBytes p f.bytes.length s
  if isPlaceholder f.srcPos then sendLane (.idle p) s
  else match hearthAt s p with
  | some (l, c) =>
    sendLane (.oset l (osetBytes 0 (c + 32 * b2n inverted) 0 0 0 (f.eseq % 256)))
      (sendLane (.frame l (some (egressPreamble c (laneOf s l).hver f.eseq (f.tsid.getD 0))) f.bytes inverted) s1)
  | none => match plainAt s p with
    | some l => sendLane (.frame l none f.bytes inverted) s1
    | none => s1

/-- The frame that the port is sending. -/
def sending (x : Port) : Option TxFrame :=
  match x.tx with
  | f :: _ => if f.started.isSome then some f else none
  | [] => none

/-- No other channel of the port's Hearth lane is in the middle of a frame (R56). -/
def laneFree (s : State) (p : Nat) : Bool :=
  match hearthAt s p with
  | some (l, _) => (lanePorts s l).all fun r => r = p || (sending (portOf s r)).isNone
  | none => true

/-- The port is at a frame boundary and may send: up, enabled, awake, nothing on the wire, its MAC this twin's (R99, R107, R114, R433). -/
def atBoundary (s : State) (p : Nat) : Bool :=
  let x := portOf s p
  x.up && portEnabled s p && (sending x).isNone && laneFree s p && !x.txLpi && decide (x.wakeUntil ≤ s.clk.tick) && ownsPort s p

/-- Flow control is asserted that the port has not advertised yet (R99). -/
def pauseOwed (s : State) (p : Nat) : Bool :=
  let x := portOf s p
  decide (Nat.lor (fcWantedOf s p) x.fcSent ≠ x.fcSent)

/-- The first granted frame that PFC does not hold, and how many stand before it (R95). -/
def nextFrame (s : State) (p : Nat) : Option (TxFrame × Nat) :=
  (portOf s p).tx.zipIdx.find? fun e => decide (8 ≤ e.1.queue) || !queuePaused s p e.1.queue

/-- The first CT_THRESH cells of a frame, or all of its cells, are staged (R83). -/
def thresholdStaged (s : State) (p : Nat) (f : TxFrame) : Bool :=
  decide (Nat.min (portOf s p).ctThresh f.cells.length ≤ f.staged)

/-- R83, R95, R99, R107, R114: a granted frame may start. -/
def mayStart (s : State) (p : Nat) : Bool :=
  match nextFrame s p with
  | some (f, _) => s.clk.forwarding && atBoundary s p && !portPaused s p && !pauseOwed s p && decide (f.grant + 2 ≤ s.clk.tick)
      && !f.offDie && thresholdStaged s p f
  | none => false

/-- Give frames the ESEQs of a list, in order: ESEQs rise in the order in which a channel's frames are sent (R51;
notes/assumptions/152.md). -/
def renumber (es : List Nat) (fs : List TxFrame) : List TxFrame := (fs.zip es).map fun e => { e.1 with eseq := e.2 }

/-- The `i`-th granted frame goes ahead of the frames that PFC holds. -/
def bringForward (i : Nat) (x : Port) : Port :=
  match x.tx[i]? with
  | some f => { x with tx := renumber (x.tx.map (·.eseq)) (f :: x.tx.eraseIdx i) }
  | none => x

/-- Change the frame at the front of a port's transmit MAC. -/
def modHead (g : TxFrame → TxFrame) (x : Port) : Port :=
  match x.tx with
  | f :: r => { x with tx := g f :: r }
  | [] => x

/-- R83: the first block of the granted frame leaves; on a plain lane its departure time is taken in cycle `j` (R446). -/
def txStart (p j : Nat) (s : State) : State :=
  if mayStart s p then
    let s1 := modPort p (fun x => modHead (fun f => { f with started := some s.clk.tick })
      (bringForward (((nextFrame s p).map (·.2)).getD 0) x)) s
    match (nextFrame s p).bind (·.1.tsid), plainAt s p with
    | some id, some l =>
      match tsPending s1 id with
      | some q => tsDepart q true s.clk.tick (todAdd (todAt s s.clk.tick j) (regFld s .TIME_LANE_COMP l 31 16 * 2 ^ 44 : Nat)) s1
      | none => s1
    | _, _ => s1
  else s

/-- The frame being sent leaves the MAC. -/
def txDrop (p : Nat) (s : State) : State := modPort p (fun x => { x with tx := x.tx.drop 1 }) s

/-- R85: CT_THRESH rises by 2 cells; the decay count restarts. -/
def ctRaise (p : Nat) (s : State) : State :=
  let old := (portOf s p).ctThresh
  let new := Nat.min 64 (old + 2)
  let s1 := modPort p (fun x => { x with ctThresh := new, decay := 0 }) s
  if old < 64 ∧ new = 64 then raiseEv 0x1109 p (w2 p) s1 else s1

/-- R113: the link is physically lost while a frame is being sent. -/
def linkLossAbort (p : Nat) (s : State) : State :=
  match sending (portOf s p) with
  | none => s
  | some f => countDrop drLinkDownAbort f.rxLen (statAdd p 30 1 (putOnWire p f true (txDrop p s)))

/-- All cells of a frame are staged (R568). -/
def fullyStaged (f : TxFrame) : Bool := decide (f.cells.length ≤ f.staged)

/-- R84, R87: the frame being sent runs out of staged data; `lost` says that the link is lost in the same CK_CORE cycle (R88). -/
def underrun (p : Nat) (lost : Bool) (s : State) : State :=
  match sending (portOf s p) with
  | none => s
  | some f =>
    if fullyStaged f then s
    else if lost then linkLossAbort p s
    else
    let s1 := raiseLim 0x1108 p p 1024 (w2 p)
      (countDrop drUnderrun f.rxLen (statAdd p 29 1 (putOnWire p f true (txDrop p s))))
    if inPair s then
      flueSend 0x14 0 s.clk.tick (w2 p ++ [3, 0] ++ w4 s.clk.tick)
        (modPort p (fun x => { x with ctRaiseAt := x.ctRaiseAt ++ [assignTick s] }) s1)
    else ctRaise p s1

/-- Raises of CT_THRESH agreed with the partner that are due (R87). -/
def ctRaisesDue (p : Nat) (s : State) : State :=
  let t := s.clk.tick
  let due := (portOf s p).ctRaiseAt.filter fun e => decide (e ≤ t)
  forEach due (fun _ => ctRaise p) (modPort p (fun x => { x with ctRaiseAt := x.ctRaiseAt.filter fun e => decide (t < e) }) s)

/-- R86: CT_THRESH falls by 2 cells after 2^20 frames without underrun. -/
def ctDecay (p : Nat) (s : State) : State :=
  if regBit s .MAC_TX_CT p 15 ∧ 2 ^ 20 ≤ (portOf s p).decay then
    modPort p (fun x => { x with ctThresh := Nat.max (regFld s .MAC_TX_CT p 6 0) (x.ctThresh - 2), decay := 0 }) s
  else s

/-- Counts of a frame sent (Table MAC-3); octets as IEEE 802.3 counts aOctetsTransmittedOK (notes/assumptions/17.md). -/
def countSent (p : Nat) (bs : List Byte) (s : State) : State :=
  statAdd p 26 (b2n (isBroadcast bs)) (statAdd p 25 (b2n (isGroup bs && !isBroadcast bs))
    (statAdd p 24 (bs.length - 18) (statAdd p 23 1 s)))

/-- R86: a frame counts towards the decay of CT_THRESH. -/
def countDecay (p : Nat) (s : State) : State :=
  if regBit s .MAC_TX_CT p 15 then modPort p (fun x => { x with decay := x.decay + 1 }) s else s

/-- R86: the last byte of the frame being sent leaves, all its cells staged. In a pair the frame has counted towards the decay at its
grant (R87; notes/assumptions/153.md). -/
def txEnd (p : Nat) (s : State) : State :=
  match sending (portOf s p) with
  | none => s
  | some f =>
    if fullyStaged f then
      let s1 := (if isPlaceholder f.srcPos then id else countSent p f.bytes) (putOnWire p f false (txDrop p s))
      if f.counted then s1 else countDecay p s1
    else s

/-! ### Staging (R568) -/

/-- Stage the cells of one frame, in order, while the port may stage `b` more and their slices serve reads (`u` counts the reads of each
slice in this tick): the cells staged, what the port has left, the reads. -/
def stageCells : List Nat → Nat → FMap Nat → Nat → Nat × Nat × FMap Nat
  | [], b, u, n => (n, b, u)
  | c :: cs, b, u, n =>
    if b = 0 ∨ 64 ≤ FMap.get 0 u (c / 32768) then (n, b, u) else stageCells cs (b - 1) (FMap.upd 0 u (c / 32768) (· + 1)) (n + 1)

/-- Stage the cells of a port's granted frames, oldest first; a frame that is not on die yet waits. -/
def stageFrames : List TxFrame → Nat → FMap Nat → List TxFrame × FMap Nat
  | [], _, u => ([], u)
  | f :: r, b, u =>
    if f.offDie then let x := stageFrames r b u; (f :: x.1, x.2)
    else
      let a := stageCells (f.cells.drop f.staged) b u f.staged
      let x := stageFrames r a.2.1 a.2.2
      ({ f with staged := a.1 } :: x.1, x.2)

/-- R568: the transmit cell reads of the current tick, 32 to a port and 64 to a slice, ports ascending. -/
def stageStep (s : State) : State :=
  let busy := (s.ports.filter fun e => !e.2.tx.isEmpty).map (·.1)
  let go (a : FMap Nat × State) (p : Nat) : FMap Nat × State :=
    let x := stageFrames (portOf a.2 p).tx 32 a.1
    (x.2, modPort p (fun y => { y with tx := x.1 }) a.2)
  (busy.foldl go ([], s)).2

/-! ### Generated flow control (R98 to R101) -/

/-- A PAUSE frame, or a PFC frame for the priorities of `vec` with quanta for those of `on`. -/
def pauseFrame (s : State) (p : Nat) (pfc : Bool) (vec on q : Nat) : List Byte :=
  let body := if pfc then [0x01, 0x01] ++ beBytes 2 vec
      ++ (List.range 8).flatMap fun i => beBytes 2 (if tb on i then q else 0)
    else [0x00, 0x01] ++ beBytes 2 (if on = 0 then 0 else q)
  let bs := slice (pauseMac ++ portMac s p ++ [0x88, 0x08] ++ body) 0 60
  bs ++ fcsBytes bs

/-- Send a generated frame for the flow control now wanted, ahead of every granted frame, whose ESEQs move up behind it (R51, R99, R101;
notes/assumptions/152.md). -/
def sendPause (p : Nat) (s : State) : State :=
  let x := portOf s p
  let want := fcWantedOf s p
  let pfc := regFld s .MAC_FC_CFG p 3 2 = 2
  let q := regFld s .MAC_FC_CFG p 31 16
  let bs := pauseFrame s p pfc (Nat.lor want x.fcSent % 256) (if pfc then want % 256 else want) q
  let s1 := modPort p (fun x => { x with fcSent := want, fcSentAt := s.clk.tick, fcQuanta := q }) s
  let s2 := movedBytes p bs.length (countSent p bs (statAdd p (if pfc then 28 else 27) 1 s1))
  match hearthAt s p with
  | some (l, c) =>
    let e := takeEseq l c s2
    let es := x.tx.map (·.eseq) ++ [e.1]
    let own := es.headD e.1
    sendLane (.oset l (osetBytes 0 c 0 0 0 (own % 256)))
      (sendLane (.frame l (some (egressPreamble c (laneOf s l).hver own 0)) bs false)
        (modPort p (fun y => { y with tx := renumber (es.drop 1) y.tx }) e.2))
  | none => sendLane (.pause p bs) s2

/-- TX_MODE lets the port send generated frames (R98). -/
def generates (s : State) (p : Nat) : Bool := let m := regFld s .MAC_FC_CFG p 3 2; m = 1 || m = 2

/-- R99: newly asserted flow control is advertised at a frame boundary. In transmit LPI the frame waits until the port has left it, for
which it gives no reason itself (DESIGN CHOICE, notes/assumptions/154.md). -/
def pauseSend (p : Nat) (s : State) : State :=
  if generates s p && atBoundary s p && pauseOwed s p then sendPause p s else s

/-- R100: released flow control is advertised with quanta 0, asserted flow control again at half the advertised time. -/
def pauseAgain (p : Nat) (s : State) : State :=
  let x := portOf s p
  let want := fcWantedOf s p
  let released := decide (Nat.lor want x.fcSent ≠ want)
  let half := decide (want ≠ 0 ∧ pauseTicks s p x.fcQuanta ≤ 2 * (s.clk.tick - x.fcSentAt))
  if generates s p && atBoundary s p && x.fcSent ≠ 0 && (released || half) then sendPause p s else s

/-! ### Energy-Efficient Ethernet (R106 to R109) -/

/-- All eight unicast queues of a port are empty. -/
def portEmpty (s : State) (p : Nat) : Bool :=
  (List.range 8).all fun u => (queueOf s (uqOf p u)).copies.isEmpty && (queueOf s (uqOf p u)).bank.isEmpty

/-- Note that a port's queues hold a frame: they are empty from the next tick on at the earliest. -/
def noteEmpty (p : Nat) (s : State) : State :=
  if portEmpty s p then s else modPort p (fun x => { x with emptyFrom := s.clk.tick + 1 }) s

/-- R106, R108: a port empty for IDLE ticks enters transmit LPI. Nothing but a frame takes it out again: a port whose EEE_EN is cleared
in LPI stays in it until a queue holds a frame (DESIGN CHOICE, notes/assumptions/155.md). -/
def lpiEnter (p : Nat) (s : State) : State :=
  let x := portOf s p
  if regBit s .MAC_EEE_CFG p 0 && !x.txLpi && portEmpty s p && decide (x.emptyFrom + regFld s .MAC_EEE_CFG p 15 4 ≤ s.clk.tick) then
    let s1 := modPort p (fun x => { x with txLpi := true }) s
    match plainAt s p with
    | some l => sendLane (.lpi l true) s1
    | none => s1
  else s

/-- Count a tick in LPI (R109), and out of LPI for the energy interval (R395). -/
def countLpi (p : Nat) (s : State) : State :=
  let x := portOf s p
  let s1 := statAdd p 31 (b2n x.txLpi) (statAdd p 15 (b2n x.rxLpi) s)
  if x.txLpi || x.rxLpi || !portEnabled s p then s1
  else modEgr (fun g => { g with activeTicks := FMap.upd 0 g.activeTicks p (· + 1) }) s1

/-! ### Commands -/

/-- TX_FIRST_BLOCK (R83). -/
def execTxFirstBlock (port : Fin 2048) (cycle : Nat) (s : State) : Host.Outcome State Fault Refusal :=
  .next (txStart port.val cycle s)

/-- UNDERRUN (R84, R88). -/
def execUnderrun (port : Fin 2048) (linkLost : Bool) (s : State) : Host.Outcome State Fault Refusal :=
  .next (underrun port.val linkLost s)

/-- CT_DECAY (R86). -/
def execCtDecay (port : Fin 2048) (s : State) : Host.Outcome State Fault Refusal := .next (ctDecay port.val s)

/-- TX_FRAME_END (R86). -/
def execTxFrameEnd (port : Fin 2048) (s : State) : Host.Outcome State Fault Refusal := .next (txEnd port.val s)

/-- LINK_LOSS_ABORT (R113). -/
def execLinkLossAbort (port : Fin 2048) (s : State) : Host.Outcome State Fault Refusal := .next (linkLossAbort port.val s)

/-- PAUSE_EXPIRY (R95). -/
def execPauseExpiry (port : Fin 2048) (s : State) : Host.Outcome State Fault Refusal := .next (pauseExpiry port.val s)

/-- PAUSE_FRAME_SEND (R99). -/
def execPauseFrameSend (port : Fin 2048) (s : State) : Host.Outcome State Fault Refusal := .next (pauseSend port.val s)

/-- PAUSE_REFRESH (R100). -/
def execPauseRefresh (port : Fin 2048) (s : State) : Host.Outcome State Fault Refusal := .next (pauseAgain port.val s)

/-- PAUSE_STORM (R103). -/
def execPauseStorm (port : Fin 2048) (s : State) : Host.Outcome State Fault Refusal := .next (pauseWatch port.val s)

/-- STORM_RECOVER (R105). -/
def execStormRecover (port : Fin 2048) (s : State) : Host.Outcome State Fault Refusal := .next (stormQuiet port.val s)

/-- LPI_ENTER (R106). -/
def execLpiEnter (port : Fin 2048) (s : State) : Host.Outcome State Fault Refusal := .next (lpiEnter port.val s)

/-- LINK_DOWN_EFFECT (R114). -/
def execLinkDownEffect (port : Fin 2048) (s : State) : Host.Outcome State Fault Refusal :=
  .next (if (linkDue s port.val).any fun e => !e.2.2 then residueEnds (linkEffects port.val s) else s)

/-- LINK_UP_EFFECT (R115). -/
def execLinkUpEffect (port : Fin 2048) (s : State) : Host.Outcome State Fault Refusal :=
  .next (if (linkDue s port.val).any (fun e => e.2.2) || (portOf s port.val).recheck.isSome then linkEffects port.val s else s)

/-- LINK_HOLD_EXPIRY (R116). -/
def execLinkHoldExpiry (port : Fin 2048) (s : State) : Host.Outcome State Fault Refusal := .next (holdExpiry port.val s)

/-- FLAP_RELEASE (R119). -/
def execFlapRelease (port : Fin 2048) (s : State) : Host.Outcome State Fault Refusal := .next (flapQuiet port.val s)

end Sys2Proof.Machine
end

