-- ==== Sys2Proof/Machine/Lane.lean ====
section
/-! DEFINITION. Front lanes and receive MACs (chapters 02 and 03): ordered sets, training, stamps and proofs, wire errors,
clean decisions, the reception of frames. -/

namespace Sys2Proof.Machine

/-! ### Ordered sets (R50, R52, Tables LANE-5 and LANE-6) -/

/-- The CRC-8 of a received set is good. -/
def osetGood (o : OSet) : Bool := crc8 [o.d1, o.d2, o.d3, o.op, o.d5, o.d6] = o.crc

/-- Subtype of a set. -/
def osetSub (o : OSet) : Nat := o.op.toNat / 16

/-- D2 and D3 as one number, most significant byte first (notes/assumptions/18.md). -/
def osetD23 (o : OSet) : Nat := o.d2.toNat * 256 + o.d3.toNat

/-- The low 32 bits of the tick in a marker. -/
def markerTick (o : OSet) : Nat := ((o.d5.toNat * 256 + o.d6.toNat) * 256 + o.d1.toNat) * 256 + o.d2.toNat

/-- R18: the tick count that agrees with 16 bits and lies within 32,768 ticks of the current count; a value before tick 0 is
taken as tick 0 (notes/assumptions/19.md). -/
def reconstruct (now w : Nat) : Nat :=
  let lo := now + 32768
  now + (w % 65536 + 65536 - lo % 65536) % 65536 - 32768

/-! ### Wire errors and stamps (R58 to R63) -/

/-- Count and report a wire error (R61, R71, R72). -/
def wireCount (l : Nat) (s : State) : State := raiseLim 0x1008 l l 1024 (w2 l) (regCount .LANE_WIRE_ERR_CNT l s)

/-- Make a lane not clean for ticks `a` to `b`. -/
def addUnclean (l a b : Nat) (s : State) : State := modLane l (fun x => { x with unclean := x.unclean ++ [(a, b)] }) s

/-- A wire error of unknown stamp: not clean from the last good stamp through the next one (R62). -/
def wireErr (l : Nat) (s : State) : State :=
  wireCount l (modLane l (fun x => { x with openErr := some (x.openErr.getD (x.lastGood.getD 0)) }) s)

/-- A wire error confined to ticks `a` to `b` (R62, R63). -/
def wireErrAt (l a b : Nat) (s : State) : State := wireCount l (addUnclean l a b s)

/-- A good stamped block (R60, R62). -/
def goodStamp (l g : Nat) (s : State) : State :=
  modLane l (fun x => { x with
    unclean := match x.openErr with
      | some a => x.unclean ++ [(a, g)]
      | none => x.unclean
    openErr := none
    lastGood := some g
    highStamp := some (Nat.max g (x.highStamp.getD 0)) }) s

/-- A stamped block on a lane in ALIGN or in service: a stamp below the highest one is a stamp-order error (R58). -/
def takeStamp (l g : Nat) (s : State) : State :=
  let h := (laneOf s l).highStamp.getD 0
  if g < h then raiseEv 0x1006 l (w2 l) (addUnclean l g h s) else goodStamp l g s

/-- The proven tick of a lane (R60); none before its first stamp. -/
def provenTick (x : Lane) : Option Nat := x.highStamp.map (· - 1)

/-! ### Lane states (R46, Table LANE-2) -/

/-- A lane enters a training state: what that clears, raises and restarts (R46, R51, R63, R65, R72). A lane that enters IN_SERVICE
is not clean for any tick up to this one, in which it may have missed frames (R65, DEDUCED: notes/assumptions/146.md); leaving
IN_SERVICE forgets the last PSEQ of each channel (DESIGN CHOICE: notes/assumptions/147.md). -/
def laneEnter (l : Nat) (st : LaneState) (s : State) : State :=
  let old := (laneOf s l).st
  let t := s.clk.tick
  let solo := isSolo s
  let f (x : Lane) : Lane :=
    let y := { x with st := st, setsRx := 0, setsTx := 0, markers := 0, noMeet := false, refused := false }
    let z := if old = .inService then { y with lostPre := 0, pseq := [], statusSent := none } else y
    match st with
    | .disabled => { z with hver := 0, openErr := none, blockLock := false, lockLostAt := none }
    | .acquire => { z with trainFrom := t, blockLock := false, lockLostAt := none }
    | .align => if old = .negotiate then z else { z with trainFrom := t }
    | .outOfStep => { z with trainFrom := t }
    | .inService =>
      let w := { z with unclean := z.unclean ++ [(0, t)] }
      if solo then { w with eseq := [] } else w
    | .negotiate => z
  let s1 := modLane l f s
  let s2 := if old = .inService ∧ st ≠ .inService then raiseEv 0x1002 l (w2 l) s1 else s1
  let s3 := match st with
    | .inService => raiseEv 0x1001 l (w2 l) s2
    | .outOfStep => raiseEv 0x1003 l (w2 l) s2
    | _ => s2
  linkJudgeLane l s3

/-- A plain lane's PCS comes up (R72, R111). -/
def plainUp (l : Nat) (s : State) : State :=
  if (laneOf s l).linked || !laneOperates s l then s
  else linkJudgeLane l (raiseEv 0x1001 l (w2 l) (modLane l (fun y => { y with linked := true, blockLock := true, wired := true }) s))

/-- A plain lane's PCS goes down; a frame being sent on it ends (R72, R111, R113). -/
def plainDown (l : Nat) (s : State) : State :=
  if !(laneOf s l).linked then s
  else
    let s1 := modLane l (fun y => { y with linked := false, blockLock := false }) s
    let s2 := match (laneOf s l).port with
      | some p => linkLossAbort p (modPort p (fun y => { y with rxLpi := false }) s1)
      | none => s1
    linkJudgeLane l (raiseEv 0x1002 l (w2 l) s2)

/-- R46: block lock on a lane; a Hearth lane in ACQUIRE moves to NEGOTIATE, and a plain lane's PCS comes up. -/
def blockLocked (l : Nat) (s : State) : State :=
  if plainRate (laneMode s l) ≠ 0 then plainUp l s
  else if isHearth (laneMode s l) && laneOperates s l then
    let s1 := modLane l (fun x => { x with blockLock := true, lockLostAt := none }) s
    if (laneOf s l).st = .acquire then laneEnter l .negotiate s1 else s1
  else s

/-- The highest framing version the device advertises (R47). -/
def ownVmax (s : State) : Nat := regFld s .LANE_GCFG 0 0 0 + 1

/-- R23: the lane's marker interval is within ADM_DELAY − 8. -/
def markerOk (s : State) (l : Nat) : Bool := decide (regFld s .LANE_HCFG l 3 0 + 1 + 8 ≤ admDelay s)

/-- Event 0x1007, once in a training state (R45, R71). -/
def laneRefuse (l : Nat) (s : State) : State :=
  if (laneOf s l).refused then s else raiseEv 0x1007 l (w2 l) (modLane l (fun x => { x with refused := true }) s)

/-- R45, R47: the lane stays in NEGOTIATE, for its versions do not meet or its channel map is out of order. -/
def laneStays (s : State) (l : Nat) : Bool :=
  (laneOf s l).st = .negotiate && ((laneOf s l).noMeet || !chanMapOk s l)

/-- R47, R45: a training set is judged. A set agrees when the versions meet and its echo is 0 or the agreed version
(notes/assumptions/20.md). -/
def trainingSet (l : Nat) (o : OSet) (s : State) : State :=
  let d1 := o.d1.toNat
  let d2 := o.d2.toNat
  let s1 := modLane l (fun x => { x with partnerCap := d2 % 16, partnerChans := some (d2 / 16 + 1) }) s
  if (laneOf s l).st = .negotiate then
    let v := Nat.min (ownVmax s) (d1 % 16)
    if v < 1 ∨ v < d1 / 16 then
      let s2 := modLane l (fun x => { x with setsRx := 0, noMeet := true }) s1
      if (laneOf s l).noMeet then s2 else raiseEv 0x1004 l (w2 l) s2
    else if !chanMapOk s1 l then laneRefuse l (modLane l (fun x => { x with setsRx := 0, noMeet := false }) s1)
    else
      let e := o.d5.toNat
      modLane l (fun x => { x with hver := v, noMeet := false, setsRx := if e = 0 ∨ e = v then x.setsRx + 1 else 0 }) s1
  else s1

/-- R46: NEGOTIATE to ALIGN after 8 agreeing sets received and 8 sent, while the channel map is in order (R45). -/
def alignEnter (l : Nat) (s : State) : State :=
  let x := laneOf s l
  if x.st = .negotiate ∧ 8 ≤ x.setsRx ∧ 8 ≤ x.setsTx then
    if chanMapOk s l then laneEnter l .align s else laneRefuse l s
  else s

/-- R46: ALIGN to IN_SERVICE after 16 consecutive accepted markers; a marker interval above ADM_DELAY − 8 is refused (R23,
R71). -/
def serviceEnter (l : Nat) (s : State) : State :=
  let x := laneOf s l
  if x.st = .align ∧ 16 ≤ x.markers then
    if markerOk s l then laneEnter l .inService s else laneRefuse l s
  else s

/-- R46: training has not completed in time. A lane that R45 or R47 keeps in NEGOTIATE stays there: the time limit does not take
it back to ACQUIRE (DESIGN CHOICE: notes/assumptions/148.md). -/
def trainTimeoutOp (l : Nat) (s : State) : State :=
  let x := laneOf s l
  let training := x.st = .acquire ∨ x.st = .negotiate ∨ x.st = .align
  if training ∧ ¬laneStays s l ∧ x.trainFrom + ticksOfNs (regFld s .LANE_GCFG 0 15 8 * 1000000) ≤ s.clk.tick then
    laneEnter l .acquire (raiseEv 0x1005 l (w2 l) s)
  else s

/-- R48, R60: a tick marker. -/
def markerReceive (l : Nat) (o : OSet) (s : State) : State :=
  let t := s.clk.tick
  let w := markerTick o
  let g := reconstruct t (w % 65536)
  let highOk := decide (g / 65536 % 65536 = w / 65536)
  let intOk := decide (o.d3.toNat % 16 ≤ regFld s .LANE_HCFG l 3 0)
  match (laneOf s l).st with
  | .align =>
    if t ≤ g + 3 ∧ g ≤ t + 1 ∧ highOk ∧ intOk then takeStamp l g (modLane l (fun x => { x with markers := x.markers + 1 }) s)
    else modLane l (fun x => { x with markers := 0 }) s
  | .inService =>
    if t + 1 < g then s
    else if !highOk || !intOk then laneEnter l .outOfStep s
    else takeStamp l g s
  | _ => s

/-- R60: the proven tick has fallen more than 32 ticks behind. -/
def outOfStepCheck (l : Nat) (s : State) : State :=
  let x := laneOf s l
  if x.st = .inService ∧ isHearth (laneMode s l) ∧ (provenTick x).getD 0 + 32 < s.clk.tick then laneEnter l .outOfStep s else s

/-- R60: block lock has been lost for 32 ticks. -/
def lockLossCheck (l : Nat) (s : State) : State :=
  let x := laneOf s l
  match x.lockLostAt with
  | some a => if x.st = .inService ∧ a + 32 ≤ s.clk.tick then laneEnter l .outOfStep s else s
  | none => s

/-- R46: OUT_OF_STEP moves to ALIGN at the next tick. -/
def realign (l : Nat) (s : State) : State :=
  let x := laneOf s l
  if x.st = .outOfStep ∧ x.trainFrom < s.clk.tick then laneEnter l .align s else s

/-- R57, R109: a channel-status set. -/
def channelStatus (l : Nat) (o : OSet) (s : State) : State :=
  if (laneOf s l).st = .disabled then s
  else
    let lpi := o.d2.toNat
    let s1 := modLane l (fun x => { x with chLink := o.d1.toNat, chLpi := lpi, chFault := o.d3.toNat }) s
    let s2 := forEach (List.range 8) (fun c t =>
      let x := chanOf t l c
      if x.2.2 then modPort x.1 (fun y => { y with rxLpi := tb lpi c }) t else t) s1
    linkJudgeLane l s2

/-- The device's handling of one received set: a bad CRC-8 is a wire error on a lane that holds block lock, and ends a run of
agreeing training sets or of accepted markers (R46, R48, R52, R61). -/
def osetReceive (l : Nat) (o : OSet) (f : State → State) (s : State) : State :=
  if !isHearth (laneMode s l) || !(laneOf s l).blockLock then s
  else if osetGood o then f s
  else wireErr l (modLane l (fun x => { x with setsRx := 0, markers := 0 }) s)

/-! ### What the lanes send each tick (R46, R57) -/

/-- The training set that the device sends (Table LANE-6). -/
def ownTraining (s : State) (l : Nat) : List Byte :=
  let chans := ((List.range 8).filter fun c => (chanOf s l c).2.2).length
  osetBytes 4 (ownVmax s + 16) ((if laneMode s l = 5 then 7 else 3) * 16 + 15) 2 (laneOf s l).hver chans

/-- The tick marker of the current tick. -/
def ownMarker (s : State) (l : Nat) : List Byte :=
  let t := s.clk.tick
  osetBytes 1 (t / 256 % 256) (t % 256) (regFld s .LANE_HCFG l 3 0) (t / 2 ^ 24 % 256) (t / 65536 % 256)

/-- Link-up and LPI bits of the channel-status set that the device sends (R57, R108). -/
def ownStatus (s : State) (l : Nat) : Nat × Nat :=
  (List.range 8).foldl (fun a c =>
    let x := chanOf s l c
    if x.2.2 then (a.1 + 2 ^ c * b2n (portEnabled s x.1), a.2 + 2 ^ c * b2n (portOf s x.1).txLpi) else a) (0, 0)

/-- What a Hearth lane sends of its own in a tick. -/
def laneSends (l : Nat) (s : State) : State :=
  let x := laneOf s l
  match x.st with
  | .negotiate => modLane l (fun y => { y with setsTx := y.setsTx + 1 }) (sendLane (.oset l (ownTraining s l)) s)
  | .align => sendLane (.oset l (ownMarker s l)) s
  | .outOfStep => sendLane (.oset l (ownMarker s l)) s
  | .inService =>
    let c := ownStatus s l
    let due := match x.statusSent with
      | none => true
      | some (k, a, b) => decide ((a, b) ≠ c ∨ k + 64 ≤ s.clk.tick)
    if isHearth (laneMode s l) && due then
      modLane l (fun y => { y with statusSent := some (s.clk.tick, c.1, c.2) }) (sendLane (.oset l (osetBytes 3 c.1 c.2 0 0 0)) s)
    else s
  | _ => s

/-- The lanes that are not in their reset state. -/
def knownLanes (s : State) : List Nat := s.lanes.map (·.1)

/-- The timed part of a lane's tick. -/
def laneTick (l : Nat) (s : State) : State := laneSends l (realign l (lockLossCheck l (outOfStepCheck l s)))

/-! ### Clean decisions (R19, R20, R62, R65, R126) -/

/-- This twin's lane `l` is clean for tick `k`. -/
def laneClean (s : State) (l k : Nat) : Bool :=
  let x := laneOf s l
  let marked := x.unclean.any fun u => decide (u.1 ≤ k ∧ k ≤ u.2)
  if isHearth (laneMode s l) then
    decide (x.st = .inService) && (match x.highStamp with
      | some h => decide (k < h)
      | none => false)
    && !marked && (match x.openErr with
      | some a => decide (k < a)
      | none => true)
  else x.linked && laneOperates s l && !marked

/-- The clean bitmap of tick `k`, from the lanes of this twin. -/
def cleanMap (s : State) (k : Nat) : BitVec 512 :=
  (knownLanes s).foldl (fun b l => if laneClean s l k then b ||| (1#512 <<< l) else b) 0

/-- Count the lanes found not clean for tick `k`, and forget ranges below it (R71); a lane that is not enabled is not counted
(DESIGN CHOICE: notes/assumptions/149.md). -/
def countUnclean (k : Nat) (s : State) : State :=
  let on := (regInstances s .LANE_MODE).filter fun l => laneOn s l && !laneClean s l k
  let s1 := forEach on (fun l => regCount .LANE_UNCLEAN_CNT l) s
  forEach (knownLanes s1) (fun l => modLane l fun x => { x with unclean := x.unclean.filter fun u => decide (k < u.2) }) s1

/-! ### Enabling lanes (R41, R42) -/

/-- An enabled lane starts training, or, as the head of a group in disorder, is refused (R41, R46). -/
def laneStart (l : Nat) (s : State) : State :=
  if !groupOk s l then raiseEv 0x1007 l (w2 l) s
  else if isHearth (laneMode s l) then laneEnter l .acquire s
  else s

/-- A lane stops: ENABLE is cleared, or its bank loses power. -/
def laneStop (l : Nat) (s : State) : State :=
  let was := (laneOf s l).linked
  let s1 := modLane l (fun x => { x with linked := false, blockLock := false }) s
  let s2 := if was then raiseEv 0x1002 l (w2 l) s1 else s1
  if (laneOf s2 l).st = .disabled then linkJudgeLane l s2 else laneEnter l .disabled s2

/-- The start tick S has come (R512). -/
def started (s : State) : Bool :=
  match s.boot.startS with
  | some t => decide (t ≤ s.clk.tick)
  | none => false

/-- Before S a lane's ENABLE is held (R512). -/
def holdEnable (l : Nat) (on : Bool) (s : State) : State :=
  modBoot (fun b => { b with enables := (b.enables.filter fun x => x ≠ l) ++ (if on then [l] else []) }) s

/-- A lane whose group has come into disorder loses its link (R41); the links of the lane's ports are judged again. -/
def laneRejudge (l : Nat) (s : State) : State :=
  linkJudgeLane l (if (laneOf s l).linked && !laneOperates s l then plainDown l s else s)

/-- R42: a write of LANE_MODE takes effect; before the start tick its ENABLE is held (R512). -/
def laneModeEffect (l : Nat) (v : Word) (s : State) : State :=
  let old := regVal s .LANE_MODE l
  let hold := !started s
  let w := if hold then setFld v 4 4 0 else v
  let eff := if old.getLsbD 4 ∧ wfld w 3 0 ≠ wfld old 3 0 then setFld old 4 4 (wfld w 4 4) else w &&& 0x1FF
  let s1 := regSet .LANE_MODE l eff (if hold then holdEnable l (v.getLsbD 4) s else s)
  let s2 := if eff.getLsbD 4 ∧ ¬old.getLsbD 4 then laneStart l s1
    else if old.getLsbD 4 ∧ ¬eff.getLsbD 4 then laneStop l s1
    else s1
  forEach [l, l - l % 2, l - l % 4, l - l % 8] laneRejudge s2

/-- LANE_CTRL.RETRAIN: back to ACQUIRE; ignored when DISABLED, and on a plain lane, which has no training states (R71;
notes/assumptions/150.md). -/
def retrainLane (l : Nat) (s : State) : State := if (laneOf s l).st = .disabled then s else laneEnter l .acquire s

/-! ### Receive MAC (R73 to R82, R121, R122) -/

/-- R137: the governor class of a frame of an admitting port. -/
def governorClass (s : State) (p : Nat) (bs : List Byte) : Nat :=
  let cfg := regVal s .ADM_PORT_CFG p
  let tpid := beVal (slice bs 12 2)
  let tagged := tpid = 0x8100 ∨ tpid = 0x88A8 ∨ tpid = regFld s .ADM_PARSE_CFG 0 31 16
  if cfg.getLsbD 3 ∧ 16 ≤ bs.length ∧ tagged then
    let pcp := (byteAt bs 14).toNat / 32
    regFld s .ADM_PORT_PCPMAP p (3 * pcp + 2) (3 * pcp)
  else wfld cfg 2 0

/-- A frame reaches the hearth sequencer: held for its admission tick, or dropped with LATE_ARRIVAL after the decision tick
(R20). -/
def arrive (r : Rx) (s : State) : State :=
  if r.arrival + admDelay s < s.clk.tick + 5 then countDrop drLateArrival r.bytes.length (returnCells r.cells s)
  else modAdm (fun a => { a with arrived := a.arrived ++ [r] }) s

/-- R348: no free cell for a received frame; a frame of a front port makes its lane not clean. -/
def noCell (r : Rx) (s : State) : State :=
  let s1 := raiseLim 0x1606 0 0 1024 (w2 r.port ++ w4 r.arrival)
    (countDrop drIngressLimit r.wireLen (regCount .BUF_RX_NOCELL_CNT 0 s))
  if r.port < 2048 then addUnclean r.lane r.arrival r.arrival (regCount .MAC_RX_NOCELL_CNT r.port s1) else s1

/-- Send or queue relay data of lane `lane` and tick `k` (R130, R133). -/
def relayPut (m : FlueMsg) (lane k : Nat) (s : State) : State :=
  if s.twin.groups ≠ 0 then modOut (fun o => { o with flue := o.flue ++ [m] }) s
  else
    let held := s.adm.relayWait.foldl (fun a x => a + x.body.length) 0
    if held + m.body.length ≤ 4194304 then modAdm (fun a => { a with relayWait := a.relayWait ++ [m] }) s
    else if s.adm.relayLost.any fun e => decide (e = (lane, k)) then s
    else raiseLim 0x1204 0 0 1024 (w2 lane ++ w4 k)
      (regCount .ADM_RELAY_LOST 0 (modAdm (fun a => { a with relayLost := a.relayLost ++ [(lane, k)] }) s))

/-- The chunks of a relayed frame (R417). -/
def relayChunks : Nat → Nat → List Byte → List (Nat × List Byte × Bool)
  | 0, off, bs => [(off, bs, true)]
  | n + 1, off, bs =>
    if bs.length ≤ 1016 then [(off, bs, true)] else (off, bs.take 1016, false) :: relayChunks n (off + 1016) (bs.drop 1016)

/-- R130: the owner relays a frame that its MAC has written into cells. -/
def relaySend (r : Rx) (s : State) : State :=
  if relaysPort s r.port then
    let o := FMap.get 0 s.adm.relaySeq r.port
    let s1 := modAdm (fun a => { a with relaySeq := FMap.set 0 a.relaySeq r.port ((o + 1) % 65536) }) s
    forEach (relayChunks (r.bytes.length / 1016 + 1) 0 r.bytes) (fun c t =>
      relayPut { type := 0x30, flags := 0, tick := (if c.2.2 then r.arrival else t.clk.tick) % 2 ^ 32,
                 body := leBytes 2 r.port ++ [BitVec.ofNat 8 r.flags, BitVec.ofNat 8 (b2n c.2.2)] ++ leBytes 2 c.1
                   ++ leBytes 2 o ++ c.2.1 } r.lane r.arrival t) s1
  else s

/-- Write a frame into cells and hand it to the hearth sequencer (R79, R81, R335, R348). -/
def receiveStore (r : Rx) (relay : Bool) (s : State) : State :=
  let n := cellsOf r.bytes.length
  let got := takeCells n s
  if got.1.length < n then noCell r (returnCells got.1 got.2)
  else
    let r1 := { r with cells := got.1, cls := governorClass s r.port r.bytes, owner := 8 * r.port + governorClass s r.port r.bytes }
    let s1 := if r.flags % 8 ≠ 0 then statAdd r.port 8 1 got.2
      else statAdd r.port 3 (b2n (isBroadcast r.bytes)) (statAdd r.port 2 (b2n (isGroup r.bytes && !isBroadcast r.bytes))
        (statAdd r.port 1 (r.bytes.length - 18) (statAdd r.port 0 1 got.2)))
    arrive r1 (if relay then relaySend r1 s1 else s1)

/-- R73 to R82: a front MAC has received a whole frame. Octets are counted as IEEE 802.3 counts aOctetsReceivedOK
(notes/assumptions/17.md). -/
def macReceive (r : Rx) (s : State) : State :=
  let p := r.port
  let n := r.bytes.length
  let cfg := regVal s .MAC_PORT_CFG p
  let maxLen := wfld cfg 13 0
  let s1 := if 64 ≤ n then statAdd p (lengthStat n) 1 s else s
  let s2 := movedBytes p n s1
  let drop (stat reason : Nat) : State := countDrop reason n (statAdd p stat 1 s2)
  if !cfg.getLsbD 16 || (portOf s p).suppressed then drop 9 drPortSuppressed
  else if n < 64 then drop 6 drRunt
  else if r.flags % 8 ≠ 0 then
    if cfg.getLsbD 17 then
      receiveStore { r with bytes := r.bytes.take maxLen, flags := r.flags % 8 + 8 * b2n (decide (maxLen < n)),
                            errHq := some (wfld cfg 23 18) } true s2
    else if r.flags % 2 = 1 then drop 4 drFcsError
    else drop 5 drSymbolError
  else if maxLen < n then drop 7 drTooLong
  else receiveStore r true s2

/-- R61, R63: track the PSEQ of a channel; `from_` is the last good stamp before the frame, `g` the frame's stamp. -/
def trackPseq (l c q from_ g : Nat) (s : State) : State :=
  let x := laneOf s l
  let s1 := modLane l (fun y => { y with pseq := FMap.set none y.pseq c (some q) }) s
  match FMap.get none x.pseq c with
  | none => s1
  | some last =>
    let gap := (q + 2 ^ 25 - last - 1) % 2 ^ 24
    if gap = 0 then s1
    else if gap ≤ x.lostPre then modLane l (fun y => { y with lostPre := y.lostPre - gap }) s1
    else wireErrAt l from_ g (modLane l (fun y => { y with lostPre := 0 }) s1)

/-- R18, R49 to R64: a frame on a Hearth lane. -/
def hearthReceive (l : Nat) (f : HFrame) (s : State) : State :=
  let x := laneOf s l
  let t := s.clk.tick
  let n := f.data.length
  let b0 := (byteAt f.pre 0).toNat
  let c := b0 % 8
  let q := beVal (slice f.pre 1 3)
  let g := reconstruct t (beVal (slice f.pre 4 2))
  let chan := chanOf s l c
  if !isHearth (laneMode s l) || decide (x.st ≠ .inService) then s
  else if crc8 (slice f.pre 0 6) ≠ byteAt f.pre 6 then
    countDrop drPreambleCrc n (wireErr l (modLane l (fun y => { y with lostPre := y.lostPre + 1 }) s))
  else
    let from_ := x.lastGood.getD 0
    let s1 := if g ≤ t + 1 then takeStamp l g s else s
    let s2 := trackPseq l c q from_ g s1
    let s3 := if b2n (tb b0 3) + 1 ≠ x.hver then wireErrAt l g g s2 else s2
    let good := match f.status with
      | some o => osetGood o && decide (osetSub o = 0)
      | none => false
    let cut := tb b0 5
    let d1 := match f.status with
      | some o => if good then o.d1.toNat else 0
      | none => 0
    let flags := b2n (tb d1 4) + 2 * b2n (tb d1 3) + 4 * b2n cut
    let bad := match f.status with
      | some o => !osetGood o
      | none => false
    let s4 := if bad then wireErr l s3
      else if !good then wireErrAt l g g s3
      else if flags = 0 ∧ !fcsGood f.data then wireErrAt l g g s3
      else s3
    let capture := match f.status with
      | some o => if good && tb b0 3 && tb b0 4 then (osetD23 o, o.d5.toNat % 64) else (0, 0)
      | none => (0, 0)
    if !chan.2.2 then countDrop drChannelInvalid n s4
    else if t + 1 < g then countDrop drTickOutOfRange n s4
    else
      -- a frame without its status set is dropped: its lane is not clean for its tick (R53, R127)
      macReceive { port := chan.1, lane := l, arrival := g, bytes := f.data, wireLen := n, flags := flags, seq := q,
                   capture := some capture } s4

/-- R19, R37, R78, R444: a frame on a plain lane. -/
def plainReceive (l : Nat) (f : PFrame) (s : State) : State :=
  let x := laneOf s l
  let n := f.data.length
  if plainRate (laneMode s l) = 0 || !x.linked || !laneOperates s l then s
  else match x.port with
    | none => countDrop drChannelInvalid n s
    | some p =>
      macReceive { port := p, lane := l, arrival := s.clk.tick, bytes := f.data, wireLen := n,
                   flags := b2n (!fcsGood f.data) + 2 * b2n f.symErr,
                   ts := some (plainStamp s l f.sfdTick f.sfdCycle.val) } s

/-- R61, R78: a block error outside any frame, or a loss of lock. -/
def blockError (l : Nat) (lost : Bool) (s : State) : State :=
  let t := s.clk.tick
  if isHearth (laneMode s l) then
    if (laneOf s l).st = .disabled ∨ !(laneOf s l).blockLock then s
    else
      let s1 := wireErr l s
      if lost then
        modLane l (fun x => { x with blockLock := false, lockLostAt := some t, setsRx := 0, markers := 0 }) s1
      else s1
  else if (laneOf s l).linked then
    let s1 := wireErrAt l t t s
    if lost then plainDown l s1 else s1
  else s

/-- R109: a plain lane's PCS starts or stops signalling LPI. -/
def receiveLpiOp (l : Nat) (on : Bool) (s : State) : State :=
  match (laneOf s l).port with
  | some p => if plainRate (laneMode s l) = 0 then s else modPort p (fun x => { x with rxLpi := on }) s
  | none => s

/-- R111: a port's link is found up or down: on a plain lane by its PCS, on a Hearth channel from its lane. -/
def linkDetected (p : Nat) (up : Bool) (s : State) : State :=
  match plainAt s p with
  | some l => if up then plainUp l s else plainDown l s
  | none => linkJudge p s

/-! ### Commands -/

/-- LANE_BLOCK_LOCK (R46). -/
def execLaneBlockLock (lane : Fin 512) (s : State) : Host.Outcome State Fault Refusal := .next (blockLocked lane.val s)

/-- TRAINING_SET_RECEIVE (R47). -/
def execTrainingSetReceive (lane : Fin 512) (set : OSet) (s : State) : Host.Outcome State Fault Refusal :=
  .next (osetReceive lane.val set (trainingSet lane.val set) s)

/-- ALIGN_ENTRY (R46). -/
def execAlignEntry (lane : Fin 512) (s : State) : Host.Outcome State Fault Refusal := .next (alignEnter lane.val s)

/-- IN_SERVICE_ENTRY (R46). -/
def execInServiceEntry (lane : Fin 512) (s : State) : Host.Outcome State Fault Refusal := .next (serviceEnter lane.val s)

/-- TRAIN_TIMEOUT (R46). -/
def execTrainTimeout (lane : Fin 512) (s : State) : Host.Outcome State Fault Refusal := .next (trainTimeoutOp lane.val s)

/-- TICK_MARKER_RECEIVE (R48). -/
def execTickMarkerReceive (lane : Fin 512) (set : OSet) (s : State) : Host.Outcome State Fault Refusal :=
  .next (osetReceive lane.val set (markerReceive lane.val set) s)

/-- HEARTH_FRAME_RECEIVE (R18). -/
def execHearthFrameReceive (lane : Fin 512) (fr : HFrame) (s : State) : Host.Outcome State Fault Refusal :=
  .next (hearthReceive lane.val fr s)

/-- CHANNEL_STATUS_RECEIVE (R57). -/
def execChannelStatusReceive (lane : Fin 512) (set : OSet) (s : State) : Host.Outcome State Fault Refusal :=
  .next (osetReceive lane.val set (channelStatus lane.val set) s)

/-- RESERVED_ORDERED_SET (R52). -/
def execReservedOrderedSet (lane : Fin 512) (set : OSet) (s : State) : Host.Outcome State Fault Refusal :=
  .next (osetReceive lane.val set (modLane lane.val fun x => { x with reservedSets := x.reservedSets + 1 }) s)

/-- TIMESTAMP_REPORT_RECEIVE (R446). -/
def execTimestampReportReceive (lane : Fin 512) (set : OSet) (s : State) : Host.Outcome State Fault Refusal :=
  .next (osetReceive lane.val set
    (fun t => if (laneOf t lane.val).st = .inService then
        tsReport (osetD23 set) set.d6.toNat (set.d5.toNat % 64) t
      else t) s)

/-- LANE_OUT_OF_STEP (R60). -/
def execLaneOutOfStep (lane : Fin 512) (s : State) : Host.Outcome State Fault Refusal := .next (outOfStepCheck lane.val s)

/-- BLOCK_LOCK_LOSS (R60). -/
def execBlockLockLoss (lane : Fin 512) (s : State) : Host.Outcome State Fault Refusal := .next (lockLossCheck lane.val s)

/-- OUT_OF_STEP_REALIGN (R46). -/
def execOutOfStepRealign (lane : Fin 512) (s : State) : Host.Outcome State Fault Refusal := .next (realign lane.val s)

/-- PLAIN_FRAME_RECEIVE (R78). -/
def execPlainFrameReceive (lane : Fin 512) (fr : PFrame) (s : State) : Host.Outcome State Fault Refusal :=
  .next (plainReceive lane.val fr s)

/-- LINK_DETECT (R111). -/
def execLinkDetect (port : Fin 2048) (up : Bool) (s : State) : Host.Outcome State Fault Refusal :=
  .next (linkDetected port.val up s)

/-- LANE_BLOCK_ERROR (R61). -/
def execLaneBlockError (lane : Fin 512) (lockLost : Bool) (s : State) : Host.Outcome State Fault Refusal :=
  .next (blockError lane.val lockLost s)

/-- RECEIVE_LPI (R109). -/
def execReceiveLpi (lane : Fin 512) (on : Bool) (s : State) : Host.Outcome State Fault Refusal :=
  .next (receiveLpiOp lane.val on s)

end Sys2Proof.Machine
end

