-- ==== Sys2Proof/Machine/Parser.lean ====
section
/-! DEFINITION. The parser (R140 to R146, R566, R569): the parse result record of a frame's head. -/

namespace Sys2Proof.Machine

/-- ADM_PARSE_CFG: TPID3 and VXLAN_PORT. -/
structure ParseCfg where
  tpid3 : Nat
  vxlanPort : Nat
  deriving DecidableEq, Repr

/-- The parse result record (Table ADM-5). -/
structure Parse where
  trunc : Bool := false
  conflict : Bool := false
  l2only : Bool := false
  csumBad : Bool := false
  frag : Bool := false
  laterFrag : Bool := false
  ttlLe1 : Bool := false
  tunnel : Bool := false
  unkEtype : Bool := false
  unkL4 : Bool := false
  llc : Bool := false
  l3Off : Nat := 255
  l4Off : Nat := 255
  tunOff : Nat := 255
  il2Off : Nat := 255
  il3Off : Nat := 255
  il4Off : Nat := 255
  l3Type : Nat := 0
  il3Type : Nat := 0
  l4Type : Nat := 0
  il4Type : Nat := 0
  tagCount : Nat := 0
  tunType : Nat := 0
  ctrlKind : Nat := 0
  lastLayer : Nat := 0
  hdrCount : Nat := 0
  tci : List Nat := []
  etype : Nat := 0
  proto : Nat := 0
  dscp : Nat := 0
  ecn : Nat := 0
  ttl : Nat := 0
  daKind : Nat := 0
  opts : Bool := false
  extCount : Nat := 0
  l3Len : Nat := 0
  vni : Nat := 0
  cause : Nat := 0
  deriving DecidableEq, Repr

/-- The record's 32 bytes (Table ADM-5), with the frame length and the governor class. -/
def parseBytes (p : Parse) (len cls : Nat) : List Byte :=
  let t (i : Nat) : Nat := p.tci.getD i 0
  let flags := b2n p.trunc + 2 * b2n p.conflict + 4 * b2n p.l2only + 8 * b2n p.csumBad + 16 * b2n p.frag
    + 32 * b2n p.laterFrag + 64 * b2n p.ttlLe1 + 128 * b2n p.tunnel + 256 * b2n p.unkEtype + 512 * b2n p.unkL4
    + 1024 * b2n p.llc
  leBytes 2 flags
    ++ [p.l3Off, p.l4Off, p.tunOff, p.il2Off, p.il3Off, p.il4Off, p.l3Type + 16 * p.il3Type,
        p.l4Type + 16 * p.il4Type, p.tagCount + 4 * p.tunType + 16 * p.ctrlKind,
        p.lastLayer + 16 * p.hdrCount].map (BitVec.ofNat 8)
    ++ leBytes 2 (t 0) ++ leBytes 2 (t 1) ++ leBytes 2 (t 2) ++ leBytes 2 p.etype
    ++ [p.proto, p.dscp + 64 * p.ecn, p.ttl, p.daKind + 4 * b2n p.opts + 8 * p.extCount].map (BitVec.ofNat 8)
    ++ leBytes 2 p.l3Len ++ leBytes 2 (len % 2 ^ 14) ++ leBytes 3 p.vni ++ [BitVec.ofNat 8 (cls + 16 * p.cause)]

/-- The bytes before the FCS: the bytes that headers may occupy. -/
def frameBody (bs : List Byte) : List Byte := bs.take (bs.length - 4)

/-- Byte `i` of the body, zero beyond it. -/
def pb (body : List Byte) (i : Nat) : Nat := (byteAt body i).toNat

/-- Two bytes of the body, network order. -/
def pw (body : List Byte) (i : Nat) : Nat := pb body i * 256 + pb body (i + 1)

/-- A depth limit of R142 stops a header of length `n` at offset `o`: eight headers are parsed, or it does not lie whole
within the first 128 bytes. -/
def overLimit (p : Parse) (o n : Nat) : Bool := decide (8 ≤ p.hdrCount ∨ 128 < o + n)

/-- R142: a header is not parsed for a depth limit. -/
def stopTrunc (p : Parse) : Parse := { p with trunc := true }

/-- R143, R144: a length conflict; `l2` is the record as the outer L2 headers left it. -/
def stopConflict (l2 : Parse) (cause : Nat) : Parse := { l2 with conflict := true, l2only := true, cause := cause }

/-- One more header, of layer `k`. -/
def header (p : Parse) (k : Nat) : Parse := { p with hdrCount := p.hdrCount + 1, lastLayer := k }

/-- A last header of length `n`: judged, then taken into the record by `f`. -/
def leafHeader (l2 p : Parse) (body : List Byte) (o n k : Nat) (f : Parse → Parse) : Parse :=
  if overLimit p o n then stopTrunc p
  else if body.length < o + n then stopConflict l2 0x1
  else f (header p k)

/-- The L4 type of a protocol number: IPv4 protocol 1 is ICMP, IPv6 next header 58 is ICMPv6; none where unlisted. -/
def l4TypeOf (v6 : Bool) (proto : Nat) : Option Nat :=
  if proto = 6 then some 1 else if proto = 17 then some 2
  else if proto = 1 ∧ !v6 then some 3 else if proto = 58 ∧ v6 then some 4
  else if proto = 47 then some 5 else none

/-- An inner L4 header at `o`; `plen` is the inner IP payload length from `o` on (R143, R569). -/
def parseInnerL4 (l2 p : Parse) (body : List Byte) (v6 : Bool) (proto o plen : Nat) : Parse :=
  match l4TypeOf v6 proto with
  | none => { p with il4Type := 15 }
  | some t =>
    let n := if t = 1 then 20 else if t = 2 then 8 else if t = 5 then (if tb (pb body o) 7 then 8 else 4) else 4
    if overLimit p o n then stopTrunc p
    else if body.length < o + n then stopConflict l2 0x1
    else if t = 2 ∧ (pw body (o + 4) < 8 ∨ pw body (o + 4) ≠ plen) then stopConflict l2 0x7
    else
      let p1 := { header p 11 with il4Type := t, il4Off := o }
      if t = 2 ∧ (pw body (o + 2) = 319 ∨ pw body (o + 2) = 320) then
        leafHeader l2 p1 body (o + 8) 34 12 fun q => { q with ctrlKind := 5 }
      else p1

/-- Inner IPv6 extension headers: `left` more may be parsed; `fin` is the end of the inner payload. -/
def parseInnerExt : Nat → Parse → Parse → List Byte → Nat → Nat → Nat → Parse
  | left, l2, p, body, proto, o, fin =>
    if proto = 0 ∨ proto = 43 ∨ proto = 44 ∨ proto = 60 then
      match left with
      | 0 => stopTrunc p
      | k + 1 =>
        let n := (pb body (o + 1) + 1) * 8
        if overLimit p o n then stopTrunc p
        else if body.length < o + n then stopConflict l2 0x1
        else if fin < o + n then stopConflict l2 0x6
        else
          let p1 := header p 10
          if proto = 44 ∧ pw body (o + 2) / 8 ≠ 0 then p1
          else parseInnerExt k l2 p1 body (pb body o) (o + n) fin
    else parseInnerL4 l2 p body true proto o (fin - o)

/-- An inner IP header at `o`; `room` is the bytes its tunnel carries from `o` on (R143). -/
def parseInnerIp (l2 p : Parse) (body : List Byte) (v6 : Bool) (o room : Nat) : Parse :=
  if o < body.length ∧ pb body o / 16 ≠ (if v6 then 6 else 4) then p
  else if v6 then
    let plen := pw body (o + 4)
    if overLimit p o 40 then stopTrunc p
    else if body.length < o + 40 then stopConflict l2 0x1
    else if plen = 0 then stopConflict l2 0x5
    else if room < plen + 40 then stopConflict l2 0x9
    else parseInnerExt 2 l2 { header p 9 with il3Type := 2, il3Off := o } body (pb body (o + 6)) (o + 40) (o + 40 + plen)
  else
    let ihl := pb body o % 16
    let n := Nat.max 20 (ihl * 4)
    let tl := pw body (o + 2)
    if overLimit p o n then stopTrunc p
    else if body.length < o + n then stopConflict l2 0x1
    else if ihl < 5 then stopConflict l2 0x2
    else if tl < ihl * 4 then stopConflict l2 0x4
    else if room < tl then stopConflict l2 0x9
    else
      let p1 := { header p 9 with il3Type := 1, il3Off := o }
      if pw body (o + 6) % 8192 ≠ 0 then p1
      else parseInnerL4 l2 p1 body false (pb body (o + 9)) (o + n) (tl - n)

/-- A type field is a tag's TPID. -/
def isTpid (c : ParseCfg) (t : Nat) : Bool := decide (t = 0x8100 ∨ t = 0x88A8 ∨ t = c.tpid3)

/-- An inner Ethernet header at `o`, one inner tag at most; `fin` is the end of the outer IP payload. -/
def parseInnerEth (c : ParseCfg) (l2 p : Parse) (body : List Byte) (o fin : Nat) : Parse :=
  if overLimit p o 14 then stopTrunc p
  else if body.length < o + 14 then stopConflict l2 0x1
  else
    let p1 := { header p 7 with il2Off := o }
    let ip (q : Parse) (t a : Nat) : Parse :=
      if t = 0x0800 then parseInnerIp l2 q body false a (fin - a)
      else if t = 0x86DD then parseInnerIp l2 q body true a (fin - a)
      else q
    let t := pw body (o + 12)
    if isTpid c t then
      if overLimit p1 (o + 14) 4 then stopTrunc p1
      else if body.length < o + 18 then stopConflict l2 0x1
      else
        let p2 := header p1 8
        let t2 := pw body (o + 16)
        if isTpid c t2 then stopTrunc p2 else ip p2 t2 (o + 18)
    else ip p1 t (o + 14)

/-- The outer L4 header at `o`; `fin` is the end of the outer IP payload. -/
def parseL4 (c : ParseCfg) (l2 p : Parse) (body : List Byte) (v6 : Bool) (proto o fin : Nat) : Parse :=
  match l4TypeOf v6 proto with
  | none => { p with l4Type := 15, unkL4 := true }
  | some 1 => leafHeader l2 p body o 20 5 fun q => { q with l4Type := 1, l4Off := o }
  | some 2 =>
    if overLimit p o 8 then stopTrunc p
    else if body.length < o + 8 then stopConflict l2 0x1
    else if pw body (o + 4) < 8 ∨ pw body (o + 4) ≠ fin - o then stopConflict l2 0x7
    else
      let p1 := { header p 5 with l4Type := 2, l4Off := o }
      let port := pw body (o + 2)
      if port = 319 ∨ port = 320 then leafHeader l2 p1 body (o + 8) 34 12 fun q => { q with ctrlKind := 5 }
      else if port = c.vxlanPort then
        if o + 8 < body.length ∧ !tb (pb body (o + 8)) 3 then p1
        else if overLimit p1 (o + 8) 8 then stopTrunc p1
        else if body.length < o + 16 then stopConflict l2 0x1
        else
          let p2 := { header p1 6 with tunnel := true, tunType := 1, tunOff := o + 8,
                                       vni := pw body (o + 12) * 256 + pb body (o + 14) }
          parseInnerEth c l2 p2 body (o + 16) fin
      else p1
  | some 5 =>
    if o + 1 < body.length ∧ pb body (o + 1) % 8 ≠ 0 then p
    else
      let n := if tb (pb body o) 7 then 8 else 4
      if overLimit p o n then stopTrunc p
      else if body.length < o + n then stopConflict l2 0x1
      else
        let p1 := { header p 6 with l4Type := 5, l4Off := o, tunnel := true, tunType := 2, tunOff := o }
        let t := pw body (o + 2)
        if t = 0x6558 then parseInnerEth c l2 p1 body (o + n) fin
        else if t = 0x0800 then parseInnerIp l2 p1 body false (o + n) (fin - (o + n))
        else if t = 0x86DD then parseInnerIp l2 p1 body true (o + n) (fin - (o + n))
        else p1
  | some t => leafHeader l2 p body o 4 5 fun q => { q with l4Type := t, l4Off := o }

/-- Outer IPv6 extension headers: `left` more may be parsed; `fin` is the end of the IPv6 payload. -/
def parseExt (c : ParseCfg) : Nat → Parse → Parse → List Byte → Nat → Nat → Nat → Parse
  | left, l2, p, body, proto, o, fin =>
    if proto = 0 ∨ proto = 43 ∨ proto = 44 ∨ proto = 60 then
      match left with
      | 0 => stopTrunc p
      | k + 1 =>
        let n := (pb body (o + 1) + 1) * 8
        if overLimit p o n then stopTrunc p
        else if body.length < o + n then stopConflict l2 0x1
        else if fin < o + n then stopConflict l2 0x6
        else
          let isFrag := decide (proto = 44)
          let later := isFrag && decide (pw body (o + 2) / 8 ≠ 0)
          let p1 := { header p 4 with extCount := p.extCount + 1, proto := pb body o,
                                      frag := p.frag || isFrag, laterFrag := p.laterFrag || later }
          if later then p1 else parseExt c k l2 p1 body (pb body o) (o + n) fin
    else parseL4 c l2 p body true proto o fin

/-- The one's complement sum of a header of `n` bytes is good. -/
def headerSumGood (body : List Byte) (o n : Nat) : Bool := onesSum (slice body o n) = 0xFFFF

/-- The outer IP header at `o`. -/
def parseIp (c : ParseCfg) (l2 p : Parse) (body : List Byte) (v6 : Bool) (o : Nat) : Parse :=
  let avail := body.length - o
  if o < body.length ∧ pb body o / 16 ≠ (if v6 then 6 else 4) then p
  else if v6 then
    let plen := pw body (o + 4)
    let tc := pw body o / 16 % 256
    if overLimit p o 40 then stopTrunc p
    else if avail < 40 then stopConflict l2 0x1
    else if avail < plen + 40 ∨ (plen + 40 < avail ∧ 60 < body.length) ∨ plen = 0 then stopConflict l2 0x5
    else
      let p1 := { header p 3 with l3Type := 2, l3Off := o, proto := pb body (o + 6), dscp := tc / 4, ecn := tc % 4,
                                  ttl := pb body (o + 7), ttlLe1 := decide (pb body (o + 7) ≤ 1), l3Len := plen }
      parseExt c 2 l2 p1 body (pb body (o + 6)) (o + 40) (o + 40 + plen)
  else
    let ihl := pb body o % 16
    let n := Nat.max 20 (ihl * 4)
    let tl := pw body (o + 2)
    if overLimit p o n then stopTrunc p
    else if avail < n then stopConflict l2 0x1
    else if ihl < 5 then stopConflict l2 0x2
    else if avail < tl then stopConflict l2 0x3
    else if tl < ihl * 4 then stopConflict l2 0x4
    else
      let later := decide (pw body (o + 6) % 8192 ≠ 0)
      let p1 := { header p 3 with l3Type := 1, l3Off := o, proto := pb body (o + 9), dscp := pb body (o + 1) / 4,
                                  ecn := pb body (o + 1) % 4, ttl := pb body (o + 8),
                                  ttlLe1 := decide (pb body (o + 8) ≤ 1), l3Len := tl, opts := decide (5 < ihl),
                                  csumBad := !headerSumGood body o n,
                                  frag := later || tb (pb body (o + 6)) 5, laterFrag := later }
      if later then p1 else parseL4 c l2 p1 body false (pb body (o + 9)) (o + n) (o + tl)

/-- What follows the outer L2 headers: the protocol that type field `t` names, at `o`. -/
def parseType (c : ParseCfg) (p0 : Parse) (body : List Byte) (t o : Nat) : Parse :=
  let p := { p0 with etype := t }
  let ctrl (n k : Nat) : Parse := leafHeader p p body o n 12 fun q => { q with ctrlKind := k }
  if t = 0x888E then ctrl 4 1
  else if t = 0x88CC then ctrl 2 2
  else if t = 0x8809 then ctrl 1 3
  else if t = 0x88F7 then ctrl 34 4
  else if t = 0x0806 then
    let n := if overLimit p o 8 then 8 else 8 + 2 * (pb body (o + 4) + pb body (o + 5))
    leafHeader p p body o n 3 fun q => { q with l3Type := 3, l3Off := o }
  else if t = 0x0800 then parseIp c p p body false o
  else if t = 0x86DD then parseIp c p p body true o
  else { p with unkEtype := true }

/-- The outer tags, then what follows. `left` tags may still be parsed; `t` is the type field before `o`; `snap` says
that it is a SNAP PID. A type below 0x0600 behind a tag that followed the PID is taken as the PID itself would be: it is no length (DESIGN
CHOICE, notes/assumptions/160.md). -/
def parseTags (c : ParseCfg) : Nat → Parse → List Byte → Nat → Nat → Bool → Parse
  | left, p, body, t, o, snap =>
    if isTpid c t then
      match left with
      | 0 => stopTrunc { p with etype := t }
      | k + 1 =>
        if overLimit p o 4 then stopTrunc p
        else if body.length < o + 4 then stopConflict p 0x1
        else
          let p1 := { header p 1 with tagCount := p.tagCount + 1, tci := p.tci ++ [pw body o] }
          parseTags c k p1 body (pw body (o + 2)) (o + 4) snap
    else if t < 0x0600 then
      if snap then { p with etype := t, unkEtype := true }
      else
        let p0 := { p with llc := true }
        let isSnap := decide (pb body o = 0xAA ∧ pb body (o + 1) = 0xAA ∧ pb body (o + 2) = 3)
        let n := if isSnap then 8 else 3
        if overLimit p0 o n then stopTrunc p0
        else if body.length < o + n then stopConflict p0 0x1
        else if body.length - o < t then stopConflict p0 0x8
        else
          let p1 := header p0 2
          if isSnap ∧ pb body (o + 3) = 0 ∧ pw body (o + 4) = 0 then
            let pid := pw body (o + 6)
            if isTpid c pid then
              match left with
              | 0 => stopTrunc { p1 with etype := pid }
              | k + 1 =>
                if overLimit p1 (o + 8) 4 then stopTrunc p1
                else if body.length < o + 12 then stopConflict p1 0x1
                else
                  let p2 := { header p1 1 with tagCount := p1.tagCount + 1, tci := p1.tci ++ [pw body (o + 8)] }
                  parseTags c k p2 body (pw body (o + 10)) (o + 12) true
            else if pid < 0x0600 then { p1 with etype := pid, unkEtype := true }
            else parseType c p1 body pid (o + 8)
          else p1
    else parseType c p body t o

/-- R140: parse a frame's head. -/
def parseFrame (c : ParseCfg) (bs : List Byte) : Parse :=
  let body := frameBody bs
  let da := slice bs 0 6
  let kind := if da = List.replicate 6 0xFF then 2 else if (byteAt bs 0).getLsbD 0 then 1 else 0
  let p : Parse := { daKind := kind }
  if body.length < 14 then stopConflict p 0x1
  else parseTags c 3 (header p 0) body (pw body 12) 14 false

/-! ### Fields of a record in metadata -/

/-- A flag of the record. -/
def mdFlag (md : List Byte) (i : Nat) : Bool := tb (leVal (slice md 0 2)) i

/-- A byte of metadata. -/
def mdByte (md : List Byte) (i : Nat) : Nat := (byteAt md i).toNat

end Sys2Proof.Machine
end

