-- ==== Sys2Proof/Machine/Edit.lean ====
section
/-! DEFINITION. The edit script and the editor (R160 to R165, R378 to R380, R384's remarks). -/

namespace Sys2Proof.Machine

/-! ### Building a script -/

/-- Fault causes of Table HOB-10. -/
def fcAddress : Nat := 0x1
def fcReadOnly : Nat := 0x2
def fcHomeMiss : Nat := 0x3
def fcOwnerClass : Nat := 0x4
def fcEditOverflow : Nat := 0x5
def fcEditConflict : Nat := 0x6
def fcMirrorLimit : Nat := 0x7
def fcDropCode : Nat := 0x8
def fcTableIndex : Nat := 0x9
def fcTemplate : Nat := 0xA

/-- The TTL or hop-limit byte of the outer header. -/
def ttlOff (md : List Byte) : Nat := if mdByte md 8 % 16 = 1 then mdByte md 2 + 8 else mdByte md 2 + 7

/-- The edit covers byte `i` (Table HOB-3); a push covers the byte at its offset. -/
def editCovers (md : List Byte) (e : Edit) (i : Nat) : Bool :=
  match e with
  | .rewrite _ bs => bs.any fun x => x.1 = i
  | .push o _ => i = o
  | .pop o n => o ≤ i && i < o + n
  | .replace o v => o ≤ i && i < o + v.length
  | .decTtl => i = ttlOff md

/-- A new edit over bytes conflicts with the script (R163); two pushes at one offset do not. -/
def editConflicts (md : List Byte) (es : List Edit) (cover : List Nat) (isPush : Bool) : Bool :=
  es.any fun e => !(isPush && (match e with | .push _ _ => true | _ => false)) && cover.any fun i => editCovers md e i

/-- Add one edit: a ninth overflows, a covered byte conflicts (R161, R163). -/
def addEdit (md : List Byte) (es : List Edit) (e : Edit) (cover : List Nat) : Except Nat (List Edit) :=
  let isPush := match e with
    | .push _ _ => true
    | _ => false
  if 8 ≤ es.length then .error fcEditOverflow
  else if editConflicts md es cover isPush then .error fcEditConflict
  else .ok (es ++ [e])

/-- The rewrite of block `b`, if the script has one. -/
def rewriteOf (es : List Edit) (b : Nat) : Option (FMap Byte) :=
  es.findSome? fun e => match e with
    | .rewrite c bs => if c = b then some bs else none
    | _ => none

/-- Write bytes of one 8-byte block: one REWRITE for each block (R160); bytes an earlier write covers do not conflict. -/
def rewriteBlock (md : List Byte) (es : List Edit) (b : Nat) (bs : List (Nat × Byte)) : Except Nat (List Edit) :=
  let put (m : FMap Byte) : FMap Byte := bs.foldl (fun a x => FMap.put a x.1 x.2) m
  match rewriteOf es b with
  | none => addEdit md es (.rewrite b (put [])) (bs.map (·.1))
  | some old =>
    let fresh := (bs.map (·.1)).filter fun i => (FMap.find? old i).isNone
    let others := es.filter fun e => match e with
      | .rewrite c _ => c ≠ b
      | _ => true
    if editConflicts md others fresh false then .error fcEditConflict
    else .ok (es.map fun e => match e with
      | .rewrite c m => if c = b then .rewrite c (put m) else e
      | _ => e)

/-- Write bytes of FW, block by block; a script that would grow beyond eight edits overflows before any conflict counts
(R237). -/
def writeFw (md : List Byte) (es : List Edit) (bs : List (Nat × Byte)) : Except Nat (List Edit) :=
  let fresh := (List.range 16).filter fun b => (bs.any fun x => decide (x.1 / 8 = b)) && (rewriteOf es b).isNone
  if !fresh.isEmpty && decide (8 < es.length + fresh.length) then .error fcEditOverflow
  else (List.range 16).foldl (fun r b =>
    match r with
    | .error c => .error c
    | .ok es =>
      match bs.filter fun x => decide (x.1 / 8 = b) with
      | [] => .ok es
      | l => rewriteBlock md es b l) (.ok es)

/-- Byte `i` of FW: the head with this invocation's rewrites (R157, R162). -/
def fwByte (bs : List Byte) (es : List Edit) (i : Nat) : Byte :=
  match es.findSome? fun e => match e with
    | .rewrite _ m => FMap.find? m i
    | _ => none with
  | some v => v
  | none => byteAt bs i

/-! ### The editor -/

/-- The value that REWRITE and REPLACE edits give byte `i`. -/
def scriptByte (es : List Edit) (i : Nat) : Option Byte :=
  es.findSome? fun e => match e with
    | .rewrite _ m => FMap.find? m i
    | .replace o v => if o ≤ i then v[i - o]? else none
    | _ => none

/-- The byte is popped. -/
def isPopped (es : List Edit) (i : Nat) : Bool :=
  es.any fun e => match e with
    | .pop o n => o ≤ i && i < o + n
    | _ => false

/-- The script decrements the TTL. -/
def hasDecTtl (es : List Edit) : Bool := es.any fun e => e = .decTtl

/-- The bytes pushed at offset `i`, outermost first (R164). -/
def pushedAt (es : List Edit) (i : Nat) : List Byte :=
  es.flatMap fun e => match e with
    | .push o v => if o = i then v else []
    | _ => []

/-- Bytes that pushes add. -/
def pushLen (es : List Edit) : Nat :=
  es.foldl (fun a e => match e with | .push _ v => a + v.length | _ => a) 0

/-- Bytes that pops remove. -/
def popLen (es : List Edit) : Nat :=
  es.foldl (fun a e => match e with | .pop _ n => a + n | _ => a) 0

/-- The edited length, FCS included. -/
def editedLen (len : Nat) (es : List Edit) : Nat := len + pushLen es - popLen es

/-- R378: the reason of the first check that fails; `maxLen` is none for a copy to the recirculation MAC. -/
def editorCheck (bs md : List Byte) (es : List Edit) (maxLen : Option Nat) : Option Nat :=
  let l := bs.length
  let late := es.any fun e => match e with
    | .push o _ => decide (l < o + 5)
    | _ => false
  if late then some drEditFault
  else if editedLen l es < 18 then some drEditFault
  else if hasDecTtl es ∧ (byteAt bs (ttlOff md)).toNat ≤ 1 then some drTtlExpired
  else match maxLen with
    | some m => if m < editedLen l es then some drEgressTooLong else none
    | none => none

/-- Byte `i` after the remarks and the TTL step, from its value `v` as the script leaves it (R379, R384). -/
def remarkByte (md : List Byte) (ttl : Bool) (rm : Remark) (i : Nat) (v : Byte) : Byte :=
  let l3 := mdByte md 2
  let ty := mdByte md 8 % 16
  let v0 := if ttl ∧ i = ttlOff md then v - 1 else v
  let v1 := match rm.dscp with
    | none => v0
    | some d =>
      if ty = 1 ∧ i = l3 + 1 then BitVec.ofNat 8 (d * 4 + v0.toNat % 4)
      else if ty = 2 ∧ i = l3 then BitVec.ofNat 8 (v0.toNat / 16 * 16 + d / 4)
      else if ty = 2 ∧ i = l3 + 1 then BitVec.ofNat 8 (d % 4 * 64 + v0.toNat % 64)
      else v0
  if mdByte md 10 % 4 = 0 ∨ i ≠ 14 then v1
  else
    let v2 := match rm.pcp with
      | none => v1
      | some p => BitVec.ofNat 8 (p * 32 + v1.toNat % 32)
    if rm.dei then v2 ||| 0x10 else v2

/-- RFC 1624, equation 3: a checksum after 16-bit words changed from `m` to `m'`. -/
def csumUpdate (hc : Nat) (words : List (Nat × Nat)) : Nat :=
  let fold (n : Nat) : Nat := let a := n / 65536 + n % 65536; a / 65536 + a % 65536
  65535 - words.foldl (fun a w => fold (a + (65535 - w.1) + w.2)) (65535 - hc)

/-- The words from offset `lo` up to `hi` that differ between two byte functions, the two bytes at `skip` left out.
Words start at `lo`; the byte beyond `hi` of an odd last word counts as zero. -/
def changedWords (old new : Nat → Byte) (lo hi skip : Nat) : List (Nat × Nat) :=
  (List.range ((hi + 1 - lo) / 2)).filterMap fun k =>
    let i := lo + 2 * k
    let w (f : Nat → Byte) : Nat := (f i).toNat * 256 + (if i + 1 < hi then (f (i + 1)).toNat else 0)
    if i = skip ∨ w old = w new then none else some (w old, w new)

/-- R380: the new value of the checksum field at `f`, none where no word it covers changes. The base is the value as of
the script when the script covers a byte of the field, then updated only for TTL and remark changes; else the received
value, updated for every change. `ranges` are the byte ranges it covers. -/
def csumField (v0 v1 v2 : Nat → Byte) (es : List Edit) (f : Nat) (ranges : List (Nat × Nat)) : Option Nat :=
  let own := (scriptByte es f).isSome || (scriptByte es (f + 1)).isSome
  let old := if own then v1 else v0
  let hc := (old f).toNat * 256 + (old (f + 1)).toNat
  let words := ranges.flatMap fun r => changedWords old v2 r.1 r.2 f
  if words.isEmpty then none else some (csumUpdate hc words)

/-- The checksums that the editor writes: offset and value (R380). -/
def editChecksums (bs md : List Byte) (es : List Edit) (rm : Remark) : List (Nat × Nat) :=
  if mdFlag md 2 then []
  else
    let l3 := mdByte md 2
    let l4 := mdByte md 3
    let ty := mdByte md 8 % 16
    let l4ty := mdByte md 9 % 16
    let l3len := leVal (slice md 24 2)
    let fin := Nat.min 128 (if ty = 1 then l3 + l3len else l3 + 40 + l3len)
    let live (f : Nat → Byte) (i : Nat) : Byte := if isPopped es i then byteAt bs i else f i
    let v0 (i : Nat) : Byte := byteAt bs i
    let v1 (i : Nat) : Byte := live (fun i => (scriptByte es i).getD (byteAt bs i)) i
    let v2 (i : Nat) : Byte := live (fun i => remarkByte md (hasDecTtl es) rm i (v1 i)) i
    let ihl := (byteAt bs l3).toNat % 16
    let ip := match csumField v0 v1 v2 es (l3 + 10) [(l3, l3 + ihl * 4)] with
      | some c => if ty = 1 then [(l3 + 10, c)] else []
      | none => []
    let addr := if ty = 1 then (l3 + 12, l3 + 20) else (l3 + 8, l3 + 40)
    let up :=
      if (ty = 1 ∨ ty = 2) ∧ (l4ty = 1 ∨ l4ty = 2) ∧ !mdFlag md 5 then
        let f := if l4ty = 1 then l4 + 16 else l4 + 6
        let was := (v1 f).toNat * 256 + (v1 (f + 1)).toNat
        if l4ty = 2 ∧ ty = 1 ∧ was = 0 then []
        else match csumField v0 v1 v2 es f [addr, (l4, fin)] with
          | some c => [(f, if l4ty = 2 ∧ c = 0 then 0xFFFF else c)]
          | none => []
      else []
    ip ++ up

/-- R379: the edited frame without its FCS. -/
def editedBody (bs md : List Byte) (es : List Edit) (rm : Remark) : List Byte :=
  let sums := editChecksums bs md es rm
  let body := frameBody bs
  let sumByte (i : Nat) : Option Byte := sums.findSome? fun x =>
    if i = x.1 then some (BitVec.ofNat 8 (x.2 / 256)) else if i = x.1 + 1 then some (BitVec.ofNat 8 x.2) else none
  let one (i : Nat) (b : Byte) : List Byte :=
    pushedAt es i ++
      (if isPopped es i then []
       else match sumByte i with
         | some v => [v]
         | none => [remarkByte md (hasDecTtl es) rm i ((scriptByte es i).getD b)])
  if es.isEmpty ∧ rm = {} then body else body.zipIdx.flatMap fun x => one x.2 x.1

/-- R89: pad to 60 bytes and append a new FCS. -/
def finishFrame (body : List Byte) : List Byte :=
  let b := body ++ List.replicate (60 - body.length) 0
  b ++ fcsBytes b

end Sys2Proof.Machine
end

