-- ==== Sys2Proof/Machine/Tcam.lean ====
section
/-! DEFINITION. The TCAM (chapter 09): courses, key profiles, match resolution, transactions, scrubbing, spares. -/

namespace Sys2Proof.Machine

/-! ### Courses and profiles (R308 to R313) -/

/-- A course register's copy in a slot. -/
def courseVal (s : State) (slot c : Nat) : Nat := FMap.get 0 s.tcam.courses (slot * 16 + c)

/-- A profile register's copy in a slot. -/
def profVal (s : State) (slot p : Nat) : Nat := FMap.get 0 s.tcam.profs (slot * 16 + p)

/-- A selector register's copy in a slot. -/
def selVal (s : State) (slot p k : Nat) : Nat := FMap.get 0 s.tcam.sels ((slot * 16 + p) * 40 + k)

def courseHead (v : Nat) : Nat := fld v 7 0
def courseStacks (v : Nat) : Nat := fld v 15 8
def courseW (v : Nat) : Nat := 2 ^ fld v 17 16
def courseRepl (v : Nat) : Nat := 2 ^ fld v 20 18
def courseOn (v : Nat) : Bool := tb v 21

/-- Positions that a course covers. -/
def courseLen (v : Nat) : Nat := courseStacks v * courseW v * courseRepl v

/-- PD_TCH is on. -/
def tchOn (s : State) : Bool := tb s.pwr.ready 28

/-- R309 of an enabled course in its slot. -/
def courseOk (s : State) (slot c : Nat) : Bool :=
  let v := courseVal s slot c
  let fin := courseHead v + courseLen v
  decide (fld v 17 16 ≤ 2 ∧ 1 ≤ courseStacks v ∧ fld v 20 18 ≤ 4 ∧ courseHead v % courseW v = 0
    ∧ fin ≤ if tchOn s then 240 else 116)
  && ((List.range 16).all fun d =>
    let u := courseVal s slot d
    decide (d = c) || !courseOn u || decide (courseLen u = 0)
      || decide (fin ≤ courseHead u ∨ courseHead u + courseLen u ≤ courseHead v))

/-- Selector `j` of a profile: source and offset. -/
def selector (s : State) (slot p j : Nat) : Nat × Nat :=
  let v := selVal s slot p (j / 2)
  if j % 2 = 0 then (fld v 3 0, fld v 11 4) else (fld v 19 16, fld v 27 20)

/-- R312: a selector is in its source's range. -/
def selectorOk (x : Nat × Nat) : Bool :=
  match x.1 with
  | 0 => x.2 = 0
  | 1 => decide (x.2 ≤ 127)
  | 7 => decide (x.2 ≤ 63)
  | 8 => decide (x.2 ≤ 7)
  | 9 => decide (x.2 ≤ 7)
  | n => decide (n ≤ 6)

/-- R312 of an enabled profile. -/
def profOk (s : State) (slot p : Nat) : Bool :=
  let w := courseW (courseVal s slot (fld (profVal s slot p) 3 0))
  (List.range 80).all fun j =>
    if j < 20 * w then selectorOk (selector s slot p j) else decide (selector s slot p j = (0, 0))

/-- R313: a key byte. `bs` is the frame as received, `md` the metadata. -/
def keyByte (bs md : List Byte) (va vb : DWord) (x : Nat × Nat) : Nat :=
  let fw (o : Nat) : Nat := if o < 128 ∧ o < bs.length then (byteAt bs o).toNat else 0
  let layer (i : Nat) : Nat := if mdByte md i = 255 then 0 else fw (mdByte md i + x.2)
  match x.1 with
  | 1 => fw x.2
  | 2 => layer 2
  | 3 => layer 3
  | 4 => layer 4
  | 5 => layer 6
  | 6 => layer 7
  | 7 => mdByte md x.2
  | 8 => (va.toNat / 256 ^ x.2) % 256
  | 9 => (vb.toNat / 256 ^ x.2) % 256
  | _ => 0

/-- The search key of a profile. -/
def searchKey (s : State) (slot p : Nat) (bs md : List Byte) (va vb : DWord) : Nat :=
  let w := courseW (courseVal s slot (fld (profVal s slot p) 3 0))
  leVal ((List.range (20 * w)).map fun j => BitVec.ofNat 8 (keyByte bs md va vb (selector s slot p j)))

/-! ### Entries (R306, R310, R314, R317) -/

/-- Entry `i`. -/
def tcamEntry (s : State) (i : Nat) : TcamEntry := FMap.get {} s.tcam.entries i

/-- Membership of a slot. -/
def memberOf (e : TcamEntry) (slot : Nat) : Bool := if slot = 0 then e.m0 else e.m1

/-- Set membership of a slot; an entry that is a member of neither is free. -/
def setMember (i slot : Nat) (v : Bool) (s : State) : State :=
  let e := tcamEntry s i
  let e1 := if slot = 0 then { e with m0 := v } else { e with m1 := v }
  modTcam (fun t => { t with entries := if e1.m0 || e1.m1 then FMap.put t.entries i e1 else FMap.erase t.entries i }) s

/-- The entry index lies on a stack of replica 0 of a course value (R310). -/
def onCourse (v i : Nat) : Bool :=
  let p := i / 512
  decide (courseHead v ≤ p ∧ p < courseHead v + courseStacks v * courseW v) && (p - courseHead v) % courseW v = 0

/-- Positions of the bricks that hold an entry, in every replica. -/
def entryPositions (v i : Nat) : List Nat :=
  (List.range (courseRepl v)).flatMap fun k =>
    (List.range (courseW v)).map fun b => i / 512 + b + k * courseStacks v * courseW v

/-- The entry answers no lookup: suppressed, or on a position that is unavailable or unpowered (R307, R317, R331). -/
def entrySilent (s : State) (v i : Nat) : Bool :=
  s.tcam.suppressed.contains i || s.tcam.hardSuppressed.contains i
    || ((entryPositions v i).any fun p => s.tcam.unavailable.contains p || (!tchOn s && decide (116 ≤ p)))

/-- The entry lies on an unavailable position of a course of either slot (R331). -/
def entryLost (s : State) (i : Nat) : Bool :=
  ((List.range 32).any fun c =>
    let v := courseVal s (c / 16) (c % 16)
    courseOn v && onCourse v i && (entryPositions v i).any fun p => s.tcam.unavailable.contains p)
  || s.tcam.unavailable.contains (i / 512)

/-- The entry index is suppressed (R327, R328), or holds an entry that an unavailable position suppresses (R331). -/
def isSuppressed (s : State) (i : Nat) : Bool :=
  s.tcam.suppressed.contains i || s.tcam.hardSuppressed.contains i
    || ((FMap.find? s.tcam.entries i).isSome && entryLost s i)

/-- TCAM_SUPPRESSED: the entry indices suppressed. -/
def suppressedCount (s : State) : Nat :=
  (s.tcam.suppressed ++ s.tcam.hardSuppressed ++ (s.tcam.entries.map fun e => e.1).filter (entryLost s)).eraseDups.length

/-- The slot that a lookup as of `a` uses (R324). -/
def slotAt (s : State) (a : Nat) : Nat :=
  if s.tcam.txn = .completing ∧ a < s.tcam.txnE then 1 - s.tcam.slot else s.tcam.slot

/-- R317: the winning entry of a lookup as of `a`. -/
def tcamWinner (s : State) (a p : Nat) (bs md : List Byte) (va vb : DWord) : Option (Nat × TcamEntry) :=
  let slot := slotAt s a
  let pv := profVal s slot p
  let c := fld pv 3 0
  let v := courseVal s slot c
  if tb pv 4 && courseOn v && courseOk s slot c && profOk s slot p then
    let key := searchKey s slot p bs md va vb
    let hits := s.tcam.entries.filter fun e =>
      onCourse v e.1 && memberOf e.2 slot && !entrySilent s v e.1 && decide (Nat.land key e.2.mask = e.2.value)
    hits.foldl (fun (b : Option (Nat × TcamEntry)) e =>
      match b with
      | none => some e
      | some x => if x.2.prio < e.2.prio then some e else b) none
  else none

/-! ### Suppression and spares (R327 to R331) -/

/-- The firebrick that fills a position. -/
def brickAt (s : State) (p : Nat) : Nat :=
  match FMap.get 0 s.tcam.posMap p with
  | 0 => p
  | n + 1 => n

/-- The position that a firebrick fills. -/
def positionOf (s : State) (fb : Nat) : Option Nat :=
  (s.tcam.posMap.findSome? fun e => if e.2 = fb + 1 then some e.1 else none) <|>
    (if fb < 240 ∧ FMap.get 0 s.tcam.posMap fb = 0 then some fb else none)

/-- Free spares, ascending. -/
def freeSpares (s : State) : List Nat :=
  ((List.range 8).map (240 + ·)).filter fun f =>
    !s.tcam.failedBricks.contains f && (positionOf s f).isNone && !(s.tcam.moves.any fun m => decide (m.2.1 = f))

/-- The entry index that a row of a position belongs to. -/
def rowEntry (s : State) (p r : Nat) : Nat :=
  let covers (v : Nat) : Bool := courseOn v && decide (courseHead v ≤ p ∧ p < courseHead v + courseLen v)
  let cs := (List.range 32).map fun i => courseVal s (if i < 16 then s.tcam.slot else 1 - s.tcam.slot) (i % 16)
  match cs.find? covers with
  | none => 512 * p + r
  | some v => 512 * (courseHead v + (p - courseHead v) % (courseStacks v * courseW v) / courseW v * courseW v) + r

/-- Suppress an entry; without repair it stays suppressed until host software writes the index (R327, R328). -/
def suppressEntry (i : Nat) (hard : Bool) (s : State) : State :=
  modTcam (fun t =>
    if hard then { t with hardSuppressed := if t.hardSuppressed.contains i then t.hardSuppressed
                                            else t.hardSuppressed ++ [i] }
    else { t with suppressed := if t.suppressed.contains i then t.suppressed else t.suppressed ++ [i] }) s

/-- A WRITE lifts an entry's suppression (R328). -/
def liftEntry (i : Nat) (s : State) : State :=
  modTcam (fun t => { t with suppressed := t.suppressed.filter fun x => x ≠ i,
                             hardSuppressed := t.hardSuppressed.filter fun x => x ≠ i }) s

/-- Event 0x1507 when the last of the spares that were free is lost (R331). -/
def noteSpares (before : List Nat) (s : State) : State :=
  if !before.isEmpty && (freeSpares s).isEmpty then raiseEv 0x1507 0 (w2 s.tcam.unavailable.length) s else s

/-- A firebrick fails (R330, R331): the lowest free spare takes its position from the next tick on (DESIGN CHOICE,
notes/assumptions/8.md), or the position is lost; a firebrick fails once. -/
def failBrick (fb : Nat) (s : State) : State :=
  let t := s.clk.tick
  if s.tcam.failedBricks.contains fb then s
  else
    let s0 := addHealth 2 fb 8 (modTcam (fun x => { x with failedBricks := x.failedBricks ++ [fb] }) s)
    noteSpares (freeSpares s) (match positionOf s fb, freeSpares s0 with
      | none, _ => s0
      | some p, [] => raiseEv 0x1506 0 (w2 p) (modTcam (fun x => { x with unavailable := x.unavailable ++ [p] }) s0)
      | some p, f :: _ => raiseEv 0x1505 0 (w2 p ++ w2 fb ++ w2 f ++ w4 (t + 1))
          (modTcam (fun x => { x with moves := x.moves ++ [(p, f, t + 1)] }) s0))

/-- Move a position to its loaded spare at the effect tick (R330). -/
def moveBrick (p : Nat) (s : State) : State :=
  match s.tcam.moves.find? fun m => decide (m.1 = p ∧ m.2.2 ≤ s.clk.tick) with
  | none => s
  | some m => modTcam (fun t => { t with posMap := FMap.set 0 t.posMap p (m.2.1 + 1),
                                         moves := t.moves.filter fun x => x ≠ m }) s

/-- Every move whose effect tick has come. -/
def movesDue (s : State) : State :=
  forEach (s.tcam.moves.filter fun m => decide (m.2.2 ≤ s.clk.tick)) (fun m => moveBrick m.1) s

/-- A row that the scrubber visits is powered (R307, R326). -/
def brickPowered (s : State) (fb : Nat) : Bool := tchOn s || decide (fb < 116 ∨ 240 ≤ fb)

/-- The scrubber's next row after `x`, over the powered firebricks. -/
def nextRow (s : State) (x : Nat) : Nat :=
  let y := (x + 1) % 126976
  if brickPowered s (y / 512) then y else 240 * 512

/-- An uncorrectable action or shadow error counts (R332). -/
def countTcamEcc (s : State) : State :=
  regSetFld .TCAM_ECC_CNT 0 31 16 (satAdd 16 (regFld s .TCAM_ECC_CNT 0 31 16) 1) s

/-- R327, R328: the mismatch of row `r` of firebrick `fb`, which belongs to entry index `i`, or to none where the firebrick fills no
position; `bad` says that the shadow's copy cannot be read either. -/
def suppressRow (fb r : Nat) (i : Option Nat) (bad : Bool) (s : State) : State :=
  let auto := regBit s .TCAM_SCRUB_CFG 0 0 && !bad
  let s1 := match i with
    | none => s
    | some i =>
      let s0 := suppressEntry i (!auto) s
      if auto then modTcam (fun t => { t with repair := t.repair ++ [(fb, r, s.clk.tick, i)] }) s0 else s0
  let n := i.getD 0xFFFFFFFF
  selfFault 0x05 n (raiseEv 0x1504 0 (w2 fb ++ w2 r ++ w4 n) (regCount .TCAM_SCRUB_MISMATCH_CNT 0 s1))

/-- The scrubber finds a mismatch of one row (R327); BRICK_LIMIT rows in a pass fail the firebrick (R330). -/
def rowMismatch (fb r : Nat) (shadowBad : Bool) (s : State) : State :=
  let s1 := suppressRow fb r ((positionOf s fb).map fun p => rowEntry s p r) shadowBad (if shadowBad then countTcamEcc s else s)
  let n := FMap.get 0 s1.tcam.brickMism fb + 1
  let s2 := modTcam (fun t => { t with brickMism := FMap.set 0 t.brickMism fb n }) s1
  let limit := regFld s2 .TCAM_SCRUB_CFG 0 15 8
  if limit ≠ 0 ∧ limit ≤ n then failBrick fb s2 else s2

/-- R326: the scrubber's visit of this tick. `before` is the state before this tick's writes: a row written in the tick
of its visit is compared at its next visit. -/
def scrubStep (before : State) (rowBad shadowBad : Bool) (s : State) : State :=
  let x := s.tcam.scrubPos
  let fb := x / 512
  let same := match positionOf s fb with
    | some p => decide (tcamEntry before (rowEntry s p (x % 512)) = tcamEntry s (rowEntry s p (x % 512)))
    | none => true
  let s1 := if rowBad && same && brickPowered s fb then rowMismatch fb (x % 512) shadowBad s else s
  let y := nextRow s x
  if y ≤ x then
    modTcam (fun t => { t with scrubPos := y, scrubPasses := (t.scrubPasses + 1) % 2 ^ 32, brickMism := [] }) s1
  else modTcam (fun t => { t with scrubPos := y }) s1

/-- R328: the oldest row to rewrite is rewritten in a tick after its mismatch; its entry's suppression ends when every replica compares
good and no other row of the entry is to be rewritten. A row that does not compare good goes to the end. -/
def scrubRepair (good : Bool) (s : State) : State :=
  match s.tcam.repair with
  | [] => s
  | (fb, r, t, i) :: rest =>
    if s.clk.tick ≤ t then s
    else if good then
      modTcam (fun x => { x with repair := rest, suppressed :=
        if (rest.any fun y => decide (y.2.2.2 = i)) then x.suppressed else x.suppressed.filter fun y => y ≠ i }) s
    else modTcam (fun x => { x with repair := rest ++ [(fb, r, t, i)] }) s

/-- An uncorrectable error in a winner's action suppresses the entry as a scrub mismatch does (R315, R327). -/
def actionFault (i : Nat) (s : State) : State := suppressRow (brickAt s (i / 512)) (i % 512) (some i) false (countTcamEcc s)

/-! ### Transactions (R319 to R325) -/

/-- The frame path is stopped: start-up step 8 or the safe hearth state (R320). -/
def pathStopped (s : State) : Bool := !s.clk.forwarding && (isSafe s || s.boot.step = 8)

/-- Copy the registers of slot `a` to slot `b`. -/
def copySlot (a b : Nat) (t : Tcam) : Tcam :=
  let cp (n : Nat) (m : FMap Nat) : FMap Nat :=
    let src := (m.filter fun e => decide (e.1 / n = a)).map fun e => (e.1 % n, e.2)
    let rest := m.filter fun e => !decide (e.1 / n = b)
    src.foldl (fun x e => FMap.put x (b * n + e.1) e.2) rest
  { t with courses := cp 16 t.courses, profs := cp 16 t.profs, sels := cp 640 t.sels }

/-- Drop the register copies of slot `b`. -/
def dropSlot (b : Nat) (t : Tcam) : Tcam :=
  let keep (n : Nat) (m : FMap Nat) : FMap Nat := m.filter fun e => !decide (e.1 / n = b)
  { t with courses := keep 16 t.courses, profs := keep 16 t.profs, sels := keep 640 t.sels }

/-- Clear every membership of a slot; entries of neither slot are free. -/
def clearMembers (slot : Nat) (s : State) : State := forEach s.tcam.entries (fun e => setMember e.1 slot false) s

/-- OPEN at its effect tick (R320). -/
def txnOpen (id : Nat) (s : State) : Nat × State :=
  if s.tcam.txn ≠ .idle then (stBusy, s)
  else
    let a := s.tcam.slot
    let s1 := forEach s.tcam.entries (fun e => setMember e.1 (1 - a) (memberOf e.2 a)) s
    (stOk, modTcam (fun t => copySlot a (1 - a) { t with txn := .open, txnId := id }) s1)

/-- R323: the next slot is in order for a COMMIT. -/
def commitOk (s : State) : Bool :=
  let a := s.tcam.slot
  let b := 1 - a
  let lies (v i : Nat) : Bool := courseOn v && onCourse v i
  (List.range 16).all fun c =>
    let v := courseVal s b c
    (!courseOn v || courseOk s b c) && (!tb (profVal s b c) 4 || profOk s b c)
      && (v = courseVal s a c || !(s.tcam.entries.any fun e => lies v e.1 || lies (courseVal s a c) e.1))

/-- COMMIT on acceptance (R319, R323, R324). -/
def txnCommit (id e : Nat) (s : State) : Nat × State :=
  if s.tcam.txn ≠ .open then (stNotOpen, s)
  else if s.tcam.txnId ≠ id then (stBadArgs, s)
  else if commitOk s then
    (stOk, raiseEv 0x1501 0 (w2 id ++ w4 e) (modTcam (fun t => { t with txn := .committed, txnE := e }) s))
  else (stConfig, raiseEv 0x1508 0 (w2 1 ++ w2 id) s)

/-- ABORT at its effect tick (R325). -/
def txnAbort (id : Nat) (s : State) : Nat × State :=
  if s.tcam.txn ≠ .open then (stNotOpen, s)
  else if s.tcam.txnId ≠ id then (stBadArgs, s)
  else
    let b := 1 - s.tcam.slot
    (stOk, modTcam (fun t => dropSlot b { t with txn := .idle }) (clearMembers b s))

/-- R324: at E the next slot becomes the slot in force. -/
def txnApply (s : State) : State :=
  if s.tcam.txn = .committed ∧ s.tcam.txnE ≤ s.clk.tick then
    raiseEv 0x1502 0 (w2 s.tcam.txnId) (modTcam (fun t => { t with slot := 1 - t.slot, txn := .completing }) s)
  else s

/-- R324: the transaction reaches IDLE. -/
def txnIdle (s : State) : State :=
  if s.tcam.txn = .completing ∧ s.tcam.txnE + retDelay s ≤ s.clk.tick ∧ !runningBefore s s.tcam.txnE then
    let b := 1 - s.tcam.slot
    raiseEv 0x1503 0 (w2 s.tcam.txnId) (modTcam (fun t => dropSlot b { t with txn := .idle }) (clearMembers b s))
  else s

/-- Ten words as one number of 640 bits. -/
def wideWord (ws : List Nat) (i : Nat) : Nat :=
  (List.range 10).foldl (fun a k => a + ws.getD (i + k) 0 * 2 ^ (64 * k)) 0

/-- The record's reserved fields and index are in order (Table TCAM-2, R567). -/
def tcamRecordOk (ws : List Nat) : Bool :=
  let w0 := ws.getD 0 0
  let w1 := ws.getD 1 0
  decide (fld w0 16 0 < 122880 ∧ fld w0 18 17 ≤ 2 ∧ fld w0 63 19 = 0)
    && (fld w0 18 17 ≠ 0 ||
      (decide (fld w1 63 18 = 0 ∧ fld (ws.getD 2 0) 63 55 = 0 ∧ fld (ws.getD 3 0) 63 32 = 0 ∧ fld w1 17 16 ≤ 2
        ∧ wideWord ws 4 < 2 ^ (160 * 2 ^ fld w1 17 16) ∧ wideWord ws 14 < 2 ^ (160 * 2 ^ fld w1 17 16)
        ∧ Nat.land (wideWord ws 4) (wideWord ws 14) = wideWord ws 4)))

/-- A TCAM_ENTRY operation at its effect tick (R320 to R322): its status. -/
def tcamEntryOp (ws : List Nat) (s : State) : Nat × State :=
  let w0 := ws.getD 0 0
  let w1 := ws.getD 1 0
  let i := fld w0 16 0
  let a := s.tcam.slot
  let b := 1 - a
  let stopped := pathStopped s && s.tcam.txn = .idle
  let e := tcamEntry s i
  if s.tcam.txn ≠ .open ∧ !stopped then (stNotOpen, s)
  else if !tcamRecordOk ws then (stBadEntry, s)
  else
    match fld w0 18 17 with
    | 0 =>
      let slot := if stopped then a else b
      let course := (List.range 16).find? fun c => courseOn (courseVal s slot c) && onCourse (courseVal s slot c) i
      match course with
      | none => (stBadEntry, s)
      | some c =>
        if fld (courseVal s slot c) 17 16 ≠ fld w1 17 16 ∨ e.m0 ∨ e.m1 then (stBadEntry, s)
        else
          let e1 : TcamEntry :=
            { value := wideWord ws 4, mask := wideWord ws 14, width := fld w1 17 16, prio := fld w1 15 0,
              action := ws.getD 2 0, arg := ws.getD 3 0, m0 := stopped || b = 0, m1 := stopped || b = 1 }
          (stOk, liftEntry i (modTcam (fun t => { t with entries := FMap.put t.entries i e1 }) s))
    | 1 =>
      if stopped then (stOk, modTcam (fun t => { t with entries := FMap.erase t.entries i }) s)
      else (stOk, if memberOf e b then setMember i b false s else s)
    | _ =>
      if stopped then (stOk, modTcam (fun t => { t with entries := FMap.erase t.entries i }) s)
      else if memberOf e a then (stBadEntry, s)
      else (stOk, if memberOf e b then setMember i b false s else s)

/-- A course or profile register write at its effect tick (R320): next copy, both copies, or ignored. -/
def tcamRegWrite (r : Reg) (i : Nat) (v : Word) (s : State) : State :=
  let put (slot : Nat) (t : Tcam) : Tcam :=
    match r with
    | .TCAM_COURSE => { t with courses := FMap.set 0 t.courses (slot * 16 + i) v.toNat }
    | .TCAM_PROF_CFG => { t with profs := FMap.set 0 t.profs (slot * 16 + i) v.toNat }
    | _ => { t with sels := FMap.set 0 t.sels (slot * 640 + i) v.toNat }
  if s.tcam.txn = .open then modTcam (put (1 - s.tcam.slot)) s
  else if pathStopped s && s.tcam.txn = .idle then modTcam (fun t => put (1 - t.slot) (put t.slot t)) s
  else raiseEv 0x1508 0 (w2 0 ++ w4 (r.addr i)) s

/-- A course or profile register's copy that a read returns (R320). -/
def tcamRegRead (s : State) (r : Reg) (i : Nat) : Nat :=
  let slot := if s.tcam.txn = .open then 1 - s.tcam.slot else s.tcam.slot
  match r with
  | .TCAM_COURSE => courseVal s slot i
  | .TCAM_PROF_CFG => profVal s slot i
  | _ => FMap.get 0 s.tcam.sels (slot * 640 + i)

/-! ### Commands -/

/-- BRICK_POSITION_MOVE (R330). -/
def execBrickPositionMove (pos : Fin 240) (s : State) : Host.Outcome State Fault Refusal := .next (moveBrick pos.val s)

/-- TCAM_SCRUB_REPAIR (R328). -/
def execTcamScrubRepair (good : Bool) (s : State) : Host.Outcome State Fault Refusal := .next (scrubRepair good s)

/-- TCAM_TXN_APPLY (R324). -/
def execTcamTxnApply (s : State) : Host.Outcome State Fault Refusal := .next (txnApply s)

/-- TCAM_TXN_IDLE (R324). -/
def execTcamTxnIdle (s : State) : Host.Outcome State Fault Refusal := .next (txnIdle s)

end Sys2Proof.Machine
end

