-- ==== Sys2Proof/Machine/Hob.lean ====
section
/-! DEFINITION. The hobs (chapters 05 and 06): issuing an instruction, the spaces, ending an invocation, and one meaning for
each instruction of Edxa. A command issues the instruction that its operands spell; it acts when the named thread is ready
and that word stands at its pc (notes/assumptions/10.md). -/

namespace Sys2Proof.Machine

/-! ### Threads, invocations, images -/

/-- The number of a thread. -/
def threadKey (t : ThreadRef) : Nat := (t.stove.val * 32 + t.hob.val) * 8 + t.thr.val

/-- The running thread of a number. -/
def threadAt (s : State) (k : Nat) : Option Thread := FMap.get none s.hob.threads k

/-- Store a running thread. -/
def putThread (k : Nat) (th : Thread) (s : State) : State :=
  modHob (fun h => { h with threads := FMap.set none h.threads k (some th) }) s

/-- Free a thread. -/
def freeThread (k : Nat) (s : State) : State := modHob (fun h => { h with threads := FMap.set none h.threads k none }) s

/-- The admitted frame or firing of an admission number. -/
def flightOf (s : State) (f : Nat) : Option Inflight := s.hob.flight.find? fun x => decide (x.id = f)

/-- Change an admitted frame. -/
def modFlight (f : Nat) (g : Inflight → Inflight) (s : State) : State :=
  modHob (fun h => { h with flight := h.flight.map fun x => if x.id = f then g x else x }) s

/-- The image of a load number. -/
def imageOf (s : State) (gen : Nat) : Option Image :=
  (s.prog.active.toList ++ s.prog.pendingImg.toList ++ s.prog.olds.map (·.1)).find? fun i => decide (i.gen = gen)

/-- The invocation is a timer's. -/
def isTimer (fr : Inflight) : Bool :=
  match fr.kind with
  | .timer _ => true
  | _ => false

/-- A timer firing without a template (R189). -/
def noTemplate (fr : Inflight) : Bool := isTimer fr && fr.rx.bytes.isEmpty

/-- A frame that has both retired and ended gives its slot up and is forgotten (R248). -/
def settleFlight (f : Nat) (s : State) : State :=
  match flightOf s f with
  | none => s
  | some x =>
    if x.retired && x.ended then
      modHob (fun h => { h with flight := h.flight.filter fun y => !decide (y.id = f),
                                slotsUsed := if x.slot then h.slotsUsed - 1 else h.slotsUsed }) s
    else s

/-- The staging copy of an invocation's home record. -/
def stagingOf (s : State) (fr : Inflight) : List Byte := (heBytes s fr.ember fr.adm).drop 32

/-- An invocation counts under its entry id, in class 12 when its image is no longer active (Table EGR-5, R392). -/
def countProgram (fr : Inflight) (r : Result) (s : State) : State :=
  let cls := match s.prog.active with
    | some a => if a.gen = fr.gen then 11 else 12
    | none => 11
  countPair (fixedKey cls r.entryId) 1 r.cycles s

/-- An invocation ends: its ticket passes, its thread is free, its result waits to reach the retire sequencer (R166, R173). A
publishing invocation that has not left its section yet publishes the staging copy as it stands
(notes/assumptions/11.md). -/
def endInvocation (k : Nat) (fr : Inflight) (th : Thread) (r : Result) (s : State) : State :=
  let pub := if th.publishing then r.publish <|> (if fr.ember.isSome then some (stagingOf s fr) else none) else none
  settleFlight fr.id
    (modFlight fr.id (fun x => { x with ended := true, result := some { r with publish := pub } })
      (passTurn fr.emberLane fr.turn (freeThread k (whenB fr.retired (countProgram fr r) s))))

/-- An invocation faults (R171, R195): the frame's effects other than its drop counter are cancelled. -/
def faultInvocation (k cause : Nat) (fr : Inflight) (th : Thread) (s : State) : State :=
  let s1 := modProg (fun p => { p with lastFaultPc := th.pc, lastFaultCause := cause }) (regCount .STOVE_PROG_FAULT_CNT 0 s)
  let port := if isTimer fr then 0 else fr.rx.port
  let s2 := raiseLim 0x1385 0 0 1024 (w2 cause ++ w4 th.pc ++ w2 port) s1
  endInvocation k fr { th with publishing := false }
    { disp := .fault, cycles := th.res.cycles, entryId := th.res.entryId } s2

/-! ### Issuing (R152, R200, R201, R217, R218) -/

/-- Where an instruction leaves its thread. -/
inductive Flow where
  | next
  | goto (pc : Nat)
  | wait (w : Wait)
  | fault (cause : Nat)
  | done (d : Disp)
  deriving DecidableEq, Repr

/-- What an instruction does: the state, the image it runs in, the invocation and the thread give the state, the thread and
where the thread goes. -/
abbrev Eff := State → Image → Inflight → Thread → State × Thread × Flow

/-- The next instruction in sequence; at the end of a LOOP body the next iteration, or the end of the loop (R218). -/
def stepOn (th : Thread) : Thread :=
  match th.loop with
  | some l =>
    if th.pc = l.last then
      if l.iter < l.count then gSet l.dst (BitVec.ofNat 64 (l.iter + 1)) { th with pc := l.first, loop := some { l with iter := l.iter + 1 } }
      else { th with pc := th.pc + 1, loop := none }
    else { th with pc := th.pc + 1 }
  | none => { th with pc := th.pc + 1 }

/-- A taken branch; one to the instruction after a LOOP body ends the loop (R218). -/
def jumpTo (pc : Nat) (th : Thread) : Thread :=
  match th.loop with
  | some l => { th with pc := pc, loop := if pc = l.last + 1 then none else some l }
  | none => { th with pc := pc }

/-- Carry out where an instruction leaves its thread. -/
def settle (k : Nat) (fr : Inflight) (r : State × Thread × Flow) : State :=
  match r.2.2 with
  | .next => putThread k (stepOn r.2.1) r.1
  | .goto pc => putThread k (jumpTo pc r.2.1) r.1
  | .wait w => putThread k { r.2.1 with wait := w } r.1
  | .fault c => faultInvocation k c fr r.2.1 r.1
  | .done d => endInvocation k fr r.2.1 { r.2.1.res with disp := d } r.1

/-- The class-14 index of an entry id of an image: the high half for an image that is no longer active (R392). -/
def energyIndex (s : State) (gen entry : Nat) : Nat :=
  match s.prog.active with
  | some a => if a.gen = gen then entry else 512 + entry
  | none => entry

/-- Charge an instruction's issue cycles to its invocation and to its group's energy interval (R392, R395). -/
def chargeCycles (k w : Nat) (img : Image) (th : Thread) (s : State) : State × Thread :=
  let c := costOf w
  let key := k / 1024 * 1024 + energyIndex s img.gen th.res.entryId
  (modEgr (fun g => { g with cyclesRun := FMap.upd 0 g.cyclesRun key (· + c) }) s,
   { th with res := { th.res with cycles := th.res.cycles + c } })

/-- The thread, its invocation and its image, when the thread runs. -/
def runningAt (s : State) (k : Nat) : Option (Thread × Inflight × Image) :=
  match threadAt s k with
  | none => none
  | some th =>
    match flightOf s th.inv with
    | none => none
    | some fr =>
      match imageOf s fr.gen with
      | none => none
      | some img => some (th, fr, img)

/-- The number of a thread's hob. -/
def hobKey (t : ThreadRef) : Nat := t.stove.val * 32 + t.hob.val

/-- The thread is ready: it runs an invocation and waits for nothing (R152). -/
def threadReady (s : State) (k : Nat) : Bool :=
  match threadAt s k with
  | some th => th.wait = .ready
  | none => false

/-- It is the thread's turn to issue: it is the first ready one of its hob from the thread on that follows the last one served (R152). -/
def hobTurn (s : State) (t : ThreadRef) : Bool :=
  ((List.range 8).map fun i => (FMap.get 0 s.hob.hobNext (hobKey t) + i) % 8).find? (fun j => threadReady s (hobKey t * 8 + j))
    = some t.thr.val

/-- A thread has been served: the round robin of its hob goes on behind it. -/
def serveThread (t : ThreadRef) (s : State) : State :=
  modHob (fun h => { h with hobNext := FMap.set 0 h.hobNext (hobKey t) ((t.thr.val + 1) % 8) }) s

/-- Issue the instruction word `w` on a thread; `other` is where the thread goes when the guard does not hold (R200). -/
def issue (t : ThreadRef) (w : Nat) (gd : Guard) (other : Thread → Flow) (f : Eff) (s : State) : State :=
  let k := threadKey t
  match runningAt s k with
  | none => s
  | some (th, fr, img) =>
    if hobTurn s t ∧ th.wait = .ready ∧ img.code[th.pc]? = some (BitVec.ofNat 64 w) then
      let r := chargeCycles k w img th (serveThread t s)
      if guardHolds th gd then settle k fr (f r.1 img fr r.2) else settle k fr (r.1, r.2, other th)
    else s

/-- Issue an instruction whose guard, when it fails, leads to the next one. -/
def issueN (t : ThreadRef) (w : Nat) (gd : Guard) (f : Eff) (s : State) : State := issue t w gd (fun _ => .next) f s

/-- An instruction that changes its thread alone. -/
def thrEff (f : Inflight → Thread → Thread × Flow) : Eff := fun s _ fr th => (s, f fr th)

/-- An instruction that writes a register. -/
def regEff (dst : GReg) (v : Thread → DWord) : Eff := thrEff fun _ th => (gSet dst.val (v th) th, .next)

/-- An instruction that writes a predicate. -/
def predEff (pd : PReg) (v : Thread → Bool) : Eff := thrEff fun _ th => (pSet pd.val (v th) th, .next)

/-- A-format: two registers give one. -/
def issueA (op : Nat) (t : ThreadRef) (gd : Guard) (dst a b : GReg) (f : DWord → DWord → DWord) (s : State) : State :=
  issueN t (encBase op dst.val a.val b.val gd) gd (regEff dst fun th => f (gGet th a) (gGet th b)) s

/-- A-format: one register gives one. -/
def issueA1 (op : Nat) (t : ThreadRef) (gd : Guard) (dst a : GReg) (f : DWord → DWord) (s : State) : State :=
  issueN t (encBase op dst.val a.val 0 gd) gd (regEff dst fun th => f (gGet th a)) s

/-- A-format: two registers give a predicate. -/
def issueC (op : Nat) (t : ThreadRef) (gd : Guard) (pd : PReg) (a b : GReg) (f : DWord → DWord → Bool) (s : State) : State :=
  issueN t (encBase op pd.val a.val b.val gd) gd (predEff pd fun th => f (gGet th a) (gGet th b)) s

/-- A-format: two predicates give one. -/
def issueP (op : Nat) (t : ThreadRef) (gd : Guard) (pd pa pb : PReg) (f : Bool → Bool → Bool) (s : State) : State :=
  issueN t (encBase op pd.val pa.val pb.val gd) gd (predEff pd fun th => f (pGet th pa) (pGet th pb)) s

/-- I-format: a register and the immediate give a register. -/
def issueI (op : Nat) (t : ThreadRef) (gd : Guard) (dst a : GReg) (imm : Word) (f : DWord → DWord) (s : State) : State :=
  issueN t (encI op dst.val a.val gd imm) gd (regEff dst fun th => f (gGet th a)) s

/-- I-format: a register and the immediate give a predicate. -/
def issueCI (op : Nat) (t : ThreadRef) (gd : Guard) (pd : PReg) (a : GReg) (imm : Word) (f : DWord → Bool) (s : State) :
    State :=
  issueN t (encI op pd.val a.val gd imm) gd (predEff pd fun th => f (gGet th a)) s

/-! ### Spaces (R155 to R158, R209 to R216) -/

/-- Sizes of the spaces (Table HOB-1). -/
def spaceSize : Space → Nat
  | .fw => 128
  | .md => 64
  | .he => 64
  | .fe => 32
  | .sc => 256
  | .kc => 65536

/-- Byte `i` of FW: the head with this invocation's rewrites; zero beyond the frame (R157). -/
def fwRead (fr : Inflight) (th : Thread) (i : Nat) : Byte :=
  if i < fr.rx.bytes.length then fwByte fr.rx.bytes th.res.edits i else 0

/-- `n` bytes of FW. -/
def fwBytes (fr : Inflight) (th : Thread) (o n : Nat) : List Byte := (List.range n).map fun i => fwRead fr th (o + i)

/-- The network-order value of FW bytes; bytes beyond the window read zero. -/
def fwVal (fr : Inflight) (th : Thread) (o n : Nat) : Nat :=
  beVal ((List.range n).map fun i => if o + i < 128 then fwRead fr th (o + i) else 0)

/-- A byte of KC: a constant of the image, or an open value beyond its constants. -/
def kcByte (img : Image) (i : Nat) : Byte := if i < img.kc.length then byteAt img.kc i else Config.kcBeyond img.gen i

/-- The value that a load returns from a space other than HE. -/
def spaceRead (img : Image) (fr : Inflight) (th : Thread) (sp : Space) (ad n : Nat) : Nat :=
  match sp with
  | .fw => beVal (fwBytes fr th ad n)
  | .md => leVal (slice fr.md ad n)
  | .fe => leVal (slice th.fe ad n)
  | .sc => leVal ((List.range n).map fun i => FMap.get 0 th.sc (ad + i))
  | .kc => leVal ((List.range n).map fun i => kcByte img (ad + i))
  | .he => 0

/-- The address of an access (R212). -/
def accessAddr (th : Thread) (a : GReg) (off : Fin 65536) : Nat := (gGet th a + BitVec.ofNat 64 off.val).toNat

/-- An access is misaligned or outside its space (R156). -/
def badAccessAt (sp : Space) (ad n : Nat) : Bool := decide (ad % n ≠ 0 ∨ spaceSize sp < ad + n)

/-- LD (R212, R213). -/
def loadEff (dst a : GReg) (sp : Space) (size : Fin 4) (off : Fin 65536) : Eff := fun s img fr th =>
  let n := sizeOf4 size
  let ad := accessAddr th a off
  if badAccessAt sp ad n then (s, th, .fault fcAddress)
  else if sp = .he then (s, th, .wait (.heLoad dst.val ad n))
  else (s, gSet dst.val (BitVec.ofNat 64 (spaceRead img fr th sp ad n)) th, .next)

/-- Write bytes of FW (R157, R160): a byte at or beyond the FCS faults. -/
def fwWrite (fr : Inflight) (th : Thread) (o : Nat) (bs : List Byte) : Thread × Flow :=
  if fr.rx.bytes.length - 4 < o + bs.length ∨ 128 < o + bs.length then (th, .fault fcAddress)
  else match writeFw fr.md th.res.edits (bs.zipIdx.map fun x => (o + x.2, x.1)) with
    | .error c => (th, .fault c)
    | .ok es => ({ th with res := { th.res with edits := es } }, .next)

/-- ST (R212, R158, R176). -/
def storeEff (a b : GReg) (sp : Space) (size : Fin 4) (off : Fin 65536) : Eff := fun s _ fr th =>
  let n := sizeOf4 size
  let ad := accessAddr th a off
  let v := (gGet th b).toNat
  if badAccessAt sp ad n then (s, th, .fault fcAddress)
  else match sp with
    | .fw => (s, fwWrite fr th ad (beBytes n v))
    | .sc => (s, { th with sc := FMap.putBytes 0 th.sc ad (leBytes n v) }, .next)
    | .he =>
      if ad < 8 then (s, th, .fault fcReadOnly)
      else match heWriteFault s fr.ember fr.adm (b2n (isTimer fr)), fr.ember with
        | some c, _ => (s, th, .fault c)
        | none, none => (s, th, .fault fcHomeMiss)
        | none, some r =>
          (writeHe r ad (leBytes n v) (cacheTouch (homeOf s fr.emberLane) r fr.emberLane s), th, .next)
    | _ => (s, th, .fault fcReadOnly)

/-- The first string bit of a frame field (R209), an exact integer. -/
def fieldStart (th : Thread) (a : GReg) (boff : Fin 128) (pos : Fin 8) : Nat :=
  8 * ((gGet th a).toNat + boff.val) + pos.val

/-- FEXT (R210). -/
def fextEff (dst a : GReg) (pos : Fin 8) (len : Fin 65) (boff : Fin 128) : Eff := thrEff fun fr th =>
  let b := fieldStart th a boff pos
  if 1024 < b + len.val then (th, .fault fcAddress)
  else
    let first := b / 8
    let n := (b + len.val - 1) / 8 + 1 - first
    let v := beVal (fwBytes fr th first n)
    let drop := 8 * (first + n) - (b + len.val)
    (gSet dst.val (BitVec.ofNat 64 (v / 2 ^ drop % 2 ^ len.val)) th, .next)

/-- FINS (R211). -/
def finsEff (a b : GReg) (pos : Fin 8) (len : Fin 65) (boff : Fin 128) : Eff := thrEff fun fr th =>
  let st := fieldStart th a boff pos
  if 1024 < st + len.val then (th, .fault fcAddress)
  else
    let first := st / 8
    let n := (st + len.val - 1) / 8 + 1 - first
    let old := beVal (fwBytes fr th first n)
    let drop := 8 * (first + n) - (st + len.val)
    let field := old / 2 ^ drop % 2 ^ len.val
    let new := old - field * 2 ^ drop + (gGet th b).toNat % 2 ^ len.val * 2 ^ drop
    fwWrite fr th first (beBytes n new)

/-! ### Lookups (R223 to R227) -/

/-- The station key of a FID and a MAC. -/
def stationKey (fid mac : Nat) : Nat := fid % 4096 * 2 ^ 48 + mac % 2 ^ 48

/-- The FID in MD bytes 50 and 51. -/
def mdFid (fr : Inflight) : Nat := fld (leVal (slice fr.md 50 2)) 11 0

/-- The key of a STATION lookup (Table ISA-6). -/
def stationLookupKey (fr : Inflight) (th : Thread) (keysel : Nat) (va : DWord) : Nat :=
  match keysel with
  | 0 => va.toNat % 2 ^ 60
  | 1 => stationKey (mdFid fr) (fwVal fr th 0 6)
  | _ => stationKey (mdFid fr) (fwVal fr th 6 6)

/-- The address of a ROUTE lookup; none where the layer is absent or of another type (R224). -/
def routeLookupAddr (fr : Inflight) (th : Thread) (v6 : Bool) (keysel : Nat) (va vb : DWord) : Option Nat :=
  let kind := if v6 then 2 else 1
  let n := if v6 then 16 else 4
  let outer := decide (mdByte fr.md 8 % 16 = kind)
  let inner := decide (mdByte fr.md 8 / 16 = kind)
  match keysel with
  | 0 => some (if v6 then va.toNat * 2 ^ 64 + vb.toNat else va.toNat % 2 ^ 32)
  | 1 => if outer then some (fwVal fr th (mdByte fr.md 2 + if v6 then 24 else 16) n) else none
  | 2 => if outer then some (fwVal fr th (mdByte fr.md 2 + if v6 then 8 else 12) n) else none
  | _ => if inner then some (fwVal fr th (mdByte fr.md 6 + if v6 then 24 else 16) n) else none

/-- What a lookup answers: the word, hit, the TCAM argument, the station hit, the entry whose ECC the read covers, and the others read:
filter words, ECMP members and next hops. -/
structure Answer where
  word : Nat := 0
  hit : Bool := false
  arg : Nat := 0
  station : Option (Nat × Nat) := none
  entry : Option (Nat × Nat) := none
  also : List (Nat × Nat) := []

/-- The `n`-th entry that a lookup read. -/
def entryRead (x : Answer) (n : Nat) : Option (Nat × Nat) := (x.entry.toList ++ x.also)[n]?

/-- A lookup as of the invocation's admission tick (R223, Table ISA-7). -/
def lookupAnswer (s : State) (fr : Inflight) (th : Thread) (table keysel param : Nat) (va vb : DWord) : Answer :=
  let a := fr.adm
  match table with
  | 0 =>
    let k := stationLookupKey fr th keysel va
    let e := (stationAt s k).map fun i => (0, i)
    match stationLookup s k a with
    | some d => { word := d % 2 ^ 63, hit := true, station := some (fld k 59 48, fld k 47 0), entry := e }
    | none => { entry := e }
  | 1 =>
    match routeLookupAddr fr th false keysel va vb with
    | none => {}
    | some ad =>
      let r := routeLookup s false ad param a
      { word := routeAnswer r, hit := r.1.isSome, entry := (r.1.bind fun x => routeAt s x.1).map fun i => (1, i),
        also := [(tcFilter, blockWord false ad), (tcFilter, 0)] }
  | 2 =>
    match routeLookupAddr fr th true keysel va vb with
    | none => {}
    | some ad =>
      let r := routeLookup s true ad param a
      { word := routeAnswer r, hit := r.1.isSome, entry := (r.1.bind fun x => routeAt s x.1).map fun i => (1, i),
        also := [(tcFilter, blockWord true ad), (tcFilter, 1)] }
  | 3 =>
    let i := va.toNat % 2 ^ 18
    let d := nexthopAt s i a
    { word := if tb d 63 then d % 2 ^ 59 else 0, hit := tb d 63, entry := some (2, i) }
  | 4 =>
    let g := va.toNat % 2 ^ 14
    let d := entryAt s tcGroup s.tbl.groups g a
    let n := fld d 26 18
    let reads := if tb d 63 then ecmpReads s (fld d 17 0) n a n (fld va.toNat 31 16 * n / 65536) else []
    match ecmpSelect s g (fld va.toNat 31 16) a with
    | some (h, j) => { word := h + j * 2 ^ 48 + 2 ^ 62, hit := true, entry := some (3, g), also := reads }
    | none => { entry := some (3, g), also := reads }
  | _ =>
    match tcamWinner s a param fr.rx.bytes fr.md va vb with
    | some (i, e) => { word := e.action, hit := true, arg := e.arg, entry := some (8, i) }
    | none => {}

/-- Count a corrected error (R271, R315). -/
def eccCorrected (tbl : Nat) (s : State) : State :=
  if tbl = 8 then regCountN .TCAM_ECC_CNT 0 15 1 s else regCountN .TBL_ECC_CNT 0 15 1 s

/-- What the ECC of the entry read finds (R271, R315). -/
def lookupEcc (entry : Option (Nat × Nat)) (ecc : EccResult) (s : State) : State :=
  match entry, ecc with
  | some (t, _), .corrected => eccCorrected t s
  | some (t, i), .uncorrectable => if t = 8 then actionFault i s else eccFault t i s
  | _, _ => s

/-- An answer reaches its thread (R223, R226, R227). -/
def deliver (table dst pd : Nat) (x : Answer) (th : Thread) : Thread :=
  let th1 := pSet pd x.hit (gSet dst (BitVec.ofNat 64 x.word) th)
  let th2 := if table = 5 then gSet (dst + 1) (BitVec.ofNat 64 x.arg) th1 else th1
  let hits := match x.station with
    | some h => th2.res.hits ++ [h]
    | none => th2.res.hits
  { th2 with wait := .ready, res := { th2.res with hits := hits } }

/-- Continue a thread whose access has completed (R201). -/
def answerThread (t : ThreadRef) (f : State → Image → Inflight → Thread → Option (State × Thread)) (s : State) : State :=
  let k := threadKey t
  match runningAt s k with
  | none => s
  | some (th, fr, img) =>
    match f s img fr th with
    | none => s
    | some (s1, th1) => putThread k (stepOn { th1 with wait := .ready }) s1

/-- A LOOKUP is requested. -/
def lookupEff (table keysel param : Nat) (dst a b : GReg) (pd : PReg) : Eff := fun s _ _ th =>
  (s, th, .wait (.lookup table keysel param dst.val pd.val (gGet th a) (gGet th b)))

/-! ### Dispositions, requests and edits (R228 to R236) -/

/-- Resolve a destination word as of the admission tick (R170, R228): a port, or the reason of a drop. -/
def resolveDest (s : State) (a : Nat) (d : DWord) : Except Nat Disp :=
  let w := d.toNat
  match fld w 63 62 with
  | 0 => .ok (.fwd (BitVec.ofNat 64 (fld w 10 0)) 0)
  | 1 =>
    let h := nexthopAt s (fld w 17 0) a
    .ok (if tb h 63 then .fwd (BitVec.ofNat 64 (fld h 58 48)) 0 else .drop drNextHopInvalid)
  | 2 =>
    match ecmpSelect s (fld w 13 0) (fld w 31 16) a with
    | some (i, _) => .ok (.fwd (BitVec.ofNat 64 (fld (nexthopAt s i a) 58 48)) 0)
    | none => .ok (.drop drEcmpEmpty)
  | _ => .error fcTableIndex

/-- A disposition that a timer firing without a template may not name (R189). -/
def needTemplate (fr : Inflight) (d : Disp) : Flow := if noTemplate fr then .fault fcTemplate else .done d

/-- Discard a request beyond the limits of R233 (R394). -/
def discardRequest (th : Thread) (s : State) : State :=
  raiseLim 0x1705 0 0 1024 (w2 th.res.entryId) (regCount .EGR_REQ_DISCARD_CNT 0 s)

/-- The offset of an edit (R235), an exact integer. -/
def editOff (th : Thread) (a : GReg) (o : Fin 128) : Nat := (gGet th a).toNat + o.val

/-- Add an edit to the script. -/
def withEdit (fr : Inflight) (th : Thread) (e : Edit) (cover : List Nat) : Thread × Flow :=
  match addEdit fr.md th.res.edits e cover with
  | .error c => (th, .fault c)
  | .ok es => ({ th with res := { th.res with edits := es } }, .next)

/-- PUSH4 and PUSH8 (R235, Table HOB-3). -/
def pushEff (n : Nat) (a b : GReg) (o : Fin 128) : Eff := thrEff fun fr th =>
  let off := editOff th a o
  if off < 12 ∨ 127 < off then (th, .fault fcAddress)
  else withEdit fr th (.push off (beBytes n (gGet th b).toNat)) [off]

/-- An edit of `n` bytes at `off` breaks the limits of Table HOB-3 or reaches the FCS (R161). -/
def editBeyond (fr : Inflight) (off n : Nat) : Bool :=
  decide (off < 12 ∨ 128 < off + n ∨ fr.rx.bytes.length - 4 < off + n)

/-- POP4 and POP8 (R235). -/
def popEff (n : Nat) (a : GReg) (o : Fin 128) : Eff := thrEff fun fr th =>
  let off := editOff th a o
  if editBeyond fr off n then (th, .fault fcAddress)
  else withEdit fr th (.pop off n) ((List.range n).map (off + ·))

/-- REPLACE4 and REPLACE8 (R235). -/
def replaceEff (n : Nat) (a b : GReg) (o : Fin 128) : Eff := thrEff fun fr th =>
  let off := editOff th a o
  if editBeyond fr off n then (th, .fault fcAddress)
  else withEdit fr th (.replace off (beBytes n (gGet th b).toNat)) ((List.range n).map (off + ·))

/-! ### Commands: arithmetic, logic and compares (R203 to R207) -/

/-- ADD (R203). -/
def execAdd (t : ThreadRef) (gd : Guard) (dst a b : GReg) (s : State) : Host.Outcome State Fault Refusal :=
  .next (issueA 0x01 t gd dst a b (· + ·) s)

/-- SUB (R203). -/
def execSub (t : ThreadRef) (gd : Guard) (dst a b : GReg) (s : State) : Host.Outcome State Fault Refusal :=
  .next (issueA 0x02 t gd dst a b (· - ·) s)

/-- AND (R203). -/
def execAnd (t : ThreadRef) (gd : Guard) (dst a b : GReg) (s : State) : Host.Outcome State Fault Refusal :=
  .next (issueA 0x03 t gd dst a b (· &&& ·) s)

/-- OR (R203). -/
def execOr (t : ThreadRef) (gd : Guard) (dst a b : GReg) (s : State) : Host.Outcome State Fault Refusal :=
  .next (issueA 0x04 t gd dst a b (· ||| ·) s)

/-- XOR (R203). -/
def execXor (t : ThreadRef) (gd : Guard) (dst a b : GReg) (s : State) : Host.Outcome State Fault Refusal :=
  .next (issueA 0x05 t gd dst a b (· ^^^ ·) s)

/-- ANDN (R203). -/
def execAndn (t : ThreadRef) (gd : Guard) (dst a b : GReg) (s : State) : Host.Outcome State Fault Refusal :=
  .next (issueA 0x06 t gd dst a b (fun x y => x &&& ~~~y) s)

/-- SHL (R203). -/
def execShl (t : ThreadRef) (gd : Guard) (dst a b : GReg) (s : State) : Host.Outcome State Fault Refusal :=
  .next (issueA 0x07 t gd dst a b (fun x y => x <<< (y.toNat % 64)) s)

/-- SHR (R203). -/
def execShr (t : ThreadRef) (gd : Guard) (dst a b : GReg) (s : State) : Host.Outcome State Fault Refusal :=
  .next (issueA 0x08 t gd dst a b (fun x y => x >>> (y.toNat % 64)) s)

/-- SAR (R203). -/
def execSar (t : ThreadRef) (gd : Guard) (dst a b : GReg) (s : State) : Host.Outcome State Fault Refusal :=
  .next (issueA 0x09 t gd dst a b (fun x y => x.sshiftRight (y.toNat % 64)) s)

/-- MUL (R203). -/
def execMul (t : ThreadRef) (gd : Guard) (dst a b : GReg) (s : State) : Host.Outcome State Fault Refusal :=
  .next (issueA 0x0A t gd dst a b (· * ·) s)

/-- MINU (R203). -/
def execMinu (t : ThreadRef) (gd : Guard) (dst a b : GReg) (s : State) : Host.Outcome State Fault Refusal :=
  .next (issueA 0x0B t gd dst a b (fun x y => if x.toNat ≤ y.toNat then x else y) s)

/-- MAXU (R203). -/
def execMaxu (t : ThreadRef) (gd : Guard) (dst a b : GReg) (s : State) : Host.Outcome State Fault Refusal :=
  .next (issueA 0x0C t gd dst a b (fun x y => if x.toNat ≤ y.toNat then y else x) s)

/-- POPC (R203). -/
def execPopc (t : ThreadRef) (gd : Guard) (dst a : GReg) (s : State) : Host.Outcome State Fault Refusal :=
  .next (issueA1 0x0D t gd dst a popcount s)

/-- CLZ (R203). -/
def execClz (t : ThreadRef) (gd : Guard) (dst a : GReg) (s : State) : Host.Outcome State Fault Refusal :=
  .next (issueA1 0x0E t gd dst a leadingZeros s)

/-- HASH (R206). -/
def execHash (t : ThreadRef) (gd : Guard) (dst a b : GReg) (s : State) : Host.Outcome State Fault Refusal :=
  .next (issueA 0x0F t gd dst a b
    (fun x y => (crc32c (leBytes 8 x.toNat ++ leBytes 8 y.toNat)).setWidth 64) s)

/-- MOV (R203). -/
def execMov (t : ThreadRef) (gd : Guard) (dst a : GReg) (s : State) : Host.Outcome State Fault Refusal :=
  .next (issueA1 0x10 t gd dst a id s)

/-- PAND (R207). -/
def execPand (t : ThreadRef) (gd : Guard) (pd pa pb : PReg) (s : State) : Host.Outcome State Fault Refusal :=
  .next (issueP 0x14 t gd pd pa pb (· && ·) s)

/-- POR (R207). -/
def execPor (t : ThreadRef) (gd : Guard) (pd pa pb : PReg) (s : State) : Host.Outcome State Fault Refusal :=
  .next (issueP 0x15 t gd pd pa pb (· || ·) s)

/-- PXOR (R207). -/
def execPxor (t : ThreadRef) (gd : Guard) (pd pa pb : PReg) (s : State) : Host.Outcome State Fault Refusal :=
  .next (issueP 0x16 t gd pd pa pb (fun x y => x != y) s)

/-- PANDN (R207). -/
def execPandn (t : ThreadRef) (gd : Guard) (pd pa pb : PReg) (s : State) : Host.Outcome State Fault Refusal :=
  .next (issueP 0x17 t gd pd pa pb (fun x y => x && !y) s)

/-- CEQ (R207). -/
def execCeq (t : ThreadRef) (gd : Guard) (pd : PReg) (a b : GReg) (s : State) : Host.Outcome State Fault Refusal :=
  .next (issueC 0x18 t gd pd a b (fun x y => decide (x = y)) s)

/-- CNE (R207). -/
def execCne (t : ThreadRef) (gd : Guard) (pd : PReg) (a b : GReg) (s : State) : Host.Outcome State Fault Refusal :=
  .next (issueC 0x19 t gd pd a b (fun x y => decide (x ≠ y)) s)

/-- CLTU (R207). -/
def execCltu (t : ThreadRef) (gd : Guard) (pd : PReg) (a b : GReg) (s : State) : Host.Outcome State Fault Refusal :=
  .next (issueC 0x1A t gd pd a b (fun x y => decide (x.toNat < y.toNat)) s)

/-- CLEU (R207). -/
def execCleu (t : ThreadRef) (gd : Guard) (pd : PReg) (a b : GReg) (s : State) : Host.Outcome State Fault Refusal :=
  .next (issueC 0x1B t gd pd a b (fun x y => decide (x.toNat ≤ y.toNat)) s)

/-- CLTS (R207). -/
def execClts (t : ThreadRef) (gd : Guard) (pd : PReg) (a b : GReg) (s : State) : Host.Outcome State Fault Refusal :=
  .next (issueC 0x1C t gd pd a b (fun x y => decide (x.toInt < y.toInt)) s)

/-- CLES (R207). -/
def execCles (t : ThreadRef) (gd : Guard) (pd : PReg) (a b : GReg) (s : State) : Host.Outcome State Fault Refusal :=
  .next (issueC 0x1D t gd pd a b (fun x y => decide (x.toInt ≤ y.toInt)) s)

/-- ADDI (R203). -/
def execAddi (t : ThreadRef) (gd : Guard) (dst a : GReg) (imm : Word) (s : State) : Host.Outcome State Fault Refusal :=
  .next (issueI 0x21 t gd dst a imm (fun x => x + immS imm) s)

/-- ANDI (R203). -/
def execAndi (t : ThreadRef) (gd : Guard) (dst a : GReg) (imm : Word) (s : State) : Host.Outcome State Fault Refusal :=
  .next (issueI 0x23 t gd dst a imm (fun x => x &&& immZ imm) s)

/-- ORI (R203). -/
def execOri (t : ThreadRef) (gd : Guard) (dst a : GReg) (imm : Word) (s : State) : Host.Outcome State Fault Refusal :=
  .next (issueI 0x24 t gd dst a imm (fun x => x ||| immZ imm) s)

/-- XORI (R203). -/
def execXori (t : ThreadRef) (gd : Guard) (dst a : GReg) (imm : Word) (s : State) : Host.Outcome State Fault Refusal :=
  .next (issueI 0x25 t gd dst a imm (fun x => x ^^^ immZ imm) s)

/-- SHLI (R205). -/
def execShli (t : ThreadRef) (gd : Guard) (dst a : GReg) (imm : Word) (s : State) : Host.Outcome State Fault Refusal :=
  .next (issueI 0x27 t gd dst a imm (fun x => x <<< (imm.toNat % 64)) s)

/-- SHRI (R205). -/
def execShri (t : ThreadRef) (gd : Guard) (dst a : GReg) (imm : Word) (s : State) : Host.Outcome State Fault Refusal :=
  .next (issueI 0x28 t gd dst a imm (fun x => x >>> (imm.toNat % 64)) s)

/-- SARI (R205). -/
def execSari (t : ThreadRef) (gd : Guard) (dst a : GReg) (imm : Word) (s : State) : Host.Outcome State Fault Refusal :=
  .next (issueI 0x29 t gd dst a imm (fun x => x.sshiftRight (imm.toNat % 64)) s)

/-- MOVI (R203). -/
def execMovi (t : ThreadRef) (gd : Guard) (dst : GReg) (imm : Word) (s : State) : Host.Outcome State Fault Refusal :=
  .next (issueI 0x30 t gd dst 0 imm (fun _ => immS imm) s)

/-- MOVHI (R205). -/
def execMovhi (t : ThreadRef) (gd : Guard) (dst a : GReg) (imm : Word) (s : State) : Host.Outcome State Fault Refusal :=
  .next (issueI 0x31 t gd dst a imm (fun x => immZ imm <<< 32 ||| x &&& 0xFFFFFFFF) s)

/-- CEQI (R207). -/
def execCeqi (t : ThreadRef) (gd : Guard) (pd : PReg) (a : GReg) (imm : Word) (s : State) :
    Host.Outcome State Fault Refusal :=
  .next (issueCI 0x38 t gd pd a imm (fun x => decide (x = immS imm)) s)

/-- CNEI (R207). -/
def execCnei (t : ThreadRef) (gd : Guard) (pd : PReg) (a : GReg) (imm : Word) (s : State) :
    Host.Outcome State Fault Refusal :=
  .next (issueCI 0x39 t gd pd a imm (fun x => decide (x ≠ immS imm)) s)

/-- CLTUI (R207). -/
def execCltui (t : ThreadRef) (gd : Guard) (pd : PReg) (a : GReg) (imm : Word) (s : State) :
    Host.Outcome State Fault Refusal :=
  .next (issueCI 0x3A t gd pd a imm (fun x => decide (x.toNat < imm.toNat)) s)

/-- CGTUI (R207). -/
def execCgtui (t : ThreadRef) (gd : Guard) (pd : PReg) (a : GReg) (imm : Word) (s : State) :
    Host.Outcome State Fault Refusal :=
  .next (issueCI 0x3B t gd pd a imm (fun x => decide (imm.toNat < x.toNat)) s)

/-- CLTSI (R207). -/
def execCltsi (t : ThreadRef) (gd : Guard) (pd : PReg) (a : GReg) (imm : Word) (s : State) :
    Host.Outcome State Fault Refusal :=
  .next (issueCI 0x3C t gd pd a imm (fun x => decide (x.toInt < imm.toInt)) s)

/-- CGTSI (R207). -/
def execCgtsi (t : ThreadRef) (gd : Guard) (pd : PReg) (a : GReg) (imm : Word) (s : State) :
    Host.Outcome State Fault Refusal :=
  .next (issueCI 0x3D t gd pd a imm (fun x => decide (imm.toInt < x.toInt)) s)

/-! ### Commands: bit fields and frame fields (R208 to R211) -/

/-- EXT (R208). -/
def execExt (t : ThreadRef) (gd : Guard) (dst a : GReg) (pos : Fin 64) (len : Fin 65) (s : State) :
    Host.Outcome State Fault Refusal :=
  .next (issueN t (encF 0x40 dst.val a.val 0 gd pos.val len.val 0) gd
    (regEff dst fun th => BitVec.ofNat 64 ((gGet th a).toNat / 2 ^ pos.val % 2 ^ len.val)) s)

/-- INS (R208). -/
def execIns (t : ThreadRef) (gd : Guard) (dst a b : GReg) (pos : Fin 64) (len : Fin 65) (s : State) :
    Host.Outcome State Fault Refusal :=
  .next (issueN t (encF 0x41 dst.val a.val b.val gd pos.val len.val 0) gd
    (regEff dst fun th =>
      let x := (gGet th a).toNat
      let old := x / 2 ^ pos.val % 2 ^ len.val
      BitVec.ofNat 64 (x - old * 2 ^ pos.val + (gGet th b).toNat % 2 ^ len.val * 2 ^ pos.val)) s)

/-- TBIT (R208). -/
def execTbit (t : ThreadRef) (gd : Guard) (pd : PReg) (a : GReg) (pos : Fin 64) (s : State) :
    Host.Outcome State Fault Refusal :=
  .next (issueN t (encF 0x42 pd.val a.val 0 gd pos.val 0 0) gd (predEff pd fun th => (gGet th a).getLsbD pos.val) s)

/-- FEXT (R210). -/
def execFext (t : ThreadRef) (gd : Guard) (dst a : GReg) (pos : Fin 8) (len : Fin 65) (boff : Fin 128) (s : State) :
    Host.Outcome State Fault Refusal :=
  .next (issueN t (encF 0x43 dst.val a.val 0 gd pos.val len.val boff.val) gd (fextEff dst a pos len boff) s)

/-- FINS (R211). -/
def execFins (t : ThreadRef) (gd : Guard) (a b : GReg) (pos : Fin 8) (len : Fin 65) (boff : Fin 128) (s : State) :
    Host.Outcome State Fault Refusal :=
  .next (issueN t (encF 0x44 0 a.val b.val gd pos.val len.val boff.val) gd (finsEff a b pos len boff) s)

/-! ### Commands: spaces, ember loads, FETCH (R212 to R216) -/

/-- LD (R212). -/
def execLd (t : ThreadRef) (gd : Guard) (dst a : GReg) (space : Space) (size : Fin 4) (off : Fin 65536) (s : State) :
    Host.Outcome State Fault Refusal :=
  .next (issueN t (encM 0x50 dst.val a.val 0 gd (spaceCode space) size.val off.val 0) gd (loadEff dst a space size off) s)

/-- ST (R212). -/
def execSt (t : ThreadRef) (gd : Guard) (a b : GReg) (space : Space) (size : Fin 4) (off : Fin 65536) (s : State) :
    Host.Outcome State Fault Refusal :=
  .next (issueN t (encM 0x51 0 a.val b.val gd (spaceCode space) size.val off.val 0) gd (storeEff a b space size off) s)

/-- FELD (R215). -/
def execFeld (t : ThreadRef) (gd : Guard) (a : GReg) (pd : PReg) (s : State) : Host.Outcome State Fault Refusal :=
  .next (issueN t (encM 0x52 0 a.val 0 gd 0 0 0 pd.val) gd
    (thrEff fun _ th =>
      let r := (gGet th a).toNat
      (th, if 1048576 ≤ r then .fault fcTableIndex else .wait (.feld r pd.val))) s)

/-- FELD_ANSWER (R178): FE holds the published half as of the admission tick. -/
def execFeldAnswer (t : ThreadRef) (s : State) : Host.Outcome State Fault Refusal :=
  .next (answerThread t (fun s _ fr th =>
    match th.wait with
    | .feld r pd =>
      let ok := emberValid s r fr.adm
      let half := if ok then (pubAt (emberOf s r) fr.adm).2 else List.replicate 32 0
      some (cacheTouch t.stove.val (2 ^ 20 + r) fr.emberLane s, pSet pd ok { th with fe := half })
    | _ => none) s)

/-- FETCH (R216). -/
def execFetch (t : ThreadRef) (gd : Guard) (dst a : GReg) (size : Fin 4) (off : Fin 65536) (s : State) :
    Host.Outcome State Fault Refusal :=
  .next (issueN t (encM 0x53 dst.val a.val 0 gd 0 size.val off.val 0) gd
    (thrEff fun _ th =>
      let ad := accessAddr th a off
      (th, if 16352 < ad + sizeOf4 size then .fault fcAddress else .wait (.fetch dst.val ad (sizeOf4 size)))) s)

/-- FETCH_ANSWER (R216): the frame's bytes as received, in network order. -/
def execFetchAnswer (t : ThreadRef) (s : State) : Host.Outcome State Fault Refusal :=
  .next (answerThread t (fun s _ fr th =>
    match th.wait with
    | .fetch dst o n => some (s, gSet dst (BitVec.ofNat 64 (beVal (slice fr.rx.bytes o n))) th)
    | _ => none) s)

/-- HE_LOAD_ANSWER (R201, R299): the home stove's slice answers. -/
def execHeLoadAnswer (t : ThreadRef) (s : State) : Host.Outcome State Fault Refusal :=
  .next (answerThread t (fun s _ fr th =>
    match th.wait with
    | .heLoad dst o n =>
      let v := leVal (slice (heBytes s fr.ember fr.adm) o n)
      let s1 := match fr.ember with
        | some r => cacheTouch (homeOf s fr.emberLane) r fr.emberLane s
        | none => s
      some (s1, gSet dst (BitVec.ofNat 64 v) th)
    | _ => none) s)

/-! ### Commands: lookups (R223 to R227) -/

/-- LOOKUP_STATION (R223). -/
def execLookupStation (t : ThreadRef) (gd : Guard) (dst a : GReg) (pd : PReg) (keysel : Fin 3) (s : State) :
    Host.Outcome State Fault Refusal :=
  .next (issueN t (encL dst.val a.val 0 gd pd.val 0 keysel.val 0) gd (lookupEff 0 keysel.val 0 dst a 0 pd) s)

/-- LOOKUP_ROUTE4 (R225). -/
def execLookupRoute4 (t : ThreadRef) (gd : Guard) (dst a : GReg) (pd : PReg) (keysel : Fin 4) (limit : Fin 16)
    (s : State) : Host.Outcome State Fault Refusal :=
  .next (issueN t (encL dst.val a.val 0 gd pd.val 1 keysel.val limit.val) gd
    (lookupEff 1 keysel.val limit.val dst a 0 pd) s)

/-- LOOKUP_ROUTE6 (R225). -/
def execLookupRoute6 (t : ThreadRef) (gd : Guard) (dst a b : GReg) (pd : PReg) (keysel : Fin 4) (limit : Fin 16)
    (s : State) : Host.Outcome State Fault Refusal :=
  .next (issueN t (encL dst.val a.val b.val gd pd.val 2 keysel.val limit.val) gd
    (lookupEff 2 keysel.val limit.val dst a b pd) s)

/-- LOOKUP_NEXTHOP (R291). -/
def execLookupNexthop (t : ThreadRef) (gd : Guard) (dst a : GReg) (pd : PReg) (s : State) :
    Host.Outcome State Fault Refusal :=
  .next (issueN t (encL dst.val a.val 0 gd pd.val 3 0 0) gd (lookupEff 3 0 0 dst a 0 pd) s)

/-- LOOKUP_ECMP (R292). -/
def execLookupEcmp (t : ThreadRef) (gd : Guard) (dst a : GReg) (pd : PReg) (s : State) :
    Host.Outcome State Fault Refusal :=
  .next (issueN t (encL dst.val a.val 0 gd pd.val 4 0 0) gd (lookupEff 4 0 0 dst a 0 pd) s)

/-- LOOKUP_TCAM (R317). -/
def execLookupTcam (t : ThreadRef) (gd : Guard) (dst a b : GReg) (pd : PReg) (profile : Fin 16) (s : State) :
    Host.Outcome State Fault Refusal :=
  .next (issueN t (encL dst.val a.val b.val gd pd.val 5 0 profile.val) gd (lookupEff 5 0 profile.val dst a b pd) s)

/-- LOOKUP_ANSWER (R223): the answer as of the admission tick arrives; an uncorrectable entry is a miss (R271). `which` counts the entries
that the lookup read; `ecc` is what the ECC of that one finds. -/
def execLookupAnswer (t : ThreadRef) (ecc : EccResult) (which : Nat) (s : State) : Host.Outcome State Fault Refusal :=
  .next (answerThread t (fun s _ fr th =>
    match th.wait with
    | .lookup table keysel param dst pd va vb =>
      let x := lookupAnswer s fr th table keysel param va vb
      let s1 := lookupEcc (entryRead x which) ecc s
      let y := if ecc = .uncorrectable then lookupAnswer s1 fr th table keysel param va vb else x
      some (s1, deliver table dst pd y th)
    | _ => none) s)

/-! ### Commands: control (R217 to R222) -/

/-- BR (R217). -/
def execBr (t : ThreadRef) (gd : Guard) (off : Fin 65536) (s : State) : Host.Outcome State Fault Refusal :=
  .next (issueN t (encB 0x60 0 0 0 gd 0 off.val) gd (thrEff fun _ th => (th, .goto (th.pc + off.val))) s)

/-- LOOP (R218). -/
def execLoop (t : ThreadRef) (gd : Guard) (dst : GReg) (count : Fin 16) (off : Fin 65536) (s : State) :
    Host.Outcome State Fault Refusal :=
  .next (issue t (encB 0x61 dst.val 0 0 gd count.val off.val) gd (fun th => .goto (th.pc + off.val + 1))
    (thrEff fun _ th =>
      (gSet dst.val 0 { th with loop := some ⟨th.pc + 1, th.pc + off.val, 0, count.val, dst.val⟩ }, .goto (th.pc + 1))) s)

/-- BRX (R219). -/
def execBrx (t : ThreadRef) (gd : Guard) (a b : GReg) (s : State) : Host.Outcome State Fault Refusal :=
  .next (issueN t (encB 0x62 0 a.val b.val gd 0 0) gd
    (fun s img _ th =>
      let w := (gGet th a).toNat
      let h := if tb w 54 then fld w 53 46 else 0
      match img.handlers[h]? with
      | none => (s, th, .fault fcTableIndex)
      | some pc =>
        let th1 := gSet 31 (gGet th b) th
        (s, { th1 with res := { th1.res with entryId := 1 + h } }, .goto pc)) s)

/-- ENTER (R173): the section is entered when every earlier ticket has passed, else the thread waits. -/
def execEnter (t : ThreadRef) (gd : Guard) (s : State) : Host.Outcome State Fault Refusal :=
  .next (issueN t (encB 0x63 0 0 0 gd 0 0) gd
    (fun s _ fr th =>
      if th.sect ≠ .before then (s, th, .next)
      else if turnCome s fr.emberLane fr.turn then (s, { th with sect := .inside }, .next)
      else (s, th, .wait .ticket)) s)

/-- ENTER_GRANT (R173). -/
def execEnterGrant (t : ThreadRef) (s : State) : Host.Outcome State Fault Refusal :=
  .next (answerThread t (fun s _ fr th =>
    if th.wait = .ticket ∧ turnCome s fr.emberLane fr.turn then some (s, { th with sect := .inside }) else none) s)

/-- LEAVE (R173, R177): the ticket passes; the value to publish is the staging copy as it stands. -/
def execLeave (t : ThreadRef) (gd : Guard) (s : State) : Host.Outcome State Fault Refusal :=
  .next (issueN t (encB 0x64 0 0 0 gd 0 0) gd
    (fun s _ fr th =>
      let pub := if th.publishing ∧ fr.ember.isSome then some (stagingOf s fr) else th.res.publish
      (passTurn fr.emberLane fr.turn s, { th with sect := .after, res := { th.res with publish := pub } }, .next)) s)

/-- PUBLISH (R221). -/
def execPublish (t : ThreadRef) (gd : Guard) (s : State) : Host.Outcome State Fault Refusal :=
  .next (issueN t (encB 0x65 0 0 0 gd 0 0) gd
    (fun s _ fr th =>
      match heWriteFault s fr.ember fr.adm (b2n (isTimer fr)) with
      | some c => (s, th, .fault c)
      | none => (s, { th with publishing := true }, .next)) s)

/-- END (R222): a frame ends without a disposition, a timer firing is complete. -/
def execEndInv (t : ThreadRef) (gd : Guard) (s : State) : Host.Outcome State Fault Refusal :=
  .next (issueN t (encB 0x66 0 0 0 gd 0 0) gd
    (thrEff fun fr th => (th, .done (if isTimer fr then .done else .none))) s)

/-- NOP (R203). -/
def execNop (t : ThreadRef) (gd : Guard) (s : State) : Host.Outcome State Fault Refusal :=
  .next (issueN t (encB 0x67 0 0 0 gd 0 0) gd (thrEff fun _ th => (th, .next)) s)

/-! ### Commands: dispositions and requests (R228 to R234) -/

/-- EMIT_FWD (R228, R229). -/
def execEmitFwd (t : ThreadRef) (gd : Guard) (a b : GReg) (queue : Fin 8) (qsrc : Bool) (s : State) :
    Host.Outcome State Fault Refusal :=
  .next (issueN t (encE 0x70 0 a.val b.val gd (queue.val * 2 ^ 31 + b2n qsrc * 2 ^ 30)) gd
    (fun s _ fr th =>
      let q := if qsrc then (gGet th b).toNat % 8 else queue.val
      match resolveDest s fr.adm (gGet th a) with
      | .error c => (s, th, .fault c)
      | .ok (.fwd p _) => (s, th, needTemplate fr (.fwd p q))
      | .ok d => (s, th, needTemplate fr d)) s)

/-- EMIT_MCAST (R229). -/
def execEmitMcast (t : ThreadRef) (gd : Guard) (a : GReg) (s : State) : Host.Outcome State Fault Refusal :=
  .next (issueN t (encE 0x70 0 a.val 0 gd (1 * 2 ^ 34)) gd
    (thrEff fun fr th =>
      let g := (gGet th a).toNat
      (th, if 65536 ≤ g then .fault fcTableIndex else needTemplate fr (.mcast g))) s)

/-- EMIT_TRAP (R229). -/
def execEmitTrap (t : ThreadRef) (gd : Guard) (code : Fin 65536) (hq : Fin 64) (s : State) :
    Host.Outcome State Fault Refusal :=
  .next (issueN t (encE 0x70 0 0 0 gd (2 * 2 ^ 34 + code.val * 2 ^ 14 + hq.val * 2 ^ 8)) gd
    (thrEff fun fr th => (th, needTemplate fr (.trap hq.val code.val))) s)

/-- EMIT_DROP (R168). -/
def execEmitDrop (t : ThreadRef) (gd : Guard) (a : GReg) (reason : Byte) (rsrc : Bool) (s : State) :
    Host.Outcome State Fault Refusal :=
  .next (issueN t (encE 0x70 0 a.val 0 gd (3 * 2 ^ 34 + b2n rsrc * 2 ^ 30 + reason.toNat)) gd
    (thrEff fun _ th =>
      let r := if rsrc then (gGet th a).toNat % 256 else reason.toNat
      (th, if r < 0x80 then .fault fcDropCode else .done (.drop r))) s)

/-- EMIT_RECIRC (R169): on a second pass the frame is dropped. -/
def execEmitRecirc (t : ThreadRef) (gd : Guard) (a : GReg) (s : State) : Host.Outcome State Fault Refusal :=
  .next (issueN t (encE 0x70 0 a.val 0 gd (4 * 2 ^ 34)) gd
    (thrEff fun fr th =>
      (th, needTemplate fr (if tb (leVal (slice fr.md 44 4)) 18 then .drop drRecircLimit
                            else .recirc ((gGet th a).toNat % 2 ^ 32)))) s)

/-- MIRROR (R230, R167). -/
def execMirror (t : ThreadRef) (gd : Guard) (session : Fin 16) (s : State) : Host.Outcome State Fault Refusal :=
  .next (issueN t (encE 0x71 0 0 0 gd session.val) gd
    (thrEff fun _ th =>
      let l := th.res.mirrors
      if l.contains session.val then (th, .next)
      else if 2 ≤ l.length then (th, .fault fcMirrorLimit)
      else ({ th with res := { th.res with mirrors := l ++ [session.val] } }, .next)) s)

/-- COUNT (R231, R233). -/
def execCount (t : ThreadRef) (gd : Guard) (a b : GReg) (bsrc : Bool) (s : State) : Host.Outcome State Fault Refusal :=
  .next (issueN t (encE 0x72 0 a.val b.val gd (b2n bsrc)) gd
    (fun s _ fr th =>
      let w := (gGet th a).toNat
      let n := if bsrc then (gGet th b).toNat % 2 ^ 32 else fld (leVal (slice fr.md 26 2)) 13 0
      if !tb w 22 then (s, th, .next)
      else if 8 ≤ th.res.counts.length then (discardRequest th s, th, .next)
      else (s, { th with res := { th.res with counts := th.res.counts ++ [(fld w 21 0, n)] } }, .next)) s)

/-- METER (R232, R233). -/
def execMeter (t : ThreadRef) (gd : Guard) (a : GReg) (s : State) : Host.Outcome State Fault Refusal :=
  .next (issueN t (encE 0x73 0 a.val 0 gd 0) gd
    (fun s _ _ th =>
      let w := (gGet th a).toNat
      if !tb w 41 then (s, th, .next)
      else if 2 ≤ th.res.meters.length then (discardRequest th s, th, .next)
      else (s, { th with res := { th.res with meters := th.res.meters ++ [(fld w 40 23, fld w 45 42)] } }, .next)) s)

/-- LEARN (R234). -/
def execLearn (t : ThreadRef) (gd : Guard) (a b : GReg) (ksrc : Bool) (s : State) : Host.Outcome State Fault Refusal :=
  .next (issueN t (encE 0x74 0 a.val b.val gd (b2n ksrc)) gd
    (thrEff fun fr th =>
      let put (x : Nat × Nat × Nat) : Thread × Flow := ({ th with res := { th.res with learn := some x } }, .next)
      let w := (gGet th a).toNat
      let p := fld (leVal (slice fr.md 48 2)) 11 0
      if ksrc then put (fld w 59 48, fld w 47 0, (gGet th b).toNat % 2 ^ 11)
      else if isTimer fr then (th, .fault fcTemplate)
      else put (mdFid fr, fwVal fr th 6 6, if p < 2048 then p else (Config.learnPort p).toNat)) s)

/-! ### Commands: edits (R235, R236) -/

/-- PUSH4 (R235). -/
def execPush4 (t : ThreadRef) (gd : Guard) (a b : GReg) (o : Fin 128) (s : State) : Host.Outcome State Fault Refusal :=
  .next (issueN t (encE 0x78 0 a.val b.val gd o.val) gd (pushEff 4 a b o) s)

/-- PUSH8 (R235). -/
def execPush8 (t : ThreadRef) (gd : Guard) (a b : GReg) (o : Fin 128) (s : State) : Host.Outcome State Fault Refusal :=
  .next (issueN t (encE 0x79 0 a.val b.val gd o.val) gd (pushEff 8 a b o) s)

/-- POP4 (R235). -/
def execPop4 (t : ThreadRef) (gd : Guard) (a : GReg) (o : Fin 128) (s : State) : Host.Outcome State Fault Refusal :=
  .next (issueN t (encE 0x7A 0 a.val 0 gd o.val) gd (popEff 4 a o) s)

/-- POP8 (R235). -/
def execPop8 (t : ThreadRef) (gd : Guard) (a : GReg) (o : Fin 128) (s : State) : Host.Outcome State Fault Refusal :=
  .next (issueN t (encE 0x7B 0 a.val 0 gd o.val) gd (popEff 8 a o) s)

/-- REPLACE4 (R235). -/
def execReplace4 (t : ThreadRef) (gd : Guard) (a b : GReg) (o : Fin 128) (s : State) :
    Host.Outcome State Fault Refusal :=
  .next (issueN t (encE 0x7C 0 a.val b.val gd o.val) gd (replaceEff 4 a b o) s)

/-- REPLACE8 (R235). -/
def execReplace8 (t : ThreadRef) (gd : Guard) (a b : GReg) (o : Fin 128) (s : State) :
    Host.Outcome State Fault Refusal :=
  .next (issueN t (encE 0x7D 0 a.val b.val gd o.val) gd (replaceEff 8 a b o) s)

/-- DEC_TTL (R236). -/
def execDecTtl (t : ThreadRef) (gd : Guard) (s : State) : Host.Outcome State Fault Refusal :=
  .next (issueN t (encE 0x7E 0 0 0 gd 0) gd
    (thrEff fun fr th =>
      let ty := mdByte fr.md 8 % 16
      if ty = 1 ∨ ty = 2 then withEdit fr th .decTtl [ttlOff fr.md] else (th, .fault fcAddress)) s)

end Sys2Proof.Machine
end

