-- ==== Sys2Proof/Machine/Stove.lean ====
section
/-! DEFINITION. Stoves (chapter 07): states, homing, dispatch, stealing, failure, the groups' clocks and parking, and the
timer firings and activation of program images (chapter 05). -/

namespace Sys2Proof.Machine

/-! ### Stoves and groups -/

/-- Stove `i`. -/
def stoveOf (s : State) (i : Nat) : Stove := FMap.get {} s.hob.stoves i

/-- Change stove `i`. -/
def modStove (i : Nat) (f : Stove → Stove) (s : State) : State :=
  modHob (fun h => { h with stoves := FMap.upd {} h.stoves i f }) s

/-- Group `g`. -/
def groupOf (s : State) (g : Nat) : Group := FMap.get {} s.hob.groups g

/-- Change group `g`. -/
def modGroup (g : Nat) (f : Group → Group) (s : State) : State :=
  modHob (fun h => { h with groups := FMap.upd {} h.groups g f }) s

/-- The codes of Table STOVE-2. -/
def stoveCode : StoveState → Nat
  | .parked => 0
  | .spare => 1
  | .inService => 2
  | .draining => 3
  | .sweep => 4
  | .failed => 5
  | .waking => 6

/-- All stoves, ascending. -/
def allStoves : List Nat := List.range 68

/-- The stoves in a state, ascending. -/
def stovesIn (s : State) (st : StoveState) : List Nat := allStoves.filter fun i => (stoveOf s i).st = st

/-- The stoves in service, ascending. -/
def inService (s : State) : List Nat := stovesIn s .inService

/-- Put a stove into a state. -/
def putStove (i : Nat) (st : StoveState) (s : State) : State := modStove i (fun x => { x with st := st }) s

/-- Event 0x1301 for a stove that has left the state `old` (R264). -/
def noteStove (i : Nat) (old : StoveState) (s : State) : State :=
  let st := (stoveOf s i).st
  if old = st then s else raiseEv 0x1301 0 (w2 i ++ w2 (stoveCode old) ++ w2 (stoveCode st) ++ w4 s.clk.tick) s

/-- Put a stove into a state; event 0x1301 when it changes (R264). -/
def setStove (i : Nat) (st : StoveState) (s : State) : State := noteStove i (stoveOf s i).st (putStove i st s)

/-- The stoves that may be in service (R242). -/
def eligible (s : State) : List Nat :=
  allStoves.filter fun i =>
    let st := (stoveOf s i).st
    let g := groupOf s (i / 4)
    (st = .inService || st = .spare) && g.powered && !g.parking && !g.sweeping

/-- Hob cycles per tick at a clock code: ⌊f × 51.2 ns⌋ (R134, R260). -/
def qOf (code : Nat) : Nat := (8 + code) * 512 / 100

/-- This twin's H and Q (R134). -/
def ownCapacity (s : State) : Nat × Nat :=
  let l := inService s
  let qs := l.map fun i => let g := groupOf s (i / 4); qOf (g.qLimit.getD g.freq)
  (32 * Nat.min 64 l.length, match qs with
    | [] => 0
    | q :: r => r.foldl Nat.min q)

/-- H and Q are to be `c` from effect tick `e` on; in a pair a CAPACITY message tells the partner (R135, R418). -/
def announceCapacity (c : Nat × Nat) (e : Nat) (s : State) : State :=
  if s.adm.announced = some c then s
  else
    let s1 := modAdm (fun a => { a with announced := some c, capAt := a.capAt ++ [(e, false, c.1, c.2)] }) s
    if !inPair s && !s.twin.source then s1
    else flueSend 0x15 0 e (leBytes 2 c.1 ++ [BitVec.ofNat 8 c.2, 0]) s1

/-- A change of H or Q is given an effect tick (R135). -/
def noteCapacity (s : State) : State := announceCapacity (ownCapacity s) (assignTick s) s

/-! ### Homing (R245 to R247) -/

/-- Home a lane on a stove. -/
def setHome (l t : Nat) (h : Hobs) : Hobs :=
  { h with homeExc := FMap.set 0 h.homeExc l (if h.homeBase.getD (l % h.homeBase.length) 0 = t then 0 else t + 1) }

/-- The lanes homed on a stove, ascending. -/
def lanesOf (s : State) (i : Nat) : List Nat :=
  let n := s.hob.homeBase.length
  let base := (s.hob.homeBase.zipIdx.filter fun x => decide (x.1 = i)).flatMap fun x =>
    ((List.range ((262144 + n - 1 - x.2) / n)).map fun k => x.2 + k * n).filter fun l =>
      (FMap.find? s.hob.homeExc l).isNone
  let exc := (s.hob.homeExc.filter fun e => decide (e.2 = i + 1)).map (·.1)
  sortBy (fun a b => decide (a ≤ b)) (base ++ exc)

/-- The stove with the fewest lanes, the lowest-numbered among equals. -/
def fewest : List (Nat × Nat) → Option Nat
  | [] => none
  | x :: r => some (r.foldl (fun (b : Nat × Nat) y => if y.2 < b.2 then y else b) x).1

/-- R246, a stove leaves: its lanes, ascending, go each to the in-service stove with the fewest. -/
def rehomeLeaving : List Nat → List (Nat × Nat) → Hobs → Hobs
  | [], _, h => h
  | l :: ls, cs, h =>
    match fewest cs with
    | none => h
    | some t => rehomeLeaving ls (cs.map fun c => if c.1 = t then (c.1, c.2 + 1) else c) (setHome l t h)

/-- The stove with the most lanes, the highest-numbered among equals: its number and highest lane. -/
def fullest : List (Nat × List Nat) → Option (Nat × Nat)
  | [] => none
  | x :: r =>
    let m := r.foldl (fun (b : Nat × List Nat) y => if b.2.length ≤ y.2.length then y else b) x
    match m.2 with
    | [] => none
    | l :: _ => some (m.1, l)

/-- R246, a stove enters: it takes `k` lanes, each the highest lane of the stove with the most. -/
def rehomeEntering (i : Nat) : Nat → List (Nat × List Nat) → Hobs → Hobs
  | 0, _, h => h
  | k + 1, ls, h =>
    match fullest ls with
    | none => h
    | some (t, l) =>
      rehomeEntering i k (ls.map fun x => if x.1 = t then (x.1, x.2.drop 1) else x) (setHome l i h)

/-- A stove's lanes move away. -/
def leaveHome (cs : List Nat) (i : Nat) (s : State) : State :=
  modHob (rehomeLeaving (lanesOf s i) (cs.map fun t => (t, (lanesOf s t).length))) s

/-- A stove takes its share of the lanes. -/
def enterHome (cs : List Nat) (i : Nat) (s : State) : State :=
  let need := 262144 / cs.length - (lanesOf s i).length
  let others := (cs.filter fun t => t ≠ i).map fun t => (t, (lanesOf s t).reverse)
  modHob (rehomeEntering i need others) s

/-- R246: the set of in-service stoves changes; the slices release the records of the lanes moved (R247). While no stove is in
service lanes keep their homes, and the first stoves after that take them as at start-up (notes/assumptions/163.md). -/
def rehome (before leave enter : List Nat) (s : State) : State :=
  let now := inService s
  if now.isEmpty then s
  else cacheReleaseMoved (if before.isEmpty then modHob (fun h => { h with homeBase := now, homeExc := [] }) s
    else forEach enter (enterHome now) (forEach leave (leaveHome now) s))

/-- R242: after the marked stoves take their states, the lowest 64 eligible stoves are in service, the others spare. Each stove
whose state is another than before raises event 0x1301 once (R264), and the last spare's entry 0x1303 (R259). -/
def applySet (marks : List (Nat × StoveState)) (s : State) : State :=
  let before := inService s
  let s1 := forEach marks (fun m => putStove m.1 m.2) s
  let want := (eligible s1).take 64
  let leave := (inService s1).filter fun i => !want.contains i
  let enter := want.filter fun i => (stoveOf s1 i).st ≠ .inService
  let s2 := forEach enter (fun i => putStove i .inService) (forEach leave (fun i => putStove i .draining) s1)
  let s3 := forEach ((marks.map fun m => m.1) ++ leave ++ enter).eraseDups (fun i => noteStove i (stoveOf s i).st) s2
  let s4 := rehome before (before.filter fun i => !want.contains i) enter s3
  let s5 := if (enter.any fun i => decide ((stoveOf s i).st = .spare)) && (stovesIn s4 .spare).isEmpty
    then raiseEv 0x1303 0 (w2 (inService s4).length) s4 else s4
  noteCapacity s5

/-- No invocation is queued or running on a stove (R243). -/
def stoveIdle (s : State) (i : Nat) : Bool :=
  (stoveOf s i).queue.isEmpty && (stoveOf s i).timerQueue.isEmpty
    && !(s.hob.threads.any fun e => decide (e.1 / 256 = i))

/-- R243: a DRAINING stove with nothing left leaves DRAINING; one of a parking group waits for its domain
(notes/assumptions/13.md), and one of a group unparked since is WAKING (R262). -/
def stoveDrainedStep (i : Nat) (s : State) : State :=
  if (stoveOf s i).st = .draining ∧ stoveIdle s i then
    let g := groupOf s (i / 4)
    if g.parking then s
    else if g.sweeping then setStove i .sweep s
    else if g.wakeFrom.isSome then setStove i .waking s
    else applySet [(i, .spare)] s
  else s

/-! ### Dispatch (R248, R249) -/

/-- A work queue holds 2,048 descriptors. -/
def queueRoom (s : State) (i : Nat) : Bool := decide ((stoveOf s i).queue.length < 2048)

/-- The frame or firing may enter stove `i`: the stove is in service (R241, R243) and, for a frame, its work queue has room. -/
def mayEnter (s : State) (i : Nat) (timer : Bool) : Bool :=
  decide ((stoveOf s i).st = .inService) && (timer || queueRoom s i)

/-- A frame, or a firing, waits at dispatch for the same stove as an earlier one. -/
def waitsBefore (s : State) (i : Nat) (timer : Bool) : Bool :=
  s.hob.dispWait.any fun f => match flightOf s f with
    | some x => decide (homeOf s x.emberLane = i ∧ isTimer x = timer)
    | none => false

/-- It enters stove `i`: a frame its work queue, a firing the queue of its reserved thread (R188). -/
def enterStove (i f : Nat) (timer : Bool) (s : State) : State :=
  modStove i (fun x => if timer then { x with timerQueue := x.timerQueue ++ [f] } else { x with queue := x.queue ++ [f] }) s

/-- R249: dispatch one frame or firing: it takes its ticket and enters its home stove, or waits. -/
def dispatchOne (fr : Inflight) (s : State) : State :=
  let s1 := modFlight fr.id (fun x => { x with ticket := some x.turn }) s
  let i := homeOf s fr.emberLane
  if mayEnter s i (isTimer fr) && !waitsBefore s i (isTimer fr) then enterStove i fr.id (isTimer fr) s1
  else modHob (fun h => { h with dispWait := h.dispWait ++ [fr.id] }) s1

/-- The frame or firing is to run a program and has not been dispatched. -/
def awaitsDispatch (fr : Inflight) : Bool :=
  !fr.ended && fr.ticket.isNone && (match fr.kind with
    | .program => true
    | .timer _ => true
    | _ => false)

/-- Tick A + 2: dispatch the frames and firings of tick A, in admission order. -/
def dispatchDue (s : State) : State :=
  forEach (s.hob.flight.filter fun f => awaitsDispatch f && decide (f.adm + 2 ≤ s.clk.tick)) dispatchOne s

/-- R249: the first waiting frame or firing that its home stove can take enters it. -/
def dispatchWaiting (s : State) : State :=
  let ready (f : Nat) : Option (Nat × Bool) := match flightOf s f with
    | some x => let i := homeOf s x.emberLane; if mayEnter s i (isTimer x) then some (i, isTimer x) else none
    | none => none
  match s.hob.dispWait.find? fun f => (ready f).isSome with
  | none => s
  | some f =>
    match ready f with
    | none => s
    | some (i, timer) => enterStove i f timer (modHob (fun h => { h with dispWait := h.dispWait.erase f }) s)

/-! ### Starting an invocation (R152 to R154, R188) and stealing (R251) -/

/-- An invocation starts on a thread: its registers, predicates and SC are clear (R153). Without an image it ends at once,
without a disposition (R166). -/
def startOn (k f : Nat) (s : State) : State :=
  match flightOf s f with
  | none => s
  | some fr =>
    match imageOf s fr.gen with
    | none => endInvocation k fr {} {} s
    | some img =>
      let start := match fr.kind with
        | .timer n => match img.slots[n]? with
          | some t => (t.entry, 257 + n)
          | none => (img.entry, 257 + n)
        | _ => (img.entry, 0)
      putThread k { inv := f, pc := start.1, fe := List.replicate 32 0,
                    res := { entryId := start.2 } } s

/-- Thread 7 of hob 0 is the timers' (R154). -/
def timerThread (t : ThreadRef) : Bool := t.hob.val = 0 && t.thr.val = 7

/-- R152, R188: a free thread takes the next work of its stove. -/
def startNext (t : ThreadRef) (s : State) : State :=
  let k := threadKey t
  let i := t.stove.val
  let x := stoveOf s i
  if (threadAt s k).isSome || !(x.st = .inService || x.st = .draining) then s
  else if timerThread t then
    match x.timerQueue with
    | [] => s
    | f :: r => startOn k f (modStove i (fun x => { x with timerQueue := r }) s)
  else
    match x.queue with
    | [] => s
    | f :: r => startOn k f (modStove i (fun x => { x with queue := r }) s)

/-- Distance on the ring of 68 stoves (R251). -/
def ringDist (a b : Nat) : Nat := Nat.min ((b + 68 - a) % 68) ((a + 68 - b) % 68)

/-- R251: the better victim of two for stove `i`: nearest, then deepest, then the one that follows `i`. -/
def betterVictim (s : State) (i a b : Nat) : Nat :=
  let da := ringDist i a
  let db := ringDist i b
  let la := (stoveOf s a).queue.length
  let lb := (stoveOf s b).queue.length
  if da < db then a else if db < da then b
  else if lb < la then a else if la < lb then b
  else if (a + 68 - i) % 68 ≤ (b + 68 - i) % 68 then a else b

/-- R251: the victim of a steal by stove `i`. -/
def stealVictim (s : State) (i : Nat) : Option Nat :=
  let d := regFld s .STOVE_CFG 0 2 0
  let least := regFld s .STOVE_CFG 0 15 4
  let cs := (inService s).filter fun j =>
    decide (j ≠ i ∧ ringDist i j ≤ d ∧ least ≤ (stoveOf s j).queue.length ∧ 0 < (stoveOf s j).queue.length)
  match cs with
  | [] => none
  | c :: r => some (r.foldl (betterVictim s i) c)

/-- R251, R252: a free frame thread of a stove with an empty queue steals one frame. -/
def stealNext (t : ThreadRef) (s : State) : State :=
  let k := threadKey t
  let i := t.stove.val
  let x := stoveOf s i
  if (threadAt s k).isSome || timerThread t || !(x.st = .inService) || !x.queue.isEmpty then s
  else match stealVictim s i with
    | none => s
    | some j =>
      match (stoveOf s j).queue with
      | [] => s
      | f :: r =>
        let first := r.foldl Nat.min f
        startOn k first
          (regCount .STOVE_STOLEN_CNT i (modStove j (fun x => { x with queue := x.queue.erase first }) s))

/-! ### Failure (R258) -/

/-- The invocations queued or running on a stove. -/
def stoveWork (s : State) (i : Nat) : List Nat :=
  (stoveOf s i).queue ++ (stoveOf s i).timerQueue
    ++ (s.hob.threads.filter fun e => decide (e.1 / 256 = i)).filterMap fun e => e.2.map (·.inv)

/-- An invocation is lost with its stove: its ticket passes. -/
def loseInvocation (f : Nat) (s : State) : State :=
  match flightOf s f with
  | none => s
  | some fr =>
    settleFlight f (modFlight f (fun x => { x with ended := true, result := some { disp := .lost } })
      (passTurn fr.emberLane fr.turn s))

/-- R258: a stove fails. -/
def stoveFailure (i : Nat) (s : State) : State :=
  if (stoveOf s i).st = .failed then s
  else
    let lost := stoveWork s i
    let lanes := (lost.filterMap fun f => (flightOf s f).map (·.emberLane)).eraseDups
    let s1 := modHob (fun h => { h with threads := h.threads.filter fun e => !decide (e.1 / 256 = i) })
      (modStove i (fun x => { x with queue := [], timerQueue := [] }) s)
    let s2 := applySet [(i, .failed)] (addHealth 1 i 8 (cacheFlush i (forEach lost loseInvocation s1)))
    if lost.isEmpty then s2
    else selfFault 0x01 i (raiseEv 0x1302 0 (w2 i ++ w4 lanes.length) s2)

/-! ### Power of a domain (R522 to R524) -/

/-- A domain goes off at once (R524). -/
def domainOff (d : Nat) (s : State) : State :=
  if tb s.pwr.ready d then
    raiseEv 0x1C01 0 (w2 d ++ w2 0) (modPwr (fun p => { p with ready := p.ready - 2 ^ d }) s)
  else modPwr (fun p => { p with rampQ := p.rampQ.filter fun x => x ≠ d }) s

/-- A domain's switch-on joins the ramps (R524). -/
def domainRequest (d : Nat) (s : State) : State :=
  if tb s.pwr.ready d || s.pwr.rampQ.contains d then s else modPwr (fun p => { p with rampQ := p.rampQ ++ [d] }) s

/-! ### Groups: clock and parking (R260 to R262) -/

/-- The clock code that a group is asked to run at: the written one, or the lower effective one (R529, R530). -/
def wantedCode (s : State) (g : Nat) : Nat :=
  let w := Nat.min 10 (regFld s .STOVE_GROUP_CFG g 3 0)
  match FMap.get 0 s.pwr.fEff g with
  | 0 => w
  | n + 1 => Nat.min w n

/-- A group's clock is to change (R261): a change that lowers the Q in force waits for Q's effect tick and then RET_DELAY; any other
starts at once, but no clock comes down before a lowering that waits already may, and Q is not raised before the switch. A raise first
raises the voltage (R528). -/
def changeClock (g : Nat) (s : State) : State :=
  let x := groupOf s g
  let code := wantedCode s g
  if code = (match x.switchTo with
      | some (c, _) => c
      | none => x.freq) then s
  else if code = x.freq then noteCapacity (modGroup g (fun x => { x with switchTo := none, qLimit := none }) s)
  else if code < x.freq then
    let s1 := modGroup g (fun x => { x with qLimit := some code }) s
    if (ownCapacity s1).2 < s.adm.qForce then
      noteCapacity (modGroup g (fun x => { x with switchTo := some (code, assignTick s + retDelay s) }) s1)
    else match x.switchTo, x.qLimit with
      | some (_, f), some q => modGroup g (fun x => { x with switchTo := some (code, f), qLimit := some (Nat.min q code) }) s
      | _, _ => modGroup g (fun x => { x with switchTo := some (code, s.clk.tick) }) s1
  else modGroup g (fun x => { x with switchTo := some (code, s.clk.tick), qLimit := none }) s

/-- R261: a group's clock switch completes; a raised Q may now take effect. -/
def clockSwitched (g : Nat) (s : State) : State :=
  match (groupOf s g).switchTo with
  | none => s
  | some (code, from_) =>
    if from_ ≤ s.clk.tick then
      let old := (groupOf s g).freq
      noteCapacity (raiseEv 0x1308 0 (w2 g ++ w2 old ++ w2 code ++ w4 s.clk.tick)
        (modGroup g (fun x => { x with freq := code, switchTo := none, qLimit := none }) s))
    else s

/-- The four stoves of a group. -/
def groupStoves (g : Nat) : List Nat := (List.range 4).map (4 * g + ·)

/-- A group is parked (R262): its stoves leave service; those of a group under the sweep go to PARKED (R526). -/
def parkBase (g : Nat) (s : State) : State :=
  let x := groupOf s g
  if x.parking || !x.powered && x.wakeFrom.isNone then s
  else if x.powered && !x.sweeping then
    let marks := (groupStoves g).filterMap fun i =>
      match (stoveOf s i).st with
      | .inService => some (i, StoveState.draining)
      | .spare => some (i, .draining)
      | .waking => some (i, .draining)
      | _ => none
    applySet marks (modGroup g (fun x => { x with parking := true, wakeFrom := none, joinAt := none }) s)
  else
    let marks := (groupStoves g).filterMap fun i => if (stoveOf s i).st = .failed then none else some (i, StoveState.parked)
    applySet marks (domainOff (8 + g)
      (modGroup g (fun x => { x with parking := false, powered := false, sweeping := false, wakeFrom := none, joinAt := none }) s))

/-- PARK takes effect (R262). A visit of the stove sweep to the group is abandoned, and its cover group, still written as parked,
parks again (R526; notes/assumptions/47.md). -/
def parkGroup (g : Nat) (s : State) : State :=
  match s.pwr.visit with
  | none => parkBase g s
  | some v =>
    if v.group = g then
      let s1 := parkBase g (modPwr (fun p => { p with visit := none }) s)
      match v.cover with
      | some c => if regBit s1 .STOVE_GROUP_CFG c 4 then parkBase c s1 else s1
      | none => s1
    else parkBase g s

/-- R262: a parking group whose stoves have all drained is switched off. -/
def groupOff (g : Nat) (s : State) : State :=
  if (groupOf s g).parking && ((groupStoves g).all fun i => stoveIdle s i) then
    let s1 := forEach (groupStoves g) (fun i t =>
      if (stoveOf t i).st = .failed then t else setStove i .parked (cacheFlush i t)) s
    domainOff (8 + g) (modGroup g (fun x => { x with parking := false, powered := false }) s1)
  else s

/-- Clearing PARK takes effect (R262): the group is powered and its stoves are WAKING. In a group that was still draining a stove is
WAKING once it has drained. -/
def unparkGroup (g : Nat) (s : State) : State :=
  let x := groupOf s g
  if !x.parking && (x.powered || x.wakeFrom.isSome) then s
  else
    let s1 := forEach (groupStoves g) (fun i t =>
      if (stoveOf t i).st = .parked ∨ ((stoveOf t i).st = .draining ∧ stoveIdle t i) then setStove i .waking t else t) s
    let s2 := modGroup g (fun x => { x with parking := false, wakeFrom := some (s.clk.tick + 2048), joinAt := none }) s1
    if x.parking then s2 else domainRequest (8 + g) s2

/-- Effect tick x of a sweep visit (R539): the stoves of the visited group leave service; their marks. -/
def sweepLeave (v : Option Visit) (s : State) : List (Nat × StoveState) × State :=
  match v with
  | none => ([], s)
  | some v =>
    ((groupStoves v.group).filterMap fun i => match (stoveOf s i).st with
        | .inService => some (i, StoveState.draining)
        | .spare => some (i, .sweep)
        | _ => none,
      modPwr (fun p => { p with visit := some { v with stage := 1 } }) (modGroup v.group (fun x => { x with sweeping := true }) s))

/-- R262: a woken group's stoves join; as the cover of a sweep visit they enter as the visited group leaves (R539). -/
def groupEnters (g : Nat) (s : State) : State :=
  let marks := (groupStoves g).filterMap fun i =>
    if (stoveOf s i).st = .waking then some (i, StoveState.spare) else none
  let leave := sweepLeave (match s.pwr.visit with
    | some v => if v.stage = 0 ∧ v.cover = some g then some v else none
    | none => none) s
  applySet (marks ++ leave.1)
    (modGroup g (fun x => { x with wakeFrom := none, joinAt := none, freq := wantedCode s g, switchTo := none, qLimit := none }) leave.2)

/-- R262: once a woken group is powered its stoves' entry, and the H and Q that come with it, are given an effect tick, at least 2,048
ticks after the write's; at it the stoves join. -/
def groupJoin (g : Nat) (s : State) : State :=
  let x := groupOf s g
  match x.wakeFrom, x.joinAt with
  | none, _ => s
  | some _, some e => if e ≤ s.clk.tick then groupEnters g s else s
  | some t, none =>
    if x.powered ∧ t ≤ assignTick s then
      let e := assignTick s
      let s1 := announceCapacity (ownCapacity (groupEnters g s)) e (modGroup g (fun x => { x with joinAt := some e }) s)
      if e ≤ s.clk.tick then groupEnters g s1 else s1
    else s

/-- A write of STOVE_GROUP_CFG takes effect; `old` is the value before it. -/
def groupCfgEffect (g : Nat) (old : Word) (s : State) : State :=
  let s1 := changeClock g s
  let parks := regBit s .STOVE_GROUP_CFG g 4
  if parks && !old.getLsbD 4 then parkGroup g s1
  else if !parks && old.getLsbD 4 then unparkGroup g s1
  else s1

/-! ### Timer firings (R185 to R189) and program activation (R192) -/

/-- The metadata of a frame or firing (R159, Tables ADM-5 and HOB-2). -/
def metadata (rec : List Byte) (key : Nat) (ember : Option Nat) (stationHit : Bool) (lane : Nat) (flags : Nat)
    (port fid adm arg : Nat) (stPort : Option Nat) : List Byte :=
  slice rec 0 32 ++ leBytes 8 key
    ++ leBytes 4 (ember.getD 0 + 2 ^ 20 * b2n ember.isNone + 2 ^ 21 * b2n stationHit)
    ++ leBytes 4 (lane + 2 ^ 18 * flags) ++ leBytes 2 port ++ leBytes 2 fid ++ leBytes 4 adm ++ leBytes 4 arg
    ++ leBytes 2 (match stPort with
      | some p => p + 2 ^ 15
      | none => 0) ++ [0, 0]

/-- A timer slot fires at tick `k` (R185). -/
def slotDue (s : State) (n k : Nat) : Option (Image × TimerSlot) :=
  match s.prog.active with
  | none => none
  | some img =>
    match img.slots[n]? with
    | none => none
    | some t =>
      let fired := s.hob.flight.any fun f => decide (f.kind = .timer n ∧ f.adm = k)
      if s.prog.activeFrom ≤ k ∧ t.phase ≤ k ∧ (k - t.phase) % t.interval = 0 ∧ s.clk.forwarding ∧ !fired
      then some (img, t) else none

/-- R185, R186, R189: a slot fires; it takes the next position of its tick (notes/assumptions/21.md). A template copy that
its owner's account refuses, or for which no cell is free, drops the firing (R346; notes/assumptions/55.md). -/
def fireSlot (n : Nat) (s : State) : State :=
  let k := s.clk.tick
  match slotDue s n k with
  | none => s
  | some (img, t) =>
    let key := 4 * 2 ^ 60 + n
    let lane := emberLaneOf key
    let ember := if t.homeValid then some t.homeEmber else none
    let bytes := t.tmpl.getD []
    let got := takeCells (cellsOf bytes.length) s
    let rx : Rx := { port := 0, arrival := k, bytes := bytes, wireLen := bytes.length, owner := 16448 + n % 64,
                     cells := got.1 }
    let id := got.2.adm.nextId
    let md := metadata [] key ember false lane 4 0 0 k t.arg none
    let s1 := modAdm (fun a => { a with nextId := id + 1, admPos := a.admPos + 1 }) got.2
    let r := if bytes.isEmpty then (true, s1)
      else if got.1.length < cellsOf bytes.length then (false, returnCells got.1 s1)
      else storeFrame id rx md k (k + t.retOffset) s1
    if r.1 then
      let turn := takeTurn lane r.2
      modHob (fun h => { h with flight := h.flight ++
        [{ id := id, kind := .timer n, rx := rx, adm := k, pos := s.adm.admPos, ret := k + t.retOffset, md := md, homeKey := key,
           emberLane := lane, ember := ember, turn := turn.1, gen := img.gen }] }) turn.2
    else countDrop drIngressLimit bytes.length r.2

/-- Every slot that fires at this tick, ascending. -/
def fireSlots (s : State) : State :=
  match s.prog.active with
  | none => s
  | some img => forEach (List.range img.slots.length) fireSlot s

/-- R392, R395: from an activation on the cycles that the image before it has issued in the interval count in the high half of class 14. -/
def rollCycles (m : FMap Nat) : FMap Nat :=
  m.foldl (fun a e => FMap.upd 0 a (if e.1 % 1024 < 512 then e.1 + 512 else e.1) (· + e.2)) []

/-- R192: the pending image becomes active at the scheduled tick. -/
def activateImage (img : Image) (s : State) : State :=
  let t := s.clk.tick
  let olds := match s.prog.active with
    | some o => s.prog.olds ++ [(o, t + retDelay s + 1)]
    | none => s.prog.olds
  let s1 := modProg (fun p => { p with active := some img, pendingImg := none, olds := olds, actAt := none,
                                       activeFrom := t }) (modEgr (fun g => { g with cyclesRun := rollCycles g.cyclesRun }) s)
  raiseEv 0x1383 0 (w2 img.id)
    (regSet .EGR_REQ_DISCARD_CNT 0 0 (rollProgramCounters (modAdm (fun a => { a with kForce := img.k }) s1)))

/-- PROGRAM_ACTIVATE's tick has come. -/
def activationDue (s : State) : State :=
  match s.prog.actAt, s.prog.pendingImg with
  | some (e, _), some img => if e ≤ s.clk.tick then activateImage img s else s
  | _, _ => s

/-- R192: old images are freed when their tick has come and no frame of theirs is held or running
(notes/assumptions/14.md). -/
def freeOldImages (s : State) : State :=
  modProg (fun p => { p with olds := p.olds.filter fun o =>
    !(decide (o.2 ≤ s.clk.tick) && !(s.hob.flight.any fun f => decide (f.gen = o.1.gen) && !(f.ended && f.retired))) }) s

/-! ### Commands -/

/-- DISPATCH_QUEUE_ENTRY (R249). -/
def execDispatchQueueEntry (s : State) : Host.Outcome State Fault Refusal := .next (dispatchWaiting s)

/-- INVOCATION_START (R152). -/
def execInvocationStart (t : ThreadRef) (s : State) : Host.Outcome State Fault Refusal := .next (startNext t s)

/-- STEAL (R251). -/
def execSteal (t : ThreadRef) (s : State) : Host.Outcome State Fault Refusal := .next (stealNext t s)

/-- STOVE_FAIL (R258). -/
def execStoveFail (stove : Fin 68) (s : State) : Host.Outcome State Fault Refusal := .next (stoveFailure stove.val s)

/-- STOVE_DRAINED (R243). -/
def execStoveDrained (stove : Fin 68) (s : State) : Host.Outcome State Fault Refusal :=
  .next (stoveDrainedStep stove.val s)

/-- CLOCK_SWITCH_DONE (R261). -/
def execClockSwitchDone (group : Fin 17) (s : State) : Host.Outcome State Fault Refusal :=
  .next (clockSwitched group.val s)

/-- GROUP_DOMAIN_OFF (R262). -/
def execGroupDomainOff (group : Fin 17) (s : State) : Host.Outcome State Fault Refusal := .next (groupOff group.val s)

/-- GROUP_WAKE_READY (R262). -/
def execGroupWakeReady (group : Fin 17) (s : State) : Host.Outcome State Fault Refusal := .next (groupJoin group.val s)

/-- TIMER_FIRE (R185). -/
def execTimerFire (slot : Fin 64) (s : State) : Host.Outcome State Fault Refusal := .next (fireSlot slot.val s)

/-- PROGRAM_ACTIVATION (R192). -/
def execProgramActivation (s : State) : Host.Outcome State Fault Refusal := .next (activationDue s)

/-- OLD_IMAGE_FREE (R192). -/
def execOldImageFree (s : State) : Host.Outcome State Fault Refusal := .next (freeOldImages s)

end Sys2Proof.Machine
end

