-- ==== Sys2Proof/Machine/Admission.lean ====
section
/-! DEFINITION. Admission (chapter 04): clean decisions and input agreement, solo-port relay, the governor, parsing and source
pre-lookup. -/

namespace Sys2Proof.Machine

/-! ### Clean decisions and input agreement (R20, R126 to R131) -/

/-- The lane is marked unclean for tick `k` (R20, R348). -/
def uncleanAt (s : State) (l k : Nat) : Bool := (laneOf s l).unclean.any fun e => decide (e.1 ≤ k ∧ k ≤ e.2)

/-- The lanes whose relay-end record for tick `k` this twin holds, every relayed frame of the tick with it (R131). -/
def relayMap (s : State) (k : Nat) : BitVec 512 :=
  s.adm.relayEnds.foldl (fun b e =>
    if e.2 = k ∧ !(laneOf s e.1).wired ∧ !uncleanAt s e.1 k then b ||| (1#512 <<< e.1) else b) 0

/-- The decision for tick `k`, made at the boundary that ends its decision tick k + ADM_DELAY − 5: this twin's bitmap, sent to the
partner of a pair. -/
def decideClean (s : State) : State :=
  let t := s.clk.tick
  if t + 4 < admDelay s then s
  else
    let k := t + 4 - admDelay s
    let m := cleanMap s k ||| relayMap s k
    let s1 := countUnclean k (modAdm (fun a => { a with
      own := FMap.set 0 a.own k m
      relayEnds := a.relayEnds.filter fun e => decide (k < e.2)
      relayLost := a.relayLost.filter fun e => decide (k < e.2) }) s)
    if sendsAgreement s then flueSend 0x11 0 k (leBytes 64 m.toNat) s1 else s1

/-- R128: the partner's bitmap for tick `k` is missing. -/
def noteMissing (k : Nat) (s : State) : State :=
  if (FMap.find? s.adm.partner k).isSome || s.adm.missed.contains k then s
  else raiseEv 0x1203 0 (w4 k) (regCount .ADM_AGREE_MISS 0 (modAdm (fun a => { a with missed := a.missed ++ [k] }) s))

/-- The bitmap under which tick `k` is admitted (R127 to R129, R429). -/
def agreedMap (s : State) (k : Nat) : BitVec 512 :=
  let own := FMap.get 0 s.adm.own k
  let theirs := if s.adm.missed.contains k then none else FMap.find? s.adm.partner k
  if underSource s then theirs.getD 0
  else if agrees s then
    match theirs with
    | some p => own &&& p
    | none => if countsAsActive s then own else 0
  else own

/-- R429: a joiner's lane that is not clean where its source's is ends the attempt. -/
def joinerLane (k : Nat) (s : State) : State :=
  if s.twin.st = .warming && decide (agreedMap s k &&& ~~~(FMap.get 0 s.adm.own k) ≠ 0) then failAttempt 2 s else s

/-- R126: a partner bitmap is held. -/
def holdBitmap (k : Nat) (m : BitVec 512) (s : State) : State :=
  modAdm (fun a => { a with partner := FMap.put a.partner k m }) s

/-! ### Relay (R130 to R133, R417) -/

/-- Messages that waited for the flue link leave once it has lock. -/
def relayFlush (s : State) : State :=
  if s.twin.groups = 0 || s.adm.relayWait.isEmpty then s
  else modAdm (fun a => { a with relayWait := [] }) (modOut (fun o => { o with flue := o.flue ++ s.adm.relayWait }) s)

/-- R130: relay-end records of the tick that has ended, for this twin's own solo ports. -/
def relayEndsSend (s : State) : State :=
  let k := s.clk.tick - 1
  forEach (knownLanes s) (fun l t =>
    match (laneOf t l).port with
    | some p =>
      if (laneOf t l).wired && relaysPort t p && !(t.adm.relayLost.contains (l, k)) then
        relayPut { type := 0x31, flags := 0, tick := k % 2 ^ 32, body := leBytes 2 l } l k t
      else t
    | none => t) s

/-- Forget a relayed frame's chunks. -/
def relayForget (key : Nat) (s : State) : State :=
  modAdm (fun a => { a with relayPart := FMap.set [] a.relayPart key [], relayBad := a.relayBad.filter (· ≠ key) }) s

/-- A chunk of frame `key` of port `p` on lane `l`: an earlier frame of the port that is still incomplete will not be completed, as a port's
frames are relayed one after the other (R417); the ticks up to the next relay-end record are not whole (R131). -/
def relayLeft (p l key : Nat) (s : State) : State :=
  let stale (k : Nat) : Bool := decide (k / 65536 = p ∧ k ≠ key)
  if s.adm.relayPart.any (fun e => stale e.1) || s.adm.relayBad.any stale then
    modAdm (fun a => { a with relayPart := a.relayPart.filter (fun e => !stale e.1), relayBad := a.relayBad.filter (fun k => !stale k),
                              relayBroken := if a.relayBroken.contains l then a.relayBroken else a.relayBroken ++ [l] }) s
  else s

/-- A chunk that does not follow the frame's earlier ones: the frame is discarded, and its lane is not clean for its tick (R131). -/
def relayGap (l key : Nat) (f : RelayFrame) (s : State) : State :=
  let s1 := relayForget key s
  if f.last then addUnclean l (fullTick s f.tick) (fullTick s f.tick) s1 else modAdm (fun a => { a with relayBad := a.relayBad ++ [key] }) s1

/-- R131: a chunk of a relayed frame; the last one makes the frame ingress of its port. -/
def relayReceive (f : RelayFrame) (s0 : State) : State :=
  let p := f.port.val
  let key := p * 65536 + f.order % 65536
  match plainAt s0 p with
  | none => s0
  | some l =>
    let s := relayLeft p l key s0
    let got := FMap.get [] s.adm.relayPart key
    if (laneOf s l).wired then s
    else if f.offset ≠ got.length || s.adm.relayBad.contains key then relayGap l key f s
    else if f.last then
      let bs := got ++ f.data
      let flags := f.flags.toNat
      let r : Rx := { port := p, lane := l, arrival := fullTick s f.tick, bytes := bs, wireLen := bs.length, flags := flags,
                      errHq := if flags % 8 ≠ 0 then some (regFld s .MAC_PORT_CFG p 23 18) else none, ts := some f.ts }
      let s1 := relayForget key s
      let n := cellsOf bs.length
      let c := takeCells n s1
      if c.1.length < n then noCell r (returnCells c.1 c.2)
      else
        let cls := governorClass s p bs
        arrive { r with cells := c.1, cls := cls, owner := 8 * p + cls } c.2
    else modAdm (fun a => { a with relayPart := FMap.set [] a.relayPart key (got ++ f.data) }) s

/-- R131: a relay-end record counts when since the lane's last one no flue frame has been lost and no relayed frame left incomplete. -/
def relayEnded (l k : Nat) (s : State) : State :=
  let whole := FMap.get 0 s.adm.relaySeen l = s.adm.flueLoss && !s.adm.relayBroken.contains l
  modAdm (fun a => { a with
    relayBroken := a.relayBroken.filter (· ≠ l)
    relaySeen := FMap.set 0 a.relaySeen l a.flueLoss
    relayEnds := if whole then a.relayEnds ++ [(l, k)] else a.relayEnds }) s

/-! ### Capacity (R134, R135) -/

/-- The governed limit C; with no active image, C_CAP (notes/assumptions/22.md). -/
def capacityOf (s : State) (h q : Nat) : Nat :=
  let cap := regFld s .ADM_GOV_CFG 0 27 16
  let k := s.adm.kForce
  if k = 0 then cap else Nat.min cap (h * q * regFld s .ADM_GOV_CFG 0 7 0 / (256 * k))

/-- H and Q in force: in a pair the lower of the two twins' values; a joiner takes its source's (R134, R429). -/
def forceHQ (s : State) : Nat × Nat :=
  let a := s.adm
  if underSource s then (a.partnerH.getD a.hForce, a.partnerQ.getD a.qForce)
  else if inPair s then (Nat.min a.hForce (a.partnerH.getD a.hForce), Nat.min a.qForce (a.partnerQ.getD a.qForce))
  else (a.hForce, a.qForce)

/-- Changes of H and Q whose effect tick has come, and the change of C that follows (R135). -/
def capacityStep (s : State) : State :=
  let t := s.clk.tick
  let due := s.adm.capAt.filter fun c => decide (c.1 ≤ t)
  let s1 := modAdm (fun a => { a with capAt := a.capAt.filter fun c => decide (t < c.1) }) s
  let s2 := forEach due (fun c => modAdm fun a =>
    if c.2.1 then { a with partnerH := some c.2.2.1, partnerQ := some c.2.2.2 } else { a with hForce := c.2.2.1, qForce := c.2.2.2 }) s1
  let hq := forceHQ s2
  let c := capacityOf s2 hq.1 hq.2
  if c = s2.adm.cForce then s2
  else raiseEv 0x1202 0 (w2 c ++ w2 hq.1 ++ w2 hq.2 ++ w2 s2.adm.kForce ++ w4 t) (modAdm (fun a => { a with cForce := c }) s2)

/-! ### Parsing and pre-lookup (R140 to R149) -/

/-- Fields of ADM_PARSE_CFG for the parser. -/
def parseCfg (s : State) : ParseCfg := { vxlanPort := regFld s .ADM_PARSE_CFG 0 15 0, tpid3 := regFld s .ADM_PARSE_CFG 0 31 16 }

/-- The source pre-lookup's result. -/
structure PreLookup where
  key : Nat
  ember : Option Nat
  hit : Option (Nat × Nat)  -- FID and MAC
  stPort : Option Nat
  fid : Nat

/-- R147 to R149: the pre-lookup of a frame as of tick `a`. -/
def preLookup (s : State) (r : Rx) (p : Parse) (a : Nat) : PreLookup :=
  let n := r.port
  let vid := p.tci.getD 0 0 % 4096
  let tagged := decide (0 < p.tagCount)
  let fid := if tagged then vid else regFld s .ADM_PORT_CFG n 27 16
  match regFld s .ADM_PORT_CFG n 13 12 with
  | 1 =>
    let mac := beVal (slice r.bytes 6 6)
    match stationLookup s (stationKey fid mac) a with
    | some d => { key := 2 * 2 ^ 60 + stationKey fid mac, ember := if tb d 36 then some (fld d 35 16) else none,
                  hit := some (fid, mac), stPort := some (fld d 10 0), fid := fid }
    | none => { key := 2 * 2 ^ 60 + stationKey fid mac, ember := none, hit := none, stPort := none, fid := fid }
  | 2 => { key := 3 * 2 ^ 60 + n * 4096 + (if tagged then vid else 0), ember := none, hit := none, stPort := none, fid := fid }
  | _ => { key := 2 ^ 60 + n,
           ember := if regBit s .ADM_PORT_HOME n 31 then some (regFld s .ADM_PORT_HOME n 19 0) else none,
           hit := none, stPort := none, fid := fid }

/-- Report what the parser found (R142, R143, R151). -/
def parseEvents (p : Parse) (port : Nat) (s : State) : State :=
  let s1 := if p.trunc then
      raiseLim 0x1206 0 port 1024 (w2 port ++ w2 p.lastLayer)
        (regSetFld .ADM_PORT_TRUNC_CNT port 15 0 (satAdd 16 (regFld s .ADM_PORT_TRUNC_CNT port 15 0) 1) s)
    else s
  if p.conflict then
    raiseLim 0x1205 0 port 1024 (w2 port ++ w2 p.cause)
      (regSetFld .ADM_PORT_TRUNC_CNT port 31 16 (satAdd 16 (regFld s1 .ADM_PORT_TRUNC_CNT port 31 16) 1) s1)
  else s1

/-! ### Admission (R21, R127, R136 to R139, R250) -/

/-- The frame is a MAC control frame to be consumed (R90, R92). -/
def isControlRx (s : State) (r : Rx) : Bool := r.errHq.isNone && r.inj.isNone && isControl s r.port r.bytes

/-- The frame bypasses programs (R480). -/
def isBypass (r : Rx) : Bool :=
  match r.inj with
  | some i => i.bypass
  | none => false

/-- The governor counts the frame (R136). -/
def isCounted (s : State) (r : Rx) : Bool := r.errHq.isNone && !isControlRx s r && !isBypass r

/-- CONFLICT_ACT as it applies to a frame: 1 drop, 2 trap, else 0 (R145). -/
def conflictAct (s : State) (r : Rx) (p : Parse) : Nat :=
  let c := regFld s .ADM_PORT_CFG r.port 5 4
  if p.conflict ∧ c ≠ 3 then c else 0

/-- The frame will take a frame slot (R248). -/
def needsSlot (s : State) (r : Rx) : Bool := isCounted s r && conflictAct s r (parseFrame (parseCfg s) r.bytes) = 0

/-- R138's order: lowest class, highest port, latest in admission order. -/
def dropOrder (a b : Rx × Nat) : Bool :=
  decide (a.1.cls < b.1.cls) || (decide (a.1.cls = b.1.cls) && (decide (b.1.port < a.1.port)
    || (decide (a.1.port = b.1.port) && decide (b.2 ≤ a.2))))

/-- The indices that the governor drops from numbered candidates when `excess` must go. -/
def govern (cands : List (Rx × Nat)) (excess : Nat) : List Nat := ((sortBy dropOrder cands).take excess).map (·.2)

/-- The sequence number of a digest record: PSEQ, or the frame's order on its port (Table TWIN-9). -/
def digestSeq (r : Rx) (s : State) : Nat × State :=
  if r.lane < 512 ∧ isHearth (laneMode s r.lane) then (r.seq, s)
  else
    let n := FMap.get 0 s.twin.frameOrder r.port
    (n, modTwin (fun t => { t with frameOrder := FMap.set 0 t.frameOrder r.port ((n + 1) % 2 ^ 24) }) s)

/-- An ADMIT (1) or GOV_DROP (2) record. -/
def recordAdmit (kind : Nat) (r : Rx) (s : State) : State :=
  let q := digestSeq r s
  recAdmit (kind + r.port * 2 ^ 8 + r.cls * 2 ^ 20 + q.1 * 2 ^ 24 + r.bytes.length * 2 ^ 48) (r.arrival % 2 ^ 32) q.2

/-- Drop a frame before it is charged: its cells return. -/
def dropArrived (reason : Nat) (r : Rx) (s : State) : State := countDrop reason r.bytes.length (returnCells r.cells s)

/-- An injected frame's descriptor learns that a frame of it was dropped (R481). -/
def noteInjDrop (r : Rx) (reason : Nat) (s : State) : State :=
  match r.inj with
  | none => s
  | some i => modHost (fun h => { h with txDone := h.txDone.map fun d =>
      if d.qp = i.qp ∧ d.id = i.slot then { d with left := d.left - 1, dropped := some (d.dropped.getD reason), tsWait := false }
      else d }) s

/-- The descriptor of an admitted frame or firing is kept. -/
def addFlight (x : Inflight) (s : State) : State := modHob (fun h => { h with flight := h.flight ++ [x] }) s

/-- Charge and keep an admitted frame (R346), with its frame slot and its place in the lane's order when it is to run a
program; refused, it is dropped with `reason`. -/
def keepAdmitted (x : Inflight) (reason : Nat) (s : State) : State :=
  let s1 := modAdm (fun a => { a with nextId := x.id + 1 }) s
  let r := storeFrame x.id x.rx x.md x.adm x.ret s1
  if r.1 then
    if x.slot then
      let t := takeTurn x.emberLane r.2
      addFlight { x with turn := t.1 } (modHob (fun h => { h with slotsUsed := h.slotsUsed + 1 }) t.2)
    else addFlight x r.2
  else noteInjDrop x.rx reason (countDrop reason x.rx.bytes.length r.2)

/-- Admit one frame at the current tick, in order. -/
def admitOne (r0 : Rx) (s : State) : State :=
  let a := s.clk.tick
  let r := stampRx s r0
  let pos := s.adm.admPos
  let s1 := recordAdmit 1 r (modAdm (fun x => { x with admPos := pos + 1 }) s)
  if isControlRx s r then consumeControl r.port r.bytes (returnCells r.cells s1)
  else
    let base : Inflight := { id := s.adm.nextId, rx := r, adm := a, pos := pos, ret := a + retDelay s, ended := true,
                             gen := (s.prog.active.map (·.gen)).getD 0 }
    if r.errHq.isSome then
      keepAdmitted { base with kind := .errored, rx := { r with errHq := some (regFld s .MAC_PORT_CFG r.port 23 18) } } drIngressLimit s1
    else if isBypass r then keepAdmitted { base with kind := .bypass } drIngressLimit s1
    else
      let p := parseFrame (parseCfg s) r.bytes
      let k := preLookup s r p a
      let lane := emberLaneOf k.key
      let flags := if r.port = 2049 then 1 else if r.port = 2048 then 2 else 0
      let md := metadata (parseBytes p r.bytes.length r.cls) k.key k.ember k.hit.isSome lane flags r.port k.fid (a % 2 ^ 32)
        (r.recircArg.getD 0) k.stPort
      let s2 := parseEvents p r.port s1
      let x := { base with md := md, homeKey := k.key, emberLane := lane, ember := k.ember, preHit := k.hit }
      match conflictAct s r p with
      | 1 => keepAdmitted { x with kind := .conflictDrop } drLenConflict s2
      | 2 => keepAdmitted { x with kind := .conflictTrap (regFld s .ADM_PORT_CFG r.port 11 6) } drIngressLimit s2
      | _ => keepAdmitted { x with ended := false, slot := true } drIngressLimit s2

/-- R139, R150: the governor has dropped `n` frames in this tick. A tick without a drop ends the run: the next drop is a first one again
(DESIGN CHOICE, notes/assumptions/157.md). -/
def governorEvent (n : Nat) (s : State) : State :=
  let was := s.adm.govDropping
  let s1 := modAdm (fun a => { a with govDropping := decide (0 < n) }) s
  if n = 0 then s1
  else
    let s2 := if was then s1 else modHost (fun h => { h with evLast := FMap.set none h.evLast (0x1201 * 2 ^ 20) none }) s1
    raiseLim 0x1201 0 0 1024 (w4 n) (regCount .ADM_GOV_TICKS 0 s2)

/-- R250: `n` frames find no free slot: in a pair an event and a self-reported fault. -/
def noSlot (n : Nat) (s : State) : State :=
  if n ≠ 0 && inPair s then selfFault 0x02 n (raiseEv 0x1307 0 (w2 0 ++ w4 s.hob.slotsUsed) s) else s

/-- A frame taken by the governor or for want of a slot. -/
def governorDrop (r : Rx) (s : State) : State :=
  noteInjDrop r drGovernor (dropArrived drGovernor r (recordAdmit 2 r s))

/-- Admission at the current tick A of the frames stamped A − ADM_DELAY, by port, each port's in order of reception; host-injected
frames side A's first (R478), frames of the recirculation MAC in the order of their retirement (R21, R125). -/
def admitStep (s : State) : State :=
  let a := s.clk.tick
  let d := admDelay s
  let s0 := modAdm (fun x => { x with admPos := 0 }) s
  if a < d then s0
  else
    let k := a - d
    let late := s0.adm.arrived.filter fun r => decide (r.arrival < k)
    let due := sortBy
      (fun x y => decide (x.port < y.port ∨ (x.port = y.port ∧ (x.port < 2048 ∨ x.seq ≤ y.seq))))
      (s0.adm.arrived.filter fun r => r.arrival = k)
    let sA := modAdm (fun x => { x with arrived := x.arrived.filter fun r => decide (k < r.arrival) }) s0
    let sB := forEach late (fun r t => noteInjDrop r drLateArrival (dropArrived drLateArrival r t)) sA
    let s1 := joinerLane k (if agrees sB then noteMissing k sB else sB)
    let m := agreedMap s1 k
    let isClean (r : Rx) : Bool := decide (512 ≤ r.lane) || m.getLsbD r.lane
    let s2 := forEach (due.filter fun r => !isClean r) (dropArrived drLaneNotClean) s1
    let elig := (due.filter isClean).zipIdx
    let counted := elig.filter fun x => isCounted s2 x.1
    let overs := govern counted (counted.length - s2.adm.cForce)
    let left := (elig.filter fun x => !overs.contains x.2).filter fun x => needsSlot s2 x.1
    let full := govern left (left.length - (262144 - s2.hob.slotsUsed))
    let s3 := noSlot full.length (governorEvent overs.length s2)
    let s4 := forEach elig (fun x t => if (overs ++ full).contains x.2 then governorDrop x.1 t else admitOne x.1 t) s3
    modAdm (fun x => { x with own := x.own.filter fun e => decide (k < e.1), partner := x.partner.filter fun e => decide (k < e.1),
                              missed := x.missed.filter fun e => decide (k < e) }) s4

/-- R145: frames with a length conflict are dropped at A + 1. -/
def conflictStep (s : State) : State :=
  let due := s.hob.flight.filter fun f => decide (f.kind = .conflictDrop ∧ !f.retired ∧ f.adm + 1 ≤ s.clk.tick)
  forEach due (fun f t =>
    settleFlight f.id (modFlight f.id (fun x => { x with retired := true })
      (unrefFrame f.id false false (noteInjDrop f.rx drLenConflict (countDrop drLenConflict f.rx.bytes.length t))))) s

/-! ### Commands -/

/-- CLEAN_BITMAP (R126). -/
def execCleanBitmap (tick : Nat) (clean : BitVec 512) (s : State) : Host.Outcome State Fault Refusal :=
  .next (holdBitmap (fullTick s tick) clean (hear (fullTick s tick + admDelay s - 5) s))

/-- BITMAP_MISSING (R128): judged in the tick T + ADM_DELAY − 1. Both twins raise the event for a bitmap that one of them lacks: `atPartner`
says that it is this twin's own that the partner lacks (notes/assumptions/34.md). -/
def execBitmapMissing (tick : Nat) (atPartner : Bool) (s : State) : Host.Outcome State Fault Refusal :=
  .next (if inPair s && decide (s.twin.pairSince ≤ s.clk.tick ∧ tick + admDelay s = s.clk.tick + 1) then
      (if atPartner then raiseEv 0x1203 0 (w4 tick) s else noteMissing tick s)
    else s)

/-- RELAY (R131). -/
def execRelay (fr : RelayFrame) (s : State) : Host.Outcome State Fault Refusal := .next (relayReceive fr (hearNow s))

/-- RELAY_END (R131). -/
def execRelayEnd (lane : Fin 512) (tick : Nat) (s : State) : Host.Outcome State Fault Refusal :=
  .next (relayEnded lane.val (fullTick s tick) (hearNow s))

/-- CAPACITY (R418). -/
def execCapacity (h q : Nat) (effTick : Nat) (s : State) : Host.Outcome State Fault Refusal :=
  .next (modAdm (fun a => { a with capAt := a.capAt ++ [(fullTick s effTick, true, h, q)] }) (hearNow s))

/-- CAPACITY_CHANGE (R135). -/
def execCapacityChange (s : State) : Host.Outcome State Fault Refusal := .next (capacityStep s)

end Sys2Proof.Machine
end

