-- ==== Sys2Proof/Machine/Egress.lean ====
section
/-! DEFINITION. Egress (chapter 11): meters and colours, mirror sessions, the scheduler's grants, the recirculation and mirror
MACs, energy attribution. -/

namespace Sys2Proof.Machine

/-! ### Meters (R381 to R384) -/

/-- Units of a bucket per byte: GAIN is in 1/65,536 byte (R377). -/
def bu : Nat := 65536

/-- Meter `m`. -/
def meterOf (s : State) (m : Nat) : Meter := FMap.get {} s.egr.meters m

/-- Change meter `m`. -/
def modMeter (m : Nat) (f : Meter → Meter) (s : State) : State := modEgr (fun g => { g with meters := FMap.upd {} g.meters m f }) s

/-- R382: the gains since the last update. -/
def meterGain (t : Nat) (x : Meter) : Meter :=
  let n := t - x.last
  if x.mode then
    { x with tc := Nat.min (x.cbs * bu) (x.tc + n * x.cir), te := Nat.min (x.ebs * bu) (x.te + n * x.pir), last := Nat.max t x.last }
  else
    let c := x.tc + n * x.cir
    let tc := Nat.min (x.cbs * bu) c
    { x with tc := tc, te := Nat.min (x.ebs * bu) (x.te + (c - tc)), last := Nat.max t x.last }

/-- R381, R382: the colour of `n` bytes, and the meter charged: 0 green, 1 yellow, 2 red. -/
def meterColour (n : Nat) (x : Meter) : Nat × Meter :=
  let b := n * bu
  if x.mode then
    if x.te < b then (2, x)
    else if x.tc < b then (1, { x with te := x.te - b })
    else (0, { x with te := x.te - b, tc := x.tc - b })
  else if b ≤ x.tc then (0, { x with tc := x.tc - b })
  else if b ≤ x.te then (1, { x with te := x.te - b })
  else (2, x)

/-- A meter under the words of a record, both buckets full (Table EGR-1, R383). -/
def meterSet (w : Nat × Nat × Nat) (t : Nat) (x : Meter) : Meter :=
  { x with cir := fld w.1 27 0, mode := tb w.1 28, valid := tb w.1 63, pir := fld w.2.1 27 0, cbs := fld w.2.2 23 0,
           ebs := fld w.2.2 47 24, tc := fld w.2.2 23 0 * bu, te := fld w.2.2 47 24 * bu, last := t }

/-- The write of a meter is complete: its parts take effect at tick `t` in mailbox order, and the queued write, if any, becomes the
incomplete one with effect tick `t`, or the later one asked for (R268, R383). -/
def meterApply (t : Nat) (x : Meter) : Meter :=
  let y := (sortBy (fun a b => decide (a.1 ≤ b.1)) x.writes).foldl (fun y w => meterSet w.2 t y) x
  match x.queued with
  | [] => { y with pendE := none, writes := [] }
  | q :: r => { y with pendE := some (r.foldl (fun e w => Nat.max e w.1) (Nat.max t q.1)), writes := (q :: r).map (·.2), queued := [] }

/-- A frame admitted before `e` has not retired yet. -/
def earlierUnretired (s : State) (e : Nat) : Bool := s.hob.flight.any fun f => decide (f.adm < e) && !f.retired

/-- A meter's incomplete write takes effect at this tick: E + RET_DELAY has come, and every frame admitted before E has retired (R383);
in the safe hearth state at once (R473). -/
def meterDue (s : State) (m : Nat) : Bool :=
  match (meterOf s m).pendE with
  | some e => (isSafe s && decide (e ≤ s.clk.tick)) || (decide (e + retDelay s ≤ s.clk.tick) && !earlierUnretired s e)
  | none => false

/-- The incomplete write of a meter takes effect and its mailbox commands complete (R270, R383, R470). -/
def meterComplete (m : Nat) (s : State) : State :=
  let x := meterOf s m
  forEach x.writes (fun w => finishWrite w.1 stOk m (x.pendE.getD 0)) (modMeter m (meterApply s.clk.tick) s)

/-- R383: the write of one meter whose time has come takes effect. -/
def meterWrites (m : Nat) (s : State) : State := if meterDue s m then meterComplete m s else s

/-- R383 for every meter with an incomplete write. -/
def meterWritesDue (s : State) : State :=
  forEach ((s.egr.meters.filter fun e => e.2.pendE.isSome).map (·.1)) meterWrites s

/-- R268, R383: a meter write reaches its meter with effect tick `e`: as part of the incomplete write whose effect tick is `e` and yet to
come, else as part of the queued write. -/
def meterReach (m e ord d0 d1 d2 : Nat) (s : State) : State :=
  modMeter m (fun x =>
    match x.pendE with
    | none => { x with pendE := some e, writes := [(ord, d0, d1, d2)] }
    | some p =>
      if p = e ∧ s.clk.tick < e ∧ x.queued = [] then { x with writes := x.writes ++ [(ord, d0, d1, d2)] }
      else { x with queued := x.queued ++ [(e, ord, d0, d1, d2)] }) s

/-- EGR_POLICYk as of an admission tick (R26). -/
def policyAt (s : State) (k a : Nat) : Word :=
  match s.egr.policyHist.find? fun h => decide (h.2.1 = k ∧ a < h.1) with
  | some h => h.2.2
  | none => regVal s .EGR_POLICY k

/-- R382: one METER request of a retiring frame: its colour and policy; none when the meter is not valid. A write that governs the frame
has taken effect: every frame admitted before its effect tick has retired (R383). -/
def meterRequest (adm len : Nat) (q : Nat × Nat) (s : State) : Option (Nat × Word) × State :=
  let m := q.1
  let s1 := if (match (meterOf s m).pendE with
      | some e => decide (e ≤ adm)
      | none => false) then meterComplete m s else s
  let x := meterGain s1.clk.tick (meterOf s1 m)
  if x.valid then
    let c := meterColour len x
    (some (c.1, policyAt s1 (q.2 % 16) adm), countPair (fixedKey (7 + c.1) m) 1 len (modMeter m (fun _ => c.2) s1))
  else (none, s1)

/-- R384: what metering makes of a frame: colour, drop reason, remarks. -/
structure Colouring where
  colour : Nat := 0
  drop : Option Nat := none
  remark : Remark := {}

/-- The half of a policy for a colour: ACT, DSCP, PCP and the enables. -/
def policyHalf (w : Word) (c : Nat) : Nat := if c = 2 then wfld w 29 16 else wfld w 13 0

/-- Add one request's colour to a frame's colouring. -/
def colourWith (k : Colouring) (c : Nat) (w : Word) : Colouring :=
  let h := policyHalf w c
  let act := fld h 1 0
  let colour := Nat.max k.colour c
  if c = 0 then { k with colour := colour }
  else if act = 1 then
    { k with colour := colour,
             drop := some (if c = 2 ∨ k.drop = some drMeterRed then drMeterRed else drMeterYellow) }
  else if act = 2 then
    { k with colour := colour,
             remark := { dscp := if tb h 11 then some (fld h 7 2) else k.remark.dscp,
                         pcp := if tb h 12 then some (fld h 10 8) else k.remark.pcp,
                         dei := k.remark.dei || tb h 13 } }
  else { k with colour := colour }

/-- Evaluate a frame's METER requests (R382, R384). -/
def colourFrame (adm len : Nat) : List (Nat × Nat) → Colouring → State → Colouring × State
  | [], k, s => (k, s)
  | q :: qs, k, s =>
    let r := meterRequest adm len q s
    colourFrame adm len qs (match r.1 with
      | some (c, w) => colourWith k c w
      | none => k) r.2

/-! ### Mirror sessions (R385 to R389) -/

/-- Session `m`. -/
def sessionOf (s : State) (m : Nat) : MirSession := FMap.get {} s.egr.mirrors m

/-- Change session `m`. -/
def modSession (m : Nat) (f : MirSession → MirSession) (s : State) : State :=
  modEgr (fun g => { g with mirrors := FMap.upd {} g.mirrors m f }) s

/-- Fields of EGR_MIR_CFG: enabled, egress, encapsulation, TRUNC, destination port. -/
def mirOn (s : State) (m : Nat) : Bool := regBit s .EGR_MIR_CFG m 0
def mirEgress (s : State) (m : Nat) : Bool := regBit s .EGR_MIR_CFG m 1
def mirEncap (s : State) (m : Nat) : Nat := regFld s .EGR_MIR_CFG m 3 2
def mirTrunc (s : State) (m : Nat) : Nat := regFld s .EGR_MIR_CFG m 7 4
def mirDest (s : State) (m : Nat) : Nat := regFld s .EGR_MIR_CFG m 18 8

/-- A mirror copy is dropped (Table EGR-6). -/
def mirrorDropEvent (m reason : Nat) (s : State) : State := raiseLim 0x1704 0 m 1024 (w2 m ++ w2 reason) s

/-- R386: a candidate of a session: the sample counter, and whether a copy is made. -/
def mirrorSample (m : Nat) (s : State) : Bool × State :=
  let n := (sessionOf s m).count + 1
  let make := decide (regFld s .EGR_MIR_SAMPLE m 15 0 + 1 ≤ n)
  (make, modSession m (fun x => { x with count := if make then 0 else n }) s)

/-- R387: the captured bytes of a frame whose body, FCS apart, is `body`. -/
def captureBody (s : State) (m : Nat) (body : List Byte) : List Byte :=
  let t := mirTrunc s m
  if t = 0 then body else if mirEncap s m = 0 then body.take (64 * t - 4) else body.take (64 * t)

/-- The bytes that a mirror copy of a frame of `len` bytes counts with (R359): the frame's, or the truncation length if that is less. -/
def mirrorLen (s : State) (m len : Nat) : Nat := if mirTrunc s m = 0 then len else Nat.min len (64 * mirTrunc s m)

/-- R385 to R388: a candidate of session `m` for frame `f`: body without FCS, its length with FCS, port, queue, timestamp. The reference
for the copy is already counted, and ends where none is made (R367). -/
def mirrorCandidate (m f : Nat) (body : List Byte) (len port queue stamp : Nat) (s : State) : State :=
  if !mirOn s m then unrefFrame f false false s
  else
    let r := mirrorSample m s
    if !r.1 then unrefFrame f false false r.2
    else
      let s1 := r.2
      let cap := captureBody s1 m body
      let n := cellsOf (mirrorLen s1 m len)
      let q := mqOf m
      let fits := decide (copiesInUse s1 < 1048576 ∧ (queueOf s1 q).depth + n ≤ queueMax s1 q)
      let c : Copy := { frame := f, kind := .mirror m, cells := n, body := some cap, orig := len, port := port, queue := queue,
                        seq := (sessionOf s1 m).seq, stamp := stamp }
      let s2 := placeOther q c drMirrorQueueFull s1
      if fits then
        countPair (fixedKey 10 m) 1 (if mirEncap s1 m = 0 then cap.length + 4 else cap.length)
          (modSession m (fun x => { x with seq := (x.seq + 1) % 65536 }) s2)
      else mirrorDropEvent m (if 1048576 ≤ copiesInUse s1 then drQueueLimit else drMirrorQueueFull) s2

/-- Bytes of an internet checksum: the complement of the folded sum. -/
def inetSum (bs : List Byte) : List Byte := beBytes 2 (65535 - onesSum bs)

/-- R388: the bytes that the mirror MAC sends, FCS apart. -/
def mirrorFrame (s : State) (m : Nat) (c : Copy) (colour : Nat) : List Byte :=
  let body := c.body.getD []
  let e := mirEncap s m
  if e = 0 then body
  else
    let w (i : Nat) : Nat := (sessionOf s m).encap.getD i 0
    let f := w 2
    let tag := if tb f 15 then [0x81, 0x00] ++ beBytes 2 (fld f 14 12 * 8192 + fld f 11 0) else []
    let eth := beBytes 6 (w 0) ++ beBytes 6 (w 1) ++ tag ++ (if e = 1 then [0x08, 0x00] else [0x86, 0xDD])
    let b0 := 16 + 8 * b2n (mirEgress s m && decide (c.queue < 8)) + 4 * b2n (decide (body.length + 4 < c.orig)) + colour
    let hdr := [BitVec.ofNat 8 b0, BitVec.ofNat 8 (16 * m)] ++ beBytes 2 c.orig
      ++ beBytes 2 (c.port % 4096 + 4096 * (c.queue % 8)) ++ beBytes 2 c.seq ++ beBytes 4 c.stamp
    let inner := [0, 0] ++ beBytes 2 (fld f 47 32) ++ hdr ++ body
    if e = 1 then
      let ip (sum : List Byte) : List Byte :=
        [0x45, BitVec.ofNat 8 (4 * fld f 21 16)] ++ beBytes 2 (20 + inner.length) ++ beBytes 2 c.seq ++ [0x40, 0x00]
          ++ [BitVec.ofNat 8 (fld f 29 22), 47] ++ sum ++ beBytes 4 (w 3) ++ beBytes 4 (w 5)
      eth ++ ip (inetSum (ip [0, 0])) ++ inner
    else
      eth ++ beBytes 4 (6 * 2 ^ 28 + fld f 21 16 * 4 * 2 ^ 20) ++ beBytes 2 inner.length ++ [47, BitVec.ofNat 8 (fld f 29 22)]
        ++ beBytes 8 (w 3) ++ beBytes 8 (w 4) ++ beBytes 8 (w 5) ++ beBytes 8 (w 6) ++ inner

/-! ### Scheduling (R372 to R377) -/

/-- Scheduler state of a port. -/
def schedOf (s : State) (p : Nat) : Sched := FMap.get {} s.egr.sched p

/-- Change it. -/
def modSched (p : Nat) (f : Sched → Sched) (s : State) : State := modEgr (fun g => { g with sched := FMap.upd {} g.sched p f }) s

/-- Burst and gain of a queue's buckets and of the port's bucket. -/
def queueBurst (s : State) (q : Nat) : Int := regFld s .EGR_QUEUE_SCHED q 27 16 * 256 * bu
def portBurst (s : State) (p : Nat) : Int := regFld s .EGR_PORT_SBURST p 11 0 * 256 * bu
def minGain (s : State) (q : Nat) : Nat := regFld s .EGR_QUEUE_MIN q 27 0
def maxGain (s : State) (q : Nat) : Nat := regFld s .EGR_QUEUE_MAX q 27 0
def portGain (s : State) (p : Nat) : Nat := regFld s .EGR_PORT_SHAPE p 27 0

/-- The cap of a port's wire credit, and its gain per tick (R373). -/
def creditCap (s : State) (p : Nat) : Int := portRate s p * 640

/-- R373, R377: the gains of a port at the start of a tick. -/
def schedGain (p : Nat) (s : State) : State :=
  let gain (g : Nat) (cap v : Int) : Int := if g = 0 then v else min cap (v + g)
  let bucket (g : Nat → Nat) (m : FMap Int) : FMap Int :=
    (List.range 8).foldl (fun a u => if g (uqOf p u) = 0 then a
      else FMap.set 0 a u (gain (g (uqOf p u)) (queueBurst s (uqOf p u)) (FMap.get 0 a u))) m
  modSched p (fun x => { x with
    credit := min (creditCap s p) (x.credit + creditCap s p)
    shaper := gain (portGain s p) (portBurst s p) x.shaper
    minB := bucket (minGain s) x.minB
    maxB := bucket (maxGain s) x.maxB }) s

/-- R377: a write to a bucket's register fills the bucket. -/
def fillShaper (p : Nat) (s : State) : State := modSched p (fun x => { x with shaper := portBurst s p }) s
def fillMin (q : Nat) (s : State) : State :=
  modSched (q / 8) (fun x => { x with minB := FMap.set 0 x.minB (q % 8) (queueBurst s q) }) s
def fillMax (q : Nat) (s : State) : State :=
  modSched (q / 8) (fun x => { x with maxB := FMap.set 0 x.maxB (q % 8) (queueBurst s q) }) s

/-- R374: the port is granted nothing in this tick. -/
def portBlocked (s : State) (p : Nat) : Bool :=
  let x := portOf s p
  !x.up || !portEnabled s p || portPaused s p || x.txLpi || decide (s.clk.tick + 2 < x.wakeUntil)

/-- The port bucket lets the port send (R377). -/
def shaperOpen (s : State) (p : Nat) : Bool := portGain s p = 0 || decide (0 < (schedOf s p).shaper)

/-- The head copy of a queue, when it may be scheduled (R358, R375). -/
def headCopy (s : State) (q : Nat) : Option Copy :=
  match (queueOf s q).copies with
  | c :: _ => if c.from_ ≤ s.clk.tick then some c else none
  | [] => none

/-- R452: a copy with a launch time is held until TS32 of the time two ticks ahead has reached it. -/
def launchHeld (s : State) (c : Copy) : Bool :=
  match ((storedOf s c.frame).bind fun x => x.rx.inj).bind fun i => i.launch with
  | some l => !reached (ts32 (coreAhead s 2).1.tod) l
  | none => false

/-- R375, R377: queue `u` of a port is eligible; copies that a flush is to unlink are not sent (R369). -/
def queueEligible (s : State) (p u : Nat) : Bool :=
  let q := uqOf p u
  (match headCopy s q with
    | some c => !launchHeld s c
    | none => false) && flushLeft s q = 0 && !queuePaused s p u && (maxGain s q = 0 || decide (0 < FMap.get 0 (schedOf s p).maxB u)) && shaperOpen s p

/-- The edited length L′ of a copy (R373). -/
def copyLen (s : State) (c : Copy) : Nat :=
  if isPlaceholder c.frame then c.orig
  else match storedOf s c.frame with
    | some x => editedLen x.rx.bytes.length x.edits
    | none => 0

/-- w(c) of R376. -/
def copyWeight (s : State) (c : Copy) : Nat := Nat.max (copyLen s c) 64 + 20

/-- The highest number of a list. -/
def highest (l : List Nat) : Option Nat := l.foldl (fun b u => some (Nat.max u (b.getD 0))) none

/-- R376: deficit round robin until a queue of `l` is chosen: its number and the scheduler's state. -/
def drrPick (s : State) (p : Nat) (l : List Nat) : Nat → Sched → Option Nat × Sched
  | 0, x => (none, x)
  | n + 1, x =>
    let u := x.rr
    let q := uqOf p u
    let nxt := (u + 1) % 8
    if (queueOf s q).copies.isEmpty then drrPick s p l n { x with deficit := FMap.set 0 x.deficit u 0, rr := nxt }
    else if !l.contains u then drrPick s p l n { x with rr := nxt }
    else match headCopy s q with
      | none => drrPick s p l n { x with rr := nxt }
      | some c =>
        if copyWeight s c ≤ FMap.get 0 x.deficit u then (some u, x)
        else drrPick s p l n
          { x with deficit := FMap.set 0 x.deficit u (FMap.get 0 x.deficit u + regFld s .EGR_QUEUE_SCHED q 15 8 * 256), rr := nxt }

/-- R375: the queue that the next grant of a port takes from, and whether deficit round robin chose it. -/
def selectQueue (p : Nat) (s : State) : Option (Nat × Bool) × State :=
  let el := (List.range 8).filter (queueEligible s p)
  let strict := el.filter fun u => regBit s .EGR_QUEUE_SCHED (uqOf p u) 0
  let dw := el.filter fun u => !regBit s .EGR_QUEUE_SCHED (uqOf p u) 0
  let mins := dw.filter fun u => decide (0 < minGain s (uqOf p u) ∧ 0 < FMap.get 0 (schedOf s p).minB u)
  match highest strict with
  | some u => (some (u, false), s)
  | none => match highest mins with
    | some u => (some (u, false), s)
    | none =>
      if dw.isEmpty then (none, s)
      else
        let r := drrPick s p dw 1024 (schedOf s p)
        (r.1.map fun u => (u, true), modSched p (fun _ => r.2) s)

/-- Charge a grant of `w` bytes to the credit and the port bucket (R373, R377). -/
def chargePort (p w : Nat) (s : State) : State :=
  modSched p (fun x => { x with credit := x.credit - w * 1000,
                                shaper := if portGain s p = 0 then x.shaper else x.shaper - w * bu }) s

/-- Charge a grant to the queue's buckets, and to its deficit when deficit round robin made it. -/
def chargeQueue (p u w : Nat) (drr : Bool) (s : State) : State :=
  let q := uqOf p u
  modSched p (fun x => { x with
    minB := if minGain s q = 0 then x.minB else FMap.set 0 x.minB u (FMap.get 0 x.minB u - w * bu)
    maxB := if maxGain s q = 0 then x.maxB else FMap.set 0 x.maxB u (FMap.get 0 x.maxB u - w * bu)
    deficit := if drr then FMap.set 0 x.deficit u (FMap.get 0 x.deficit u - w) else x.deficit }) s

/-- The event of a failed editor check (R378, Table EGR-6). -/
def editEvent (p inPort reason len : Nat) (s : State) : State :=
  if reason = drTtlExpired then raiseLim 0x1701 0 p 1024 (w2 p) s
  else if reason = drEgressTooLong then raiseLim 0x1703 0 p 1024 (w2 p ++ w2 len) s
  else raiseLim 0x1702 0 p 1024 (w2 p ++ w2 inPort) s

/-- The sequence number of a grant: ESEQ on a Hearth channel, else the port's grant count (R51, Table TWIN-9). -/
def grantSeq (p : Nat) (s : State) : Nat × State :=
  match hearthAt s p with
  | some (l, c) => takeEseq l c s
  | none =>
    let n := FMap.get 0 s.twin.grantCount p
    (n, modTwin (fun t => { t with grantCount := FMap.set 0 t.grantCount p ((n + 1) % 2 ^ 24) }) s)

/-- In a pair both twins count a granted frame towards the decay of CT_THRESH at its grant, so that their thresholds stay equal (R87;
notes/assumptions/153.md). -/
def decayAtGrant (p : Nat) (s : State) : State := if inPair s then ctDecay p (countDecay p s) else s

/-- A granted frame goes to the port's MAC; the twin that does not own a solo port discards it and counts it as sent (R433). -/
def toMac (p : Nat) (f : TxFrame) (s : State) : State :=
  let s1 := decayAtGrant p s
  if ownsPort s p then modPort p (fun x => { x with tx := x.tx ++ [{ f with counted := inPair s }] }) s1
  else if isPlaceholder f.srcPos then s1
  else countSent p f.bytes s1

/-- R431: a placeholder is granted: charged, recorded and counted as the source grants its copy; the port will send idle. `slot`
says that it waited in the mirror slot. -/
def grantPlaceholder (p u q : Nat) (c : Copy) (slot : Bool) (s : State) : State :=
  let g := grantSeq p s
  let s1 := countPair (fixedKey 0 q) 1 c.orig
    (recGrant (4 + p * 2 ^ 8 + u * 2 ^ 20 + b2n slot * 2 ^ 23 + g.1 * 2 ^ 24 + c.orig * 2 ^ 48) 0 g.2)
  toMac p { rxLen := c.orig, grant := s.clk.tick, queue := if slot then 8 else u, eseq := if (hearthAt s p).isSome then g.1 else 0, srcPos := c.frame }
    (releaseCopy q c false s1)

/-- Grant the head copy of queue `u` of a port, or drop it where the editor's checks fail: true when granted. -/
def grantHead (p u : Nat) (drr : Bool) (s : State) : Bool × State :=
  let q := uqOf p u
  match (queueOf s q).copies with
  | [] => (false, s)
  | c :: rest =>
    let s0 := modQueue q (fun x => { x with copies := rest }) s
    if isPlaceholder c.frame then
      let w := copyWeight s c
      (true, grantPlaceholder p u q c false (chargeQueue p u w drr (chargePort p w s0)))
    else match storedOf s c.frame with
    | none => (false, releaseCopy q c false s0)
    | some x =>
      let bs := x.rx.bytes
      let len := editedLen bs.length x.edits
      match editorCheck bs x.md x.edits (some (regFld s .MAC_PORT_CFG p 13 0)) with
      | some r => (false, editEvent p x.rx.port r len (dropLinked q c r s0))
      | none =>
        let w := Nat.max len 64 + 20
        let body := editedBody bs x.md x.edits x.remark
        let s1 := chargeQueue p u w drr (chargePort p w s0)
        let g := grantSeq p s1
        let isHearthPort := (hearthAt s p).isSome
        let ts := match x.rx.inj with
          | some i => if i.tsReq then let k := tsGrant p i.qp i.slot g.2; (some k.1, k.2) else (none, g.2)
          | none => (none, g.2)
        let s2 := countPair (fixedKey 0 q) 1 len
          (recGrant (4 + p * 2 ^ 8 + u * 2 ^ 20 + g.1 * 2 ^ 24 + len * 2 ^ 48) 0 ts.2)
        let s3 := if c.kind = .unicast then
            forEach x.mirrors (fun m => mirrorCandidate m c.frame body len p u (ts32 s.time.core.tod)) s2
          else s2
        let f : TxFrame := { bytes := finishFrame body, rxLen := bs.length, grant := s.clk.tick, queue := u,
                             cells := if c.fetched then c.phys else x.rx.cells, offDie := c.offDie, eseq := if isHearthPort then g.1 else 0, tsid := ts.1,
                             srcPos := c.frame, inj := x.rx.inj }
        (true, toMac p f (releaseCopy q c (ownsPort s p) s3))

/-- Grant the mirror copy that waits in the port's slot (R375 step 4, R389): true when granted. -/
def grantSlot (p : Nat) (s : State) : Bool × State :=
  match (schedOf s p).mirSlot with
  | none => (false, s)
  | some c =>
    let m := match c.kind with
      | .mirror m => m
      | _ => 0
    let q := mqOf m
    let s0 := modSched p (fun x => { x with mirSlot := none }) s
    let colour := ((storedOf s c.frame).map (·.colour)).getD 0
    let bytes := mirrorFrame s m c colour
    let len := bytes.length + 4
    if isPlaceholder c.frame then (true, grantPlaceholder p 0 q c true (chargePort p (copyWeight s c) s0))
    else if regFld s .MAC_PORT_CFG p 13 0 < len then
      (false, mirrorDropEvent m drEgressTooLong (editEvent p c.port drEgressTooLong len (dropLinked q c drEgressTooLong s0)))
    else
      let w := Nat.max len 64 + 20
      let g := grantSeq p (chargePort p w s0)
      let s1 := countPair (fixedKey 0 q) 1 len (recGrant (4 + p * 2 ^ 8 + 2 ^ 23 + g.1 * 2 ^ 24 + len * 2 ^ 48) 0 g.2)
      let f : TxFrame := { bytes := finishFrame bytes, rxLen := c.orig, grant := s.clk.tick, queue := 8,
                           cells := ((storedOf s c.frame).map fun x => x.rx.cells.take c.cells).getD [],
                           eseq := if (hearthAt s p).isSome then g.1 else 0, srcPos := c.frame }
      (true, toMac p f (releaseCopy q c (ownsPort s p) s1))

/-- R372: grant to one port until no queue is eligible or it has no credit. -/
def grantPort (p : Nat) : Nat → State → State
  | 0, s => s
  | n + 1, s =>
    if (schedOf s p).credit ≤ 0 then s
    else
      let r := selectQueue p s
      match r.1 with
      | some (u, drr) => grantPort p n (grantHead p u drr r.2).2
      | none => if shaperOpen r.2 p then (grantSlot p r.2).2 else r.2

/-- The ports that hold a copy for the scheduler, ascending. -/
def waitingPorts (s : State) : List Nat :=
  (enabledPorts s).filter fun p =>
    (schedOf s p).mirSlot.isSome || (List.range 8).any fun u => !(queueOf s (uqOf p u)).copies.isEmpty

/-- The ports whose credit and buckets gain at each tick: those on a lane, whether enabled or not, and those whose scheduler is not as
after reset (R373, R377). A port on no lane gains no credit. -/
def gainPorts (s : State) : List Nat :=
  let mapped := (regInstances s .LANE_CHMAP).flatMap (fun i => [2 * (i % 4), 2 * (i % 4) + 1].filterMap fun c =>
      let x := chanOf s (i / 4) c
      if isHearth (laneMode s (i / 4)) && x.2.2 then some x.1 else none)
    ++ s.lanes.filterMap fun e => e.2.port
  let known : List Nat := s.egr.sched.map (·.1)
  (known ++ mapped ++ regInstances s .EGR_PORT_SHAPE
    ++ (regInstances s .EGR_QUEUE_MIN ++ regInstances s .EGR_QUEUE_MAX).map (· / 8)).eraseDups

/-- The gains of a tick, which ports have whether frames are forwarded or not (R373, R377). -/
def gainStep (s : State) : State := forEach (gainPorts s) schedGain s

/-- The scheduler's part of step 5 of R345. -/
def grantStep (s : State) : State :=
  forEach (waitingPorts s) (fun p t =>
    if portBlocked t p then t
    else grantPort p ((List.range 8).foldl (fun a u => a + (queueOf t (uqOf p u)).copies.length) 1) t) s

/-- R389: the mirror MAC takes the head copy of one session's queue for an empty slot. -/
def mirrorTake (m : Nat) (s : State) : Bool × State :=
  match (queueOf s (mqOf m)).copies with
  | [] => (false, s)
  | c :: r =>
    let p := mirDest s m
    if (schedOf s p).mirSlot.isSome then (false, s)
    else (true, modEgr (fun g => { g with mirNext := (m + 1) % 16 })
      (modSched p (fun x => { x with mirSlot := some c }) (modQueue (mqOf m) (fun x => { x with copies := r }) s)))

/-- R389: passes of the round robin until no queue's head finds its slot empty. -/
def mirrorTakes : Nat → State → State
  | 0, s => s
  | n + 1, s =>
    let go (a : Bool × State) (i : Nat) : Bool × State :=
      let r := mirrorTake ((s.egr.mirNext + i) % 16) a.2
      (a.1 || r.1, r.2)
    let r := (List.range 16).foldl go (false, s)
    if r.1 then mirrorTakes n r.2 else r.2

/-! ### Recirculation (R361) -/

/-- The first recirculation queue, from RCQ7 down, whose head may be taken. -/
def recircHead (s : State) : Option (Nat × Copy) :=
  (List.range 8).reverse.findSome? fun r => (headCopy s (rcqOf r)).map fun c => (rcqOf r, c)

/-- Take frames while the credit is positive. -/
def recircTakes : Nat → State → State
  | 0, s => s
  | n + 1, s =>
    if s.buf.recircCredit ≤ 0 then s
    else match recircHead s with
      | none => s
      | some (q, c) =>
        let s0 := modQueue q (fun x => { x with copies := x.copies.drop 1 }) s
        if isPlaceholder c.frame then
          recircTakes n (modBuf (fun b => { b with recircCredit := b.recircCredit - c.orig })
            (countPair (fixedKey 0 q) 1 c.orig (releaseCopy q c false s0)))
        else match storedOf s c.frame with
        | none => recircTakes n (releaseCopy q c false s0)
        | some x =>
          let bs := x.rx.bytes
          let len := editedLen bs.length x.edits
          match editorCheck bs x.md x.edits none with
          | some r => recircTakes n (editEvent 2049 x.rx.port r len (dropLinked q c r s0))
          | none =>
            let out := finishFrame (editedBody bs x.md x.edits x.remark)
            let arg := match c.kind with
              | .recirc a => a
              | _ => 0
            let s1 := modBuf (fun b => { b with recircCredit := b.recircCredit - len })
              (countPair (fixedKey 0 q) 1 len (releaseCopy q c true s0))
            let k := takeCells (cellsOf out.length) s1
            let r : Rx := { port := 2049, lane := 512, arrival := c.from_, bytes := out, wireLen := out.length, seq := c.frame,
                            cls := x.rx.cls, owner := 16448 + regFld s .BUF_RECIRC_CFG 0 5 0, cells := k.1,
                            recircArg := some arg }
            recircTakes n (if k.1.length < cellsOf out.length then noCell r (returnCells k.1 k.2)
              else modAdm (fun a => { a with arrived := a.arrived ++ [r] }) k.2)

/-- The recirculation MAC's part of a tick. -/
def recircStep (s : State) : State :=
  let s1 := modBuf (fun b => { b with recircCredit := min 16384 (b.recircCredit + 5120) }) s
  let n := (List.range 8).foldl (fun a r => a + (queueOf s1 (rcqOf r)).copies.length) 1
  let s2 := recircTakes n s1
  let late (c : Copy) : Bool := decide (c.from_ + admDelay s2 ≤ s2.clk.tick + 5)
  forEach (List.range 8) (fun r t =>
    let q := rcqOf r
    let gone := (queueOf t q).copies.filter late
    forEach gone (fun c => dropLinked q c drLateArrival) (modQueue q (fun x => { x with copies := x.copies.filter fun c => !late c }) t)) s2

/-! ### Energy attribution (R395) -/

/-- The lane bank of a port. -/
def portBank (s : State) (p : Nat) : Option Nat :=
  match hearthAt s p with
  | some (l, _) => some (l / 64)
  | none => (plainAt s p).map (· / 64)

/-- Divide `e` among weighted indices: shares and the remainder. -/
def divideEnergy (e : Nat) (ws : List (Nat × Nat)) : List (Nat × Nat) × Nat :=
  let total := ws.foldl (fun a w => a + w.2) 0
  if total = 0 then ([], e)
  else
    let l := ws.map fun w => (w.1, e * w.2 / total)
    (l, e - l.foldl (fun a x => a + x.2) 0)

/-- Lane bank `k`'s energy. -/
def bankEnergy (k e : Nat) (s : State) : State :=
  let t := s.clk.tick
  let ps := (enabledPorts s).filter fun p => portBank s p = some k
  let awake (p : Nat) : Nat := FMap.get 0 s.egr.activeTicks p
  let d := divideEnergy e (ps.map fun p => (p, 100 * FMap.get 0 s.egr.bytesMoved p + 64 * portRate s p * awake p))
  let s1 := forEach d.1 (fun x => countAt t (fixedKey 13 x.1) x.2 0) s
  countAt t (fixedKey 15 k) d.2 0 (forEach ps (fun p => countAt t (fixedKey 13 p) 0 (awake p)) s1)

/-- Stove group `g`'s energy. -/
def groupEnergy (g e : Nat) (s : State) : State :=
  let t := s.clk.tick
  let ws := s.egr.cyclesRun.filterMap fun x => if x.1 / 1024 = g then some (x.1 % 1024, x.2) else none
  let d := divideEnergy e ws
  countAt t (fixedKey 15 (8 + g)) d.2 0 (forEach d.1 (fun x => countAt t (fixedKey 14 x.1) x.2 0) s)

/-- R395: the energy measured in an interval, in nJ, by PD_LB0 to PD_LB7 and PD_ST00 to PD_ST16. -/
def energyInterval (nj : List Nat) (s : State) : State :=
  if s.clk.tick % 65536 ≠ 0 then s
  else
    let s1 := forEach (List.range 8) (fun k => bankEnergy k (nj.getD k 0)) s
    let s2 := forEach (List.range 17) (fun g => groupEnergy g (nj.getD (8 + g) 0)) s1
    let s3 := forEach (List.range 25) (fun d t => modPwr (fun p => { p with
      energy := FMap.upd 0 p.energy d fun x => (x + nj.getD d 0) % 2 ^ 64 }) t) s2
    applyCounts (modEgr (fun g => { g with bytesMoved := [], activeTicks := [], cyclesRun := [] }) s3)

/-! ### Registers of the scheduler -/

/-- EGR_PORT_STATUS (R396). -/
def portSchedStatus (s : State) (p : Nat) : Nat :=
  (List.range 8).foldl (fun a u => a + 2 ^ u * b2n (queueEligible s p u)) 0
    + 256 * b2n (decide ((schedOf s p).credit ≤ 0)) + 512 * b2n (portBlocked s p) + 1024 * b2n (schedOf s p).mirSlot.isSome

/-! ### Commands -/

/-- METER_WRITE_EFFECT (R383). -/
def execMeterWriteEffect (meter : Fin 262144) (s : State) : Host.Outcome State Fault Refusal := .next (meterWrites meter.val s)

/-- MIRROR_MAC_TAKE (R389). -/
def execMirrorMacTake (s : State) : Host.Outcome State Fault Refusal := .next (mirrorTakes 1 s)

/-- ENERGY_INTERVAL (R395). -/
def execEnergyInterval (nj : List Nat) (s : State) : Host.Outcome State Fault Refusal := .next (energyInterval nj s)

end Sys2Proof.Machine
end

