-- ==== Sys2Proof/Machine/Retire.lean ====
section
/-! DEFINITION. Retirement (chapters 05, 07, 10, 11): results, the late cut-off and its lists, held retirement, and what a frame
does when it retires. -/

namespace Sys2Proof.Machine

/-! ### Results and the late cut-off (R25, R253, R254) -/

/-- A result reaches the retire sequencer. -/
def resultArrives (f : Nat) (s : State) : State :=
  match flightOf s f with
  | none => s
  | some x =>
    match x.result with
    | none => s
    | some r =>
      if x.arrived.isSome ∨ r.disp = .lost then s
      else modFlight f (fun x => { x with arrived := some s.clk.tick }) s

/-- The frame runs a program, or is a timer firing: its result can be late. -/
def runsProgram (x : Inflight) : Bool :=
  match x.kind with
  | .program => true
  | .timer _ => true
  | _ => false

/-- The body of a late list (Table TWIN-8). -/
def lateBody (l : LateList) : List Byte :=
  leBytes 2 (if l.all then 0 else l.pos.length) ++ [BitVec.ofNat 8 (b2n l.all), 0]
    ++ (if l.all then [] else l.pos.flatMap (leBytes 4))

/-- A late firing raises PROG_TIMER_LATE with its slot and firing tick (R195). -/
def lateFiring (x : Inflight) (s : State) : State :=
  match x.kind with
  | .timer slot => raiseEv 0x1386 0 (w2 slot ++ w4 x.adm) s
  | _ => s

/-- At the boundary that ends late cut-off tick t − 5: the frames and firings of retire tick t whose result has not arrived are late, and
the partner is told (R25, R186, R195, R254). -/
def lateCutoff (s : State) : State :=
  let t := s.clk.tick + 4
  let late := s.hob.flight.filter fun x => runsProgram x && !x.retired && decide (x.ret = t) && x.arrived.isNone
  let n := late.length
  let l : LateList := { all := decide (512 < n), pos := late.map (·.pos) }
  let s1 := if n = 0 then s
    else forEach late lateFiring <| raiseLim 0x1304 0 0 1024 (w4 t ++ w4 n)
      (regCountN .STOVE_LATE_CNT 0 31 n (modHob (fun h => { h with
        flight := h.flight.map fun x => if late.any (fun y => y.id = x.id) then { x with late := true } else x }) s))
  if sendsAgreement s then
    flueSend 0x12 0 t (lateBody l) (modHob (fun h => { h with lateOwn := FMap.set {} h.lateOwn t l }) s1)
  else s1

/-- The partner's late list for retire tick `t` is missing (R256). -/
def noteListMissing (t : Nat) (s : State) : State :=
  if (FMap.get none s.hob.latePartner t).isSome || s.hob.retMissing.contains t then s
  else raiseEv 0x1305 0 (w4 t) (regCount .STOVE_LATELIST_MISS 0
    (modHob (fun h => { h with retMissing := h.retMissing ++ [t] }) s))

/-- The partner's late list for retire tick `t`, held in time. -/
def partnerList (s : State) (t : Nat) : Option LateList :=
  if s.hob.retMissing.contains t then none else FMap.get none s.hob.latePartner t

/-! ### What retires (R27, R165 to R171, R255) -/

/-- What the retire sequencer makes of a frame: EMIT KIND, W1 of its record, and a reason when it is dropped. -/
structure Verdict where
  kind : Nat := 7
  w1 : Nat := 0
  reason : Option Nat := none

/-- What the retirement effects gave: the frame's colouring and the bits of its record. -/
structure Effects where
  col : Colouring := {}
  learn : Bool := false
  publish : Bool := false

/-- FRAME_LEN of a frame's metadata, 0 for a timer firing (R159, Table ADM-5). -/
def mdLen (md : List Byte) : Nat := leVal (slice md 26 2) % 2 ^ 14

/-- Hits, learning, publish, counts and meters of a frame that retires without a fault (R27, R296, R382). One that was late and was held
publishes nothing (R177, R253). -/
def retireEffects (f : Inflight) (r : Result) (s : State) : Effects × State :=
  let t := s.clk.tick
  let hits := (f.preHit.toList ++ r.hits).eraseDups
  let s1 := modTbl (fun x => { x with hitQ := x.hitQ ++ hits.map fun h => (t + 1, stationKey h.1 h.2, f.adm, f.id) }) s
  let s2 := match r.learn with
    | some (fid, mac, port) => requestLearn (stationKey fid mac) port f.id s1
    | none => s1
  let s3 := match r.publish, f.ember with
    | some v, some rec => if f.late then s2 else publishRetire rec f.adm t v s2
    | _, _ => s2
  let s4 := forEach r.counts (fun c => countPair c.1 1 c.2) s3
  let m := colourFrame f.adm (mdLen f.md) r.meters {} s4
  ({ col := m.1, learn := r.learn.isSome, publish := r.publish.isSome && f.ember.isSome && !f.late }, m.2)

/-- Where a disposition sends a frame, or why it is dropped. -/
def verdictOf (r : Result) (c : Colouring) : Verdict :=
  let v : Verdict := match r.disp with
    | .none => { reason := some drNoDisposition }
    | .fwd d q => { kind := 0, w1 := d.toNat % 2048 + 2048 * (q % 8) }
    | .mcast g => { kind := 1, w1 := g }
    | .trap hq _ => { kind := 2, w1 := hq }
    | .drop x => { kind := if x < 0x80 then 7 else 3, reason := some x }
    | .recirc a => { kind := 4, w1 := a }
    | .fault => { reason := some drProgramFault }
    | .lost => { reason := some drLate }
    | .done => { kind := Config.timerEndKind.toNat }
  match v.reason, c.drop with
  | none, some x => { kind := 7, reason := some x }
  | _, _ => v

/-- The frame has a FWD copy: its egress sessions capture it at its grant. -/
def hasFwd (r : Result) (v : Verdict) : Bool :=
  v.reason.isNone && (match r.disp with
    | .fwd _ _ => true
    | _ => false)

/-- R385: a frame's candidates at retirement, as received: its ingress sessions, and its egress sessions when it has no FWD copy.
A firing without a template has no frame to capture (notes/assumptions/26.md). -/
def retireMirrors (f : Inflight) (r : Result) (v : Verdict) (s : State) : State :=
  if f.rx.bytes.isEmpty then s
  else
    let stamp := ((f.rx.ts.map (·.1)).getD 0)
    forEach (r.mirrors.filter fun m => !(mirEgress s m && hasFwd r v))
      (fun m t => mirrorCandidate m f.id (frameBody f.rx.bytes) f.rx.bytes.length f.rx.port 8 stamp (refFrame f.id t)) s

/-- The frame's edits, remarks and colour go with its copies (R165, R384); the egress mirror copies still to be made of its FWD copy
count in REFCOUNT (R367; notes/assumptions/158.md). -/
def retireStored (f : Inflight) (r : Result) (e : Effects) (v : Verdict) (s : State) : State :=
  let out := v.kind = 0 ∨ v.kind = 1 ∨ v.kind = 4
  let later := if hasFwd r v then r.mirrors.filter (mirEgress s) else []
  forEach later (fun _ => refFrame f.id) (modStored f.id (fun x => { x with
    edits := if out then r.edits else [], remark := if out then e.col.remark else {}, colour := e.col.colour, mirrors := later }) s)

/-- Replicate a frame to the members of its group (R363). -/
def retireMulticast (f : Inflight) (g n : Nat) (s : State) : State :=
  match mcMembers s g f.rx.port f.adm with
  | [] => countPair (fixedKey 4 g) 1 f.rx.bytes.length s
  | ms =>
    let s1 := forEach ms (fun _ => refFrame f.id) (countPair (fixedKey 3 g) 1 0 s)
    forEach ms (replicate f.id n g) s1

/-- Make the copies of a frame's disposition (R166, R354, R359, R361, R363). -/
def retireCopies (f : Inflight) (d : Disp) (s : State) : State :=
  let n := f.rx.cells.length
  let c : Copy := { frame := f.id, cells := n }
  match d with
  | .fwd p q => placeUnicast (uqOf (p.toNat % 2048) (q % 8)) c (refFrame f.id s)
  | .mcast g => retireMulticast f g n s
  | .trap hq code => placeOther (hqOf hq) { c with kind := .trap code } drHostQueueFull (refFrame f.id s)
  | .recirc a => placeOther (rcqOf f.rx.cls) { c with kind := .recirc a, from_ := s.clk.tick } drQueueLimit (refFrame f.id s)
  | _ => s

/-- The RETIRE record (Table TWIN-9). From J on a source makes none for a frame that its joiner does not have
(notes/assumptions/43.md). -/
def retireRecord (f : Inflight) (v : Verdict) (e : Effects) (s : State) : State :=
  let why := v.reason.getD 0
  let before := s.twin.source && (match s.twin.joinTick with
    | some j => decide (f.adm < j ∧ j ≤ s.clk.tick)
    | none => false)
  if before then s else recRetire (3 + f.pos % 2 ^ 24 * 2 ^ 8 + v.kind * 2 ^ 32 + (if why = drLatePartner then drLate else why) * 2 ^ 40
    + e.col.colour * 2 ^ 48 + b2n e.learn * 2 ^ 50 + b2n e.publish * 2 ^ 51) (v.w1 % 2 ^ 32) s

/-- An injected frame has retired (R481). -/
def noteInjRetired (r : Rx) (s : State) : State :=
  match r.inj with
  | none => s
  | some i => modHost (fun h => { h with txDone := h.txDone.map fun d =>
      if d.qp = i.qp ∧ d.id = i.slot then { d with left := d.left - 1 } else d }) s

/-- A frame leaves retirement: it has a replication descriptor when it has more than one copy (R367), its hold on its cells ends, its
invocation is counted once it has ended, its slot is settled. -/
def finishRetire (f : Inflight) (s : State) : State :=
  let s1 := unrefFrame f.id false false (modStored f.id (fun x => { x with shared := decide (2 < x.refs) }) s)
  let s2 := match f.result with
    | some r => if f.ended ∧ r.disp ≠ .lost ∧ runsProgram f then countProgram f r s1 else s1
    | none => s1
  settleFlight f.id (modFlight f.id (fun x => { x with retired := true }) s2)

/-- A frame is dropped at retirement with a reason. -/
def retireDrop (f : Inflight) (reason : Nat) (v : Verdict) (e : Effects) (s : State) : State :=
  retireRecord f { v with reason := some reason } e
    (noteInjDrop f.rx reason (countDrop reason f.rx.bytes.length s))

/-- A frame is dropped as late: its other effects are cancelled (R31, R255). -/
def retireLate (reason : Nat) (f : Inflight) (s : State) : State :=
  finishRetire f (retireDrop f reason {} {} (whenB (reason = drLatePartner) (regCount .STOVE_LATE_PARTNER_CNT 0) s))

/-- A frame without a program retires on a host queue or, bypassing programs, on a unicast queue (R80, R145, R480). -/
def retirePlain (f : Inflight) (v : Verdict) (q reason : Nat) (k : CopyKind) (s : State) : State :=
  let c : Copy := { frame := f.id, cells := f.rx.cells.length, kind := k }
  let s1 := refFrame f.id (retireRecord f v {} (noteInjRetired f.rx s))
  finishRetire f (if q < 16384 then placeUnicast q c s1 else placeOther q c reason s1)

/-- A frame or firing with its result retires. -/
def retireProgram (f : Inflight) (r : Result) (s : State) : State :=
  if r.disp = .fault then finishRetire f (retireDrop f drProgramFault {} {} s)
  else
    let e := retireEffects f r s
    let v := verdictOf r e.1.col
    let s1 := retireMirrors f r v (retireStored f r e.1 v e.2)
    match v.reason with
    | some x => finishRetire f (retireDrop f x v e.1 s1)
    | none => finishRetire f (retireCopies f r.disp (retireRecord f v e.1 (noteInjRetired f.rx s1)))

/-- Retire one frame that is not late. -/
def retireNow (f : Inflight) (s : State) : State :=
  match f.kind with
  | .errored =>
    let hq := f.rx.errHq.getD 0
    retirePlain f { kind := 2, w1 := hq } (hqOf hq) drHostQueueFull .errored s
  | .conflictTrap hq =>
    let hits := f.preHit.toList.map fun h => (s.clk.tick + 1, stationKey h.1 h.2, f.adm, f.id)
    retirePlain f { kind := 2, w1 := hq } (hqOf hq) drHostQueueFull .conflict
      (modTbl (fun x => { x with hitQ := x.hitQ ++ hits }) s)
  | .bypass =>
    let i := f.rx.inj.getD {}
    retirePlain f { kind := 0, w1 := i.port + 2048 * i.queue } (uqOf i.port i.queue) drQueueLimit .unicast s
  | .conflictDrop => s
  | _ => match f.result with
    | some r => retireProgram f r s
    | none => retireLate drLate f s

/-! ### The retire sequencer (R255 to R257) -/

/-- The frames that are due, in admission order, the one that holds retirement first. -/
def retireDue (s : State) : List Inflight :=
  let l := s.hob.flight.filter fun x => decide (x.ret ≤ s.clk.tick ∧ x.kind ≠ .conflictDrop) && !x.retired
  match s.hob.heldFrom with
  | some h => (l.filter fun x => x.id = h) ++ l.filter fun x => x.id ≠ h
  | none => l

/-- The frame was lost with its stove (R258). -/
def wasLost (f : Inflight) : Bool :=
  match f.result with
  | some r => r.disp = .lost
  | none => false

/-- A frame holds retirement from its retire tick on (R257). -/
def holdFrame (f : Inflight) (s : State) : State :=
  let s1 := modHob (fun h => { h with heldFrom := some f.id }) s
  if f.heldAt.isSome then s1
  else regCount .STOVE_HELD_CNT 0 (modFlight f.id (fun x => { x with heldAt := some f.ret }) s1)

/-- R257: retire in solo operation up to `n` frames; those left over are overdue and follow at the next tick. -/
def retireSolo : Nat → List Inflight → State → State
  | _, [], s => modHob (fun h => { h with heldFrom := none }) s
  | 0, _ :: _, s => modHob (fun h => { h with heldFrom := none }) s
  | n + 1, f :: l, s =>
    let t := s.clk.tick
    if !f.late then retireSolo n l (retireNow f s)
    else if regBit s .STOVE_CFG 0 16 || wasLost f then retireSolo n l (retireLate drLate f s)
    else if (match f.arrived with
        | some a => decide (a < t)
        | none => false) then retireSolo n l (retireNow f s)
    else if f.ret + regFld s .STOVE_HOLD_CFG 0 15 0 ≤ t then
      retireSolo n l (raiseEv 0x1306 0 (w4 f.adm ++ w4 f.pos) (retireLate drLate f s))
    else holdFrame f s

/-- R255, R256: retire one frame of retire tick `t` in a pair, under the partner's list `p`; without one a STANDBY drops every frame with
LATE_PARTNER. -/
def retireAgreed (t : Nat) (p : Option LateList) (f : Inflight) (s : State) : State :=
  let own := FMap.get {} s.hob.lateOwn t
  let named := match p with
    | some l => l.all || l.pos.contains f.pos
    | none => !countsAsActive s
  if p.isNone && named then retireLate drLatePartner f s
  else if f.late then retireLate drLate f s
  else if named || own.all then retireLate drLatePartner f s
  else retireNow f s

/-- R429: retire one frame under the source's list alone; a frame that is late here only ends the attempt. -/
def retireUnder (p : Option LateList) (f : Inflight) (s : State) : State :=
  let named := match p with
    | some l => l.all || l.pos.contains f.pos
    | none => true
  if named then retireLate (if f.late then drLate else drLatePartner) f s
  else if f.late then retireLate drLate f (failAttempt 3 s)
  else retireNow f s

/-- The retirements of the current tick (step 4 of R345). -/
def retireStep (s : State) : State :=
  let t := s.clk.tick
  let due := retireDue s
  let prune (h : Hobs) : Hobs := { h with lateOwn := h.lateOwn.filter fun e => decide (t < e.1),
                                          latePartner := h.latePartner.filter fun e => decide (t < e.1),
                                          retMissing := h.retMissing.filter fun e => decide (t < e) }
  if underSource s then modHob prune (forEach due (retireUnder (partnerList s t)) s)
  else if agrees s then
    let s1 := noteListMissing t s
    modHob prune (forEach due (retireAgreed t (partnerList s1 t)) s1)
  else
    let behind := due.any fun x => decide (x.ret < t)
    modHob prune (retireSolo (if behind then 4096 else due.length) due s)

/-- R257: retirement resumes on the tick after the held frame's result has arrived, or when it has been held too long. -/
def retireResume (timeout : Bool) (s : State) : State :=
  match s.hob.heldFrom with
  | none => s
  | some h =>
    match flightOf s h with
    | none => s
    | some f =>
      let came := match f.arrived with
        | some a => decide (a < s.clk.tick)
        | none => false
      let overs := decide (f.ret + regFld s .STOVE_HOLD_CFG 0 15 0 ≤ s.clk.tick)
      if isSolo s && (if timeout then overs else came) then retireStep s else s

/-! ### Commands -/

/-- RESULT_ARRIVE (R180). -/
def execResultArrive (inv : Nat) (s : State) : Host.Outcome State Fault Refusal := .next (resultArrives inv s)

/-- HELD_RETIRE_RESUME (R257). -/
def execHeldRetireResume (s : State) : Host.Outcome State Fault Refusal := .next (retireResume false s)

/-- HOLD_TIMEOUT (R257). -/
def execHoldTimeout (s : State) : Host.Outcome State Fault Refusal := .next (retireResume true s)

/-- LATE_LIST (R254, R256). -/
def execLateList (tick : Nat) (all : Bool) (positions : List Nat) (s : State) : Host.Outcome State Fault Refusal :=
  .next (modHob (fun h => { h with latePartner := FMap.put h.latePartner (fullTick s tick) (some { all := all, pos := positions }) })
    (hear (fullTick s tick - 4) s))

/-- LATE_LIST_MISSING (R256): judged in the tick before the retire tick. Both twins raise the event for a list that one of them lacks:
`atPartner` says that it is this twin's own that the partner lacks (notes/assumptions/34.md). -/
def execLateListMissing (tick : Nat) (atPartner : Bool) (s : State) : Host.Outcome State Fault Refusal :=
  .next (if inPair s && decide (s.twin.pairSince ≤ s.clk.tick ∧ tick = s.clk.tick + 1) then
      (if atPartner then raiseEv 0x1305 0 (w4 tick) s else noteListMissing tick s)
    else s)

end Sys2Proof.Machine
end

