-- ==== Sys2Proof/Machine/Flags.lean ====
section
/-! DEFINITION. Status flags and read-only registers: the value that a read of each register field returns (R9, R11, R463). -/

namespace Sys2Proof.Machine

/-! ### Twin pins (R400) -/

/-- TWIN_FAULT_N is low. -/
def twinFaultLow (s : State) : Bool :=
  s.boot.inReset || decide (s.boot.step < 10) || s.twin.fault.isSome || s.twin.st = .diverged || isSafe s || s.pwr.thermtrip

/-- The host can reach BAR0: the device is not in reset and the host interface has not stopped with a thermal trip (R549). -/
def hostReaches (s : State) : Bool := !s.boot.inReset && !s.pwr.thermtrip

/-- TWIN_READY is high. -/
def twinReady (s : State) : Bool :=
  s.twin.fault.isNone && !s.pwr.thermtrip && !isSafe s && (inPair s || (s.twin.st = .solo && s.clk.forwarding))

/-- The codes of Table TWIN-5. -/
def twinCode : TwinState → Nat
  | .solo => 0
  | .pairing => 1
  | .syncing => 2
  | .warming => 3
  | .active => 4
  | .standby => 5
  | .diverged => 6

/-- The codes of BOOT_STATUS.SAFE_CAUSE. -/
def safeCode : SafeCause → Nat
  | .none => 0
  | .noImage => 1
  | .strap => 2
  | .sliceFailed => 3
  | .hbmFailed => 4
  | .fuseError => 5
  | .scan => 6

/-- TWIN_STATUS (R435). -/
def twinStatus (s : State) : Nat :=
  let t := s.twin
  twinCode t.st + 8 * b2n t.side + 16 * b2n t.role + 32 * b2n (twinReady s) + 64 * b2n (twinFaultLow s)
    + 128 * b2n t.absent + 256 * t.groups + 1024 * t.flueVer + 4096 * (if t.flueVer = 0 then 0 else t.feature) + 2 ^ 14 * b2n t.source
    + 2 ^ 15 * b2n t.swapReq.isSome + 2 ^ 16 * t.partnerState

/-! ### Status values by block -/

/-- The sum of a function over a list. -/
def sumOf {α : Type} (l : List α) (f : α → Nat) : Nat := l.foldl (fun a x => a + f x) 0

/-- The number of 1 bits that a property sets over the first `n` positions. -/
def bitsOf (n : Nat) (f : Nat → Bool) : Nat := sumOf (List.range n) fun i => 2 ^ i * b2n (f i)

/-- LANE_STATUS (R71). -/
def laneStatus (s : State) (l : Nat) : Nat :=
  let x := laneOf s l
  let st := match x.st with
    | .disabled => 0
    | .acquire => 1
    | .negotiate => 2
    | .align => 3
    | .inService => 4
    | .outOfStep => 5
  let shown := if isHearth (laneMode s l) then st else if x.linked && laneOn s l then 4 else 0
  shown + 8 * b2n (x.hver = 2) + 16 * b2n x.blockLock + 256 * x.partnerCap

/-- MAC_PORT_STATUS (R120). -/
def portStatus (s : State) (p : Nat) : Nat :=
  let x := portOf s p
  b2n (linkNow s p) + 2 * b2n x.suppressed + 4 * b2n (!x.up && x.downL.isSome && !x.flushed) + 8 * b2n (portPaused s p)
    + 16 * bitsOf 8 (prioPaused s p) + 2 ^ 12 * b2n x.pauseStorm + 2 ^ 13 * x.pfcStorm + 2 ^ 21 * b2n x.txLpi
    + 2 ^ 22 * b2n x.rxLpi

/-- STOVE_SERVICE (R263). -/
def serviceStatus (s : State) : Nat :=
  let n (st : StoveState) : Nat := (stovesIn s st).length
  n .inService + 2 ^ 8 * n .spare + 2 ^ 16 * n .failed + 2 ^ 24 * n .parked

/-- STOVE_PROG_STORE (R194). -/
def storeStatus (s : State) : Nat :=
  let both := s.prog.active.toList ++ s.prog.pendingImg.toList
  sumOf both (fun i => i.code.length) + 2 ^ 16 * cdiv (sumOf both fun i => i.kc.length) 16

/-- STOVE_GROUP_STATUS (R263). -/
def groupStatus (s : State) (g : Nat) : Nat :=
  let x := groupOf s g
  x.freq + 16 * b2n (!x.powered) + 32 * b2n x.sweeping + 64 * b2n x.powered + 256 * qOf x.freq

/-- TBL_STATION_COUNT (R303): station entries valid in force. -/
def stationCount (s : State) : Nat :=
  (s.tbl.stations.filter fun e => tb (verNow s ⟨tcStation, e.2.key⟩ e.2.ver) 63).length

/-- BUF_SLICE_STATUS (R370). -/
def sliceStatus (s : State) (i : Nat) : Nat :=
  let x := sliceOf s i
  runLen x.ring + runLen x.cache + 2 ^ 16 * runLen x.cache

/-- BUF_OWNER_USE (R370). -/
def ownerUse (s : State) (o : Nat) : Nat :=
  let x := ownerOf s o
  x.minUsed + x.shUsed + x.hdUsed + 2 ^ 20 * b2n x.fc

/-- The tick in 64 bits, the activation tick, the shadow base, a ring base, the loaded keys, an energy meter, a MAC
statistic: BOOT_KEY_LOADED (R520). -/
def keysLoaded (s : State) : Nat := bitsOf 64 fun i => (FMap.get none s.boot.keys i).isSome

/-- PWR_ENERGY of a domain in µJ (R533). -/
def energyUj (s : State) (d : Nat) : Nat := FMap.get 0 s.pwr.energy d / 1000 % 2 ^ 64

/-- LIFE_USED in 0.1 % steps from DEGRADE in 0.01 % steps (R545). -/
def lifeUsed (degrade : Nat) : Nat := Nat.min (1000 * degrade ^ 5 / 500 ^ 5) 1023

/-- A signed temperature in 8 bits. -/
def temp8 (t : Int) : Nat := (t % 256).toNat

/-- PWR_LIFE_HOURS (R546, R547). -/
def lifeHours (s : State) : Nat := Nat.min ((regVal s .PWR_LIFE_BASE 0).toNat + s.pwr.lifeAdded / 10 ^ 12) (2 ^ 32 - 1)

/-- BIST_SWEEP_STATUS (R548). -/
def sweepStatus (s : State) : Nat :=
  let v := match s.pwr.visit with
    | none => 0x1F
    | some x => match x.cover with
      | none => x.group
      | some c => x.group + 2 ^ 5 * c + 2 ^ 10 * b2n (decide (1 ≤ x.stage))
  v + 2 ^ 16 * (s.pwr.visits % 2 ^ 16)

/-- BOOT_STATUS (R520). -/
def bootStatus (s : State) : Nat :=
  let b := s.boot
  let f := s.fuses
  b.step + 2 ^ 4 * b2n (isSafe s) + 2 ^ 5 * safeCode b.safe + 2 ^ 8 * b.slot.getD 0 + 2 ^ 9 * b2n b.fallback
    + 2 ^ 10 * b2n b.overlay + 2 ^ 11 * b2n b.vfuseOk + 2 ^ 12 * b2n s.clk.forwarding + 2 ^ 13 * b2n f.rootDisable
    + 2 ^ 14 * bitsOf 4 (fun n => (FMap.find? f.custHash n).isSome) + 2 ^ 18 * f.custRevoke + 2 ^ 22 * b2n f.cwk.isSome

/-- TIME_SLEW_REMAIN: ns, rounded toward zero (R458). -/
def slewNs (s : State) : Nat := (Int.tdiv s.time.core.slew (2 ^ 32) % 2 ^ 32).toNat

/-- The read-only part of a register: the hardware value of its RO fields; none where every field is stored. -/
def statusOf (s : State) (r : Reg) (i : Nat) : Option Nat :=
  match r with
  | .GLOBAL_TICK_LO => some s.clk.tick
  | .GLOBAL_TICK_HI => some (s.clk.tick / 2 ^ 32)
  | .LANE_BANK_STATUS =>
    some (bitsOf 8 (fun k => !bankFailed s k && decide (4 < s.boot.step)) + 2 ^ 8 * bitsOf 8 (fun k => tb s.pwr.ready k))
  | .LANE_STATUS => some (laneStatus s i)
  | .LANE_PROVEN_TICK => some ((provenTick (laneOf s i)).getD 0)
  | .MAC_TX_CT => some (2 ^ 8 * (portOf s i).ctThresh)
  | .MAC_PORT_STATUS => some (portStatus s i)
  | .ADM_GOV_STATUS => some (s.adm.cForce + 2 ^ 12 * s.adm.hForce + 2 ^ 24 * s.adm.qForce)
  | .ADM_GOV_COST => some s.adm.kForce
  | .STOVE_PROG_STATUS =>
    some ((s.prog.active.map (·.id)).getD 0 + 2 ^ 16 * b2n s.prog.active.isSome + 2 ^ 17 * b2n s.prog.pendingImg.isSome
      + 2 ^ 18 * b2n (activationSet s).isSome)
  | .STOVE_PROG_PENDING =>
    some ((s.prog.pendingImg.map (·.id)).getD 0 + 2 ^ 16 * (s.prog.pendingImg.map (·.wcyc)).getD 0)
  | .STOVE_PROG_ACT_TICK_LO => some ((activationSet s).getD s.prog.activeFrom)
  | .STOVE_PROG_ACT_TICK_HI => some ((activationSet s).getD s.prog.activeFrom / 2 ^ 32)
  | .STOVE_PROG_STORE => some (storeStatus s)
  | .STOVE_PROG_LAST_FAULT => some (s.prog.lastFaultPc + 2 ^ 16 * s.prog.lastFaultCause)
  | .STOVE_SERVICE => some (serviceStatus s)
  | .STOVE_SLOTS => some s.hob.slotsUsed
  | .STOVE_GROUP_STATUS => some (groupStatus s i)
  | .STOVE_STATUS => some (stoveCode (stoveOf s i).st + 2 ^ 8 * (lanesOf s i).length)
  | .STOVE_QDEPTH => some (stoveOf s i).queue.length
  | .TBL_CHANGE_STATUS => some (queuedCount s + 2 ^ 15 * vstoreUsed s)
  | .TBL_STATION_COUNT => some (stationCount s)
  | .TBL_AUDIT_STATUS => some s.tbl.auditPasses
  | .TCAM_TXN_STATUS =>
    let st := match s.tcam.txn with
      | .idle => 0
      | .open => 1
      | .committed => 2
      | .completing => 3
    some (st + 4 * s.tcam.slot + 2 ^ 16 * s.tcam.txnId)
  | .TCAM_SUPPRESSED => some (suppressedCount s)
  | .TCAM_BRICK_STATUS =>
    some ((freeSpares s).length + 2 ^ 4 * s.tcam.unavailable.length + 2 ^ 12 * b2n (tchOn s))
  | .TCAM_SCRUB_PASSES => some s.tcam.scrubPasses
  | .TCAM_POS_MAP => some (brickAt s i + 2 ^ 8 * b2n (s.tcam.unavailable.contains i))
  | .TCAM_COURSE => some (tcamRegRead s r i)
  | .TCAM_PROF_CFG => some (tcamRegRead s r i)
  | .TCAM_PROF_SEL => some (tcamRegRead s r i)
  | .BUF_OWNER_POOL => some s.buf.ownerPool
  | .BUF_SHARED_SIZE => some s.buf.sharedSize
  | .BUF_SHARED_USED => some s.buf.sharedUsed
  | .BUF_RX_RESERVE => some s.buf.rxReserve
  | .BUF_CELLS_FREE => some (s.buf.slices.foldl (fun a e => a + runLen e.2.ring + runLen e.2.cache) 0)
  | .BUF_BANK_STATUS => some (chunksUsed s)
  | .BUF_RESIDUE_STATUS => some s.buf.residue.length
  | .BUF_SLICE_STATUS => some (sliceStatus s i)
  | .BUF_SLICE_RETIRED => some (sliceOf s i).retired
  | .BUF_OWNER_USE => some (ownerUse s i)
  | .BUF_QUEUE_DEPTH => some (queueOf s i).depth
  | .BUF_QUEUE_BANKED => some ((queueOf s i).banked + 2 ^ 26 * b2n (residueWaits s i))
  | .EGR_PORT_STATUS => some (portSchedStatus s i)
  | .TWIN_STATUS => some (twinStatus s)
  | .TWIN_LAST_FAULT => some (s.twin.lastCause + 2 ^ 8 * s.twin.lastRefusal + 2 ^ 16 * s.twin.lastResyncFail)
  | .TWIN_FAULT_TICK => some s.twin.faultTick
  | .TWIN_RESYNC_CNT => some (s.twin.resyncDone % 2 ^ 16 + 2 ^ 16 * (s.twin.resyncFailed % 2 ^ 16))
  | .TIME_STATUS =>
    let c := s.time.core
    some (b2n c.locked + 2 * b2n (decide (c.slew ≠ 0)) + 4 * b2n (decide (slewMargin c = 0)))
  | .TIME_INC_LO => some s.time.core.inc
  | .TIME_INC_HI => some (s.time.core.inc / 2 ^ 32)
  | .TIME_NOW_FRAC => some (todFrac s.time.nowLatch.1)
  | .TIME_NOW_NS => some (todNs s.time.nowLatch.1)
  | .TIME_NOW_SEC_LO => some (todSec s.time.nowLatch.1)
  | .TIME_NOW_SEC_HI => some (todSec s.time.nowLatch.1 / 2 ^ 32)
  | .TIME_NOW_TICK => some s.time.nowLatch.2
  | .TIME_SLEW_REMAIN => some (slewNs s)
  | .TIME_PPS_IN_NS => some s.time.ppsNs
  | .TIME_PPS_IN_SEC => some s.time.ppsSec
  | .TIME_TSF_STATUS => some (s.time.fifo.length + 2 ^ 16 * s.time.nextSeq)
  | .TIME_TSF_W => some (match s.time.fifo with
    | [] => 0
    | (a, b, c, d) :: _ => [a, b, c, d].getD i 0)
  | .HOST_ID => some 0x62401E5B
  | .HOST_PCIE_STATUS => some (s.host.pcie % 2 ^ 12)
  | .HOST_MBX_STATUS => some (s.host.version + 2 ^ 8 * s.host.outstanding.length + 2 ^ 16 * b2n (isSafe s))
  | .HOST_MDIO_DATA => some (2 ^ 16 * b2n (FMap.get {} s.host.mdio i).busy)
  | .HOST_TWI_STATUS => some (FMap.get {} s.host.twi i).status
  | .HOST_TWI_FIFO => some ((FMap.get {} s.host.twi i).got.headD 0).toNat
  | .HOST_UART_DATA =>
    some ((s.host.uartRx.headD 0).toNat + 2 ^ 8 * b2n (!s.host.uartRx.isEmpty) + 2 ^ 9 * b2n (decide (64 ≤ s.host.uartTx.length)))
  | .HOST_RING_PROD => some (ringOf s i).prod
  | .HOST_RING_CONS => some (ringOf s i).cons
  | .HOST_QRING_PROD => some (ringOf s (i + 3)).prod
  | .HOST_QRING_CONS => some (ringOf s (i + 3)).cons
  | .BOOT_STATUS => some (bootStatus s)
  | .BOOT_IMAGE =>
    some (s.boot.reasonA + 2 ^ 8 * s.boot.reasonB + 2 ^ 16 * (s.boot.imageSvn % 2 ^ 7) + 2 ^ 24 * s.fuses.svn)
  | .BOOT_IMAGE_VERSION => some s.boot.imageVersion
  | .BOOT_ID => some (leVal (slice s.fuses.identity (4 * i) 4))
  | .BOOT_FACTORY_HEALTH => some (s.fuses.factoryHealth / 2 ^ (32 * i))
  | .BOOT_KEY_LOADED_LO => some (keysLoaded s)
  | .BOOT_KEY_LOADED_HI => some (keysLoaded s / 2 ^ 32)
  | .BOOT_FUSE_CTRL => some (2 ^ 17 * b2n s.boot.fuseOp.isSome + 2 ^ 18 * s.boot.fuseResult)
  | .PWR_DOMAIN_STATUS => some (s.pwr.ready + 2 ^ 31 * b2n (!s.pwr.rampQ.isEmpty))
  | .PWR_AVS_STATUS => some (s.pwr.vid + 2 ^ 8 * b2n s.pwr.avsLimit)
  | .PWR_THERM_STATUS =>
    some (temp8 s.pwr.tjMax + 2 ^ 8 * s.pwr.tjSensor
      + 2 ^ 14 * b2n (decide (((regFld s .PWR_THERM_CFG 0 7 0 : Nat) : Int) ≤ s.pwr.tjMax)) + 2 ^ 15 * b2n s.pwr.throttling
      + 2 ^ 16 * temp8 s.pwr.hbm0 + 2 ^ 24 * temp8 s.pwr.hbm1)
  | .PWR_LIFE_HOURS => some (lifeHours s)
  | .PWR_ENERGY_LO => some (energyUj s i)
  | .PWR_ENERGY_HI => some (energyUj s i / 2 ^ 32)
  | .PWR_AGING => some (FMap.get 0 s.pwr.aging i % 2 ^ 12 + 2 ^ 12 * lifeUsed (FMap.get 0 s.pwr.aging i))
  | .BIST_SWEEP_STATUS => some (sweepStatus s)
  | _ => none

/-- The current value of a register: stored fields with the hardware's RO fields; WO fields read zero (R11). While RESET_N holds the
device every register has its reset value. -/
def regNow (s : State) (r : Reg) (i : Nat) : Word :=
  let stored := (regVal s r i &&& ~~~r.info.wo).toNat
  match (statusOf s r i).map fun v => if s.boot.inReset then r.info.reset.toNat else v with
  | none => BitVec.ofNat 32 stored
  | some v =>
    if r.info.rw = 0 then BitVec.ofNat 32 v
    else BitVec.ofNat 32 v ||| (BitVec.ofNat 32 stored &&& (if r = .MAC_TX_CT || r = .HOST_MDIO_DATA || r = .BOOT_FUSE_CTRL then r.info.rw else 0))

/-- The current value of the word at a BAR0 offset: a register, a MAC statistic of R121, or zero where nothing lies. -/
def barWord (s : State) (a : Nat) : Word :=
  match Reg.find a with
  | some (r, i) => regNow s r i
  | none =>
    if 0x280000 ≤ a ∧ a < 0x300000 then
      let n := FMap.get 0 s.egr.stats ((a - 0x280000) / 256 * 32 + (a - 0x280000) % 256 / 8)
      BitVec.ofNat 32 (if a % 8 = 0 then n else n / 2 ^ 32)
    else 0

/-- The offset is the low word of a 64-bit quantity (R9): the high word lies 4 above it. -/
def isLowWord (a : Nat) : Bool :=
  match Reg.find a with
  | some (r, _) => match r with
    | .GLOBAL_TICK_LO => true
    | .STOVE_PROG_ACT_TICK_LO => true
    | .TBL_AUDIT_BASE_LO => true
    | .BOOT_KEY_LOADED_LO => true
    | .PWR_ENERGY_LO => true
    | .HOST_RING_BASE_LO => true
    | .HOST_QRING_BASE_LO => true
    | _ => false
  | none => decide (0x280000 ≤ a ∧ a < 0x300000 ∧ a % 8 = 0)

/-- The offset is the high word of a 64-bit quantity. -/
def isHighWord (a : Nat) : Bool := decide (4 ≤ a) && isLowWord (a - 4)

/-- What a read of the word at `a` shows: a latched high word, else the current value (R9). -/
def barShown (s : State) (a : Nat) : Word :=
  if isHighWord a then (FMap.get none s.regs.latch a).getD (barWord s a) else barWord s a

end Sys2Proof.Machine
end

