-- ==== Sys2Proof/Machine/RegWrite.lean ====
section
/-! DEFINITION. Writes of the registers of the agreed blocks and of GLOBAL, as they take effect: clamping, refusal, and
what a write does beyond its fields (R10, R11, R34, R464 and the register tables of each chapter). -/

namespace Sys2Proof.Machine

/-! ### Clamping -/

/-- Field [hi:lo] raised to at least `n`. -/
def atLeast (hi lo n : Nat) (v : Word) : Word := if wfld v hi lo < n then setFld v hi lo n else v

/-- Field [hi:lo] lowered to at most `n`. -/
def atMost (hi lo n : Nat) (v : Word) : Word := if n < wfld v hi lo then setFld v hi lo n else v

/-- The highest FREQ of the device's speed bin (R517). -/
def freqLimit (s : State) : Nat :=
  match (byteAt s.fuses.identity 13).toNat with
  | 0 => 10
  | 1 => 9
  | _ => 8

/-- The value that is stored for a written value: what the register tables write or take in its place. CHUNKS above the 131,072 chunks
of the device is stored as 131,072 (R1, R356; DESIGN CHOICE, notes/assumptions/162.md). -/
def clampReg (s : State) (r : Reg) (v : Word) : Word :=
  match r with
  | .GLOBAL_PATH_DELAY => atLeast 25 16 16 (atLeast 7 0 8 v)
  | .LANE_GCFG => atLeast 15 8 1 v
  | .MAC_PORT_CFG => atMost 13 0 16352 (atLeast 13 0 1518 v)
  | .MAC_EEE_CFG => atLeast 15 4 1 v
  | .MAC_LINK_CFG => atLeast 19 12 1 (atMost 6 0 100 v)
  | .ADM_GOV_CFG => atLeast 27 16 1 (atLeast 7 0 1 v)
  | .STOVE_CFG => atLeast 15 4 1 (atMost 2 0 4 v)
  | .STOVE_HOLD_CFG => atLeast 15 0 1 v
  | .STOVE_GROUP_CFG => atMost 3 0 (freqLimit s) v
  | .TBL_AGE_CFG => atMost 15 0 32767 (atLeast 15 0 1 v)
  | .TBL_MOVE_CFG => atLeast 31 16 1 (atLeast 15 4 1 v)
  | .TBL_AUDIT_CFG => atLeast 15 8 1 v
  | .BUF_POOL_CFG => atLeast 15 0 1024 v
  | .BUF_MC_CFG => atLeast 31 16 1 (atLeast 15 0 1 v)
  | .BUF_BANK_CFG => atMost 17 0 131072 v
  | .BUF_OWNER_CFG => atMost 19 16 10 v
  | .EGR_PORT_SBURST => atLeast 11 0 1 v
  | .EGR_QUEUE_SCHED => atLeast 27 16 1 (atLeast 15 8 1 v)
  | .TWIN_CFG => atLeast 23 16 1 (atLeast 15 8 8 v)
  | .TWIN_SWAP_CFG => if wfld v 21 0 = 0 then v else atMost 21 0 2592000 (atLeast 21 0 600 v)
  | .TWIN_SNAP_CFG => atMost 20 0 1048576 (atLeast 20 0 16384 v)
  | .TIME_CFG => atLeast 31 24 1 (atLeast 15 0 1 v)
  | .TIME_PPS_OUT_OFF => atMost 29 0 999999999 v
  | .TIME_TRIG_CFG => atLeast 23 8 1 v
  | .HOST_IRQ_MOD => atLeast 31 16 1 v
  | .HOST_RING_CFG => atMost 3 0 12 (atLeast 3 0 4 v)
  | .HOST_QRING_CFG => atMost 3 0 12 (atLeast 3 0 4 v)
  | .HOST_MDIO_CFG => atLeast 7 0 3 v
  | .HOST_UART_CFG => atLeast 15 0 1 v
  | .PWR_AVS_CFG => atLeast 15 8 1 v
  | .PWR_THERM_CFG => atMost 15 8 110 (atMost 7 0 110 v)
  | .BIST_SWEEP_CFG => atLeast 15 8 1 v
  | _ => v

/-- The stored value of a register after a masked write: RW fields change where mask bits are 1 (R11, R474), then the
value is clamped. -/
def mergeReg (s : State) (r : Reg) (i : Nat) (value mask : Word) : Word :=
  let m := mask &&& r.info.rw
  clampReg s r ((regVal s r i &&& ~~~m) ||| (value &&& m))

/-! ### Refusals (R250, R343, R358) -/

/-- The sizes of the reserves (R341). -/
def reserveSizes (s : State) : Nat × Nat × Nat :=
  (admDelay s, regFld s .BUF_POOL_CFG 0 15 0, regFld s .BUF_POOL_CFG 0 31 16)

/-- R343: the state with a write made would have too small a shared pool, or another reserve while frames are forwarded. -/
def poolBreach (s s' : State) : Bool :=
  let now := sharedSizeFor s (ownerPoolOf s)
  let then_ := sharedSizeFor s' (ownerPoolOf s')
  decide (then_ ≠ now ∧ then_ < 16384) || (s.clk.forwarding && decide (reserveSizes s ≠ reserveSizes s'))

/-- R250: C_CAP × (RET_DELAY + 1) is at most 196,608. -/
def slotsOk (s : State) : Bool := decide (regFld s .ADM_GOV_CFG 0 27 16 * (retDelay s + 1) ≤ 196608)

/-- Store a register whose value enters R343, or ignore the write with event 0x160B. -/
def poolWrite (r : Reg) (i : Nat) (v : Word) (s : State) : State :=
  let s' := regSet r i v s
  if poolBreach s s' then raiseEv 0x160B 0 (w4 (r.addr i)) s else resizeReserves s'

/-- A bit that the masked write sets. -/
def wroteOne (value mask : Word) (b : Nat) : Bool := (value &&& mask).getLsbD b

/-- GLOBAL_PATH_DELAY (R24, R39, R250, R343). -/
def pathDelayWrite (v : Word) (s : State) : State :=
  if s.clk.forwarding then
    regSetFld .GLOBAL_PATH_DELAY 0 31 31 1
      (if wfld v 7 0 = admDelay s then s else raiseEv 0x160B 0 (w4 (Reg.GLOBAL_PATH_DELAY.addr 0)) s)
  else
    let s' := regSet .GLOBAL_PATH_DELAY 0 v s
    if slotsOk s' then poolWrite .GLOBAL_PATH_DELAY 0 v s else raiseEv 0x1307 0 (w2 1) s

/-- ADM_GOV_CFG (R250). -/
def govCfgWrite (v : Word) (s : State) : State :=
  let s' := regSet .ADM_GOV_CFG 0 v s
  if slotsOk s' then s' else raiseEv 0x1307 0 (w2 1) s

/-- LANE_CHMAP: the ports of the old and of the new map are judged again (R45, R111). -/
def chanMapWrite (i : Nat) (v : Word) (s : State) : State :=
  let old := lanePorts s (i / 4)
  let s' := regSet .LANE_CHMAP i v s
  forEach (old.filter fun p => !(lanePorts s' (i / 4)).contains p) linkJudge (linkJudgeLane (i / 4) s')

/-- MAC_PORT_CTRL (R105, R119, R120): what its bits trigger. -/
def portCtrl (p bits : Nat) (s : State) : State :=
  let base := regFld s .MAC_TX_CT p 6 0
  whenB (tb bits 2) (modPort p fun x => { x with ctThresh := base, decay := 0 })
    (whenB (tb bits 1) (flapClear p) (whenB (tb bits 0) (stormClear p) s))

/-- EGR_MIR_CFG (R386, R388): reserved values are refused with event 0x1706; enabling a session zeroes its sample counter. -/
def mirCfgWrite (m : Nat) (v : Word) (s : State) : State :=
  if wfld v 3 2 = 3 ∨ 8 < wfld v 7 4 then raiseEv 0x1706 0 (w2 1 ++ w4 (Reg.EGR_MIR_CFG.addr m)) s
  else
    let starts := v.getLsbD 0 && !regBit s .EGR_MIR_CFG m 0
    whenB starts (modSession m fun x => { x with count := 0 }) (regSet .EGR_MIR_CFG m v s)

/-- EGR_POLICY: the value before the write stays in force for frames admitted before it (R26). -/
def policyWrite (k : Nat) (v : Word) (s : State) : State :=
  let old := regVal s .EGR_POLICY k
  regSet .EGR_POLICY k v
    (if old = v then s else modEgr (fun g => { g with policyHist := g.policyHist ++ [(s.clk.tick, k, old)] }) s)

/-- TBL_ECMP_CFG.LINK_AWARE: its earlier value stays in force for frames admitted before the write (R26). -/
def ecmpCfgWrite (v : Word) (s : State) : State :=
  let was := regBit s .TBL_ECMP_CFG 0 0
  regSet .TBL_ECMP_CFG 0 v
    (if was = v.getLsbD 0 then s
     else modTbl (fun t => { t with awareHist := t.awareHist ++ [(s.clk.tick, v.getLsbD 0)] }) s)

/-- TIME_TSF_CTRL.POP removes the oldest record and re-arms MSI-X vector 3 (R458, R488). -/
def tsfPop (s : State) : State :=
  modHost (fun h => { h with vectors := FMap.upd {} h.vectors 3 fun x => { x with armed := true } })
    (modTime (fun u => { u with fifo := u.fifo.drop 1 }) s)

/-- The low word of a 64-bit RW quantity takes a held high word with it (R10). -/
def takeHeldHigh (lo hi : Reg) (i : Nat) (v : Word) (s : State) : State :=
  let a := hi.addr i
  match FMap.get none s.regs.high a with
  | none => regSet lo i v s
  | some h => regSet hi i h (regSet lo i v { s with regs := { s.regs with high := FMap.set none s.regs.high a none } })

/-- A write of a 64-bit RW quantity's high word is held (R10). -/
def holdHigh (r : Reg) (i : Nat) (value mask : Word) (s : State) : State :=
  let old := (FMap.get none s.regs.high (r.addr i)).getD (regVal s r i)
  { s with regs := { s.regs with
      high := FMap.set none s.regs.high (r.addr i) (some ((old &&& ~~~mask) ||| (value &&& mask))) } }

/-- A masked write of register `r` takes effect. -/
def applyField (r : Reg) (i : Nat) (value mask : Word) (s : State) : State :=
  let v := mergeReg s r i value mask
  let old := regVal s r i
  match r with
  | .GLOBAL_PATH_DELAY => pathDelayWrite v s
  | .LANE_MODE => laneModeEffect i v s
  | .LANE_CTRL => whenB (wroteOne value mask 0) (retrainLane i) s
  | .LANE_CHMAP => chanMapWrite i v s
  | .MAC_PORT_CFG => poolWrite r i v s
  | .MAC_FC_CFG => poolWrite r i v s
  | .MAC_TX_CT =>
    whenB (decide (mask &&& 0x7F ≠ 0)) (modPort i fun x => { x with ctThresh := wfld v 6 0 }) (regSet r i v s)
  | .MAC_PORT_CTRL => portCtrl i (value &&& mask &&& 7).toNat s
  | .ADM_GOV_CFG => govCfgWrite v s
  | .STOVE_GROUP_CFG => groupCfgEffect i old (regSet r i v s)
  | .TBL_EVICT_SEED => modTbl (fun t => { t with evictX := if v = 0 then 1 else v.toNat }) (regSet r i v s)
  | .TBL_ECMP_CFG => ecmpCfgWrite v s
  | .TBL_AUDIT_BASE_LO => takeHeldHigh .TBL_AUDIT_BASE_LO .TBL_AUDIT_BASE_HI i v s
  | .TBL_AUDIT_BASE_HI => holdHigh r i value mask s
  | .TBL_ROUTE_REGION => writeRegion false i v s
  | .TBL_ROUTE_REGION6 => writeRegion true i v s
  | .TCAM_COURSE => tcamRegWrite r i ((BitVec.ofNat 32 (tcamRegRead s r i) &&& ~~~mask ||| (value &&& mask)) &&& r.info.rw) s
  | .TCAM_PROF_CFG => tcamRegWrite r i ((BitVec.ofNat 32 (tcamRegRead s r i) &&& ~~~mask ||| (value &&& mask)) &&& r.info.rw) s
  | .TCAM_PROF_SEL => tcamRegWrite r i ((BitVec.ofNat 32 (tcamRegRead s r i) &&& ~~~mask ||| (value &&& mask)) &&& r.info.rw) s
  | .BUF_POOL_CFG => poolWrite r i v s
  | .BUF_OWNER_CFG => poolWrite r i v s
  | .BUF_OWNER_HDRM => if i < 16384 then poolWrite r i v s else s
  | .BUF_BANK_CFG =>
    if s.buf.queues.any fun e => decide (0 < e.2.banked) then raiseEv 0x160B 0 (w4 (r.addr i)) s else regSet r i v s
  | .EGR_POLICY => policyWrite i v s
  | .EGR_MIR_CFG => mirCfgWrite i v s
  | .EGR_PORT_SHAPE => fillShaper i (regSet r i v s)
  | .EGR_PORT_SBURST => fillShaper i (regSet r i v s)
  | .EGR_QUEUE_SCHED => fillMax i (fillMin i (regSet r i v s))
  | .EGR_QUEUE_MIN => fillMin i (regSet r i v s)
  | .EGR_QUEUE_MAX => fillMax i (regSet r i v s)
  | .TIME_TSF_CTRL => whenB (wroteOne value mask 0) tsfPop s
  | _ => if r.info.rw = 0 then s else regSet r i v s

/-- A masked write of the word at a BAR0 offset of an agreed block or GLOBAL takes effect. -/
def applyReg (a : Nat) (value mask : Word) (s : State) : State :=
  match Reg.find a with
  | none => s
  | some (r, i) => applyField r i value mask s

/-- W1C fields: a written 1 clears the bit (R11). -/
def clearW1c (a : Nat) (value : Word) (s : State) : State :=
  match Reg.find a with
  | none => s
  | some (r, i) => if r.info.w1c = 0 then s else regSet r i (regVal s r i &&& ~~~(value &&& r.info.w1c)) s

/-- The register at an offset holds an RW or WO field (R464). -/
def holdsWritable (a : Nat) : Bool :=
  match Reg.find a with
  | none => false
  | some (r, _) => decide (r.info.rw ≠ 0 ∨ r.info.wo ≠ 0)

end Sys2Proof.Machine
end

