-- ==== Sys2Proof/Machine/HostWrites.lean ====
section
/-! DEFINITION. Host writes (R34, R418, R464, R470, R474, R475, R567): reading a command entry, judging it on acceptance,
telling the partner, and carrying it out at its effect tick. -/

namespace Sys2Proof.Machine

/-! ### Command entries (Tables HOST-5 and HOST-8) -/

/-- Opcodes of Table HOST-8. -/
def opVersionQuery : Nat := 0x01
def opProgramLoad : Nat := 0x10
def opProgramActivate : Nat := 0x11
def opTableWrite : Nat := 0x20
def opTableRead : Nat := 0x21
def opTableAudit : Nat := 0x22
def opPortSet : Nat := 0x30
def opQueueSet : Nat := 0x31
def opRegWrite : Nat := 0x32
def opTwinCmd : Nat := 0x40
def opTimeStep : Nat := 0x50
def opTimeRate : Nat := 0x51
def opTimeUnlock : Nat := 0x52
def opImageWrite : Nat := 0x60
def opImageSelect : Nat := 0x61
def opBistRun : Nat := 0x70
def opHealthRead : Nat := 0x71

/-- A command entry of 64 bytes; the reserved word carries `acc` (notes/assumptions/32.md). -/
def mbxEntry (h : MbxHdr) (op acc : Nat) (args : List Byte) : List Byte :=
  leBytes 2 op ++ [h.version, h.flags] ++ leBytes 4 h.cookie.toNat ++ leBytes 8 h.tick.toNat
    ++ leBytes 8 h.bufAddr.toNat ++ leBytes 4 h.bufLen.toNat ++ leBytes 4 acc ++ slice args 0 32

/-- The length of a TABLE_WRITE record (R475); 0 for a table code that does not exist. -/
def recordLen (code : Nat) : Nat :=
  match code with
  | 0 => 16
  | 1 => 24
  | 6 => 40
  | 7 => 48
  | 8 => 192
  | 9 => 8
  | 12 => 32
  | 13 => 64
  | 14 => 24
  | 15 => 24
  | n => if n < 12 then 16 else 0

/-- The words of a record: 8 bytes each, the half of an ember record in one piece (R475). -/
def recordWords (code : Nat) (rec : List Byte) : List Nat :=
  if code = 6 ∨ code = 7 then [leAt rec 0 8, leAt rec 8 8, leVal (rec.drop 16)]
  else (List.range (rec.length / 8)).map fun k => leAt rec (8 * k) 8

/-- A 64-bit word as a signed number. -/
def signed64 (n : Nat) : Int := if n < 2 ^ 63 then n else (n : Int) - 2 ^ 64

/-- The host write that an opcode, its ARGS and its input buffer name, or the status that refuses it (R474, R475). -/
def parseAct (op : Nat) (args buf : List Byte) : Except Nat WriteAct :=
  if op = opTableWrite then
    let code := leAt args 0 2
    let n := leAt args 2 2
    if n = 0 ∨ n ≠ recordLen code ∨ (24 < n ∧ buf.length < n) then .error stBadArgs
    else .ok (.table code (recordWords code (if n ≤ 24 then slice args 8 n else buf.take n)))
  else if op = opProgramActivate then .ok (.activate (leAt args 0 2))
  else if op = opPortSet then
    let c := leAt args 6 1
    if 2048 ≤ leAt args 0 2 ∨ 1 < leAt args 2 1 ∨ 10 < leAt args 3 1 ∨ 512 ≤ leAt args 4 2 ∨ (7 < c ∧ c ≠ 0xFF) then
      .error stBadArgs
    else .ok (.portSet (leAt args 0 2) (tb (leAt args 2 1) 0) (leAt args 3 1) (leAt args 4 2) c)
  else if op = opQueueSet then
    if 2048 ≤ leAt args 0 2 ∨ 8 ≤ leAt args 2 1 ∨ 32 ≤ leAt args 3 1 then .error stBadArgs
    else .ok (.queueSet (leAt args 0 2) (leAt args 2 1) (leAt args 3 1)
      ((List.range 5).map fun k => leAt args (4 + 4 * k) 4))
  else if op = opRegWrite then .ok (.reg (leAt args 0 4) (leAt args 4 4) (leAt args 8 4))
  else if op = opTimeStep then
    if leAt args 0 1 = 0 then .ok (.time (.stepSet (todOf (leAt args 8 6) (leAt args 14 4) (leAt args 18 2))))
    else if leAt args 0 1 = 1 then .ok (.time (.stepAdjust (signed64 (leAt args 8 8))))
    else .error stBadArgs
  else if op = opTimeRate then .ok (.time (.rate (leAt args 8 6)))
  else if op = opTimeUnlock then .ok (.time .unlock)
  else .error stBadOpcode

/-! ### Acceptance -/

/-- REG_WRITE may name the register: one of an agreed block or of GLOBAL (notes/assumptions/33.md). -/
def regWritable (a : Nat) : Bool := (agreedBlock a || blockOf a = 0) && a % 4 = 0 && (Reg.find a).isSome

/-- Index ranges of the fixed counter classes (Table EGR-5). -/
def classIndexOk (c i : Nat) : Bool :=
  match c with
  | 0 => decide (i < 16472)
  | 1 => decide (i < 16472)
  | 2 => decide (1 ≤ i ∧ i < 256)
  | 3 => decide (i < 65536)
  | 4 => decide (i < 65536)
  | 5 => decide (i < 65536)
  | 6 => decide (i < 2048)
  | 7 => decide (i < 262144)
  | 8 => decide (i < 262144)
  | 9 => decide (i < 262144)
  | 10 => decide (i < 16)
  | 11 => decide (i < 321)
  | 12 => decide (i < 321)
  | 13 => decide (i < 2048)
  | 14 => decide (i < 833)
  | 15 => decide (i < 25)
  | _ => false

/-- A meter record is well formed (Table EGR-1, R567). -/
def meterOk (ws : List Nat) : Bool :=
  let d0 := ws.getD 1 0
  let d1 := ws.getD 2 0
  decide (ws.getD 0 0 < 262144 ∧ fld d0 62 29 = 0 ∧ fld d1 63 28 = 0 ∧ fld (ws.getD 3 0) 63 48 = 0)
    && (tb d0 28 || decide (fld d1 27 0 = 0))

/-- A MIRROR_ENCAP record is well formed (Table EGR-3, R567). -/
def encapOk (ws : List Nat) : Bool :=
  decide (ws.getD 0 0 < 16 ∧ fld (ws.getD 1 0) 63 48 = 0 ∧ fld (ws.getD 2 0) 63 48 = 0 ∧ fld (ws.getD 3 0) 31 30 = 0
    ∧ fld (ws.getD 3 0) 63 48 = 0)

/-- The counter pair that a record's KEY0 names (R391, R567). -/
def counterKey (code k0 : Nat) : Option Nat :=
  if code = 14 then (if k0 < 4194304 then some k0 else none)
  else if fld k0 55 32 = 0 ∧ classIndexOk (fld k0 63 56) (fld k0 31 0) then some (fixedKey (fld k0 63 56) (fld k0 31 0))
  else none

/-- A host write waits among the writes. -/
def addWrite (w : HostWrite) (s : State) : State :=
  let same := s.writes.filter fun x => decide (x.side = w.side ∧ x.direct = w.direct ∧ x.seq = w.seq)
  let g := same.foldl (fun a x => Nat.max a (x.gen + 1)) w.gen
  { s with writes := sortBy (fun a b => decide (hostOrd a ≤ hostOrd b)) (s.writes ++ [{ w with gen := g }]) }

/-- The order that `addWrite` gives a write. -/
def ordOf (w : HostWrite) (s : State) : Nat :=
  let same := s.writes.filter fun x => decide (x.side = w.side ∧ x.direct = w.direct ∧ x.seq = w.seq)
  hostOrd { w with gen := same.foldl (fun a x => Nat.max a (x.gen + 1)) w.gen }

/-- RESULT of a TABLE_WRITE that touched no entry. -/
def noIndex : List Byte := leBytes 4 0xFFFFFFFF

/-- Judge a table write on acceptance and let it reach its entry (R266 to R270, R297, R567): its status. -/
def acceptTable (w : HostWrite) (code : Nat) (ws : List Nat) (s : State) : Nat × State :=
  let k0 := ws.getD 0 0
  let ord := ordOf w s
  let s1 := addWrite w s
  if code ≤ 5 ∨ code = 10 ∨ code = 11 then
    match checkRecord s code ws with
    | .error st => (st, s)
    | .ok (k, d) => if (reachWrite k d w.eff ord s1).1 then (stOk, (reachWrite k d w.eff ord s1).2)
                    else (stQueueFull, (reachWrite k d w.eff ord s).2)
  else if code = 6 then (if k0 < 1048576 then (stOk, s1) else (stBadEntry, s))
  else if code = 7 then
    if 1048576 ≤ k0 then (stBadEntry, s)
    else if hostPublishOk s k0 w.eff then
      (stOk, hostPublish k0 w.eff (leBytes 32 (ws.getD 2 0)) w.cmd (addWrite { w with cmd := none } s))
    else (stTooSoon, s)
  else if code = 8 then (if tcamRecordOk ws then (stOk, s1) else (stBadEntry, s))
  else if code = 9 then
    if fld k0 1 0 = 3 ∨ fld k0 15 2 ≠ 0 ∨ fld k0 63 32 ≠ 0 then (stBadEntry, s) else (stOk, s1)
  else if code = 12 then
    if meterOk ws then (stOk, meterReach k0 w.eff ord (ws.getD 1 0) (ws.getD 2 0) (ws.getD 3 0) s1)
    else (stBadEntry, raiseEv 0x1706 0 (w2 0 ++ w2 12) s)
  else if code = 13 then
    if encapOk ws then (stOk, s1) else (stBadEntry, raiseEv 0x1706 0 (w2 0 ++ w2 13) s)
  else match counterKey code k0 with
    | some _ => (stOk, s1)
    | none => (stBadEntry, s)

/-- R192, R193: the reason that refuses an activation; 0 when it stands. `partner` is the hash of the partner's pending image, empty when
it has none: the twins of a pair that do not both hold the same one refuse with HASH_MISMATCH. -/
def activateReason (s : State) (id : Nat) (partner : List Byte) : Nat :=
  if (activationSet s).isSome then ldBusy
  else if inPair s ∧ partner ≠ (s.prog.pendingImg.map (·.hash)).getD [] then ldHashMismatch
  else match s.prog.pendingImg with
    | none => ldNoPending
    | some img => if img.id = id then 0 else ldNoPending

/-- Judge a host write on acceptance: its status, its RESULT when refused, and the state with the write waiting. -/
def acceptWrite (w : HostWrite) (partner : List Byte) (s : State) : Nat × List Byte × State :=
  match w.act with
  | .table code ws => let r := acceptTable w code ws s; (r.1, noIndex, r.2)
  | .reg a _ _ => if w.direct || regWritable a then (stOk, [], addWrite w s) else (stBadArgs, [], s)
  | .activate id =>
    let r := activateReason s id partner
    if r = 0 then
      (stOk, [], raiseEv 0x1382 0 (w2 id ++ w4 w.eff) (modProg (fun p => { p with actAt := some (w.eff, id) }) (addWrite w s)))
    else (stRefused, leBytes 1 r, raiseEv 0x1384 0 (w2 r) s)
  | .portSet _ _ _ _ _ => (stOk, [], addWrite w s)
  | .queueSet _ _ _ _ => (stOk, [], addWrite w s)
  | .time _ => (stOk, [], addWrite w s)

/-! ### Effects -/

/-- The port map with one port placed as PORT_SET names it (R474). -/
def placePort (p : Nat) (enable : Bool) (rate lane chan : Nat) (s : State) : State :=
  let s1 := match hearthAt s p with
    | some (l, c) =>
      if l = lane ∧ c = chan then s
      else
        let i := 4 * l + c / 2
        chanMapWrite i (setFld (regVal s .LANE_CHMAP i) (16 * (c % 2) + 15) (16 * (c % 2) + 15) 0) s
    | none => s
  let s2 := forEach (s1.lanes.filter fun e => decide (e.2.port = some p ∧ (e.1 ≠ lane ∨ chan ≠ 0xFF)))
    (fun e => modLane e.1 fun x => { x with port := none }) s1
  if chan = 0xFF then linkJudgeLane lane (modLane lane (fun x => { x with port := some p }) s2)
  else
    let i := 4 * lane + chan / 2
    chanMapWrite i (setFld (regVal s2 .LANE_CHMAP i) (16 * (chan % 2) + 15) (16 * (chan % 2))
      (p + rate * 2 ^ 11 + b2n enable * 2 ^ 15)) s2

/-- The port is mapped as PORT_SET names it. -/
def mappedSo (s : State) (p rate lane chan : Nat) : Bool :=
  match hearthAt s p with
  | some (l, c) => decide (l = lane ∧ c = chan ∧ (chanOf s l c).2.1 = rate)
  | none => match plainAt s p with
    | some l => decide (l = lane ∧ chan = 0xFF ∧ plainRate (laneMode s l) = codeRate rate)
    | none => false

/-- Another enabled port has the lane group or the channel. -/
def placeTaken (s : State) (p lane chan : Nat) : Bool :=
  if chan = 0xFF then
    match (laneOf s lane).port with
    | some q => decide (q ≠ p) && regBit s .MAC_PORT_CFG q 16
    | none => false
  else
    let x := chanOf s lane chan
    x.2.2 && decide (x.1 ≠ p) && regBit s .MAC_PORT_CFG x.1 16

/-- The places that the port map gives a port: valid channels of Hearth lanes, and plain lane groups (R43). -/
def placesOf (s : State) (p : Nat) : Nat :=
  (regInstances s .LANE_CHMAP).foldl (fun a i => a + ([2 * (i % 4), 2 * (i % 4) + 1].filter fun c =>
      let x := chanOf s (i / 4) c
      isHearth (laneMode s (i / 4)) && x.2.2 && decide (x.1 = p)).length) 0
    + (s.lanes.filter fun e => decide (e.2.port = some p) && decide (0 < plainRate (laneMode s e.1))).length

/-- R474, R43 to R45: the PORT_SET is in order at its effect tick; it leaves the port at one place at most (R43). -/
def portSetOk (p : Nat) (enable : Bool) (rate lane chan : Nat) (s : State) : Bool :=
  let m := laneMode s lane
  let group := (List.range (groupLanes m)).map fun i => (lane + i) / 64
  (!regBit s .MAC_PORT_CFG p 16 || mappedSo s p rate lane chan)
    && !placeTaken s p lane chan
    && (!enable || group.all fun b => !bankFailed s b)
    && decide (placesOf (placePort p enable rate lane chan s) p ≤ 1)
    && (if chan = 0xFF then decide (plainRate m = codeRate rate ∧ 0 < plainRate m)
        else isHearth m && chanMapOk (placePort p true rate lane chan s) lane)

/-- PORT_SET at its effect tick: its status. -/
def portSetApply (p : Nat) (enable : Bool) (rate lane chan : Nat) (s : State) : Nat × State :=
  if portSetOk p enable rate lane chan s then
    (stOk, applyField .MAC_PORT_CFG p (BitVec.ofNat 32 (b2n enable * 2 ^ 16)) 0x10000 (placePort p enable rate lane chan s))
  else (stConfig, s)

/-- The registers that QUEUE_SET writes, in the order of its mask bits (R474). -/
def queueRegs : List Reg := [.BUF_QUEUE_CFG, .BUF_QUEUE_BANK, .EGR_QUEUE_SCHED, .EGR_QUEUE_MIN, .EGR_QUEUE_MAX]

/-- QUEUE_SET at its effect tick. -/
def queueSetApply (q mask : Nat) (values : List Nat) (s : State) : State :=
  forEach (queueRegs.zipIdx.filter fun x => tb mask x.2)
    (fun x => applyField x.1 q (BitVec.ofNat 32 (values.getD x.2 0)) 0xFFFFFFFF) s

/-- A TCAM_TXN write at its effect tick: a COMMIT is judged at the tick that a device-assigned write would take, and done at
its E (R319, R320, R324, R325; notes/assumptions/32.md). `ws` holds DATA, and for a COMMIT its E and whether it stands. -/
def txnWrite (w : HostWrite) (ws : List Nat) (s : State) : State :=
  let d := ws.getD 0 0
  let id := fld d 31 16
  match fld d 1 0 with
  | 0 => let r := txnOpen id s; endWrite w r.1 0xFFFFFFFF w.eff noIndex r.2
  | 2 => let r := txnAbort id s; endWrite w r.1 0xFFFFFFFF w.eff noIndex r.2
  | _ =>
    let e := ws.getD 1 w.eff
    if ws.getD 2 0 = 1 then endWrite w stOk 0xFFFFFFFF e noIndex s
    else
      let r := txnCommit id e s
      if r.1 ≠ stOk then endWrite w r.1 0xFFFFFFFF 0 noIndex r.2
      else if e ≤ s.clk.tick then endWrite w stOk 0xFFFFFFFF e noIndex r.2
      else
        let s1 := r.2
        { s1 with writes := s1.writes.map fun x =>
            if hostOrd x = hostOrd w then { x with eff := e, act := .table 9 [d, e, 1] } else x }

/-- A table write without versions of its own at its effect tick. -/
def tableAtE (w : HostWrite) (code : Nat) (ws : List Nat) (s : State) : State :=
  let k0 := ws.getD 0 0
  let key := ws.getD 1 0
  if code = 6 then
    placeLaneOp { lane := emberLaneOf key, ticket := 0, record := k0, write := some (true, leBytes 24 (ws.getD 2 0)), cmd := w.cmd,
                  homeKey := key, tick := if isSafe s then 0 else w.eff }
      (endWrite { w with cmd := none } stOk k0 w.eff [] s)
  else if code = 7 then
    placeLaneOp { lane := emberLaneOf key, ticket := 0, record := k0, write := some (false, leBytes 32 (ws.getD 2 0)), cmd := none,
                  homeKey := key, tick := w.eff }
      (endWrite { w with cmd := none } stOk k0 w.eff [] s)
  else if code = 8 then
    let r := tcamEntryOp ws s
    let i := if r.1 = stOk then fld k0 16 0 else 0xFFFFFFFF
    endWrite w r.1 i w.eff (leBytes 4 i) r.2
  else if code = 9 then txnWrite w ws s
  else if code = 13 then
    endWrite w stOk k0 w.eff (leBytes 4 k0) (modSession k0 (fun x => { x with encap := ws.drop 1 }) s)
  else
    let i := fld k0 31 0
    endWrite w stOk i w.eff (leBytes 4 i) (match counterKey code k0 with
      | some c => pairSet c key (ws.getD 2 0) s
      | none => s)

/-- Carry out a host write at its effect tick. -/
def applyWrite (w : HostWrite) (s : State) : State :=
  match w.act with
  | .table code ws => tableAtE w code ws s
  | .reg a v m =>
    let s1 := applyReg a (BitVec.ofNat 32 v) (BitVec.ofNat 32 m) s
    endWrite w stOk a w.eff (leBytes 4 (barWord s1 a).toNat) s1
  | .activate id => endWrite w stOk id w.eff [] s
  | .portSet p en r l c =>
    let x := portSetApply p en r l c s
    endWrite w x.1 (Reg.MAC_PORT_CFG.addr p) w.eff [] x.2
  | .queueSet p u m vs =>
    let q := 8 * p + u
    let first := (List.find? (fun x : Reg × Nat => tb m x.2) queueRegs.zipIdx).map fun x => x.1.addr q
    endWrite w stOk (first.getD 0) w.eff [] (queueSetApply q m vs s)
  | .time a => let x := timeApply a s; endWrite w x.1 0 w.eff [] x.2

/-- The write's effect is not carried out by a table of its own (R265, R383). -/
def actsAtE (w : HostWrite) : Bool :=
  match w.act with
  | .table code _ => !(decide (code ≤ 5) || code = 10 || code = 11 || code = 12)
  | _ => true

/-- HOST_WRITE_APPLY (R28, R34): carry out the host writes whose effect tick has come, in mailbox order. -/
def applyWrites (s : State) : State :=
  forEach (s.writes.filter fun w => actsAtE w && decide (w.eff ≤ s.clk.tick)) applyWrite s

/-- R473: what a host write accepted in the safe hearth state does at once. -/
def safeApply (s : State) : State :=
  if isSafe s then publishesDue (meterWritesDue (effectsDue (applyWrites s))) else s

/-! ### The partner (R418) -/

/-- The body of a HOST_WRITE message: side, mailbox sequence, the entry and its input buffer, and for an activation the hash of
this twin's pending image (notes/assumptions/31.md). -/
def hostWriteBody (s : State) (seq : Nat) (entry buf : List Byte) : List Byte :=
  let h := if leVal (slice entry 0 2) = opProgramActivate then (s.prog.pendingImg.map (·.hash)).getD [] else []
  [BitVec.ofNat 8 (b2n s.twin.side), 0, 0, 0] ++ leBytes 4 seq ++ entry ++ buf ++ h

/-- Send a HOST_WRITE with effect tick `e`. -/
def tellWrite (e seq : Nat) (entry buf : List Byte) (s : State) : State :=
  whenB (inPair s || s.twin.source) (flueSend 0x20 0 e (hostWriteBody s seq entry buf)) s

/-- The host write that a HOST_WRITE's entry names, with the hash that follows it. -/
def entryAct (entry : List Byte) : Except Nat WriteAct × List Byte :=
  let op := leAt entry 0 2
  let rest := entry.drop 64
  (parseAct op (slice entry 32 32) rest, if op = opProgramActivate then rest else [])

/-- For a COMMIT: the tick at which it is judged, and its words with E (notes/assumptions/32.md). -/
def commitWrite (acc : Nat) (w : HostWrite) : HostWrite :=
  match w.act with
  | .table 9 ws => if fld (ws.getD 0 0) 1 0 = 1 then { w with eff := acc, act := .table 9 [ws.getD 0 0, w.eff] } else w
  | _ => w

/-- A partner's HOST_WRITE (R418, R427): held for its effect tick; late, it is not applied, and the twin reports a fault. A
joiner that is SYNCING applies it on arrival instead. -/
def partnerWrite (e : Nat) (side : Bool) (seq : Nat) (entry : List Byte) (s : State) : State :=
  let late := decide (e ≤ s.clk.tick)
  if late && s.twin.st ≠ .syncing then selfFault 0x08 0 (raiseEv 0x180F 0 (w2 (b2n side) ++ w4 seq ++ w4 e) s)
  else
    match (entryAct entry).1 with
    | .error _ => s
    | .ok act =>
      let acc := fullTick s (leAt entry 28 4)
      let w := commitWrite acc { eff := e, side := side, seq := seq, act := act }
      let s1 := (acceptWrite w (entryAct entry).2 s).2.2
      if late then publishesDue (meterWritesDue (effectsDue (applyWrites s1))) else s1

/-! ### Direct writes (R464) -/

/-- A direct BAR0 write of an agreed register with RW or WO fields: a host write for the next tick in solo operation,
ignored in a pair. W1C fields change at once. -/
def directWrite (a : Nat) (v : Word) (s : State) : State :=
  let s1 := clearW1c a v s
  if !hostReaches s then s
  else if !holdsWritable a then s1
  else if inPair s then raiseEv 0x1A03 0 (w4 a) (hostErr 1 s1)
  else
    let e := if isSafe s then s.clk.tick else s.clk.tick + 1
    let w : HostWrite := { eff := e, side := s.twin.side, seq := s.host.nextDirect, direct := true,
                           act := .reg a v.toNat 0xFFFFFFFF }
    safeApply (addWrite w (modHost (fun h => { h with nextDirect := (h.nextDirect + 1) % 2 ^ 32 }) s1))

/-! ### Commands -/

/-- HOST_WRITE (R418). -/
def execHostWrite (effTick : Nat) (side : Bool) (seq : Nat) (entry : List Byte) (s : State) : Host.Outcome State Fault Refusal :=
  .next (partnerWrite (fullTick s effTick) side seq entry (hearNow s))

/-- HOST_WRITE_APPLY (R34). -/
def execHostWriteApply (s : State) : Host.Outcome State Fault Refusal := .next (applyWrites s)

/-- STORM_CLEAR (R105): a MAC_PORT_CTRL write. -/
def execStormClear (port : Fin 2048) (s : State) : Host.Outcome State Fault Refusal :=
  .next (directWrite (Reg.MAC_PORT_CTRL.addr port.val) 1 s)

/-- FLAP_CLEAR (R119): a MAC_PORT_CTRL write. -/
def execFlapClear (port : Fin 2048) (s : State) : Host.Outcome State Fault Refusal :=
  .next (directWrite (Reg.MAC_PORT_CTRL.addr port.val) 2 s)

/-- CT_RESET (R120): a MAC_PORT_CTRL write. -/
def execCtReset (port : Fin 2048) (s : State) : Host.Outcome State Fault Refusal :=
  .next (directWrite (Reg.MAC_PORT_CTRL.addr port.val) 4 s)

/-- MAC_TX_CT_WRITE (R120). -/
def execMacTxCtWrite (port : Fin 2048) (value : Word) (s : State) : Host.Outcome State Fault Refusal :=
  .next (directWrite (Reg.MAC_TX_CT.addr port.val) value s)

/-- LANE_MODE_WRITE (R42). -/
def execLaneModeWrite (lane : Fin 512) (value : Word) (s : State) : Host.Outcome State Fault Refusal :=
  .next (directWrite (Reg.LANE_MODE.addr lane.val) value s)

/-- RETRAIN (R71): a LANE_CTRL write. -/
def execRetrain (lane : Fin 512) (s : State) : Host.Outcome State Fault Refusal :=
  .next (directWrite (Reg.LANE_CTRL.addr lane.val) 1 s)

/-- FREQ_WRITE (R261): a STOVE_GROUP_CFG write. -/
def execFreqWrite (group : Fin 17) (value : Word) (s : State) : Host.Outcome State Fault Refusal :=
  .next (directWrite (Reg.STOVE_GROUP_CFG.addr group.val) value s)

/-- PARK (R262): a STOVE_GROUP_CFG write. -/
def execPark (group : Fin 17) (value : Word) (s : State) : Host.Outcome State Fault Refusal :=
  .next (directWrite (Reg.STOVE_GROUP_CFG.addr group.val) value s)

/-- UNPARK (R262): a STOVE_GROUP_CFG write. -/
def execUnpark (group : Fin 17) (value : Word) (s : State) : Host.Outcome State Fault Refusal :=
  .next (directWrite (Reg.STOVE_GROUP_CFG.addr group.val) value s)

/-- TBL_EVICT_SEED_WRITE (R283). -/
def execTblEvictSeedWrite (value : Word) (s : State) : Host.Outcome State Fault Refusal :=
  .next (directWrite (Reg.TBL_EVICT_SEED.addr 0) value s)

/-- ROUTE_REGION_WRITE (R285): lengths 0 to 32 of IPv4, 0 to 128 of IPv6. -/
def execRouteRegionWrite (v6 : Bool) (len : Fin 129) (value : Word) (s : State) : Host.Outcome State Fault Refusal :=
  .next (if v6 then directWrite (Reg.TBL_ROUTE_REGION6.addr len.val) value s
         else if len.val ≤ 32 then directWrite (Reg.TBL_ROUTE_REGION.addr len.val) value s else s)

/-- TCAM_COURSE_WRITE (R320): a course or profile register of the TCAM block. -/
def execTcamCourseWrite (off : Fin 1048576) (value : Word) (s : State) : Host.Outcome State Fault Refusal :=
  .next (directWrite (0x600000 + off.val / 4 * 4) value s)

/-- TRIG_ARM (R451): a TIME_TRIG_CFG write. -/
def execTrigArm (trig : Fin 8) (value : Word) (s : State) : Host.Outcome State Fault Refusal :=
  .next (directWrite (Reg.TIME_TRIG_CFG.addr trig.val) value s)

/-- POP (R458): a TIME_TSF_CTRL write. -/
def execPop (s : State) : Host.Outcome State Fault Refusal := .next (directWrite (Reg.TIME_TSF_CTRL.addr 0) 1 s)

end Sys2Proof.Machine
end

