-- ==== Sys2Proof/Machine/Mailbox.lean ====
section
/-! DEFINITION. The mailbox (R468 to R476): taking a command, version agreement, effect ticks, TABLE_READ, and the commands that
need no other block than the host interface. -/

namespace Sys2Proof.Machine

/-! ### Taking a command (R469, R472, R473) -/

/-- The device takes the next command of MBX_CMD (R469): start-up step 10 has been reached or the safe hearth state (Table
BOOT-7, R513), the ring holds an entry, fewer than 255 commands are outstanding and MBX_CPL is not full. -/
def mbxOpen (s : State) : Bool :=
  !s.boot.inReset && (decide (10 ≤ s.boot.step) || isSafe s) && ringEnabled s 0 && decide (ringUsed s 0 ≠ 0)
    && decide (s.host.outstanding.length < 255) && !ringFull s 1

/-- Why a command is refused before its arguments are judged (R472, R474, Table HOST-5). -/
def mbxRefusal (h : MbxHdr) (op : Nat) (s : State) : Option Nat :=
  let bad := decide (4 ≤ h.flags.toNat ∨ 2 ^ 20 < h.bufLen.toNat)
  if op = opVersionQuery then (if bad then some stBadArgs else none)
  else if s.host.version = 0 then some stBadVersion
  else if (op = opTableAudit ∨ op = opHealthRead) ∧ s.host.version < 3 then some stBadOpcode
  else if h.version.toNat ≠ s.host.version then some stBadVersion
  else if bad then some stBadArgs
  else none

/-- RESULT of a refused command: a TABLE_WRITE names no index (Table HOST-8). -/
def refusedResult (op : Nat) : List Byte := if op = opTableWrite then noIndex else []

/-- Take a command: it gets the next mailbox sequence and is outstanding; `k` carries it out. -/
def mbxTake (h : MbxHdr) (op : Nat) (k : MbxCmd → State → State) (s : State) : State :=
  if !mbxOpen s then s
  else
    let c : MbxCmd := { seq := s.host.nextSeq, cookie := h.cookie.toNat, opcode := op }
    let s1 := modRing 0 (fun r => { r with cons := (r.cons + 1) % 65536 })
      (modHost (fun x => { x with nextSeq := (x.nextSeq + 1) % 2 ^ 32, outstanding := x.outstanding ++ [c] }) s)
    match mbxRefusal h op s with
    | some st => complete c st 0 (refusedResult op) s1
    | none => k c s1

/-- The command brings `n` bytes of input buffer (Table HOST-5). -/
def bufInOk (h : MbxHdr) (n : Nat) : Bool := h.flags.getLsbD 0 && decide (n ≤ h.bufLen.toNat)

/-- The bytes that the output buffer takes (Table HOST-5). -/
def bufOut (h : MbxHdr) : Nat := if h.flags.getLsbD 1 then h.bufLen.toNat else 0

/-! ### Host writes (R470, R473) -/

/-- The effect tick of a host write, or the status that refuses it (R269, R418, R470, R473). -/
def writeTick (h : MbxHdr) (s : State) : Except Nat Nat :=
  let n := h.tick.toNat
  let a := assignTick s
  if isSafe s then .ok s.clk.tick
  else if n = 0 then .ok a
  else if n < a then .error stTooSoon
  else if s.clk.tick + 2 ^ 30 ≤ n then .error stTooFar
  else .ok n

/-- R473: the safe hearth state refuses the host write. -/
def safeRefuses (s : State) (op : Nat) : Bool :=
  isSafe s && (op = opProgramActivate || op = opTimeStep || op = opTimeRate || op = opTimeUnlock)

/-- A host write command: judged, told to the partner, applied at its effect tick; a refusal at acceptance carries TICK 0. An activation
refused with HASH_MISMATCH is told to the partner too, which refuses it for the same reason (R193). -/
def hostWriteCmd (h : MbxHdr) (op : Nat) (args buf partner : List Byte) (s : State) : State :=
  mbxTake h op (fun c s =>
    match parseAct op args buf with
    | .error st => complete c st 0 (refusedResult op) s
    | .ok act =>
      if !buf.isEmpty && !bufInOk h buf.length then complete c stBadArgs 0 (refusedResult op) s
      else if safeRefuses s op then complete c stNotAllowed 0 [] s
      else match writeTick h s with
        | .error st => complete c st 0 (refusedResult op) s
        | .ok e =>
          let w := commitWrite (assignTick s) { eff := e, side := s.twin.side, seq := c.seq, cmd := some c, act := act }
          let acc := if w.eff = e then 0 else w.eff
          let r := acceptWrite w partner s
          if r.1 ≠ stOk then
            let told := if r.2.1 = leBytes 1 ldHashMismatch then tellWrite e c.seq (mbxEntry h op acc args) buf r.2.2 else r.2.2
            complete c r.1 0 r.2.1 told
          else safeApply (tellWrite e c.seq (mbxEntry h op acc args) buf r.2.2)) s

/-- ARGS and input buffer of a TABLE_WRITE or TABLE_READ (Table HOST-8). -/
def tableArgs (code : Nat) (rec : List Byte) : List Byte :=
  leBytes 2 code ++ leBytes 2 rec.length ++ List.replicate 4 0 ++ (if rec.length ≤ 24 then rec else [])
def tableBuf (rec : List Byte) : List Byte := if rec.length ≤ 24 then [] else rec

/-- TABLE_WRITE of a record. -/
def tableWriteCmd (h : MbxHdr) (code : Nat) (rec : List Byte) (s : State) : State :=
  hostWriteCmd h opTableWrite (tableArgs code rec) (tableBuf rec) [] s

/-! ### TABLE_READ (R295, R471, R475, R476) -/

/-- The length of the key words of a record (R475); 0 where no record can be read. -/
def keyLen (code : Nat) : Nat :=
  match code with
  | 1 => 24
  | 6 => 16
  | 7 => 16
  | 9 => 0
  | n => if n < 16 then 8 else 0

/-- The number of records of a table that is read by index. -/
def readRange (code : Nat) : Nat :=
  match code with
  | 6 => 1048576
  | 7 => 1048576
  | 8 => 122880
  | 12 => 262144
  | 13 => 16
  | n => tableSize n

/-- The key words of a read are in order. -/
def readKeyOk (code : Nat) (ws : List Nat) : Bool :=
  let k0 := ws.getD 0 0
  if code = 0 then fld k0 63 60 = 0
  else if code = 1 then
    let d := ws.getD 2 0
    let len := fld d 55 48
    decide (d = fld d 55 48 * 2 ^ 48 + fld d 60 60 * 2 ^ 60 ∧ len ≤ if tb d 60 then 128 else 32)
      && (tb d 60 || decide (ws.getD 1 0 = 0 ∧ k0 < 2 ^ 32))
  else if code = 14 ∨ code = 15 then (counterKey code k0).isSome
  else decide (k0 < readRange code)

/-- The bytes that a read writes (R476). -/
def readLen (code : Nat) : Nat := 16 + 2 * recordLen code + (if code = 0 then 16 else if code = 12 then 24 else 0)

/-- Bytes 0 to 15 of a read: effect tick, change state, flags, firebrick, physical index (R476). -/
def readHead (eff st flags brick idx : Nat) : List Byte :=
  leBytes 8 eff ++ leBytes 1 st ++ leBytes 1 flags ++ leBytes 2 brick ++ leBytes 4 idx

/-- Words as bytes. -/
def wordBytes (ws : List Nat) : List Byte := ws.flatMap (leBytes 8)

/-- The DATA word that the parts of a pending change give an entry, as far as they are known before its effect tick. -/
def pendingData (d : Nat) (ps : List Part) : Nat :=
  ps.foldl (fun x p => match p.act with
    | .write v => v
    | .ageRemove => 0
    | .lockExpire => if tb x 39 then x - 2 ^ 39 else x
    | .learn port => if tb x 63 then (if tb x 37 || tb x 38 || tb x 39 then x else x / 2 ^ 11 * 2 ^ 11 + port) else 2 ^ 63 + port
    | .mark => x) d

/-- Effect tick, change state, newer and older DATA of an entry (R266, R268, R476). -/
def readVersions (s : State) (k : EntryKey) : Nat × Nat × Nat × Nat :=
  let v := verOf s k
  match changeOf s k with
  | none => (v.eff, 0, v.new, v.old)
  | some c =>
    let st := if c.waiting || c.queued.isSome then 3 else if c.applied then 2 else 1
    if c.applied then (c.eff, st, v.new, v.old) else (c.eff, st, pendingData v.new c.parts, v.new)

/-- The effect tick and value of the published version before another one. -/
def pubBefore (e : Ember) (a : Nat) : Nat × List Byte := pubAt e (a - 1)

/-- What a read of a record other than a private half returns, as of the current tick (R476). -/
def readBytes (s : State) (code : Nat) (ws : List Nat) : List Byte :=
  let k0 := ws.getD 0 0
  let t := s.clk.tick
  let none_ := List.replicate (recordLen code) (0 : Byte)
  if code = 0 then
    let k : EntryKey := ⟨0, k0⟩
    let r := readVersions s k
    let e := FMap.get {} s.tbl.stations (physIndex s k)
    readHead r.1 r.2.1 0 0 (physIndex s k) ++ wordBytes [k0, r.2.2.1] ++ wordBytes [k0, r.2.2.2]
      ++ leBytes 2 e.hitEpoch ++ leBytes 1 e.moveCount ++ [0] ++ leBytes 4 e.moveStart ++ leBytes 4 e.lockEnd ++ leBytes 4 0
  else if code = 1 then
    let d := ws.getD 2 0
    let addr := if tb d 60 then k0 * 2 ^ 64 + ws.getD 1 0 else k0
    let k : EntryKey := ⟨1, routeKey (tb d 60) (fld d 55 48) (maskTo (tb d 60) (fld d 55 48) addr)⟩
    let r := readVersions s k
    readHead r.1 r.2.1 0 0 (physIndex s k) ++ wordBytes [k0, ws.getD 1 0, r.2.2.1] ++ wordBytes [k0, ws.getD 1 0, r.2.2.2]
  else if code = 7 then
    let e := emberOf s k0
    let p := pubAt e t
    let q := if p.1 = 0 then (0, List.replicate 32 0) else pubBefore e p.1
    let key := wordBytes [k0, ws.getD 1 0]
    match sortBy (fun a b => decide (a.1 ≤ b.1)) (e.sched.toList ++ e.hostSched.map fun h => (h.1, h.2.1)) with
    | x :: _ => readHead x.1 1 0 0 k0 ++ key ++ x.2 ++ key ++ p.2
    | [] => readHead p.1 0 0 0 k0 ++ key ++ p.2 ++ key ++ q.2
  else if code = 8 then
    let e := tcamEntry s k0
    let flags := b2n (isSuppressed s k0) + 2 * b2n e.m0 + 4 * b2n e.m1
    readHead 0 0 flags (brickAt s (k0 / 512)) k0
      ++ wordBytes [k0, e.prio + e.width * 2 ^ 16, e.action, e.arg] ++ leBytes 80 e.value ++ leBytes 80 e.mask ++ none_
  else if code = 12 then
    let m := meterOf s k0
    let now := [k0, m.cir + b2n m.mode * 2 ^ 28 + b2n m.valid * 2 ^ 63, m.pir, m.cbs + m.ebs * 2 ^ 24]
    let first := m.pendE.getD 0
    let newer := match (sortBy (fun a b => decide (a.1 ≤ b.1)) m.writes).reverse with
      | w :: _ => [k0, w.2.1, w.2.2.1, w.2.2.2]
      | [] => now
    let st := if m.pendE.isNone then 0 else if !m.queued.isEmpty then 3 else if t < first then 1 else 2
    readHead first st 0 0 k0 ++ wordBytes newer ++ wordBytes now ++ leBytes 8 (m.tc / bu) ++ leBytes 8 (m.te / bu)
      ++ leBytes 8 m.last
  else if code = 13 then
    readHead 0 0 0 0 k0 ++ wordBytes (k0 :: (List.range 7).map fun i => (sessionOf s k0).encap.getD i 0) ++ none_
  else if code = 14 ∨ code = 15 then
    let p := pairOf s ((counterKey code k0).getD 0)
    readHead 0 0 0 0 (fld k0 31 0) ++ wordBytes [k0, p.1, p.2] ++ none_
  else
    let r := readVersions s ⟨code, k0⟩
    let pub := if code = 5 then (pubAt (emberOf s k0) t).1 % 2 ^ 32 * 2 ^ 32 else 0
    readHead r.1 r.2.1 0 0 k0 ++ wordBytes [k0, r.2.2.1 + pub] ++ wordBytes [k0, r.2.2.2 + pub]

/-- Carry out a read whose tick has come; a private half is read when the ticket comes up (R295). -/
def serveRead (r : PendingRead) (s : State) : State :=
  if r.code = 6 then
    placeLaneOp { lane := emberLaneOf (r.words.getD 1 0), ticket := 0, record := r.words.getD 0 0, write := none, cmd := some r.cmd,
                  homeKey := r.words.getD 1 0, tick := r.tick, bufAddr := r.bufAddr } s
  else
    let bs := readBytes s r.code r.words
    complete r.cmd stOk r.tick (leBytes 4 bs.length) (hostPut r.bufAddr bs s)

/-- Reads whose tick has come (R471). -/
def serveReads (s : State) : State :=
  forEach (s.host.reads.filter fun r => decide (r.tick ≤ s.clk.tick)) serveRead
    (modHost (fun h => { h with reads := h.reads.filter fun r => !decide (r.tick ≤ s.clk.tick) }) s)

/-- TABLE_READ. -/
def tableReadCmd (h : MbxHdr) (code : Nat) (rec : List Byte) (s : State) : State :=
  mbxTake h opTableRead (fun c s =>
    let ws := recordWords (if code = 6 then 0 else if code = 7 then 0 else code) rec
    let t := if h.tick.toNat = 0 then s.clk.tick else h.tick.toNat
    if keyLen code = 0 ∨ rec.length ≠ keyLen code ∨ !readKeyOk code ws ∨ bufOut h < readLen code then complete c stBadArgs 0 [] s
    else if t < s.clk.tick then complete c stTooSoon 0 [] s
    else
      let r : PendingRead := { tick := t, cmd := c, code := code, words := ws, bufAddr := h.bufAddr.toNat, bufLen := bufOut h }
      if t = s.clk.tick then serveRead r s else modHost (fun x => { x with reads := x.reads ++ [r] }) s) s

/-! ### Long commands (R469) -/

/-- A long command joins the queue of long commands; `t` is the tick as of which it works. -/
def queueLong (h : MbxHdr) (c : MbxCmd) (args buf : List Byte) (shadow : List (Nat × Nat)) (t : Nat) (s : State) : State :=
  modHost (fun x => { x with longs := x.longs ++
    [{ cmd := c, args := args, bufIn := buf, bufAddr := h.bufAddr.toNat, bufLen := bufOut h, tick := t, shadow := shadow }] }) s

/-- Take a long command; one that needs an input buffer and has none is refused. -/
def longCmd (h : MbxHdr) (op : Nat) (args buf : List Byte) (needsBuf : Bool) (shadow : List (Nat × Nat)) (s : State) : State :=
  mbxTake h op (fun c s =>
    if needsBuf && !bufInOk h buf.length then complete c stBadArgs 0 [] s
    else queueLong h c args buf shadow s.clk.tick s) s

/-! ### Version agreement (R472) -/

/-- VERSION_QUERY. -/
def versionCmd (h : MbxHdr) (high low : Nat) (s : State) : State :=
  mbxTake h opVersionQuery (fun c s =>
    let v := Nat.min (high % 256) 3
    if v < Nat.max (low % 256) 2 then complete c stBadVersion 0 [] s
    else if h.flags.getLsbD 1 && decide (h.bufLen.toNat < 16) then complete c stBadArgs 0 [] s
    else
      let s1 := modHost (fun x => { x with version := v }) s
      let s2 := if h.flags.getLsbD 1 then hostPut h.bufAddr.toNat s.fuses.identity s1 else s1
      complete c stOk 0 ([v, 2, 3, 0xA1, s.twin.feature, twinCode s.twin.st, b2n (isSafe s)].map (BitVec.ofNat 8)) s2) s

/-! ### Commands -/

/-- VERSION_QUERY (R472). -/
def execVersionQuery (h : MbxHdr) (high low : Nat) (s : State) : Host.Outcome State Fault Refusal := .next (versionCmd h high low s)

/-- TABLE_WRITE (R273, R475). -/
def execTableWrite (h : MbxHdr) (code : Fin 65536) (record : List Byte) (s : State) : Host.Outcome State Fault Refusal :=
  .next (tableWriteCmd h code.val record s)

/-- TABLE_READ (R476). -/
def execTableRead (h : MbxHdr) (code : Fin 65536) (record : List Byte) (s : State) : Host.Outcome State Fault Refusal :=
  .next (tableReadCmd h code.val record s)

/-- TABLE_AUDIT (R474): it runs as a long command; `shadow` is what host memory holds of the shadow. -/
def execTableAudit (h : MbxHdr) (code : Fin 65536) (first count : Nat) (shadow : List (Nat × Nat)) (s : State) :
    Host.Outcome State Fault Refusal :=
  .next (longCmd h opTableAudit (leBytes 2 code.val ++ [0, 0] ++ leBytes 4 first ++ leBytes 4 count) [] false shadow s)

/-- TCAM_TXN_OPEN (R320): a TABLE_WRITE of code 9 with ACTION 0. -/
def execTcamTxnOpen (h : MbxHdr) (id : Fin 65536) (s : State) : Host.Outcome State Fault Refusal :=
  .next (tableWriteCmd h 9 (leBytes 8 (id.val * 2 ^ 16)) s)

/-- TCAM_TXN_COMMIT (R324): a TABLE_WRITE of code 9 with ACTION 1. -/
def execTcamTxnCommit (h : MbxHdr) (id : Fin 65536) (s : State) : Host.Outcome State Fault Refusal :=
  .next (tableWriteCmd h 9 (leBytes 8 (1 + id.val * 2 ^ 16)) s)

/-- TCAM_TXN_ABORT (R325): a TABLE_WRITE of code 9 with ACTION 2. -/
def execTcamTxnAbort (h : MbxHdr) (id : Fin 65536) (s : State) : Host.Outcome State Fault Refusal :=
  .next (tableWriteCmd h 9 (leBytes 8 (2 + id.val * 2 ^ 16)) s)

/-- TCAM_ENTRY_WRITE (R321): a TABLE_WRITE of code 8. -/
def execTcamEntryWrite (h : MbxHdr) (record : List Byte) (s : State) : Host.Outcome State Fault Refusal :=
  .next (tableWriteCmd h 8 record s)

/-- TCAM_ENTRY_WITHDRAW (R321): a TABLE_WRITE of code 8 with OP 1. -/
def execTcamEntryWithdraw (h : MbxHdr) (index : Fin 131072) (s : State) : Host.Outcome State Fault Refusal :=
  .next (tableWriteCmd h 8 (slice (leBytes 8 (index.val + 2 ^ 17)) 0 192) s)

/-- TCAM_ENTRY_CLEAR (R321): a TABLE_WRITE of code 8 with OP 2. -/
def execTcamEntryClear (h : MbxHdr) (index : Fin 131072) (s : State) : Host.Outcome State Fault Refusal :=
  .next (tableWriteCmd h 8 (slice (leBytes 8 (index.val + 2 ^ 18)) 0 192) s)

/-- TIME_STEP SET (R441). -/
def execTimeStepSet (h : MbxHdr) (sec ns frac : Nat) (s : State) : Host.Outcome State Fault Refusal :=
  .next (hostWriteCmd h opTimeStep (List.replicate 8 0 ++ leBytes 6 sec ++ leBytes 4 ns ++ leBytes 2 frac) [] [] s)

/-- TIME_STEP ADJUST (R441). -/
def execTimeStepAdjust (h : MbxHdr) (off : Int) (s : State) : Host.Outcome State Fault Refusal :=
  .next (hostWriteCmd h opTimeStep (1 :: List.replicate 7 0 ++ leBytes 8 (off % 2 ^ 64).toNat) [] [] s)

/-- TIME_RATE (R441). -/
def execTimeRate (h : MbxHdr) (inc : Nat) (s : State) : Host.Outcome State Fault Refusal :=
  .next (hostWriteCmd h opTimeRate (List.replicate 8 0 ++ leBytes 6 inc) [] [] s)

/-- TIME_UNLOCK (R441). -/
def execTimeUnlock (h : MbxHdr) (s : State) : Host.Outcome State Fault Refusal := .next (hostWriteCmd h opTimeUnlock [] [] [] s)

/-- PROGRAM_LOAD (R191): it runs as a long command. -/
def execProgramLoad (h : MbxHdr) (image : List Byte) (s : State) : Host.Outcome State Fault Refusal :=
  .next (longCmd h opProgramLoad [] image true [] s)

/-- PROGRAM_ACTIVATE (R192, R193). -/
def execProgramActivate (h : MbxHdr) (id : Nat) (partner : List Byte) (s : State) : Host.Outcome State Fault Refusal :=
  .next (hostWriteCmd h opProgramActivate (leBytes 2 id) [] partner s)

/-- PORT_SET (R474). -/
def execPortSet (h : MbxHdr) (port : Nat) (enable : Bool) (rate lane chan : Nat) (s : State) : Host.Outcome State Fault Refusal :=
  .next (hostWriteCmd h opPortSet
    (leBytes 2 port ++ leBytes 1 (b2n enable) ++ leBytes 1 rate ++ leBytes 2 lane ++ leBytes 1 chan) [] [] s)

/-- QUEUE_SET (R474). -/
def execQueueSet (h : MbxHdr) (port uq mask : Nat) (values : List Nat) (s : State) : Host.Outcome State Fault Refusal :=
  .next (hostWriteCmd h opQueueSet
    (leBytes 2 port ++ leBytes 1 uq ++ leBytes 1 mask ++ (List.range 5).flatMap fun k => leBytes 4 (values.getD k 0)) [] [] s)

/-- REG_WRITE (R464). -/
def execRegWrite (h : MbxHdr) (off : Nat) (value mask : Word) (s : State) : Host.Outcome State Fault Refusal :=
  .next (hostWriteCmd h opRegWrite (leBytes 4 off ++ leBytes 4 value.toNat ++ leBytes 4 mask.toNat) [] [] s)

/-- IMAGE_WRITE operation 0 (R508): it runs as a long command. -/
def execImageWriteData (h : MbxHdr) (slot : Nat) (off : Nat) (data : List Byte) (s : State) : Host.Outcome State Fault Refusal :=
  .next (longCmd h opImageWrite (leBytes 1 slot ++ [0, 0, 0] ++ leBytes 4 off) data true [] s)

/-- IMAGE_WRITE operation 2 (R508): it runs as a long command. -/
def execImageWriteErase (h : MbxHdr) (slot : Nat) (off : Nat) (s : State) : Host.Outcome State Fault Refusal :=
  .next (longCmd h opImageWrite (leBytes 1 slot ++ [2, 0, 0] ++ leBytes 4 off) [] false [] s)

/-- IMAGE_SELECT (R503): it runs as a long command. -/
def execImageSelect (h : MbxHdr) (slot : Nat) (s : State) : Host.Outcome State Fault Refusal :=
  .next (longCmd h opImageSelect (leBytes 1 slot) [] false [] s)

/-- BIST_RUN test 1 (R544): it runs as a long command. -/
def execBistRunMbist (h : MbxHdr) (domain : Nat) (s : State) : Host.Outcome State Fault Refusal :=
  .next (longCmd h opBistRun (1 :: leBytes 1 domain) [] false [] s)

/-- BIST_RUN test 2 (R544): it runs as a long command. -/
def execBistRunLbist (h : MbxHdr) (domain : Nat) (s : State) : Host.Outcome State Fault Refusal :=
  .next (longCmd h opBistRun (2 :: leBytes 1 domain) [] false [] s)

/-- BIST_RUN test 3 (R540): it runs as a long command. -/
def execBistRunSweep (h : MbxHdr) (group : Nat) (s : State) : Host.Outcome State Fault Refusal :=
  .next (longCmd h opBistRun (3 :: leBytes 1 group) [] false [] s)

end Sys2Proof.Machine
end

