-- ==== Sys2Proof/Machine/HostIf.lean ====
section
/-! DEFINITION. The host interface beside the mailbox (chapter 14): ring registers, resets of the HOST block, injection,
delivery, interrupts, the management buses. -/

namespace Sys2Proof.Machine

/-! ### Ring registers (R466, R467, R492) -/

/-- A ring's PROD is written by host software. -/
def ringProdWrite (k : Nat) (v : Word) (s : State) : State :=
  if ringByHost k then modRing k (fun r => { r with prod := wfld v 15 0 }) s else s

/-- A ring's CONS is written by host software: entries are free, and the ring's vector may send again (R488). -/
def ringConsWrite (k : Nat) (v : Word) (s : State) : State :=
  if ringByHost k then s
  else
    let s1 := modHost (fun h => { h with vectors := FMap.upd {} h.vectors (ringVector k) fun x => { x with armed := true } })
      (modRing k (fun r => { r with cons := wfld v 15 0 }) s)
    if k = 1 then drainCompletions s1.host.cplWait s1 else s1

/-- Write the events held before EVT was enabled (R521). -/
def drainHeld (s : State) : State :=
  forEach s.host.held (fun e t =>
    if ringFull t 2 then loseEvent t
    else modHost (fun h => { h with lost := false }) (ringPut 2 2 (eventRecord e t.host.lost) t))
    (modHost (fun h => { h with held := [] }) s)

/-- A ring is enabled: its first pass begins; enabling MBX_CMD starts the mailbox sequence (R467, R469), MBX_CPL takes the
waiting completions, EVT the held events. -/
def ringEnable (k : Nat) (s : State) : State :=
  let s1 := modRing k (fun r => { r with made := 0 }) s
  if k = 0 then modHost (fun h => { h with nextSeq := 0 }) s1
  else if k = 1 then drainCompletions s1.host.cplWait s1
  else if k = 2 then drainHeld s1
  else s1

/-- Clearing ENABLE zeroes PROD and CONS; disabling MBX_CMD clears the version agreement (R472, R492). -/
def ringDisable (k : Nat) (s : State) : State :=
  let s1 := modHost (fun h => { h with rings := FMap.set {} h.rings k {} }) s
  if k = 0 then modHost (fun h => { h with version := 0 }) s1 else s1

/-- A ring's CFG is written: LOG2_SIZE only while ENABLE is 0. -/
def ringCfgSet (k : Nat) (v : Word) (s : State) : State :=
  let c := ringCfg k
  let on := ringEnabled s k
  let size := if on then wfld (ringCfgVal s k) 3 0 else Nat.min 12 (Nat.max 4 (wfld v 3 0))
  let s1 := regSet c.1 c.2 (BitVec.ofNat 32 (size + 16 * b2n (v.getLsbD 4))) s
  if !on && v.getLsbD 4 then ringEnable k s1 else if on && !v.getLsbD 4 then ringDisable k s1 else s1

/-! ### Function Level Reset (R461) -/

/-- A command whose completion is discarded. -/
def quietCmd (c : MbxCmd) : MbxCmd := { c with quiet := true }

/-- Every command taken before runs to its end, and its completion is discarded. -/
def quietAll (s : State) : State :=
  let w := { s with writes := s.writes.map fun w => { w with cmd := w.cmd.map quietCmd } }
  modTbl (fun t => { t with
      laneOps := t.laneOps.map (fun o => { o with cmd := o.cmd.map quietCmd })
      embers := t.embers.map fun e => (e.1, { e.2 with hostSched := e.2.hostSched.map fun h => (h.1, h.2.1, h.2.2.map quietCmd) }) })
    (modHost (fun h => { h with
      longs := h.longs.map (fun l => { l with cmd := quietCmd l.cmd })
      reads := h.reads.map (fun r => { r with cmd := quietCmd r.cmd })
      outstanding := [], cplWait := [] }) w)

/-- The stored registers outside the HOST block. -/
def dropHostRegs (m : FMap (Option Word)) : FMap (Option Word) := m.filter fun e => blockOf e.1 ≠ 11

/-- R461: the HOST block's registers, the rings, the version agreement and the MSI-X state are reset; with them the block's latched and
held high words, of whose clearing R9 names other causes only (DESIGN CHOICE, notes/assumptions/161.md). -/
def hostReset (s : State) : State :=
  let s1 := quietAll s
  modHost (fun h => { h with rings := [], version := 0, nextSeq := 0, vectors := [], txDone := [], taken := [], mdio := [], twi := [],
                             uartTx := [], uartRx := [], lastPair := 63, stallFrom := [], lost := false,
                             takes := h.takes.map fun x => (x.1, x.2.1, x.2.2.1, []) })
    { s1 with regs := { s1.regs with vals := dropHostRegs s1.regs.vals, latch := dropHostRegs s1.regs.latch,
                                     high := dropHostRegs s1.regs.high } }

/-- A Function Level Reset or D3hot entry, reported by HOST_ERR.FLR and event 0x1A07. -/
def functionReset (s : State) : State := raiseEv 0x1A07 0 [] (hostErr 3 (hostReset s))

/-! ### TX descriptors (R477 to R483) -/

/-- The ticks until the host pacing credit is above zero (R478). -/
def pacingWait (c : Int) : Nat := if 0 < c then 0 else ((-c) / 1280 + 1).toNat

/-- The TX ring of a pair can be served (R478, R481). -/
def txReady (s : State) (q : Nat) : Bool :=
  ringEnabled s (txRing q) && decide (ringUsed s (txRing q) ≠ 0) && !ringFull s (txcRing q)

/-- The pair that is served next, counting from the one after the last. -/
def nextPair (s : State) : Option Nat :=
  ((List.range 64).map fun i => (s.host.lastPair + 1 + i) % 64).find? (txReady s)

/-- TX_DESCRIPTOR_TAKE: take a descriptor from the pair whose turn it is. Frames are injected while the frame path runs. -/
def txTake (q : Nat) (d : TxDesc) (s : State) : State :=
  if s.clk.forwarding ∧ nextPair s = some q then
    modHost (fun h => { h with lastPair := q, nextDesc := h.nextDesc + 1,
                               txDone := h.txDone ++ [{ id := h.nextDesc, qp := q, cookie := d.cookie, desc := d }] })
      (modRing (txRing q) (fun r => { r with cons := (r.cons + 1) % 65536 }) s)
  else s

/-- The descriptor of a frame being read: the pair's oldest that is not read. -/
def txReading (s : State) (q : Nat) : Option TxDone := s.host.txDone.find? fun d => decide (d.qp = q) && !d.read

/-- Change a descriptor. -/
def modDesc (id : Nat) (f : TxDone → TxDone) (s : State) : State :=
  modHost (fun h => { h with txDone := h.txDone.map fun d => if d.id = id then f d else d }) s

/-- IPv4 or IPv6 stands at L3_OFF. -/
def ipVer (bs : List Byte) (l3 : Nat) : Nat := (byteAt bs l3).toNat / 16

/-- The protocol of the IP header at L3_OFF. -/
def ipProto (bs : List Byte) (l3 : Nat) : Nat :=
  if ipVer bs l3 = 4 then (byteAt bs (l3 + 9)).toNat else (byteAt bs (l3 + 6)).toNat

/-- The IPv4 header with its checksum computed. -/
def ip4Checksum (bs : List Byte) (l3 : Nat) : List Byte :=
  let n := 4 * ((byteAt bs l3).toNat % 16)
  if ipVer bs l3 ≠ 4 ∨ n < 20 ∨ bs.length < l3 + n then bs
  else
    let z := splice bs (l3 + 10) [0, 0]
    splice z (l3 + 10) (beBytes 2 (65535 - onesSum (slice z l3 n)))

/-- The pseudo-header of the TCP or UDP data at L4_OFF: addresses, protocol, length. -/
def pseudoHeader (bs : List Byte) (l3 proto n : Nat) : List Byte :=
  if ipVer bs l3 = 4 then slice bs (l3 + 12) 8 ++ [0, BitVec.ofNat 8 proto] ++ beBytes 2 n
  else slice bs (l3 + 8) 32 ++ beBytes 4 n ++ [0, 0, 0, BitVec.ofNat 8 proto]

/-- Bytes of TCP or UDP by the IP header's own length. -/
def l4Length (bs : List Byte) (l3 l4 : Nat) : Nat :=
  if ipVer bs l3 = 4 then beVal (slice bs (l3 + 2) 2) + l3 - l4 else beVal (slice bs (l3 + 4) 2) + l3 + 40 - l4

/-- The frame with its TCP or UDP checksum computed in full (R477, R483); a UDP checksum of 0 is written as 0xFFFF. -/
def l4Checksum (bs : List Byte) (l3 l4 : Nat) : List Byte :=
  let proto := ipProto bs l3
  let at_ := l4 + (if proto = 6 then 16 else 6)
  let n := Nat.min (l4Length bs l3 l4) (bs.length - l4)
  if (ipVer bs l3 ≠ 4 ∧ ipVer bs l3 ≠ 6) ∨ (proto ≠ 6 ∧ proto ≠ 17) ∨ l4 + n < at_ + 2 then bs
  else
    let z := splice bs at_ [0, 0]
    let c := 65535 - onesSum (pseudoHeader z l3 proto n ++ slice z l4 n)
    splice z at_ (beBytes 2 (if proto = 17 ∧ c = 0 then 65535 else c))

/-- Descriptor flags (Table HOST-9). -/
def txFlag (d : TxDesc) (b : Nat) : Bool := tb d.flags b

/-- The header length H of a large send (R482). -/
def lsoHeader (bs : List Byte) (d : TxDesc) : Nat :=
  if ipProto bs d.l3 = 6 then d.l4 + 4 * ((byteAt bs (d.l4 + 12)).toNat / 16) else d.l4 + 8

/-- UDP at L4_OFF carries a tunnel that the parser knows: VXLAN to port `vx`, its I flag set (Table ADM-3). -/
def carriesVxlan (vx : Nat) (bs : List Byte) (d : TxDesc) : Bool :=
  decide (ipProto bs d.l3 = 17 ∧ beVal (slice bs (d.l4 + 2) 2) = vx) && tb (byteAt bs (d.l4 + 8)).toNat 3

/-- R482: the large send is in order. -/
def lsoOk (vx : Nat) (bs : List Byte) (d : TxDesc) : Bool :=
  let v := ipVer bs d.l3
  let p := ipProto bs d.l3
  let h := lsoHeader bs d
  decide (d.length ≤ 262144 ∧ (v = 4 ∨ v = 6) ∧ (p = 6 ∨ p = 17)) && !carriesVxlan vx bs d
    && decide (d.l4 = d.l3 + if v = 4 then 4 * ((byteAt bs d.l3).toNat % 16) else 40)
    && decide (d.l4 + 8 ≤ h ∧ (p = 17 ∨ d.l4 + 20 ≤ h) ∧ h ≤ 128 ∧ h + 1 ≤ d.length ∧ 64 ≤ d.mss ∧ h + d.mss ≤ 16348)

/-- R479: the descriptor and its frame are in order. -/
def txOk (s : State) (q : Nat) (bs : List Byte) (d : TxDesc) : Bool :=
  let lso := txFlag d 2
  decide (d.flags < 64 ∧ d.length < 2 ^ 18 ∧ d.dest < 2 ^ 14 ∧ d.rsvd = 0 ∧ bs.length = d.length)
    && (if lso then lsoOk (regFld s .ADM_PARSE_CFG 0 15 0) bs d && !txFlag d 0 && !txFlag d 1 else decide (60 ≤ d.length ∧ d.length ≤ 16348))
    && (!txFlag d 3 || (regBit s .HOST_QP_CFG q 8 && regBit s .MAC_PORT_CFG (d.dest % 2048) 16))

/-- Segment `j` of a large send of `n` segments (R483). -/
def lsoSegment (bs : List Byte) (d : TxDesc) (n j : Nat) : List Byte :=
  let h := lsoHeader bs d
  let pay := slice bs (h + j * d.mss) (Nat.min d.mss (bs.length - h - j * d.mss))
  let f := bs.take h ++ pay
  let f1 := if ipVer bs d.l3 = 4 then
      splice (splice f (d.l3 + 2) (beBytes 2 (f.length - d.l3))) (d.l3 + 4)
        (beBytes 2 ((beVal (slice bs (d.l3 + 4) 2) + j) % 65536))
    else splice f (d.l3 + 4) (beBytes 2 (f.length - d.l3 - 40))
  let f2 := if ipVer bs d.l3 = 4 then ip4Checksum f1 d.l3 else f1
  let f3 := if ipProto bs d.l3 = 6 then
      let fl := (byteAt bs (d.l4 + 13)).toNat
      let keep := 0x76 + (if j + 1 = n then 0x09 else 0) + (if j = 0 then 0x80 else 0)
      splice (splice f2 (d.l4 + 4) (beBytes 4 ((beVal (slice bs (d.l4 + 4) 4) + j * d.mss) % 2 ^ 32))) (d.l4 + 13)
        [BitVec.ofNat 8 (Nat.land fl keep)]
    else splice f2 (d.l4 + 4) (beBytes 2 (f2.length - d.l4))
  l4Checksum f3 d.l3 d.l4

/-- The frames that a descriptor's frame becomes, FCS apart (R477, R483). -/
def txFrames (bs : List Byte) (d : TxDesc) : List (List Byte) :=
  if txFlag d 2 then
    let n := cdiv (bs.length - lsoHeader bs d) d.mss
    (List.range n).map (lsoSegment bs d n)
  else
    let f1 := if txFlag d 5 then ip4Checksum bs d.l3 else bs
    [if txFlag d 4 then l4Checksum f1 d.l3 d.l4 else f1]

/-- The 16-byte inject header (R480). -/
def injectHeader (i : InjInfo) : List Byte :=
  [BitVec.ofNat 8 (b2n i.tsReq + 2 * b2n i.launch.isSome + 4 * b2n i.bypass), 0] ++ leBytes 2 (i.port + 2048 * i.queue)
    ++ leBytes 4 (i.launch.getD 0) ++ List.replicate 8 0

/-- An injected frame with its apply tick is written into cells and held for admission on port 2,048 (R125, R478, R480). -/
def injectFrame (side : Bool) (apply : Nat) (i : InjInfo) (bs : List Byte) (s : State) : State :=
  let k := takeCells (cellsOf bs.length) s
  let r : Rx := { port := 2048, lane := 512, arrival := apply, bytes := bs, wireLen := bs.length, seq := b2n side,
                  cls := governorClass s 2048 bs, owner := 16384 + i.qp, cells := k.1, inj := some i }
  if k.1.length < cellsOf bs.length then noteInjDrop r drIngressLimit (noCell r (returnCells k.1 k.2)) else arrive r k.2

/-- Give one frame its apply tick and inject it; in a pair the partner is told (R478, R480). -/
def injectOne (i : InjInfo) (body : List Byte) (s : State) : State :=
  let bs := body ++ fcsBytes body
  let a := Nat.max (Nat.max (assignTick s) (s.clk.tick + pacingWait s.host.pacing)) s.host.lastApply
  let s1 := modHost (fun h => { h with lastApply := a, pacing := h.pacing - (bs.length + 20 : Nat) }) s
  let s2 := whenB (inPair s || s.twin.source) (flueSend 0x21 0 a
    ([BitVec.ofNat 8 (b2n s.twin.side), BitVec.ofNat 8 i.qp] ++ leBytes 2 bs.length ++ leBytes 4 0 ++ injectHeader i ++ bs)) s1
  injectFrame s.twin.side a i bs s2

/-- TX_FRAME_READ_DONE: the frame of the pair's oldest descriptor has been read; it is checked, cut and injected. -/
def txRead (q : Nat) (bs : List Byte) (s : State) : State :=
  match txReading s q with
  | none => s
  | some x =>
    let d := x.desc
    if txOk s q bs d then
      let fs := txFrames bs d
      let i : InjInfo := { qp := q, slot := x.id, bypass := txFlag d 3, port := d.dest % 2048, queue := d.dest / 2048 % 8,
                           tsReq := txFlag d 0, launch := if txFlag d 1 then some (d.launch % 2 ^ 32) else none }
      forEach fs.zipIdx (fun f => injectOne { i with last := f.2 + 1 = fs.length } f.1)
        (modDesc x.id (fun y => { y with read := true, left := fs.length, segmented := txFlag d 2, tsWait := txFlag d 0 }) s)
    else
      raiseLim 0x1A02 0 q 1024 (w2 q ++ w4 d.cookie)
        (countDrop drInjectInvalid (bs.length + 4) (modDesc x.id (fun y => { y with read := true, invalid := true }) s))

/-- No timestamp can come any more: no departure report is outstanding, and no copy of the frame waits for a grant (R481). -/
def tsNone (s : State) (d : TxDone) : Bool :=
  !(s.time.tsPend.any fun p => p.inj = d.id) && !(s.buf.frames.any fun e => match e.2 with
    | some x => match x.rx.inj with
      | some i => i.slot = d.id
      | none => false
    | none => false)

/-- A descriptor's completion may be written (R481). -/
def txComplete (s : State) (d : TxDone) : Bool := d.read && d.left = 0 && (!d.tsWait || tsNone s d)

/-- The record of Table HOST-10, PHASE apart. -/
def txRecord (d : TxDone) : List Byte :=
  let st := if d.invalid then 2 else if d.dropped.isSome then 1 else 0
  leBytes 4 d.cookie ++ leBytes 1 (2 * b2n d.tsValid + 4 * b2n d.tsLost + 8 * b2n d.segmented) ++ leBytes 1 st
    ++ leBytes 1 (if d.invalid then drInjectInvalid else d.dropped.getD 0) ++ [0] ++ leBytes 2 d.tsid ++ leBytes 2 d.seq
    ++ leBytes 4 d.ts32

/-- TX_COMPLETION_WRITE: the record of the pair's oldest descriptor that may be completed. -/
def txWrite (q : Nat) (s : State) : State :=
  match s.host.txDone.find? fun d => decide (d.qp = q) && txComplete s d with
  | none => s
  | some d =>
    if ringEnabled s (txcRing q) && !ringFull s (txcRing q) then
      ringPut (txcRing q) 4 (txRecord d) (modHost (fun h => { h with txDone := h.txDone.filter fun x => x.id ≠ d.id }) s)
    else s

/-! ### Delivery (R484, R485) -/

/-- The RX buffer size of a pair. -/
def rxBufSize (s : State) (q : Nat) : Nat := 2048 * 2 ^ regFld s .HOST_QP_CFG q 1 0

/-- The head of a host queue that no take has been agreed for, among the first `agreed` copies taken. -/
def hostHead (s : State) (q : Nat) : Option Copy :=
  match (queueOf s (hqOf q)).copies.find? fun c => c.release.isNone with
  | some c => if c.from_ ≤ s.clk.tick then some c else none
  | none => none

/-- Takes of a queue whose records are not yet written. -/
def rxOwed (s : State) (q : Nat) : Nat :=
  (s.host.taken.filter fun x => decide (x.1 = q)).length
    + (s.host.takes.filter fun x => decide (x.2.1 = q) && !x.2.2.2.isEmpty).length

/-- Mark the first copy of a host queue without a release tick. -/
def markTake (q e : Nat) (s : State) : State :=
  let rec go : List Copy → List Copy
    | [] => []
    | c :: cs => if c.release.isNone then { c with release := some e } :: cs else c :: go cs
  modQueue (hqOf q) (fun x => { x with copies := go x.copies }) s

/-- HOST_DMA_TAKE: take the head frame of a host queue into posted buffers. -/
def hostTake (q : Nat) (bufs : List Nat) (s : State) : State :=
  match hostHead s q with
  | none => s
  | some c =>
    let len := storedLen s c.frame
    let n := cdiv len (rxBufSize s q)
    let able := (s.twin.st = .active || s.twin.st = .solo) && ringEnabled s (rxbRing q) && ringEnabled s (rxcRing q)
      && decide (n ≤ ringUsed s (rxbRing q) ∧ n ≤ bufs.length ∧ ringUsed s (rxcRing q) + rxOwed s q < ringSize s (rxcRing q)
        ∧ 0 < s.host.rxBudget)
    if able then
      let e := if inPair s then assignTick s else s.clk.tick + 1
      let s1 := modHost (fun h => { h with rxBudget := h.rxBudget - len, takes := h.takes ++ [(e, q, 1, bufs.take n)] })
        (modRing (rxbRing q) (fun r => { r with cons := (r.cons + n) % 65536 }) (markTake q e s))
      whenB (inPair s) (flueSend 0x22 0 e (leBytes 1 q ++ [0, 0, 0] ++ leBytes 4 1)) s1
    else s

/-- The record of Table HOST-12, PHASE apart. -/
def rxRecord (x : Stored) (c : Copy) (bufs : Nat) : List Byte :=
  let timer := decide (x.rx.port = 0 ∧ 16448 ≤ x.rx.owner)
  let ts := if x.rx.port < 2048 ∧ !timer then x.rx.ts else none
  let kind := match c.kind with
    | .errored => 1
    | .conflict => 2
    | _ => 0
  let parsed := decide (kind ≠ 1) && !x.md.isEmpty
  leBytes 2 x.rx.bytes.length ++ leBytes 1 bufs
    ++ leBytes 1 (2 * b2n ts.isSome + 4 * b2n ((ts.map (·.2.2)).getD false) + 8 * b2n parsed + 16 * b2n timer)
    ++ leBytes 1 x.rx.flags ++ leBytes 1 kind ++ leBytes 2 (if timer then 0 else x.rx.port)
    ++ leBytes 2 (match c.kind with
      | .trap code => code
      | _ => 0)
    ++ leBytes 2 ((ts.map (·.2.1)).getD 0) ++ leBytes 4 ((ts.map (·.1)).getD 0) ++ leBytes 4 x.adm ++ List.replicate 12 0
    ++ (if parsed then slice x.md 0 32 else List.replicate 32 0)

/-- A frame's bytes over its buffers. -/
def spread (size : Nat) : List Byte → List Nat → List (Nat × List Byte)
  | _, [] => []
  | bs, b :: r => (b, bs.take size) :: spread size (bs.drop size) r

/-- One frame of a host queue is released at its take's effect tick; this twin's own takes go on to host memory. -/
def takeOne (q : Nat) (bufs : List Nat) (s : State) : State :=
  match (queueOf s (hqOf q)).copies with
  | [] => s
  | c :: _ =>
    let s0 := modQueue (hqOf q) (fun x => { x with copies := x.copies.drop 1 }) s
    match storedOf s c.frame with
    | none => releaseCopy (hqOf q) c false s0
    | some x =>
      let s1 := if bufs.isEmpty then s0
        else modHost (fun h => { h with taken := h.taken ++ [(q, rxRecord x c bufs.length, spread (rxBufSize s q) x.rx.bytes bufs)] }) s0
      countPair (fixedKey 0 (hqOf q)) 1 x.rx.bytes.length (releaseCopy (hqOf q) c true s1)

/-- Takes whose effect tick has come (R360, R485). -/
def takesDue (s : State) : State :=
  let due := s.host.takes.filter fun x => decide (x.1 ≤ s.clk.tick)
  forEach due (fun x t => forEach (List.range x.2.2.1) (fun _ => takeOne x.2.1 x.2.2.2) t)
    (modHost (fun h => { h with takes := h.takes.filter fun x => !decide (x.1 ≤ s.clk.tick) }) s)

/-- HOST_FRAME_WRITE: a taken frame and then its record reach host memory (R462). -/
def rxWrite (q : Nat) (s : State) : State :=
  match s.host.taken.find? fun x => decide (x.1 = q) with
  | none => s
  | some x =>
    if ringEnabled s (rxcRing q) && !ringFull s (rxcRing q) then
      ringPut (rxcRing q) 3 x.2.1 (forEach x.2.2 (fun b => hostPut b.1 b.2) (modHost (fun h => { h with taken := h.taken.erase x }) s))
    else s

/-- Event 0x1A05: a host queue has held frames with no posted buffer for 1,024 ticks (Table HOST-15). -/
def rxStall (q : Nat) (s : State) : State :=
  let stuck := !(queueOf s (hqOf q)).copies.isEmpty && decide (ringUsed s (rxbRing q) = 0)
  let from_ := FMap.get none s.host.stallFrom q
  if !stuck then (if from_.isSome then modHost (fun h => { h with stallFrom := FMap.set none h.stallFrom q none }) s else s)
  else match from_ with
    | none => modHost (fun h => { h with stallFrom := FMap.set none h.stallFrom q (some s.clk.tick) }) s
    | some f => if f + 1024 ≤ s.clk.tick then raiseLim 0x1A05 0 q (2 ^ 20) (w2 q) s else s

/-- What a tick brings the host interface: credits, stalls, the UART's next byte (R478, R485, R491). -/
def hostTick (s : State) : State :=
  let t := s.clk.tick
  let s1 := modHost (fun h => { h with pacing := min 16384 (h.pacing + 1280), rxBudget := min 16384 (h.rxBudget + 1280) }) s
  let s2 := forEach (List.range 64) rxStall s1
  match s2.host.uartTx with
  | b :: r =>
    if regBit s2 .HOST_UART_CFG 0 16 && decide (s2.host.uartNext ≤ t) then
      modOut (fun o => { o with uart := o.uart ++ [b] })
        (modHost (fun h => { h with uartTx := r, uartNext := t + ticksOfNs (1600 * regFld s2 .HOST_UART_CFG 0 15 0) }) s2)
    else s2
  | [] => s2

/-- INJECT (R480): a partner's injected frame; `body` is the joined body. -/
def injectReceive (apply : Nat) (body : List Byte) (s : State) : State :=
  let side := tb (leAt body 0 1) 0
  let h := leAt body 8 1
  let d := leAt body 10 2
  let i : InjInfo := { qp := leAt body 1 1 % 64, slot := 0, bypass := tb h 2, port := d % 2048, queue := d / 2048 % 8, tsReq := tb h 0,
                       launch := if tb h 1 then some (leAt body 12 4) else none }
  injectFrame side apply i (slice body 24 (leAt body 2 2)) s

/-! ### Interrupts (R488) -/

/-- A vector's COUNT records are pending, or its TIMER has run out. -/
def vectorDue (s : State) (v : Nat) : Bool :=
  let x := FMap.get {} s.host.vectors v
  x.armed && decide (0 < x.count) && (decide (regFld s .HOST_IRQ_MOD v 31 16 ≤ x.count) || (match x.since with
    | some t => decide (t + ticksOfNs (1000 * regFld s .HOST_IRQ_MOD v 15 0) ≤ s.clk.tick)
    | none => false))

/-- MSI_X_MESSAGE. -/
def msixSend (v : Nat) (s : State) : State :=
  if vectorDue s v then
    modOut (fun o => { o with msix := o.msix ++ [v] })
      (modHost (fun h => { h with vectors := FMap.set {} h.vectors v { count := 0, since := none, armed := false } }) s)
  else s

/-! ### Management buses (R489 to R491) -/

/-- A write of HOST_MDIO_CMD starts an access unless one is in progress. -/
def mdioStart (m : Nat) (v : Word) (s : State) : State :=
  if (FMap.get {} s.host.mdio m).busy then s
  else
    let s1 := regSet .HOST_MDIO_CMD m (v &&& Reg.HOST_MDIO_CMD.info.rw) s
    modOut (fun o => { o with mdio := o.mdio ++ [(m, wfld v 31 0, regFld s .HOST_MDIO_DATA m 15 0)] })
      (modHost (fun h => { h with mdio := FMap.set {} h.mdio m { busy := true } }) s1)

/-- An MDIO access ends; a read leaves its data. -/
def mdioEnd (m data : Nat) (s : State) : State :=
  if (FMap.get {} s.host.mdio m).busy then
    let s1 := modHost (fun h => { h with mdio := FMap.set {} h.mdio m {} }) s
    if regBit s .HOST_MDIO_CMD m 11 then regSetFld .HOST_MDIO_DATA m 15 0 data s1 else s1
  else s

/-- Two-wire master `m`. -/
def twiOf (s : State) (m : Nat) : Twi := FMap.get {} s.host.twi m

/-- Change two-wire master `m`. -/
def modTwi (m : Nat) (f : Twi → Twi) (s : State) : State := modHost (fun h => { h with twi := FMap.upd {} h.twi m f }) s

/-- A write of HOST_TWI_CMD; GO starts a transaction unless one is in progress, and clears the error bits. -/
def twiCmd (m : Nat) (v : Word) (s : State) : State :=
  let s1 := regSet .HOST_TWI_CMD m (v &&& Reg.HOST_TWI_CMD.info.rw) s
  let x := twiOf s m
  if v.getLsbD 31 && !tb x.status 0 then
    let n := wfld v 13 8
    modOut (fun o => { o with twi := o.twi ++ [(m, wfld v 30 0, x.toSend.take n)] })
      (modTwi m (fun y => { y with status := fld y.status 13 8 * 256 + 1, toSend := y.toSend.drop n }) s1)
  else s1

/-- A two-wire transaction ends: BUSY clears, its outcome shows; an error raises event 0x1A06. -/
def twiEnd (m : Nat) (r : TwiResult) (s : State) : State :=
  let x := twiOf s m
  let old := fld x.status 13 8 * 256
  let fail (bit : Nat) : State := raiseEv 0x1A06 0 (w2 m ++ w2 (old + bit)) (modTwi m (fun y => { y with status := old + bit }) s)
  if !tb x.status 0 then s
  else match r with
    | .stop bs ok =>
      let limit := if regBit s .HOST_TWI_CMD m 22 then 32 else regFld s .HOST_TWI_CMD m 21 16
      let got := bs.take limit
      modTwi m (fun y => { y with status := got.length * 256 + 16 * b2n (regBit s .HOST_TWI_CFG m 2 && !ok), got := y.got ++ got }) s
    | .nack => fail 2
    | .arbLost => fail 4
    | .timeout => fail 8

/-- A BAR0 read completes with a value. -/
def readAnswer (v : Word) (s : State) : State := { s with regs := { s.regs with rdData := some v } }

/-- A read of HOST_TWI_FIFO. -/
def twiPop (m : Nat) (s : State) : State :=
  readAnswer (BitVec.ofNat 32 ((twiOf s m).got.headD 0).toNat) (modTwi m (fun y => { y with got := y.got.drop 1 }) s)

/-- A read of HOST_UART_DATA. -/
def uartPop (s : State) : State :=
  let h := s.host
  readAnswer (BitVec.ofNat 32 ((h.uartRx.headD 0).toNat + 256 * b2n (!h.uartRx.isEmpty) + 512 * b2n (decide (64 ≤ h.uartTx.length))))
    (modHost (fun h => { h with uartRx := h.uartRx.drop 1 }) s)

/-- A write of HOST_UART_DATA. -/
def uartPush (v : Word) (s : State) : State :=
  if s.host.uartTx.length < 64 then modHost (fun h => { h with uartTx := h.uartTx ++ [v.setWidth 8] }) s else s

/-! ### PCI Express errors (R493) -/

/-- The device reports a failed access. -/
def dmaError (off idx : Nat) (s : State) : State := raiseEv 0x1A01 0 (w4 off ++ w4 idx) (hostErr 0 s)

/-- PCIE_ERROR: a command or descriptor completes with the error, a ring is disabled. -/
def pcieFail (e : PcieErr) (s : State) : State :=
  match e with
  | .command q =>
    match s.host.outstanding.find? fun c => c.seq = q with
    | none => s
    | some c =>
      let s1 := modHost (fun h => { h with longs := h.longs.filter (fun l => l.cmd.seq ≠ q),
                                           reads := h.reads.filter fun r => r.cmd.seq ≠ q }) s
      let s2 := { s1 with writes := s1.writes.map fun w => if w.cmd = some c then { w with cmd := none } else w }
      dmaError (ringOffset 0) (q % ringSize s 0) (complete c stDmaError 0 [] s2)
  | .descriptor q =>
    match txReading s q.val with
    | none => s
    | some d =>
      dmaError (ringOffset (txRing q.val)) (((ringOf s (txRing q.val)).cons + 65535) % ringSize s (txRing q.val))
        (modDesc d.id (fun y => { y with read := true, invalid := true }) s)
  | .ring k i =>
    if ringEnabled s k.val then
      let c := ringCfg k.val
      dmaError (ringOffset k.val) i (ringDisable k.val (regSetFld c.1 c.2 4 4 0 s))
    else s

/-! ### Commands -/

/-- FUNCTION_LEVEL_RESET (R461). -/
def execFunctionLevelReset (s : State) : Host.Outcome State Fault Refusal := .next (if hostReaches s then functionReset s else s)

/-- D3HOT_ENTRY (R461). -/
def execD3hotEntry (s : State) : Host.Outcome State Fault Refusal := .next (if hostReaches s then functionReset s else s)

/-- PCIE_PERST (R461, R555): the link goes down with the effects of R461. -/
def execPciePerst (s : State) : Host.Outcome State Fault Refusal := .next (if hostReaches s then functionReset (modHost (fun h => { h with pcie := 0 }) s) else s)

/-- HOST_RING_PROD_WRITE (R466). -/
def execHostRingProdWrite (ring : Fin 259) (value : Word) (s : State) : Host.Outcome State Fault Refusal :=
  .next (whenB (hostReaches s) (ringProdWrite ring.val value) s)

/-- HOST_RING_CONS_WRITE (R488). -/
def execHostRingConsWrite (ring : Fin 259) (value : Word) (s : State) : Host.Outcome State Fault Refusal :=
  .next (whenB (hostReaches s) (ringConsWrite ring.val value) s)

/-- RING_CFG_WRITE (R467). -/
def execRingCfgWrite (ring : Fin 259) (value : Word) (s : State) : Host.Outcome State Fault Refusal :=
  .next (whenB (hostReaches s) (ringCfgSet ring.val value) s)

/-- TX_DESCRIPTOR_TAKE (R478). -/
def execTxDescriptorTake (qp : Fin 64) (desc : TxDesc) (s : State) : Host.Outcome State Fault Refusal := .next (txTake qp.val desc s)

/-- TX_FRAME_READ_DONE (R479). -/
def execTxFrameReadDone (qp : Fin 64) (frame : List Byte) (s : State) : Host.Outcome State Fault Refusal :=
  .next (txRead qp.val frame s)

/-- TX_COMPLETION_WRITE (R481). -/
def execTxCompletionWrite (qp : Fin 64) (s : State) : Host.Outcome State Fault Refusal := .next (txWrite qp.val s)

/-- INJECT (R480). -/
def execInject (apply : Nat) (body : List Byte) (s : State) : Host.Outcome State Fault Refusal :=
  .next (injectReceive (fullTick s apply) body (hearNow s))

/-- HOST_DMA_TAKE (R485). -/
def execHostDmaTake (hq : Fin 64) (bufs : List Nat) (s : State) : Host.Outcome State Fault Refusal := .next (hostTake hq.val bufs s)

/-- DMA_TAKE (R360): the partner's takes of a host queue, released at their effect tick. -/
def execDmaTake (effTick : Nat) (hq : Fin 64) (frames : Nat) (s : State) : Host.Outcome State Fault Refusal :=
  .next (modHost (fun h => { h with takes := h.takes ++ [(fullTick s effTick, hq.val, frames, [])] })
    (forEach (List.range frames) (fun _ => markTake hq.val (fullTick s effTick)) (hearNow s)))

/-- HOST_FRAME_WRITE (R485). -/
def execHostFrameWrite (hq : Fin 64) (s : State) : Host.Outcome State Fault Refusal := .next (rxWrite hq.val s)

/-- MSI_X_MESSAGE (R488). -/
def execMsiXMessage (vec : Fin 68) (s : State) : Host.Outcome State Fault Refusal := .next (msixSend vec.val s)

/-- PCIE_LINK_CHANGE (R460, Table HOST-15). -/
def execPcieLinkChange (status : Word) (s : State) : Host.Outcome State Fault Refusal :=
  let v := wfld status 11 0
  let s1 := modHost (fun h => { h with pcie := v }) s
  .next (if v % 2 ^ 10 = s.host.pcie % 2 ^ 10 then s1 else raiseEv 0x1A04 0 (w2 (fld v 3 0) ++ w2 (fld v 9 4)) s1)

/-- PCIE_ERROR (R493). -/
def execPcieError (what : PcieErr) (s : State) : Host.Outcome State Fault Refusal := .next (pcieFail what s)

/-- MDIO_CMD (R489). -/
def execMdioCmd (master : Fin 8) (value : Word) (s : State) : Host.Outcome State Fault Refusal := .next (whenB (hostReaches s) (mdioStart master.val value) s)

/-- MDIO_DONE (R489). -/
def execMdioDone (master : Fin 8) (data : Fin 65536) (s : State) : Host.Outcome State Fault Refusal :=
  .next (mdioEnd master.val data.val s)

/-- GO (R490): a HOST_TWI_CMD write. -/
def execGo (master : Fin 8) (value : Word) (s : State) : Host.Outcome State Fault Refusal := .next (whenB (hostReaches s) (twiCmd master.val value) s)

/-- TWI_DONE (R490). -/
def execTwiDone (master : Fin 8) (res : TwiResult) (s : State) : Host.Outcome State Fault Refusal := .next (twiEnd master.val res s)

/-- TWI_FIFO_READ (R492). -/
def execTwiFifoRead (master : Fin 8) (s : State) : Host.Outcome State Fault Refusal := .next (whenB (hostReaches s) (twiPop master.val) s)

/-- UART_SEND (R491). -/
def execUartSend (value : Word) (s : State) : Host.Outcome State Fault Refusal := .next (whenB (hostReaches s) (uartPush value) s)

/-- UART_READ (R491). -/
def execUartRead (s : State) : Host.Outcome State Fault Refusal := .next (whenB (hostReaches s) uartPop s)

/-- UART_RECEIVE (R491). -/
def execUartReceive (byte : Byte) (s : State) : Host.Outcome State Fault Refusal :=
  .next (if regBit s .HOST_UART_CFG 0 16 && decide (s.host.uartRx.length < 64) then
      modHost (fun h => { h with uartRx := h.uartRx ++ [byte] }) s
    else s)

end Sys2Proof.Machine
end

