-- ==== Sys2Proof/Machine/Start.lean ====
section
/-! DEFINITION. The last steps of a start, shared by every way into service: filling the ash rings (step 9 of Table BOOT-7) and
the start tick S (R512, R514, R409). -/

namespace Sys2Proof.Machine

/-! ### Step 9 (R337, R341) -/

/-- Runs of the cells from `a` on, `n` of them, without the cells of a rising list. -/
def runsWithout : List Nat → Nat → Nat → List (Nat × Nat)
  | [], a, n => if n = 0 then [] else [(a, n)]
  | c :: cs, a, n =>
    if c < a ∨ a + n ≤ c then runsWithout cs a n
    else (if c = a then [] else [(a, c - a)]) ++ runsWithout cs (c + 1) (a + n - c - 1)

/-- The cells that the health map lists (R337, R543). -/
def unusableCells (s : State) : List Nat :=
  sortBy (fun a b => decide (a ≤ b)) ((s.boot.health.filter fun h => h.kind = 4).map (·.num)).eraseDups

/-- A slice's ring holds every cell of the slice that is not retired; its cache is filled once (R337, R338). -/
def fillSlice (i : Nat) (s : State) : State :=
  let bad := (unusableCells s).filter fun c => decide (c / 32768 = i)
  ashRefillOp i (modSlice i (fun _ => { ring := runsWithout bad (32768 * i) 32768, retired := bad.length }) s)

/-- Step 9: the ash rings are filled, the reserves sized. -/
def stepNine (s : State) : State :=
  sizeReserves (forEach (List.range 16) fillSlice (modBuf (fun b => { b with alloc := [], toReturn := [] }) s))

/-! ### The start tick (R409, R512, R514) -/

/-- The published halves of ember seeds take S as their PUB_TICK (R510). -/
def seedsTake (s : State) : State :=
  let t := s.clk.tick
  modTbl (fun x => { x with embers := x.embers.map fun e =>
    (e.1, { e.2 with pubs := e.2.pubs.map fun p => if p.1 = 0 then (t, p.2) else p,
                     lastPub := if e.2.pubs.any fun p => p.1 = 0 then some t else e.2.lastPub }) }) s

/-- The lanes whose ENABLE was held are enabled. -/
def releaseLanes (s : State) : State :=
  let ls := sortBy (fun a b => decide (a ≤ b)) s.boot.enables
  forEach ls (fun l t => linkJudgeLane l (laneStart l (regSetFld .LANE_MODE l 4 4 1 t))) (modBoot (fun b => { b with enables := [] }) s)

/-- A start tick is named: event 0x1B06 carries it (R512, R514). -/
def nameStart (t : Nat) (s : State) : State :=
  raiseEv 0x1B06 0 (w4 t) (modBoot (fun b => { b with startS := some t }) s)

/-- Forwarding is enabled at the current tick, for the first time since the start: the pending image becomes active, the held
lanes are enabled (R512). -/
def beginForwarding (s : State) : State :=
  let s1 := modClk (fun c => { c with forwarding := true }) s
  let before := match s.boot.startS with
    | some x => decide (x < s.clk.tick)
    | none => false
  if isSafe s || s.pwr.thermtrip then s
  else if before then s1
  else
    let s0 := if s.boot.startS.isNone then nameStart s.clk.tick s1 else s1
    let s2 := seedsTake (modBoot (fun b => { b with startS := some s.clk.tick, step := 11, pairWait := none }) s0)
    let s3 := match s2.prog.pendingImg with
      | some img => if s2.prog.actAt.isNone then activateImage img s2 else s2
      | none => s2
    noteCapacity (releaseLanes s3)

/-- FORWARDING_START (R512): the start tick has come. -/
def forwardingDue (s : State) : State :=
  match s.boot.startS with
  | some t => if t = s.clk.tick ∧ !s.clk.forwarding ∧ s.twin.st = .solo then beginForwarding s else s
  | none => s

/-! ### Commands -/

/-- FORWARDING_START (R512). -/
def execForwardingStart (s : State) : Host.Outcome State Fault Refusal := .next (forwardingDue s)

end Sys2Proof.Machine
end

