-- ==== Sys2Proof/Machine/Snap.lean ====
section
/-! DEFINITION. The snapshot of a resynchronisation (R427 to R432, Tables TWIN-13, TWIN-16 and TWIN-17): what the source sends,
how the joiner applies it, placeholders, clear lanes. Items at their reset state are not sent in the bulk: the joiner starts
from that state (notes/assumptions/42.md). -/

namespace Sys2Proof.Machine

/-! ### Item bodies (Table TWIN-17) -/

/-- Eight signed bytes. -/
def s8 (x : Int) : List Byte := leBytes 8 (x % 2 ^ 64).toNat

/-- The record of R475 that writes `d` to an entry. -/
def recordOf (k : EntryKey) (d : Nat) : List Byte :=
  if k.tbl = 0 then wordBytes [k.key, d]
  else if k.tbl = 1 then
    let a := routeAddr k.key
    if routeV6 k.key then wordBytes [a / 2 ^ 64, a % 2 ^ 64, d] else wordBytes [a, 0, d]
  else wordBytes [k.key, d]

/-- KIND 1: the TABLE_READ result of an entry by physical index. -/
def tableItem (s : State) (code i : Nat) : List Byte :=
  let empty := readHead 0 0 0 0 i ++ List.replicate (readLen code - 16) 0
  if code = 0 then
    match List.find? (fun e : Nat × Station => decide (e.1 = i)) s.tbl.stations with
    | some e => readBytes s 0 [e.2.key]
    | none => empty
  else if code = 1 then
    match List.find? (fun e : Nat × Route => decide (e.1 = i)) s.tbl.routes with
    | some e =>
      let d := e.2.len * 2 ^ 48 + b2n e.2.v6 * 2 ^ 60
      readBytes s 1 (if e.2.v6 then [e.2.addr / 2 ^ 64, e.2.addr % 2 ^ 64, d] else [e.2.addr, 0, d])
    | none => empty
  else readBytes s code [i, 0]

/-- KIND 2: an ember record. -/
def emberItem (s : State) (r : Nat) : List Byte :=
  let e := emberOf s r
  let p := pubAt e s.clk.tick
  let q := if p.1 = 0 then (0, List.replicate 32 0) else pubBefore e p.1
  let sch := (e.sched.toList ++ e.hostSched.map fun h => (h.1, h.2.1)).headD (0, List.replicate 32 0)
  leBytes 8 (headerAt s r s.clk.tick) ++ e.priv ++ e.staging ++ p.2 ++ q.2 ++ leBytes 8 p.1 ++ leBytes 8 q.1 ++ leBytes 8 sch.1 ++ sch.2

/-- The key of the counter pair of a KIND 3 item. -/
def counterItemKey (code i : Nat) : Nat := if code = 14 then i else fixedKey (i / 2 ^ 24) (i % 2 ^ 24)

/-- KIND 5, CODE 0: the MAC state of a port. -/
def macItem (s : State) (p : Nat) : List Byte :=
  let x := portOf s p
  leBytes 8 x.pauseExp ++ (List.range 8).flatMap (fun k => leBytes 8 (FMap.get 0 x.pfcExp k))
    ++ leBytes 2 (b2n x.pauseStorm + 2 * x.pfcStorm) ++ leBytes 1 x.ctThresh ++ [0] ++ leBytes 4 x.decay
    ++ leBytes 1 (if x.txLpi then 1 else if s.clk.tick < x.wakeUntil then 2 else 0) ++ [0, 0, 0] ++ leBytes 8 x.wakeUntil
    ++ leBytes 8 x.lastDown ++ leBytes 8 x.lastUp ++ leBytes 4 x.flaps.length ++ [0, 0, 0, 0]
    ++ (List.range 16).flatMap fun i => leBytes 8 (x.flaps.getD i 0)

/-- KIND 5, CODE 1: the scheduler state of a port. -/
def schedItem (s : State) (p : Nat) : List Byte :=
  let x := schedOf s p
  s8 x.credit ++ s8 x.shaper ++ (List.range 8).flatMap (fun u => s8 (FMap.get 0 x.minB u))
    ++ (List.range 8).flatMap (fun u => s8 (FMap.get 0 x.maxB u)) ++ (List.range 8).flatMap (fun u => leBytes 4 (FMap.get 0 x.deficit u))
    ++ leBytes 1 x.rr ++ List.replicate 7 0

/-- The descriptor number of a frame. -/
def descOf (f : Nat) : Nat := f % 2 ^ 32

/-- The edited length of a copy as a PLACEHOLDER gives it. -/
def copyEdited (s : State) (c : Copy) : Nat :=
  match c.kind with
  | .mirror m => if isPlaceholder c.frame then c.orig
      else (mirrorFrame s m c (((storedOf s c.frame).map (·.colour)).getD 0)).length + 4
  | _ => copyLen s c

/-- The PLACEHOLDER body (Table TWIN-8). Bits [14:0] of the owner word hold the owner, [21:15] and [28:22] the cells charged to
the minimum and to the shared pool; the rest of the frame's cells are headroom (notes/assumptions/41.md). -/
def placeholderBody (s : State) (q f cells len : Nat) : List Byte :=
  let w := match storedOf s f with
    | some x => x.owner + x.cMin * 2 ^ 15 + x.cShared * 2 ^ 22
    | none => 0
  leBytes 4 q ++ leBytes 2 cells ++ leBytes 2 len ++ leBytes 4 w ++ leBytes 4 (descOf f)

/-- KIND 6: a queue. -/
def queueItem (s : State) (q : Nat) : List Byte :=
  let x := queueOf s q
  leBytes 4 x.depth ++ leBytes 4 x.banked
    ++ (x.copies ++ x.bank).flatMap fun c => placeholderBody s q c.frame c.cells (copyEdited s c)

/-- KIND 7: an owner. -/
def ownerItem (s : State) (o : Nat) : List Byte :=
  let x := ownerOf s o
  leBytes 4 x.minUsed ++ leBytes 4 x.shUsed ++ leBytes 4 x.hdUsed ++ leBytes 1 (b2n x.fc) ++ [0, 0, 0]

/-- The frame of a descriptor number. -/
def frameOfDesc (s : State) (d : Nat) : Option Stored :=
  (List.find? (fun e : Nat × Option Stored => decide (descOf e.1 = d)) s.buf.frames).bind (·.2)

/-- KIND 8: a replication descriptor. -/
def descItem (s : State) (d : Nat) : List Byte :=
  match frameOfDesc s d with
  | none => List.replicate 20 0
  | some x => leBytes 4 x.refs ++ leBytes 2 x.owner ++ [0, 0] ++ leBytes 4 x.cMin ++ leBytes 4 x.cShared ++ leBytes 4 x.cHdrm

/-- The member index of a residue copy: the first member of its group with the copy's queue. -/
def memberOfQueue (s : State) (g q : Nat) : Nat :=
  let d := mcGroupAt s g s.clk.tick
  let i := (List.range (fld d 30 19)).find? fun i =>
    let m := mcMemberAt s (fld d 18 0 + i) s.clk.tick
    decide (uqOf (fld m 10 0) (fld m 13 11) = q)
  fld d 18 0 + i.getD 0

/-- KIND 9: a residue entry. -/
def residueItem (s : State) (i : Nat) : List Byte :=
  match s.buf.residue[i]? with
  | none => List.replicate 24 0
  | some r => leBytes 2 r.group ++ [0, 0] ++ leBytes 4 (memberOfQueue s r.group r.queue) ++ leBytes 8 r.entered
      ++ leBytes 4 (descOf r.frame) ++ [0, 0, 0, 0]

/-- The changes that KIND 10, CODE 0 carries: queued ones, and pending ones whose entry has no place yet; the way that an insertion behind
an eviction waits for is its physical index (R282). Filter words follow from the routes. -/
def queuedChanges (s : State) : List (EntryKey × Nat × Nat × Nat) :=
  (s.tbl.changes.filter fun c => decide (c.key.tbl ≤ 11)).flatMap fun c =>
    let v := (verOf s c.key).new
    let i := physIndex s c.key
    let first := if c.waiting || (!c.applied && decide (i = 0xFFFFFFFF)) then [(c.key, c.place.getD i, c.eff, pendingData v c.parts)] else []
    first ++ match c.queued with
      | some (e, ps) => [(c.key, i, e, pendingData (pendingData v c.parts) ps)]
      | none => []

/-- KIND 10, CODE 0: a change queue entry. -/
def changeItem (s : State) (i : Nat) : List Byte :=
  match (queuedChanges s)[i]? with
  | none => List.replicate 16 0
  | some x => leBytes 2 x.1.tbl ++ [0, 0] ++ leBytes 4 x.2.1 ++ leBytes 8 x.2.2.1 ++ recordOf x.1 x.2.2.2

/-- The register copies of a TCAM slot, in the order of KIND 10, CODE 2. -/
def slotItem (s : State) (b : Nat) : List Byte :=
  (List.range 16).flatMap (fun c => leBytes 4 (courseVal s b c))
    ++ (List.range 16).flatMap fun p => leBytes 4 (profVal s b p) ++ (List.range 40).flatMap fun k => leBytes 4 (selVal s b p k)

/-- KIND 10. -/
def deviceItem (s : State) (code i : Nat) : List Byte :=
  match code with
  | 0 => changeItem s i
  | 1 => leBytes 4 s.tbl.evictX
  | 2 => leBytes 4 (regNow s .TCAM_TXN_STATUS 0).toNat ++ [0, 0, 0, 0] ++ leBytes 8 s.tcam.txnE ++ slotItem s 0 ++ slotItem s 1
  | 3 => s8 s.buf.recircCredit
  | 4 => leBytes 4 (sessionOf s i).count ++ leBytes 2 (sessionOf s i).seq ++ [0, 0]
  | _ => leBytes 2 s.time.nextTsid ++ [0, 0]

/-- The body of an item as it stands. -/
def itemBody (s : State) (kind code i : Nat) : List Byte :=
  match kind with
  | 1 => tableItem s code i
  | 2 => emberItem s i
  | 3 => let p := pairOf s (counterItemKey code i); leBytes 8 p.1 ++ leBytes 8 p.2
  | 4 => leBytes 4 (barWord s (code * 0x100000 + i)).toNat
  | 5 => match code with
    | 0 => macItem s i
    | 1 => schedItem s i
    | _ => match hearthAt s i with
      | some (l, c) => leBytes 4 (FMap.get 0 (laneOf s l).eseq c) ++ [0, 0, 0, 0]
      | none => List.replicate 8 0
  | 6 => queueItem s i
  | 7 => ownerItem s i
  | 8 => descItem s i
  | 9 => residueItem s i
  | _ => deviceItem s code i

/-- The counter items: class 15 holds the fixed classes 0 to 12. -/
def counterItems (s : State) : List (Nat × Nat × Nat) :=
  s.egr.counters.filterMap fun e =>
    if e.1 < 2 ^ 32 then some (3, 14, e.1)
    else if e.1 / 2 ^ 32 - 1 ≤ 12 then some (3, 15, (e.1 / 2 ^ 32 - 1) * 2 ^ 24 + e.1 % 2 ^ 24) else none

/-- The registers of the agreed blocks 1 to 8 with an RW field that do not hold their reset value. -/
def regItems (s : State) : List (Nat × Nat × Nat) :=
  s.regs.vals.filterMap fun e =>
    let hasRw : Bool := match Reg.find e.1 with
      | some (r, _) => decide (r.info.rw ≠ 0)
      | none => false
    if hasRw && decide (1 ≤ blockOf e.1 ∧ blockOf e.1 ≤ 8) then some (4, blockOf e.1, e.1 % 0x100000) else none

/-- The items that are not in their reset state (Table TWIN-13). -/
def itemKeys (s : State) : List (Nat × Nat × Nat) :=
  let at_ {α : Type} (kind code : Nat) (m : FMap α) : List (Nat × Nat × Nat) := m.map fun e => (kind, code, e.1)
  at_ 1 0 s.tbl.stations ++ at_ 1 1 s.tbl.routes ++ at_ 1 2 s.tbl.nexthops ++ at_ 1 3 s.tbl.groups ++ at_ 1 4 s.tbl.members
    ++ at_ 1 5 s.tbl.headers ++ at_ 1 8 s.tcam.entries ++ at_ 1 10 s.buf.mcGroups ++ at_ 1 11 s.buf.mcMembers
    ++ at_ 1 12 s.egr.meters ++ at_ 1 13 s.egr.mirrors ++ at_ 2 0 s.tbl.embers ++ counterItems s ++ regItems s
    ++ at_ 5 0 s.ports ++ at_ 5 1 s.egr.sched ++ at_ 5 2 s.ports ++ at_ 8 0 (s.buf.frames.map fun e => (descOf e.1, ()))
    ++ at_ 6 0 s.buf.queues ++ at_ 7 0 s.buf.owners ++ (List.range s.buf.residue.length).map (fun i => (9, 0, i))
    ++ (List.range (queuedChanges s).length).map (fun i => (10, 0, i)) ++ [(10, 1, 0), (10, 2, 0), (10, 3, 0)]
    ++ at_ 10 4 s.egr.mirrors ++ [(10, 5, 0)]

/-- Every item as it stands. -/
def snapItems (s : State) : List ItemRec := (itemKeys s).map fun k => ⟨k.1, k.2.1, k.2.2, itemBody s k.1 k.2.1 k.2.2⟩

/-- An item record (Table TWIN-16). -/
def recordBytes (r : ItemRec) : List Byte := leBytes 1 r.kind ++ leBytes 1 r.code ++ leBytes 2 r.body.length ++ leBytes 4 r.index ++ r.body

/-- The items that have changed since they were last sent, as they stand now. -/
def changedItems (s : State) : List ItemRec :=
  let now := snapItems s
  let gone := s.twin.snapSent.filter fun o => !now.any fun r => decide (r.kind = o.kind ∧ r.code = o.code ∧ r.index = o.index)
  (now.filter fun r => !s.twin.snapSent.contains r)
    ++ (gone.map fun o => { o with body := itemBody s o.kind o.code o.index }).filter fun r => !s.twin.snapSent.contains r

/-- Send a SNAP_DATA body; version 2 carries it with its zero runs compressed (R407; notes/assumptions/168.md). -/
def sendBulk (b : List Byte) (s : State) : State :=
  if 2 ≤ s.twin.flueVer then flueSend 0x50 1 s.clk.tick (Config.zeroRunPack b) s else flueSend 0x50 0 s.clk.tick b s

/-- A SNAP_DATA body as it was before compression. -/
def bulkBody (s : State) (flags : Nat) (b : List Byte) : List Byte :=
  if 2 ≤ s.twin.flueVer ∧ tb flags 0 then Config.zeroRunExpand b else b

/-- Send a SNAP_LOG: tick 0 for an ember record's lane-ordered halves. -/
def sendLog (r : ItemRec) (s : State) : State := flueSend 0x51 0 (if r.kind = 2 then 0 else s.clk.tick) (recordBytes r) s

/-! ### The source (R427 to R432) -/

/-- The source's join tick is named and the whole snapshot sent (R427). -/
def snapStart (s : State) : State :=
  let j := s.clk.tick + regFld s .TWIN_SNAP_CFG 0 20 0
  let items := snapItems s
  forEach items (fun r => sendBulk (recordBytes r))
    (raiseEv 0x1808 0 (w4 j) (modTwin (fun t => { t with joinTick := some j, bulkAt := none, bulkSent := false, snapSent := items,
                                                         warmTick := none, goodDigests := 0, lanesOwed := [], effOwed := [] }) s))

/-- A frame was admitted before tick `j`. -/
def admittedBefore (s : State) (j f : Nat) : Bool :=
  match storedOf s f with
  | some x => decide (x.adm < j)
  | none => false

/-- R430: the lanes that hold tickets of invocations admitted before J, with their next ticket and the records concerned. -/
def owedLanes (s : State) : List (Nat × Nat × List Nat) :=
  (s.hob.tickets.filter fun e => decide (e.2.low < e.2.issued)).map fun e =>
    (e.1, e.2.issued, ((s.hob.flight.filter fun f => decide (f.emberLane = e.1)).filterMap (·.ember)
      ++ (s.tbl.laneOps.filter fun o => decide (o.lane = e.1)).map (·.record)).eraseDups)

/-- R430: at J, before its admissions, the source maps the lanes that are clear. -/
def mapLanes (s : State) : State :=
  let owed := owedLanes s
  let m := owed.foldl (fun b x => b - 2 ^ x.1) (2 ^ 262144 - 1)
  flueSend 0x52 1 s.clk.tick (leBytes 32768 m) (modTwin (fun t => { t with lanesOwed := owed }) s)

/-- The halves of the records of lanes that are not clear are logged as they change, then the lanes that have become clear are
named (R427, R430). -/
def logLanes (s : State) : State :=
  let recs := (s.twin.lanesOwed.flatMap (·.2.2)).eraseDups
  let items := (recs.map fun r => (⟨2, 0, r, itemBody s 2 0 r⟩ : ItemRec)).filter fun r => !s.twin.snapSent.contains r
  let s1 := forEach items sendLog (modTwin (fun t => { t with snapSent :=
    (t.snapSent.filter fun o => !items.any fun r => decide (r.kind = o.kind ∧ r.index = o.index)) ++ items }) s)
  let clear := s1.twin.lanesOwed.filter fun x => decide (x.2.1 ≤ (ticketsOf s1 x.1).low)
  forEach clear (fun x => flueSend 0x52 0 s1.clk.tick (leBytes 4 x.1))
    (modTwin (fun t => { t with lanesOwed := t.lanesOwed.filter fun x => !clear.contains x }) s1)

/-- The KIND 3 item of a counter pair; none for the classes 13 to 15, which a snapshot does not hold. -/
def counterItemOf (k : Nat) : List (Nat × Nat × Nat) :=
  if k < 2 ^ 32 then [(3, 14, k)] else if k / 2 ^ 32 - 1 ≤ 12 then [(3, 15, (k / 2 ^ 32 - 1) * 2 ^ 24 + k % 2 ^ 24)] else []

/-- The items that the retirement of a frame admitted before J touches: station and ember entries, meters, sessions, its descriptor. -/
def touchedItems (s : State) (f : Inflight) : List (Nat × Nat × Nat) :=
  let st (k : Nat) : List (Nat × Nat × Nat) := (stationAt s k).toList.map fun i => (1, 0, i)
  let r := f.result.getD {}
  (f.preHit.toList ++ r.hits).flatMap (fun h => st (stationKey h.1 h.2))
    ++ (match r.learn with
      | some (fid, mac, _) => st (stationKey fid mac)
      | none => [])
    ++ (if r.publish.isSome then f.ember.toList.map fun e => (2, 0, e) else [])
    ++ r.meters.map (fun m => (1, 12, m.1)) ++ r.mirrors.map (fun m => (10, 4, m))
    ++ [(8, 0, descOf f.id)]

/-- R431: the retirements `f` of a tick, of which the source notes what those of frames admitted before J change: their items, and the
counter pairs that the tick's retirements count in. -/
def noteRetirements (f : State → State) (s : State) : State :=
  match s.twin.source, s.twin.joinTick with
  | true, some j =>
    let due := (retireDue s).filter fun x => decide (x.adm < j)
    let s1 := f s
    if s.clk.tick < j ∨ due.isEmpty then s1
    else
      let counted := ((s1.egr.ctrPend.drop s.egr.ctrPend.length).flatMap fun u => counterItemOf u.2.1).eraseDups
      modTwin (fun t => { t with effOwed := t.effOwed ++ (due.flatMap (touchedItems s) ++ counted).map fun k => (s.clk.tick + 1, k) }) s1
  | _, _ => f s

/-- R431: the items noted are logged as changed. -/
def logRetirements (s : State) : State :=
  let due := s.twin.effOwed.filter fun x => decide (x.1 ≤ s.clk.tick)
  forEach (due.map (·.2)).eraseDups (fun k => sendLog ⟨k.1, k.2.1, k.2.2, itemBody s k.1 k.2.1 k.2.2⟩)
    (modTwin (fun t => { t with effOwed := t.effOwed.filter fun x => decide (s.clk.tick < x.1) }) s)

/-- The copies of frames admitted before `j`: queue, frame, cells, edited length. -/
def oldCopies (s : State) (j : Nat) : List (Nat × Nat × Nat × Nat) :=
  (s.buf.queues.flatMap fun e =>
    ((e.2.copies ++ e.2.bank).filter fun c => admittedBefore s j c.frame).map fun c => (e.1, c.frame, c.cells, copyEdited s c))
  ++ (s.buf.residue.filter fun r => admittedBefore s j r.frame).map fun r =>
    (r.queue, r.frame, r.cells, copyLen s { frame := r.frame, cells := r.cells })

/-- R431: the source sends a PLACEHOLDER for each copy of a frame admitted before J that `f` links, banks or puts on the residue
list. -/
def withPlaceholders (f : State → State) (s : State) : State :=
  match s.twin.source, s.twin.joinTick with
  | true, some j =>
    if j ≤ s.clk.tick then
      let s1 := f s
      let before := oldCopies s j
      forEach ((oldCopies s1 j).foldl (fun (a : List (Nat × Nat × Nat × Nat) × List (Nat × Nat × Nat × Nat)) x =>
          if a.2.contains x then (a.1, a.2.erase x) else (a.1 ++ [x], a.2)) ([], before)).1
        (fun x => flueSend 0x53 0 s1.clk.tick (placeholderBody s1 x.1 x.2.1 x.2.2.1 x.2.2.2)) s1
    else f s
  | _, _ => f s

/-- R432: everything that W waits for holds. -/
def warmReady (s : State) (j : Nat) : Bool :=
  decide (j ≤ s.clk.tick) && s.twin.warmTick.isNone && s.twin.bulkSent && s.twin.lanesOwed.isEmpty && s.twin.effOwed.isEmpty
    && decide (1024 ≤ s.twin.goodDigests) && !(s.hob.flight.any fun f => decide (f.adm < j))
    && !(s.buf.frames.any fun e => match e.2 with
      | some x => decide (x.adm < j)
      | none => false)

/-- The source's part of a tick once its decisions are made: the bulk, SNAP_END, the log, clear lanes, WARM_DONE. -/
def sourceStep (s : State) : State :=
  if !s.twin.source || s.twin.groups = 0 then s
  else
    match s.twin.joinTick with
    | none => match s.twin.bulkAt with
      | some t => if t ≤ s.clk.tick then snapStart s else s
      | none => s
    | some j =>
      let s1 := if s.twin.bulkSent || decide (j < s.clk.tick + 8) then s
        else flueSend 0x54 0 s.clk.tick (leBytes 8 j) (modTwin (fun t => { t with bulkSent := true }) s)
      if s.clk.tick < j then
        let items := changedItems s1
        forEach items sendLog (modTwin (fun t => { t with snapSent :=
          (t.snapSent.filter fun o => !items.any fun r => decide (r.kind = o.kind ∧ r.code = o.code ∧ r.index = o.index)) ++ items }) s1)
      else
        let s2 := logLanes (logRetirements s1)
        if warmReady s2 j then
          let w := s2.clk.tick + regFld s2 .TWIN_CFG 0 15 8
          flueSend 0x55 0 w [] (modTwin (fun t => { t with warmTick := some w }) s2)
        else s2

/-! ### The joiner: applying items (R428) -/

/-- The words of a record in a body. -/
def bodyWords (b : List Byte) (i n : Nat) : List Nat := (List.range n).map fun k => leAt b (i + 8 * k) 8

/-- Versions of an entry as a TABLE_READ result gives them: a pending change as such, a completing one with its completion. -/
def takeVersions (k : EntryKey) (eff st new old : Nat) (s : State) : State :=
  let s0 := dropChange k s
  if st = 0 then setVer k { old := old, new := new, eff := eff } s0
  else if st = 2 then
    putChange { key := k, eff := eff, done := eff + retDelay s, applied := true, parts := [], ageE := none, queued := none }
      (setVer k { old := old, new := new, eff := eff } s0)
  else if eff ≤ s.clk.tick then
    putChange { key := k, eff := eff, done := eff + retDelay s, applied := true, parts := [], ageE := none, queued := none }
      (setVer k { old := old, new := new, eff := eff } s0)
  else reach k eff [⟨2, 0, .write new⟩] (setVer k { old := old, new := old, eff := 0 } s0)

/-- KIND 1, CODE 0. -/
def takeStation (i : Nat) (b : List Byte) (s : State) : State :=
  let key := leAt b 16 8
  let s0 := match List.find? (fun e : Nat × Station => decide (e.1 = i)) s.tbl.stations with
    | some e => dropChange ⟨0, e.2.key⟩ s
    | none => s
  let s1 := modTbl (fun t => { t with stations := FMap.erase t.stations i }) s0
  if leAt b 24 8 = 0 ∧ leAt b 40 8 = 0 then s1
  else
    let e : Station := { key := key, hitEpoch := leAt b 48 2, moveCount := leAt b 50 1, moveStart := leAt b 52 4, lockEnd := leAt b 56 4 }
    takeVersions ⟨0, key⟩ (leAt b 0 8) (leAt b 8 1) (leAt b 24 8) (leAt b 40 8)
      (modTbl (fun t => { t with stations := FMap.put t.stations i e }) s1)

/-- KIND 1, CODE 1: the filter bit follows the route. -/
def takeRoute (i : Nat) (b : List Byte) (s : State) : State :=
  let d := leAt b 32 8
  let v6 := tb d 60
  let len := fld d 55 48
  let addr := if v6 then leAt b 16 8 * 2 ^ 64 + leAt b 24 8 else leAt b 16 8
  let k : EntryKey := ⟨1, routeKey v6 len addr⟩
  let s0 := match List.find? (fun e : Nat × Route => decide (e.1 = i)) s.tbl.routes with
    | some e =>
      let s1 := dropChange ⟨1, routeKey e.2.v6 e.2.len e.2.addr⟩ s
      modTbl (fun t => { t with routes := FMap.erase t.routes i })
        (if tb e.2.ver.new 59 then countRoute e.2.v6 e.2.len e.2.addr false s.clk.tick s1 else s1)
    | none => s
  if d = 0 ∧ leAt b 56 8 = 0 then s0
  else
    let s1 := takeVersions k (leAt b 0 8) (leAt b 8 1) d (leAt b 56 8)
      (modTbl (fun t => { t with routes := FMap.put t.routes i { v6 := v6, len := len, addr := addr } }) s0)
    if tb (verOf s1 k).new 59 then countRoute v6 len addr true (leAt b 0 8) s1 else s1

/-- KIND 1, CODE 8. -/
def takeTcam (i : Nat) (b : List Byte) (s : State) : State :=
  let f := leAt b 9 1
  let e : TcamEntry := { value := leVal (slice b 48 80), mask := leVal (slice b 128 80), width := fld (leAt b 24 8) 17 16,
                         prio := fld (leAt b 24 8) 15 0, action := leAt b 32 8, arg := leAt b 40 8, m0 := tb f 1, m1 := tb f 2 }
  modTcam (fun t => { t with entries := if e.m0 || e.m1 then FMap.put t.entries i e else FMap.erase t.entries i,
                             suppressed := (t.suppressed.filter fun x => x ≠ i) ++ (if tb f 0 then [i] else []) }) s

/-- KIND 1, CODE 12. -/
def takeMeter (i : Nat) (b : List Byte) (s : State) : State :=
  let o := bodyWords b 48 4
  let n := bodyWords b 16 4
  let d0 := o.getD 1 0
  modMeter i (fun _ => { cir := fld d0 27 0, mode := tb d0 28, valid := tb d0 63, pir := o.getD 2 0, cbs := fld (o.getD 3 0) 23 0,
                         ebs := fld (o.getD 3 0) 47 24, tc := leAt b 80 8 * bu, te := leAt b 88 8 * bu, last := leAt b 96 8,
                         pendE := if leAt b 8 1 = 0 then none else some (leAt b 0 8)
                         writes := if leAt b 8 1 = 0 then [] else [(0, n.getD 1 0, n.getD 2 0, n.getD 3 0)] }) s

/-- KIND 1. -/
def takeTable (code i : Nat) (b : List Byte) (s : State) : State :=
  match code with
  | 0 => takeStation i b s
  | 1 => takeRoute i b s
  | 8 => takeTcam i b s
  | 12 => takeMeter i b s
  | 13 => modSession i (fun x => { x with encap := bodyWords b 24 7 }) s
  | _ =>
    if code ≤ 5 ∨ code = 10 ∨ code = 11 then
      let cut (d : Nat) : Nat := if code = 5 then d % 2 ^ 32 else d
      takeVersions ⟨code, i⟩ (leAt b 0 8) (leAt b 8 1) (cut (leAt b 24 8)) (cut (leAt b 40 8)) s
    else s

/-- KIND 2. -/
def takeEmber (r : Nat) (b : List Byte) (s : State) : State :=
  let p := leAt b 128 8
  let q := leAt b 136 8
  let e := leAt b 144 8
  modEmber r (fun x => { x with
    priv := slice b 8 24, staging := slice b 32 32,
    pubs := (if p = 0 then [] else [(p, slice b 64 32)]) ++ (if q = 0 then [] else [(q, slice b 96 32)]),
    lastPub := if p = 0 then none else some p,
    sched := if e = 0 then none else some (e, slice b 152 32) }) s

/-- KIND 4: the RW fields of a register. -/
def takeRegAt (a : Nat) (b : List Byte) (s : State) : State :=
  match Reg.find a with
  | none => s
  | some (r, i) =>
    let old := regVal s r i
    let v := (old &&& ~~~r.info.rw) ||| (BitVec.ofNat 32 (leAt b 0 4) &&& r.info.rw)
    match r with
    | .LANE_MODE => laneModeEffect i v s
    | .LANE_CHMAP => chanMapWrite i v s
    | .STOVE_GROUP_CFG => groupCfgEffect i old (regSet r i v s)
    | .EGR_POLICY => policyWrite i v s
    | .TBL_ECMP_CFG => ecmpCfgWrite v s
    | _ => regSet r i v s

/-- The register of block `code` at offset `off` of the block. -/
def takeReg (code off : Nat) (b : List Byte) (s : State) : State := takeRegAt (code * 0x100000 + off) b s

/-- KIND 5, CODE 0. -/
def takeMac (p : Nat) (b : List Byte) (s : State) : State :=
  let t := s.clk.tick
  let down := leAt b 96 8
  let up := leAt b 104 8
  let on := decide (down < up)
  modPort p (fun x => { x with
    pauseExp := leAt b 0 8, pfcExp := (List.range 8).foldl (fun m k => FMap.set 0 m k (leAt b (8 + 8 * k) 8)) [],
    pauseStorm := tb (leAt b 72 2) 0, pfcStorm := leAt b 72 2 / 2, ctThresh := leAt b 74 1, decay := leAt b 76 4,
    txLpi := decide (leAt b 80 1 = 1), wakeUntil := leAt b 84 8, lastDown := down, lastUp := up,
    up := on, partnerUp := on, downL := if on ∨ down = 0 then none else some down,
    flushed := !on && decide (down = 0 ∨ down + ticksOfNs (regFld s .MAC_LINK_CFG p 6 0 * 1000000) ≤ t),
    flaps := (List.range (Nat.min 16 (leAt b 112 4))).map fun i => leAt b (120 + 8 * i) 8 }) s

/-- Eight signed bytes of a body. -/
def s8At (b : List Byte) (i : Nat) : Int := signed64 (leAt b i 8)

/-- KIND 5, CODE 1. -/
def takeSched (p : Nat) (b : List Byte) (s : State) : State :=
  let row (i : Nat) : FMap Int := (List.range 8).foldl (fun m u => FMap.set 0 m u (s8At b (i + 8 * u))) []
  modSched p (fun x => { x with credit := s8At b 0, shaper := s8At b 8, minB := row 16, maxB := row 80,
                                deficit := (List.range 8).foldl (fun m u => FMap.set 0 m u (leAt b (144 + 4 * u) 4)) [],
                                rr := leAt b 176 1 }) s

/-! ### The joiner: placeholders (R431) -/

/-- The frame number of a descriptor's placeholder. -/
def phFrame (d : Nat) : Nat := placeholderBase + d

/-- What a copy on a queue is, as far as the queue tells. -/
def phKind (q : Nat) : CopyKind :=
  if q < 16384 then .unicast else if q < 16448 then .trap 0 else if q < 16464 then .mirror (q - 16448) else .recirc 0

/-- The stored frame that stands for a placeholder's, made from a PLACEHOLDER body when there is none. -/
def phStored (b : List Byte) (x : Option Stored) : Stored :=
  let w := leAt b 8 4
  let cells := leAt b 4 2
  match x with
  | some y => { y with rx := { y.rx with wireLen := leAt b 6 2 } }
  | none => { rx := { wireLen := leAt b 6 2, owner := fld w 14 0 }, owner := fld w 14 0, cMin := fld w 21 15, cShared := fld w 28 22,
              cHdrm := cells - fld w 21 15 - fld w 28 22 }

/-- The copy of a PLACEHOLDER body. -/
def phCopy (b : List Byte) : Copy :=
  { frame := phFrame (leAt b 12 4), kind := phKind (leAt b 0 4), cells := leAt b 4 2, orig := leAt b 6 2 }

/-- Copies of a placeholder frame that the joiner holds. -/
def phHeld (s : State) (f : Nat) : Nat :=
  sumOf s.buf.queues (fun e => (e.2.copies.filter fun c => decide (c.frame = f)).length + (e.2.bank.filter fun c => decide (c.frame = f)).length)
    + (s.buf.residue.filter fun r => decide (r.frame = f)).length

/-- Count the copies of every placeholder frame again. -/
def phRecount (s : State) : State :=
  let go (e : Nat × Option Stored) : Nat × Option Stored :=
    if isPlaceholder e.1 then (e.1, e.2.map fun y => { y with copies := phHeld s e.1 }) else e
  modBuf (fun x => { x with frames := x.frames.map go }) s

/-- Split a queue's entries: the last ones, of `banked` cells together, are banked. -/
def splitBank (banked : Nat) (l : List Copy) : List Copy × List Copy :=
  let r := l.reverse.foldl (fun (a : Nat × List Copy × List Copy) c =>
    if c.cells ≤ a.1 then (a.1 - c.cells, a.2.1, c :: a.2.2) else (0, c :: a.2.1, a.2.2)) (banked, [], [])
  r.2

/-- The sixteen-byte entries of a KIND 6 body. -/
def queueEntries (b : List Byte) : List (List Byte) := (List.range ((b.length - 8) / 16)).map fun k => slice b (8 + 16 * k) 16

/-- KIND 6: every copy entry is a placeholder. -/
def takeQueue (q : Nat) (b : List Byte) (s : State) : State :=
  let es := queueEntries b
  let parts := splitBank (leAt b 4 4) (es.map phCopy)
  let s1 := forEach es (fun e t => putStored (phFrame (leAt e 12 4))
    (phStored e (storedOf t (phFrame (leAt e 12 4)))) t) s
  phRecount (modQueue q (fun _ => { copies := parts.1, bank := parts.2.map fun c => { c with fetched := true }, depth := leAt b 0 4,
                                    banked := leAt b 4 4 }) s1)

/-- KIND 8: before J the descriptor stands as sent; from J on it only falls, and at zero its charge is released (R431). -/
def takeDesc (d : Nat) (b : List Byte) (s : State) : State :=
  let f := phFrame d
  let refs := leAt b 0 4
  if s.twin.st = .warming then
    match storedOf s f with
    | none => s
    | some x =>
      if x.refs ≤ refs then s
      else if refs = 0 then
        let s1 := release (.owner x.owner x.cMin x.cShared x.cHdrm) s
        if phHeld s f = 0 then forgetStored f s1 else putStored f { x with refs := 0 } s1
      else putStored f { x with refs := refs } s
  else if refs = 0 then forgetStored f s
  else
    let x := (storedOf s f).getD {}
    putStored f { x with refs := refs, owner := leAt b 4 2, rx := { x.rx with owner := leAt b 4 2 }, cMin := leAt b 8 4,
                         cShared := leAt b 12 4, cHdrm := leAt b 16 4, copies := phHeld s f } s

/-- KIND 9: entry `i` of the residue list. -/
def takeResidue (i : Nat) (b : List Byte) (s : State) : State :=
  let m := mcMemberAt s (leAt b 4 4) s.clk.tick
  let f := phFrame (leAt b 16 4)
  let cells := match storedOf s f with
    | some x => x.cMin + x.cShared + x.cHdrm
    | none => 0
  let r : Residue := { frame := f, queue := uqOf (fld m 10 0) (fld m 13 11), cells := cells, group := leAt b 0 2, entered := leAt b 8 8,
                       rt := ticksOfNs (regFld s .BUF_MC_CFG 0 15 0 * 1000) }
  let l := s.buf.residue
  phRecount (modBuf (fun x => { x with residue := if leAt b 8 8 = 0 then l.take i
                                               else if i < l.length then l.set i r else l ++ [r] }) s)

/-- The queued change that the entry's KIND 1 item has already given: it waits, with its filter word where it toggles one (R268, R289). -/
def markQueued (k : EntryKey) (d i : Nat) (c : Change) (s : State) : State :=
  let at_ := if k.tbl = tcStation ∧ i ≠ 0xFFFFFFFF ∧ stationAt s k.key ≠ some i then some i else none
  match if k.tbl = tcRoute then toggledFilter (dropChange k s) k d else none with
  | none => putChange { c with waiting := true, place := at_ } s
  | some fk => syncWord fk.key (enqueue fk c.eff [⟨3, 0, .mark⟩] false (putChange { c with waiting := true, linked := true } s))

/-- KIND 10, CODE 0: a queued change follows the entry's change or is that change itself; one for an entry without a place waits for the
way that it names, or is pending. -/
def takeChange (b : List Byte) (s : State) : State :=
  let code := leAt b 0 2
  let rec_ := b.drop 16
  let ws := recordWords code rec_
  match checkRecord s code ws with
  | .error _ => s
  | .ok (k, d) =>
    let e := leAt b 8 8
    let i := leAt b 4 4
    if rec_.isEmpty then s
    else match changeOf s k with
      | some c =>
        if !c.applied && !isQueued c && decide (c.eff = e ∧ pendingData (verOf s k).new c.parts = d) then markQueued k d i c s
        else reach k e [⟨2, 0, .write d⟩] s
      | none =>
        let s1 := reach k e [⟨2, 0, .write d⟩] s
        if i = 0xFFFFFFFF then s1 else match changeOf s1 k with
          | some c => markQueued k d i c s1
          | none => s1

/-- KIND 10, CODE 2. -/
def takeTxn (b : List Byte) (s : State) : State :=
  let st := leAt b 0 4
  let slotAt (x : Nat) (k : Nat) : Nat := 16 + x * (64 + 16 * 164) + k
  let courses := (List.range 32).foldl (fun m i => FMap.set 0 m i (leAt b (slotAt (i / 16) (4 * (i % 16))) 4)) []
  let profs := (List.range 32).foldl (fun m i => FMap.set 0 m i (leAt b (slotAt (i / 16) (64 + 164 * (i % 16))) 4)) []
  let sels := (List.range 1280).foldl (fun m i =>
    FMap.set 0 m i (leAt b (slotAt (i / 640) (68 + 164 * (i % 640 / 40) + 4 * (i % 40))) 4)) []
  modTcam (fun t => { t with
    txn := (match st % 4 with
      | 0 => .idle
      | 1 => .open
      | 2 => .committed
      | _ => .completing),
    slot := st / 4 % 2, txnId := st / 2 ^ 16, txnE := leAt b 8 8, courses := courses, profs := profs, sels := sels }) s

/-- KIND 10. -/
def takeDevice (code i : Nat) (b : List Byte) (s : State) : State :=
  match code with
  | 0 => takeChange b s
  | 1 => modTbl (fun t => { t with evictX := leAt b 0 4 }) s
  | 2 => takeTxn b s
  | 3 => modBuf (fun x => { x with recircCredit := s8At b 0 }) s
  | 4 => modSession i (fun x => { x with count := leAt b 0 4, seq := leAt b 4 2 }) s
  | 5 => modTime (fun u => { u with nextTsid := leAt b 0 2 }) s
  | _ => s

/-- Apply one item record; one of a KIND or CODE that Table TWIN-17 does not list is skipped. -/
def takeItem (r : ItemRec) (s : State) : State :=
  let b := r.body
  match r.kind with
  | 1 => takeTable r.code r.index b s
  | 2 => if r.code = 0 then takeEmber r.index b s else s
  | 3 =>
    if r.code = 14 ∨ (r.code = 15 ∧ r.index / 2 ^ 24 ≤ 12) then pairSet (counterItemKey r.code r.index) (leAt b 0 8) (leAt b 8 8) s else s
  | 4 =>
    if 1 ≤ r.code ∧ r.code ≤ 8 then
      takeReg r.code r.index b (modTwin (fun t => { t with snapSent := t.snapSent ++ [{ r with body := [] }] }) s)
    else s
  | 5 => match r.code with
    | 0 => takeMac r.index b s
    | 1 => takeSched r.index b s
    | 2 => match hearthAt s r.index with
      | some (l, c) => modLane l (fun x => { x with eseq := FMap.set 0 x.eseq c (leAt b 0 4) }) s
      | none => s
    | _ => s
  | 6 => if r.code = 0 then takeQueue r.index b s else s
  | 7 => if r.code = 0 then modOwner r.index (fun _ => ⟨leAt b 0 4, leAt b 4 4, leAt b 8 4, decide (leAt b 12 1 = 1)⟩) s else s
  | 8 => if r.code = 0 then takeDesc r.index b s else s
  | 9 => if r.code = 0 then takeResidue r.index b s else s
  | 10 => takeDevice r.code r.index b s
  | _ => s

/-- The item records of a body. -/
def itemsOf : Nat → List Byte → List ItemRec
  | 0, _ => []
  | n + 1, b =>
    if b.length < 8 then []
    else
      let len := leAt b 2 2
      ⟨leAt b 0 1, leAt b 1 1, leAt b 4 4, slice b 8 len⟩ :: itemsOf n (b.drop (8 + len))

/-- A joiner applies the records of a body in order (R427, R428). -/
def takeItems (b : List Byte) (s : State) : State :=
  if s.twin.st = .syncing || s.twin.st = .warming then
    let r := forEach (itemsOf (b.length / 8) b) takeItem s
    modBuf (fun x => { x with sharedUsed := sumOf x.owners fun e => e.2.shUsed }) r
  else s

/-- R431: a placeholder is linked, banked or put on the residue list as its source did, and its frame is charged when it is new. -/
def linkPlaceholder (b : List Byte) (s : State) : State :=
  let q := leAt b 0 4
  let c := phCopy b
  let old := storedOf s c.frame
  let x := phStored b old
  let s0 := putStored c.frame { x with refs := x.refs + 1, copies := x.copies + 1 } s
  let s1 := if old.isNone then chargeOwner x.owner x.cMin x.cShared x.cHdrm s0 else s0
  let y := queueOf s1 q
  if 16384 ≤ q then linkCopy q c s1
  else if 0 < y.banked ∨ (regBit s .BUF_QUEUE_CFG q 20 ∧ regFld s .BUF_QUEUE_BANK q 15 0 < y.depth + c.cells ∧ bankPossible s1 q c.cells) then
    bankCopy q c s1
  else if y.depth + c.cells ≤ queueMax s q then linkCopy q c s1
  else modBuf (fun z => { z with residue := z.residue ++
    [⟨c.frame, q, c.cells, 0, s.clk.tick, ticksOfNs (regFld s .BUF_MC_CFG 0 15 0 * 1000)⟩] }) s1

/-- Placeholders whose link tick has come. -/
def placeholdersDue (s : State) : State :=
  forEach (s.twin.placeWait.filter fun x => decide (x.1 ≤ s.clk.tick)) (fun x => linkPlaceholder x.2)
    (modTwin (fun t => { t with placeWait := t.placeWait.filter fun x => decide (s.clk.tick < x.1) }) s)

/-- A PLACEHOLDER: linked at its link tick, at once when that has come. -/
def placeholderReceive (tick : Nat) (b : List Byte) (s : State) : State :=
  if s.twin.st ≠ .warming ∧ s.twin.st ≠ .syncing then s
  else if tick ≤ s.clk.tick then linkPlaceholder b s
  else modTwin (fun t => { t with placeWait := t.placeWait ++ [(tick, b)] }) s

/-- R430: the map of clear lanes at J, or one more clear lane. -/
def laneCleared (map : Bool) (b : List Byte) (s : State) : State :=
  if map then
    let lanes := (b.zipIdx.filter fun x => x.1 ≠ 0xFF).flatMap fun x =>
      (List.range 8).filterMap fun k => if x.1.getLsbD k then none else some (8 * x.2 + k)
    modTwin (fun t => { t with clearAll := true, unclear := lanes }) s
  else modTwin (fun t => { t with unclear := t.unclear.filter fun l => l ≠ leAt b 0 4 }) s

/-! ### The joiner: its own state (R426, R429) -/

/-- A joiner starts without frames, tables, counters and accounts of its own; lanes, health, power and time stay. -/
def clearPath (s : State) : State :=
  let h := s.hob
  let s1 : State := { s with
    tbl := { auditTbl := s.tbl.auditTbl, auditIdx := s.tbl.auditIdx, auditPasses := s.tbl.auditPasses }
    tcam := { posMap := s.tcam.posMap, unavailable := s.tcam.unavailable, failedBricks := s.tcam.failedBricks, moves := s.tcam.moves,
              scrubPos := s.tcam.scrubPos, scrubPasses := s.tcam.scrubPasses, brickMism := s.tcam.brickMism }
    egr := { stats := s.egr.stats, bytesMoved := s.egr.bytesMoved, activeTicks := s.egr.activeTicks, image := s.egr.image,
             imageDue := s.egr.imageDue }
    buf := { slices := s.buf.slices, rxReserve := s.buf.rxReserve, ownerPool := s.buf.ownerPool, sharedSize := s.buf.sharedSize }
    hob := { stoves := h.stoves.map (fun e => (e.1, { e.2 with queue := [], timerQueue := [] })), groups := h.groups, homeBase := h.homeBase,
             homeExc := h.homeExc, lateOwn := [], latePartner := h.latePartner }
    adm := { s.adm with arrived := [], own := [], relayPart := [], missed := [], capAt := s.adm.capAt.filter fun c => !c.2.1 }
    ports := s.ports.map fun e => (e.1, { e.2 with tx := [], ctRaiseAt := [], emptyFrom := s.clk.tick })
    writes := [] }
  stepNine (modTwin (fun t => { t with recAdmit := [], recRetire := [], recGrant := [], recWrite := [], digests := [], partnerDigests := [],
                                       snapSent := [], placeWait := [], frameOrder := [], grantCount := [] }) s1)

/-- At J the RW fields of registers that the source does not hold return to reset. -/
def dropUnsent (s : State) : State :=
  let sent (a : Nat) : Bool := s.twin.snapSent.any fun r => decide (r.code * 0x100000 + r.index = a)
  forEach (regItems s) (fun k t =>
    let a := k.2.1 * 0x100000 + k.2.2
    if sent a then t else match Reg.find a with
      | some (r, _) => takeReg k.2.1 k.2.2 (leBytes 4 r.info.reset.toNat) t
      | none => t) s

/-! ### Commands -/

/-- SNAP_DATA (R407, R428). -/
def execSnapData (flags : Nat) (records : List Byte) (s : State) : Host.Outcome State Fault Refusal :=
  .next (takeItems (bulkBody s flags records) (hearNow s))

/-- SNAP_LOG (R427). -/
def execSnapLog (_tick : Nat) (record : List Byte) (s : State) : Host.Outcome State Fault Refusal := .next (takeItems record (hearNow s))

/-- LANE_CLEAR (R430). -/
def execLaneClear (map : Bool) (body : List Byte) (s : State) : Host.Outcome State Fault Refusal :=
  .next (laneCleared map body (hearNow s))

/-- PLACEHOLDER (R431). -/
def execPlaceholder (tick : Nat) (body : List Byte) (s : State) : Host.Outcome State Fault Refusal :=
  .next (placeholderReceive (fullTick s tick) body (hearNow s))

end Sys2Proof.Machine
end

