-- ==== Sys2Proof/Machine/Twin.lean ====
section
/-! DEFINITION. Twin operation (chapter 12): pairing, the state machine, the flue link, digests, failover, role swap,
resynchronisation, TWIN_CMD. -/

namespace Sys2Proof.Machine

/-! ### States (R410, R424) -/

/-- Change the twin's state: event 0x1801 (R410). -/
def setState (st : TwinState) (s : State) : State :=
  if s.twin.st = st then s
  else raiseEv 0x1801 0 (w2 (twinCode s.twin.st) ++ w2 (twinCode st) ++ w4 s.clk.tick)
    (modTwin (fun t => { t with st := st, stSince := s.clk.tick, soloBy411 := false }) s)

/-- What a twin of no pair forgets of its partner. -/
def unpair (t : Twin) : Twin :=
  { t with flueVer := 0, feature := 2, source := false, fault := none, partnerFault := none, swapReq := none, swapAsked := false,
           joinTick := none, warmTick := none, bulkAt := none, bulkSent := false, failNow := none, snapSent := [], lanesOwed := [],
           effOwed := [], placeWait := [], digests := [], partnerDigests := [], clearAll := true, unclear := [], bySilence := false }

/-- H and Q of the partner no longer count (R134). -/
def dropPartnerCapacity (s : State) : State :=
  modAdm (fun a => { a with partnerH := none, partnerQ := none, capAt := a.capAt.filter fun c => !c.2.1 }) s

/-- Enter DIVERGED: nothing is forwarded any more (R424). The partner goes on alone. -/
def enterDiverged (s : State) : State :=
  dropPartnerCapacity (modTwin (fun t => { unpair t with partnerState := 0 })
    (setState .diverged (modClk (fun c => { c with forwarding := false }) s)))

/-! ### Pairing: HELLO (R405 to R408) -/

/-- Pairing is enabled and the flue link up (R404). -/
def mayPair (s : State) : Bool :=
  regBit s .TWIN_CFG 0 0 && decide (s.twin.groups ≠ 0) && tb s.pwr.ready 27 && !isSafe s && decide (10 ≤ s.boot.step)

/-- The rates of the enabled solo ports that this twin owns, in Gb/s (Table TWIN-3); lanes whose ENABLE waits for the start tick (R512)
count too. -/
def soloRate (s : State) : Nat :=
  sumOf (s.lanes.filter fun e => e.2.port.isSome && e.2.wired && (laneOn s e.1 || s.boot.enables.contains e.1)) (fun e => plainRate (laneMode s e.1)) / 10

/-- The HELLO body (Table TWIN-3). -/
def helloBody (s : State) (nonce : List Byte) : List Byte :=
  let flags := b2n s.twin.side + 2 * b2n s.clk.forwarding + 4 * b2n s.twin.role + 8 * b2n s.twin.written
  leBytes 1 1 ++ leBytes 1 2 ++ leBytes 1 2 ++ leBytes 1 flags ++ [0xA1, 3, 0, 0] ++ slice s.fuses.identity 0 16
    ++ leBytes 2 (admDelay s) ++ leBytes 2 (retDelay s) ++ leBytes 4 (regVal s .TBL_EVICT_SEED 0).toNat
    ++ slice ((s.prog.active.map (·.hash)).getD []) 0 48 ++ slice s.boot.mapHash 0 48 ++ slice nonce 0 32 ++ leBytes 2 (soloRate s)
    ++ slice s.boot.initHash 0 14

/-- A HELLO's flags: side, forwarding, role, written. -/
def helloFlag (b : List Byte) (i : Nat) : Bool := tb (leAt b 3 1) i

/-- A twin is chosen master before the other (R408); `a` and `b` are their HELLO bodies. -/
def masterOver (a b : List Byte) : Bool :=
  if helloFlag a 1 != helloFlag b 1 then helloFlag a 1
  else if helloFlag a 1 then helloFlag a 2 && !helloFlag b 2
  else !helloFlag a 0

/-- R409: the pair makes a cold start. -/
def isCold (a b : List Byte) : Bool :=
  !helloFlag a 1 && !helloFlag b 1 && !helloFlag a 3 && !helloFlag b 3 && slice a 162 14 = slice b 162 14

/-- Begin a pairing try: send HELLO with a fresh nonce. -/
def startPairing (nonce : List Byte) (s : State) : State :=
  let b := helloBody s nonce
  flueSend 0x01 0 s.clk.tick b (modTwin (fun t => { t with pair := { t.pair with
    nonce := slice nonce 0 32, started := some s.clk.tick, sentHello := b, hello := [], passed := false, syncTick := none, synced := false,
    coldAt := none, retryAt := none } }) s)

/-- R406: pairing is refused; the next try follows after 1 s. A twin alone operates at its own feature level (R239, R407). -/
def pairRefuse (reason : Nat) (s : State) : State :=
  let s1 := raiseEv 0x1802 0 (w2 reason ++ slice s.twin.pair.hello 8 16)
    (modTwin (fun t => { t with lastRefusal := reason, flueVer := 0, feature := 2, pair := { t.pair with
      started := none, hello := [], passed := false, syncTick := none, synced := false, coldAt := none,
      retryAt := some (s.clk.tick + ticksOfNs 1000000000) } }) s)
  if s.twin.st = .pairing then setState .solo s1 else s1

/-- The pairing key K_P: the key store slot that the twin settings name, when it holds a key of usage 1 (R405, R519). -/
def pairKey (s : State) : Option (List Byte) :=
  match FMap.get none s.boot.keys s.boot.kpSlot with
  | some (k, u) => if u = 1 then some k else none
  | none => none

/-- The side A HELLO body followed by the side B HELLO body (R405). -/
def bothHellos (s : State) : List Byte :=
  if s.twin.side then s.twin.pair.hello ++ s.twin.pair.sentHello else s.twin.pair.sentHello ++ s.twin.pair.hello

/-- Send CONFIRM (R405). A twin without the key sends a tag of zeros, so that both twins refuse with AUTH (R406;
notes/assumptions/166.md). -/
def sendConfirm (s : State) : State :=
  match pairKey s with
  | none => flueSend 0x02 0 s.clk.tick (List.replicate 16 0) s
  | some k => flueSend 0x02 0 s.clk.tick (gcmTag k (slice s.twin.pair.nonce 0 12) (bothHellos s) []) s

/-- A source's attempt ends: its joiner pairs anew. -/
def endSource (s : State) : State :=
  if s.twin.source then modTwin (fun t => { t with source := false, flueVer := 0, feature := 2, joinTick := none, warmTick := none, bulkAt := none, bulkSent := false,
                                                   snapSent := [], lanesOwed := [], effOwed := [], failNow := none }) s else s

/-- A HELLO is received (R405, R406, R410): the twin's own try begins if none is under way; SAME_SIDE and FLUE_VERSION are judged,
then CONFIRM is sent. -/
def helloReceive (body nonce : List Byte) (s : State) : State :=
  if !mayPair s || body.length ≠ 176 || (s.twin.st ≠ .solo && s.twin.st ≠ .pairing) then s
  else
    let s1 := endSource (hearNow s)
    let own := s1.twin.pair.started.isSome && s1.twin.pair.hello.isEmpty
    let s2 := if own then s1 else startPairing nonce s1
    let s3 := modTwin (fun t => { t with pair := { t.pair with hello := body } }) s2
    let s4 := if s3.twin.st = .solo ∧ !s3.clk.forwarding then setState .pairing s3 else s3
    if helloFlag body 0 = s.twin.side then pairRefuse 0x01 s4
    else if Nat.min 2 (leAt body 1 1) < Nat.max 1 (leAt body 0 1) then pairRefuse 0x02 s4
    else sendConfirm s4

/-- The first reason of Table TWIN-4 after AUTH that applies. -/
def refusalAfterAuth (s : State) : Option Nat :=
  let a := s.twin.pair.sentHello
  let b := s.twin.pair.hello
  let master := masterOver a b
  let zero := List.replicate 48 (0 : Byte)
  let pa := slice a 32 48
  let pb := slice b 32 48
  let solo := leAt a 160 2 + leAt b 160 2
  if (match s.prog.active with
      | some i => decide (Nat.min 2 (leAt b 2 1) < i.feature)
      | none => false) then some 0x04
  else if slice a 24 4 ≠ slice b 24 4 then some 0x05
  else if slice a 80 48 ≠ slice b 80 48 then some 0x06
  else if pa ≠ pb ∧ ((pa ≠ zero ∧ pb ≠ zero) ∨ (if master then pb else pa) = zero) then some 0x07
  else if slice a 28 4 ≠ slice b 28 4 then some 0x08
  else if 400 < solo ∨ (solo ≠ 0 ∧ leAt a 24 2 < 16) then some 0x09
  else if (helloFlag a 1 && helloFlag b 1 && helloFlag a 2 = helloFlag b 2) || (s.boot.byHand && master) then some 0x0A
  else if master && !isCold a b && s.prog.actAt.isSome then some 0x0B
  else none

/-- The session key and the salts (R405). -/
def sessionKeys (k : List Byte) (s : State) : State :=
  let n := bothHellos s
  let d := sha384 (k ++ slice n 128 32 ++ slice n 304 32
    ++ [0x66, 0x6C, 0x75, 0x65, 0x20, 0x73, 0x65, 0x73, 0x73, 0x69, 0x6F, 0x6E])
  modTwin (fun t => { t with txCounter := 0, rxCounter := none, partial_ := [],
                             pair := { t.pair with ks := slice d 0 32, saltA := slice d 32 4, saltB := slice d 36 4 } }) s

/-- The first reason of Table TWIN-4 that applies on either twin; 0 stands for none (R406). -/
def firstReason (own theirs : Nat) : Nat := if own = 0 then theirs else if theirs = 0 then own else Nat.min own theirs

/-- Pairing has passed: the session keys, the flue version and the feature level in force (R405, R407, R408). -/
def pairPass (k : List Byte) (s : State) : State :=
  let b := s.twin.pair.hello
  modTwin (fun t => { t with flueVer := Nat.min 2 (leAt b 1 1), feature := Nat.min 2 (leAt b 2 1), partnerRole := helloFlag b 2,
                             pair := { t.pair with passed := true, master := masterOver t.pair.sentHello b } }) (sessionKeys k s)

/-- A CONFIRM is received: checked, and pairing passes or is refused (R405 to R408). `theirs` is the reason that the partner alone finds
(AUTH, FEATURE_LEVEL, ROLE_CONFLICT, BUSY; 0 for none), since both twins refuse with the first reason of all (R406;
notes/assumptions/166.md). -/
def confirmReceive (tag : List Byte) (theirs : Nat) (s : State) : State :=
  if s.twin.pair.hello.isEmpty || s.twin.pair.passed then s
  else
    let s1 := hearNow s
    match pairKey s1 with
    | none => pairRefuse 0x03 s1
    | some k =>
      let auth := decide (gcmTag k (slice s1.twin.pair.hello 128 12) (bothHellos s1) [] = tag)
      let reason := firstReason (if auth then (refusalAfterAuth s1).getD 0 else 0x03) theirs
      if reason = 0 then pairPass k s1 else pairRefuse reason s1

/-- PAIRING_TIMEOUT (R406): the handshake is not complete within 100 ms of the first HELLO. -/
def pairingLate (s : State) : State :=
  match s.twin.pair.started with
  | some t => if t + ticksOfNs 100000000 ≤ s.clk.tick then pairRefuse 0x0C s else s
  | none => s

/-- PAIRING_RETRY (R406): the next try, in SOLO. -/
def pairingAgain (nonce : List Byte) (s : State) : State :=
  match s.twin.pair.retryAt with
  | some t => if t ≤ s.clk.tick ∧ mayPair s ∧ s.twin.st = .solo ∧ !s.twin.source then startPairing nonce s else s
  | none => s

/-! ### Tick adoption and the start of a pair (R408, R409, R413) -/

/-- At a TWIN_TSYNC_O pulse a master whose pairing has passed names the next one; a cold start follows 1,024 ticks after it, else
the master becomes the source (R408, R409; notes/assumptions/44.md). -/
def tickSyncStep (s : State) : State :=
  let p := s.twin.pair
  if p.passed && p.master && p.syncTick.isNone && s.clk.tick % 256 = 0 then
    let n := s.clk.tick + 256
    let s1 := flueSend 0x03 0 n (leBytes 8 n) (modTwin (fun t => { t with pair := { t.pair with syncTick := some n, started := none } }) s)
    if isCold p.sentHello p.hello then modTwin (fun t => { t with pair := { t.pair with coldAt := some (n + 1024) } }) s1
    else
      let s2 := if s1.twin.st = .pairing then beginForwarding (setState .solo s1) else s1
      modTwin (fun t => { t with source := true, bulkAt := some n, joinTick := none, bulkSent := false }) s2
  else s

/-- TICK_SYNC: the joiner learns the count of the next pulse. -/
def tickSyncReceive (n : Nat) (s : State) : State :=
  let p := s.twin.pair
  if p.passed && !p.master && !p.synced then modTwin (fun t => { t with pair := { t.pair with syncTick := some n } }) (hearNow s) else s

/-- Host commands that a joiner's clearing would lose end first: writes are applied at once, lane operations and host publishes
complete with REFUSED. -/
def endHostWork (s : State) : State :=
  let s1 := forEach s.writes applyWrite s
  let left := s1.writes.filterMap (·.cmd) ++ s1.tbl.laneOps.filterMap (·.cmd)
    ++ s1.tbl.embers.flatMap fun e => e.2.hostSched.filterMap (·.2.2)
  forEach left (fun c => complete c stRefused s.clk.tick []) s1

/-- The joiner gives up its own path and waits for the snapshot; one that was forwarding in SOLO stops and passes through PAIRING
(R410, R426). -/
def startSyncing (s : State) : State :=
  let s1 := modClk (fun c => { c with forwarding := false }) (endHostWork s)
  let s2 := setState .syncing (setState .pairing (modBoot (fun b => { b with pairWait := none }) s1))
  clearPath (modTwin (fun t => { t with joinTick := none, bulkSent := false, warmTick := none, failNow := none, warnedWarm := false }) s2)

/-- R17: what lanes and ports remember of ticks moves with the count, and stamps, clean bitmaps and frames of the old count no longer
count (notes/assumptions/169.md). -/
def moveTicks (n : Nat) (s : State) : State :=
  let mv (t : Nat) : Nat := t + n - s.clk.tick
  let lane (l : Lane) : Lane :=
    { l with trainFrom := mv l.trainFrom, highStamp := none, lastGood := none, openErr := l.openErr.map fun _ => n, unclean := [],
             lockLostAt := l.lockLostAt.map mv, statusSent := none }
  let link (x : Nat × Bool) : Nat × Bool := (mv x.1, x.2)
  let port (p : Port) : Port :=
    { p with ownAt := p.ownAt.map link, partnerAt := p.partnerAt.map link, recheck := p.recheck.map mv, downL := p.downL.map mv,
             lastUp := mv p.lastUp, lastDown := mv p.lastDown, flaps := p.flaps.map mv, emptyFrom := mv p.emptyFrom,
             wakeUntil := mv p.wakeUntil, pauseExp := mv p.pauseExp, fcSentAt := mv p.fcSentAt,
             pfcExp := (p.pfcExp.map fun e => (e.1, mv e.2)).filter fun e => e.2 ≠ 0,
             pauseFrom := p.pauseFrom.map fun e => (e.1, e.2.map mv),
             lastNonZero := (p.lastNonZero.map fun e => (e.1, mv e.2)).filter fun e => e.2 ≠ 0 }
  let s1 := forEach s.adm.arrived (fun r t => noteInjDrop r drLaneNotClean (dropArrived drLaneNotClean r t)) s
  let s2 := modAdm (fun a => { a with arrived := [], own := [], partner := [], missed := [], relayEnds := [], relayLost := [] }) s1
  forEach (s.ports.map (·.1)) (fun p => modPort p port) (forEach (s.lanes.map (·.1)) (fun l => modLane l lane) s2)

/-- A TWIN_TSYNC_I pulse: the joiner adopts the count and the phase (R17, R408). -/
def tsyncAdopt (s : State) : State :=
  let p := s.twin.pair
  match p.syncTick with
  | some n =>
    if p.passed && !p.master && !p.synced then
      let cold := isCold p.sentHello p.hello
      let s1 := modHost (fun h => { h with evLast := [] }) (modClk (fun c => { c with tick := n }) (moveTicks n s))
      let s2 := modTwin (fun t => { t with heard := n, stSince := n, roleSince := t.roleSince.map (· + n - s.clk.tick), pair := { t.pair with
        synced := true, started := none, coldAt := if cold then some (n + 1024) else none } }) s1
      if cold then s2 else startSyncing s2
    else s
  | none => s

/-- The partner's accepted TWIN_ROLE: as its HELLO gave it, or the opposite of this twin's when that has changed since (R402). -/
def partnerLevel (s : State) : Bool :=
  if s.twin.role = helloFlag s.twin.pair.sentHello 2 then s.twin.partnerRole else !s.twin.role

/-- Both twins of a pair take the same link state for their ports: the state that the source had. A joiner then tells what it
detects otherwise (R112, R429). -/
def pairLinks (joiner : Bool) (s : State) : State :=
  forEach (s.ports.map (·.1)) (fun p t =>
    let x := portOf t p
    let base := if joiner then x.partnerUp else x.ownUp
    let t1 := modPort p (fun x => { x with ownUp := base, partnerUp := base, ownAt := if joiner then [] else x.ownAt }) t
    if joiner && x.det != base then
      flueSend 0x14 0 t.clk.tick (w2 p ++ [if x.det then 2 else 1, 0] ++ w4 t.clk.tick)
        (modPort p (fun x => { x with ownAt := [(t.clk.tick + admDelay t, x.det)] }) t1)
    else t1) s

/-- The pair is formed at the current tick: ACTIVE or STANDBY under R413; `first` takes ACTIVE when both levels are equal. -/
def enterPair (first : Bool) (s : State) : State :=
  let lvl := partnerLevel s
  let same := s.twin.role = lvl
  let act := if same then first else s.twin.role
  let s1 := modTwin (fun t => { t with pairSince := s.clk.tick, heard := s.clk.tick, absent := false, bySilence := false, fault := none,
                                       partnerFault := none, source := false, warmTick := none, joinTick := none, bulkAt := none,
                                       clearAll := true, unclear := [], partnerState := if act then 5 else 4 }) s
  let s2 := setState (if act then .active else .standby) s1
  noteCapacity (modAdm (fun a => { a with announced := none }) (if same then raiseEv 0x180D 0 (w4 s.clk.tick) s2 else s2))

/-- COLD_START (R409): the start tick has come. -/
def coldStartDue (s : State) : State :=
  match s.twin.pair.coldAt with
  | some c =>
    if s.twin.st = .pairing ∧ c ≤ s.clk.tick ∧ (s.twin.pair.master ∨ s.twin.pair.synced) then
      enterPair (!s.twin.side) (pairLinks false
        (beginForwarding (modTwin (fun t => { t with pair := { t.pair with coldAt := none } }) s)))
    else s
  | none => s

/-! ### Losing the partner (R411, R412, R422, R434) -/

/-- Why the partner is absent at the current tick: 0 silence, 1 FAULT. -/
def absentWhy (s : State) : Option Nat :=
  if !inPair s then none
  else if (match s.twin.partnerFault with
      | some (_, _, d) => decide (d ≤ s.clk.tick)
      | none => false) then some 1
  else if s.twin.heard + 4 < s.clk.tick then some 0
  else none

/-- A twin goes on alone: only its own detections count from now on; the partner's solo ports go down (R411, R434). -/
def goSolo (s : State) : State :=
  let ps := s.ports.map (·.1)
  let was := ps.map fun p => linkNow s p
  let s1 := dropPartnerCapacity (modTwin unpair (setState .solo s))
  let s2 := forEach (ps.zip was) (fun x => linkSettle x.1 x.2)
    (forEach ps (fun p => modPort p fun x => { x with partnerUp := false, partnerAt := [] }) s1)
  noteCapacity s2

/-- PARTNER_ABSENT (R411). -/
def partnerAbsentDue (s : State) : State :=
  match absentWhy s with
  | none => s
  | some why =>
    let silent := s.twin.st = .standby && why = 0
    modTwin (fun t => { t with absent := true, soloBy411 := true, soloSince := s.clk.tick, bySilence := silent && !t.role })
      (goSolo (raiseEv 0x1804 0 (w4 s.clk.tick ++ w2 why) s))

/-- ROLE_UNCONFIRMED (R412). -/
def roleUnconfirmedDue (s : State) : State :=
  if s.twin.st = .solo ∧ s.twin.bySilence ∧ s.twin.soloSince + ticksOfNs 50000 ≤ s.clk.tick then
    enterDiverged (modTwin (fun t => { t with lastCause := 0x0A }) s)
  else s

/-- DEMOTION (R422): the twin's own demotion tick has come. -/
def demotionDue (s : State) : State :=
  match s.twin.fault with
  | some (_, _, d) => if inPair s && decide (d ≤ s.clk.tick) then enterDiverged s else s
  | none => s

/-- FAULT (R411): the partner names its demotion tick. -/
def faultReceive (d cause f : Nat) (detail : List Byte) (s : State) : State :=
  let s1 := modTwin (fun t => { t with lastFaultMsg := leBytes 2 cause ++ [0, 0] ++ leBytes 4 f ++ slice detail 0 8,
                                       partnerFault := if inPair s then some (cause, f, fullTick s d) else t.partnerFault }) (hearNow s)
  raiseEv 0x1807 0 (w2 cause ++ w4 f ++ w4 d) s1

/-! ### Decision digests (R420, R421, R423) -/

/-- The bytes of digest records. -/
def digestBytes (l : List (Nat × Nat)) : List Byte := l.flatMap fun r => leBytes 8 r.1 ++ leBytes 8 r.2

/-- HOST_WRITE records in application order: side A's first, each side's in mailbox order (R418). -/
def writeOrder (a b : Nat × Nat) : Bool := decide (fld a.1 8 8 * 2 ^ 32 + fld a.1 47 16 ≤ fld b.1 8 8 * 2 ^ 32 + fld b.1 47 16)

/-- The records of the tick in the digest's order (R420). -/
def digestRecords (t : Twin) : List (Nat × Nat) := t.recAdmit ++ t.recRetire ++ t.recGrant ++ sortBy writeOrder t.recWrite

/-- The digest of the tick's records; 0 when there is none. -/
def digestOf (t : Twin) : Nat := if (digestRecords t).isEmpty then 0 else (crc64 (digestBytes (digestRecords t))).toNat

/-- A digest for tick `t` differs from the partner's, or the partner's is missing (R421, R423, R429). -/
def digestMismatch (t own theirs : Nat) (s : State) : State :=
  let s1 := raiseLim 0x1806 0 0 1024 (w4 t ++ w8 own ++ w8 theirs)
    (regCount .TWIN_DIGEST_MISMATCH_CNT 0 (modTwin (fun x => { x with lastMismatch := some s.clk.tick, goodDigests := 0 }) s))
  if s1.twin.source || s1.twin.st = .warming then failAttempt 4 s1
  else if countsAsStandby s1 ∧ s1.twin.partnerFault.isNone then selfFault 0x09 t s1
  else s1

/-- Compare both digests for tick `t` once both are held. -/
def digestCompare (t : Nat) (s : State) : State :=
  match FMap.find? s.twin.digests t, FMap.get none s.twin.partnerDigests t with
  | some a, some b =>
    let s1 := modTwin (fun x => { x with digests := FMap.erase x.digests t, partnerDigests := FMap.erase x.partnerDigests t }) s
    if a = b then modTwin (fun x => { x with goodDigests := if x.source then x.goodDigests + 1 else 0 }) s1 else digestMismatch t a b s1
  | _, _ => s

/-- The digest of the tick that has ended is formed, sent and, when the partner's is held, compared (R420, R421). -/
def digestStep (s : State) : State :=
  if !digesting s || s.clk.tick = 0 then s
  else
    let t := s.clk.tick - 1
    let d := digestOf s.twin
    let n (l : List (Nat × Nat)) : List Byte := leBytes 2 l.length
    let body := leBytes 8 d ++ n (s.twin.recAdmit.filter fun r => decide (r.1 % 256 = 1)) ++ n s.twin.recRetire ++ n s.twin.recGrant
      ++ n s.twin.recWrite
    let s1 := modTwin (fun x => { x with digests := FMap.put x.digests t d, recAdmit := [], recRetire := [], recGrant := [],
                                         recWrite := [] }) s
    digestCompare t (if sendsAgreement s || s.twin.st = .warming then flueSend 0x13 0 t body s1 else s1)

/-- DIGEST (R421): the partner's digest for tick `t` is held; it tells the partner's state as well (R435; notes/assumptions/167.md). -/
def digestReceive (t d st : Nat) (s : State) : State :=
  let s1 := modTwin (fun x => { x with partnerState := st }) (hear (t + 1) s)
  if digesting s && decide (s.twin.pairSince ≤ t ∨ !inPair s) then
    digestCompare t (modTwin (fun x => { x with partnerDigests := FMap.put x.partnerDigests t (some d) }) s1)
  else s1

/-- DIGEST_MISSING (R421): a partner digest is not held by t + 5. -/
def digestsMissing (s : State) : State :=
  let k := s.clk.tick
  let due := s.twin.digests.filter fun e => decide (e.1 + 5 ≤ k)
  let s1 := modTwin (fun x => { x with digests := x.digests.filter (fun e => decide (k < e.1 + 5)),
                                       partnerDigests := x.partnerDigests.filter (fun e => decide (k < e.1 + 5)) }) s
  forEach due (fun e t =>
    if inPair t && decide (t.twin.pairSince ≤ e.1) then digestMismatch e.1 e.2 0 t
    else modTwin (fun x => { x with goodDigests := 0 }) t) s1

/-! ### Detections (R87, R112) -/

/-- One entry of a DETECT message. -/
def detectOne (e : DetectEntry) (s : State) : State :=
  let d := fullTick s e.tick
  let p := e.port.val
  if e.kind = 3 then modPort p (fun x => { x with ctRaiseAt := x.ctRaiseAt ++ [d + regFld s .TWIN_CFG 0 15 8] }) s
  else if e.kind = 1 ∨ e.kind = 2 then
    modPort p (fun x => { x with partnerAt := x.partnerAt ++ [(d + admDelay s, decide (e.kind = 2))] }) s
  else s

/-! ### TWIN_ROLE and the role swap (R401, R425) -/

/-- Ticks of a number of seconds. -/
def ticksOfS (n : Nat) : Nat := n * 19531250

/-- TWIN_ROLE_ACCEPT (R401): a level seen in 3 consecutive samples is accepted when the dwell allows it, and takes effect at the next
tick (notes/assumptions/172.md). -/
def roleAccept (level : Bool) (s : State) : State :=
  let dwell := match s.twin.roleSince with
    | some t => decide (s.clk.tick < t + ticksOfNs 10000000) && !(s.twin.st = .solo && s.twin.soloBy411)
    | none => false
  if dwell || s.twin.roleNext.getD s.twin.role = level then s
  else raiseEv 0x180B 0 (w2 (b2n level) ++ w4 s.clk.tick)
    (modTwin (fun t => { t with roleNext := some level, roleSince := some s.clk.tick }) s)

/-- An accepted level takes effect (R401, R410, R412, R425). -/
def roleEffect (s : State) : State :=
  match s.twin.roleNext with
  | none => s
  | some r =>
    let s1 := modTwin (fun t => { t with role := r, roleNext := none, bySilence := t.bySilence && !r }) s
    if r then
      let s2 := if s1.twin.swapReq.isSome then
          raiseEv 0x180C 0 (w2 1) (modTwin (fun t => { t with swapReq := none, swapAsked := false, swapNext := none }) s1)
        else s1
      if s2.twin.st = .standby then setState .active s2 else s2
    else if s1.twin.st = .active then setState .standby s1
    else s1

/-- SWAP_REQUEST_RAISE (R425). -/
def swapRaise (s : State) : State :=
  let t := s.twin
  let n := regFld s .TWIN_SWAP_CFG 0 21 0
  let calm := match t.lastMismatch with
    | some m => decide (m + ticksOfS 1 ≤ s.clk.tick)
    | none => true
  let again := match t.swapNext with
    | some x => decide (x ≤ s.clk.tick)
    | none => true
  let due := n ≠ 0 && again && decide (t.roleSince.getD t.pairSince + ticksOfS n ≤ s.clk.tick)
  if t.st = .standby && t.swapReq.isNone && twinReady s && t.partnerFault.isNone && calm && (t.swapAsked || due) then
    raiseEv 0x180C 0 (w2 0) (modTwin (fun t => { t with swapReq := some s.clk.tick, swapAsked := false }) s)
  else s

/-- SWAP_REQUEST_EXPIRE (R425): the request is lowered after 100 ms, and raised again after SWAP_S ÷ 16. -/
def swapExpire (s : State) : State :=
  match s.twin.swapReq with
  | some t =>
    if t + ticksOfNs 100000000 ≤ s.clk.tick then
      let next := s.clk.tick + ticksOfS (regFld s .TWIN_SWAP_CFG 0 21 0) / 16
      raiseEv 0x180C 0 (w2 2) (modTwin (fun x => { x with swapReq := none, swapNext := some next }) s)
    else s
  | none => s

/-- SWAP_REQ: a host swap request passed to the standby. -/
def swapReqReceive (s : State) : State :=
  let s1 := hearNow s
  if s1.twin.st = .standby then modTwin (fun t => { t with swapAsked := true }) s1 else s1

/-! ### Resynchronisation (R426, R427, R429, R432) -/

/-- RESYNC_START (R426): the conditions of an attempt hold; a partner that is heard is forwarding (notes/assumptions/45.md). -/
def resyncBegin (nonce : List Byte) (s : State) : State :=
  let t := s.twin
  let auto := regBit s .TWIN_CFG 0 1 && decide (t.fails < 4)
  if t.st = .diverged && (auto || t.resyncCmd) && mayPair s && decide (s.clk.tick ≤ t.heard + 4)
      && decide (t.stSince + ticksOfNs (regFld s .TWIN_CFG 0 23 16 * 100000000) ≤ s.clk.tick) && !isSafe s then
    startPairing nonce (setState .pairing (modTwin (fun t => { t with resyncCmd := false }) s))
  else s

/-- An attempt for whose failure a reason was found in this tick fails (R429). -/
def attemptStep (s : State) : State :=
  match s.twin.failNow with
  | none => s
  | some r =>
    let joiner := s.twin.st = .syncing || s.twin.st = .warming
    if joiner || s.twin.source then
      let n := s.twin.fails + 1
      let note (t : Twin) : Twin :=
        { t with failNow := none, lastResyncFail := r, resyncFailed := (t.resyncFailed + 1) % 2 ^ 16,
                 fails := if joiner then n else t.fails }
      let s1 := raiseEv 0x1809 0 (w2 0 ++ w2 r) (modTwin note s)
      if joiner then enterDiverged (if n = 4 then raiseEv 0x1809 0 (w2 1) s1 else s1) else endSource s1
    else modTwin (fun t => { t with failNow := none }) s

/-- SNAP_LATE (R427): SNAP_END has not left by J − 8; a joiner, which does not know J, waits as long as the longest lead. -/
def snapLateDue (s : State) : State :=
  if s.twin.bulkSent then s
  else if s.twin.source then match s.twin.joinTick with
    | some j => if j ≤ s.clk.tick + 8 then failAttempt 1 s else s
    | none => s
  else if s.twin.st = .syncing ∧ s.twin.stSince + 1048576 ≤ s.clk.tick + 8 then failAttempt 1 s
  else s

/-- R429: the flue link has been silent for 4 ticks during an attempt. -/
def flueSilence (s : State) : State :=
  if (s.twin.st = .syncing || s.twin.st = .warming) && decide (s.twin.heard + 4 < s.clk.tick) then failAttempt 5 s else s

/-- SNAP_END (R427). -/
def snapEndReceive (j : Nat) (s : State) : State :=
  let s1 := hearNow s
  if s1.twin.st = .syncing then modTwin (fun t => { t with joinTick := some j, bulkSent := true }) s1 else s1

/-- JOIN (R429): at J the joiner enters WARMING and begins to forward. -/
def joinDue (s : State) : State :=
  match s.twin.joinTick with
  | some j =>
    if s.twin.st = .syncing ∧ s.twin.bulkSent ∧ j ≤ s.clk.tick then
      beginForwarding (setState .warming (modTwin (fun t => { t with clearAll := false, unclear := [], warnedWarm := false })
        (sizeReserves (dropUnsent s))))
    else s
  | none => s

/-- WARM_DONE (R432): the joiner learns W. -/
def warmDoneReceive (w : Nat) (s : State) : State :=
  let s1 := hearNow s
  if s1.twin.st = .warming then modTwin (fun t => { t with warmTick := some (fullTick s w) }) s1 else s1

/-- WARM (R432): at W both twins enter ACTIVE or STANDBY. -/
def warmDue (s : State) : State :=
  match s.twin.warmTick with
  | some w =>
    let joiner := s.twin.st = .warming
    if (joiner || s.twin.source) && decide (w ≤ s.clk.tick) then
      let s1 := if joiner then modAdm (fun a => { a with hForce := a.partnerH.getD a.hForce, qForce := a.partnerQ.getD a.qForce }) s else s
      let s2 := enterPair (!joiner) (pairLinks joiner s1)
      raiseEv 0x180A 0 (w2 0 ++ w4 w) (modTwin (fun t => { t with resyncDone := (t.resyncDone + 1) % 2 ^ 16, fails := 0 }) s2)
    else s
  | none => s

/-- STILL_WARMING (R432). -/
def stillWarmingDue (s : State) : State :=
  if s.twin.st = .warming ∧ !s.twin.warnedWarm ∧ s.twin.stSince + ticksOfS 1 ≤ s.clk.tick then
    raiseEv 0x180A 0 (w2 1) (modTwin (fun t => { t with warnedWarm := true }) s)
  else s

/-! ### The flue link (R404, R414 to R416) -/

/-- A flue group gains or loses alignment lock; when the link comes up, pairing is tried. -/
def flueLink (g : Nat) (lock : Bool) (s : State) : State :=
  if tb s.twin.groups g = lock then s
  else
    let was := s.twin.groups
    let now := if lock then was + 2 ^ g else was - 2 ^ g
    raiseEv 0x1803 0 (w2 g ++ w2 (b2n lock)) (modTwin (fun t => { t with groups := now, pair := { t.pair with
      retryAt := if was = 0 && t.pair.started.isNone then some s.clk.tick else t.pair.retryAt } }) s)

/-- The class of a message (R415). -/
def flueClass (t : Nat) : Nat :=
  if t = 0x40 then 1 else if t = 0x30 ∨ t = 0x31 then 2 else if 0x50 ≤ t ∧ t ≤ 0x54 then 3 else 0

/-- A message's bytes (Table TWIN-7). -/
def flueBytes (m : FlueMsg) : List Byte := leBytes 1 m.type ++ leBytes 1 m.flags ++ leBytes 2 m.body.length ++ leBytes 4 m.tick ++ m.body

/-- Whole messages packed into runs of at most 1,032 bytes. -/
def packRuns : List (List Byte) → List Byte → List (List Byte)
  | [], cur => if cur.isEmpty then [] else [cur]
  | m :: ms, cur => if cur.length + m.length ≤ 1032 then packRuns ms (cur ++ m) else cur :: packRuns ms m

/-- One flue frame: counter, ciphertext, tag (R414). -/
def flueFrame (key salt : List Byte) (n : Nat) (text : List Byte) : List Byte :=
  let ctr := leBytes 8 n
  let c := gcmCrypt key (salt ++ ctr) text
  ctr ++ c ++ gcmTag key (salt ++ ctr) [] c

/-- The messages of the last tick leave in flue frames, by class (R414, R415); HELLO and CONFIRM go before there is a key. -/
def packFlue (s : State) : State :=
  let p := s.twin.pair
  let ms := s.out.flue.filter fun m => 3 ≤ m.type
  if p.ks.isEmpty || ms.isEmpty then modOut (fun o => { o with flueFrames := [] }) s
  else
    let runs := packRuns ((sortBy (fun a b => decide (flueClass a.type ≤ flueClass b.type)) ms).map flueBytes) []
    let salt := if s.twin.side then p.saltB else p.saltA
    let fs := runs.zipIdx.map fun x => flueFrame p.ks salt (s.twin.txCounter + 1 + x.2) x.1
    modOut (fun o => { o with flueFrames := fs }) (modTwin (fun t => { t with txCounter := t.txCounter + runs.length }) s)

/-- The messages of a flue frame's text. -/
def flueParse : Nat → List Byte → List FlueMsg
  | 0, _ => []
  | n + 1, b =>
    if b.length < 8 then []
    else
      let len := leAt b 2 2
      ⟨leAt b 0 1, leAt b 1 1, leAt b 4 4, slice b 8 len⟩ :: flueParse n (b.drop (8 + len))

/-- Join a message with the segments of its type held before it (R416). -/
def joinSegment (m : FlueMsg) (t : Twin) : Twin :=
  let before := t.partial_.filter fun x => x.type = m.type
  if 128 ≤ m.flags then { t with partial_ := t.partial_ ++ [m] }
  else { t with partial_ := t.partial_.filter (fun x => x.type ≠ m.type),
                inbox := t.inbox ++ [{ m with body := before.flatMap (·.body) ++ m.body }] }

/-- A flue frame is discarded (R414). -/
def flueDiscard (n : Nat) (s : State) : State :=
  raiseLim 0x180E 0 0 1024 (w4 n) (regCount .TWIN_FLUE_AUTH_FAIL_CNT 0
    (modAdm (fun a => { a with flueLoss := a.flueLoss + 1 }) (modTwin (fun t => { t with partial_ := [], inbox := [] }) s)))

/-- A flue frame is received (R414): its messages are passed on when its tag and counter are in order; a gap in the counters
tells of frames lost. -/
def flueReceive (f : List Byte) (s : State) : State :=
  let p := s.twin.pair
  let n := leAt f 0 8
  let salt := if s.twin.side then p.saltA else p.saltB
  let c := (f.drop 8).take (f.length - 24)
  let iv := salt ++ slice f 0 8
  let order := match s.twin.rxCounter with
    | some x => decide (x < n)
    | none => true
  if p.ks.isEmpty then s
  else if f.length < 24 ∨ 1056 < f.length ∨ !order ∨ gcmTag p.ks iv [] c ≠ f.drop (f.length - 16) then flueDiscard n s
  else
    let lost := match s.twin.rxCounter with
      | some x => n - x - 1
      | none => 0
    let held (t : Twin) : List FlueMsg := if lost = 0 then t.partial_ else []
    let s1 := modAdm (fun a => { a with flueLoss := a.flueLoss + lost })
      (modTwin (fun t => { t with rxCounter := some n, inbox := [], partial_ := held t }) s)
    let ms := flueParse (c.length / 8 + 1) (gcmCrypt p.ks iv c)
    modTwin (fun t => ms.foldl (fun x m => joinSegment m x) t) s1

/-- KEEPALIVE (R415, R424): a tick with nothing else to send; not in SYNCING. -/
def keepaliveStep (s : State) : State :=
  if s.out.flue.isEmpty && !s.twin.pair.ks.isEmpty && s.twin.st ≠ .syncing then flueSend 0x04 0 s.clk.tick [] s else s

/-! ### The tick -/

/-- What the twin controller does at a tick boundary before any decision of the tick: the digest of the last tick, roles, and the
changes of state that are due (R401, R411, R422). -/
def twinEarly (s : State) : State :=
  let s1 := digestsMissing (digestStep s)
  let s2 := attemptStep (flueSilence (snapLateDue s1))
  let s3 := roleUnconfirmedDue (partnerAbsentDue (demotionDue (roleEffect s2)))
  let s4 := warmDue (joinDue (coldStartDue s3))
  let j := match s4.twin.joinTick with
    | some j => s4.twin.source && decide (j = s4.clk.tick)
    | none => false
  if j then mapLanes s4 else s4

/-- What it does once the tick's decisions are made. -/
def twinLate (s : State) : State :=
  keepaliveStep (tickSyncStep (pairingLate (stillWarmingDue (swapRaise (swapExpire (sourceStep s))))))

/-- The heartbeat and the TWIN_TSYNC_O pulse (R399, Table TWIN-1). -/
def heartbeat (s : State) : State :=
  let hb := if s.clk.tick % 16 = 0 then !s.twin.hb else s.twin.hb
  modOut (fun o => { o with tsync := decide (s.clk.tick % 256 = 0) }) (modTwin (fun t => { t with hb := hb }) s)

/-! ### TWIN_CMD (R474, Table TWIN-14) -/

/-- The RESULT of a TWIN_CMD: the new state. -/
def twinResult (s : State) : List Byte := leBytes 1 (twinCode s.twin.st)

/-- A TWIN_CMD other than STATUS: refused in the safe hearth state (R473); `f` gives the new state when it is accepted. -/
def twinCmd (h : MbxHdr) (f : State → Option State) (s : State) : State :=
  mbxTake h opTwinCmd (fun c s =>
    if isSafe s then complete c stNotAllowed 0 [] s
    else match f s with
      | some s1 => complete c stOk 0 (twinResult s1) s1
      | none => complete c stRefused 0 (twinResult s) s) s

/-- STATUS. -/
def twinStatusCmd (h : MbxHdr) (s : State) : State :=
  mbxTake h opTwinCmd (fun c s =>
    let bs := leBytes 4 (twinStatus s) ++ leBytes 4 0 ++ slice s.twin.pair.hello 0 176 ++ slice s.twin.lastFaultMsg 0 16
    if !h.flags.getLsbD 1 then complete c stOk 0 (twinResult s) s
    else if bufOut h < bs.length then complete c stBadArgs 0 [] s
    else complete c stOk 0 (twinResult s) (hostPut h.bufAddr.toNat bs s)) s

/-- SWAP: a standby asks; an active twin passes the request on (R425). -/
def swapAsk (s : State) : Option State :=
  if s.twin.st = .standby then some (modTwin (fun t => { t with swapAsked := true }) s)
  else if s.twin.st = .active then some (flueSend 0x61 0 s.clk.tick [] s)
  else none

/-- RESYNC (R426). -/
def resyncAsk (s : State) : Option State :=
  if s.twin.st = .diverged then some (modTwin (fun t => { t with fails := 0, resyncCmd := true }) s) else none

/-- LEAVE (Table TWIN-6): an active twin goes on alone, a standby demotes itself with cause LEAVE, any other twin diverges. -/
def leavePair (s : State) : State :=
  if s.twin.st = .active && s.clk.forwarding then modTwin (fun t => { t with soloSince := s.clk.tick }) (goSolo s)
  else if s.twin.st = .standby then selfFault 0x0B 0 s
  else enterDiverged (modTwin (fun t => { t with lastCause := 0x0B }) s)

/-- LEAVE answers the state that the twin leaves into. -/
def leaveCmd (h : MbxHdr) (s : State) : State :=
  mbxTake h opTwinCmd (fun c s =>
    if isSafe s then complete c stNotAllowed 0 [] s
    else
      let s1 := leavePair s
      complete c stOk 0 (leBytes 1 (if s1.twin.st = .solo then 0 else 6)) s1) s

/-- PAIR (R406). -/
def pairAsk (nonce : List Byte) (s : State) : Option State :=
  if mayPair s ∧ (s.twin.st = .solo ∨ s.twin.st = .pairing) ∧ !s.twin.source then some (startPairing nonce s) else none

/-! ### Commands -/

/-- TWIN_ROLE_ACCEPT (R401). -/
def execTwinRoleAccept (level : Bool) (s : State) : Host.Outcome State Fault Refusal := .next (roleAccept level s)

/-- HELLO (R405, R410). -/
def execHello (body nonce : List Byte) (s : State) : Host.Outcome State Fault Refusal := .next (helloReceive body nonce s)

/-- CONFIRM (R405). -/
def execConfirm (tag : List Byte) (theirs : Nat) (s : State) : Host.Outcome State Fault Refusal := .next (confirmReceive tag theirs s)

/-- TICK_SYNC (R408). -/
def execTickSync (count : Nat) (s : State) : Host.Outcome State Fault Refusal := .next (tickSyncReceive count s)

/-- TSYNC_PULSE (R408). -/
def execTsyncPulse (s : State) : Host.Outcome State Fault Refusal := .next (tsyncAdopt s)

/-- PAIRING_TIMEOUT (R406). -/
def execPairingTimeout (s : State) : Host.Outcome State Fault Refusal := .next (pairingLate s)

/-- PAIRING_RETRY (R406). -/
def execPairingRetry (nonce : List Byte) (s : State) : Host.Outcome State Fault Refusal := .next (pairingAgain nonce s)

/-- COLD_START (R409). -/
def execColdStart (s : State) : Host.Outcome State Fault Refusal := .next (coldStartDue s)

/-- FLUE_FRAME_RECEIVE (R414). -/
def execFlueFrameReceive (frame : List Byte) (s : State) : Host.Outcome State Fault Refusal := .next (flueReceive frame s)

/-- FLUE_LINK_CHANGE (R404). -/
def execFlueLinkChange (group : Fin 2) (lock : Bool) (s : State) : Host.Outcome State Fault Refusal := .next (flueLink group.val lock s)

/-- KEEPALIVE (R415). -/
def execKeepalive (tick : Nat) (s : State) : Host.Outcome State Fault Refusal := .next (hear (fullTick s tick) s)

/-- DIGEST (R421). -/
def execDigest (tick : Nat) (digest : Nat) (_counts : List Nat) (st : Nat) (s : State) : Host.Outcome State Fault Refusal :=
  .next (digestReceive (fullTick s tick) digest st s)

/-- DIGEST_MISSING (R421). -/
def execDigestMissing (tick : Nat) (s : State) : Host.Outcome State Fault Refusal :=
  .next (if tick + 5 = s.clk.tick then digestsMissing s else s)

/-- DETECT (R87, R112). -/
def execDetect (entries : List DetectEntry) (s : State) : Host.Outcome State Fault Refusal := .next (forEach entries detectOne (hearNow s))

/-- SNAP_END (R427). -/
def execSnapEnd (join : Nat) (s : State) : Host.Outcome State Fault Refusal := .next (snapEndReceive join s)

/-- SNAP_LATE (R427). -/
def execSnapLate (s : State) : Host.Outcome State Fault Refusal := .next (attemptStep (snapLateDue s))

/-- JOIN (R429). -/
def execJoin (s : State) : Host.Outcome State Fault Refusal := .next (joinDue s)

/-- WARM_DONE (R432). -/
def execWarmDone (warmTick : Nat) (s : State) : Host.Outcome State Fault Refusal := .next (warmDoneReceive warmTick s)

/-- WARM (R432). -/
def execWarm (s : State) : Host.Outcome State Fault Refusal := .next (warmDue s)

/-- STILL_WARMING (R432). -/
def execStillWarming (s : State) : Host.Outcome State Fault Refusal := .next (stillWarmingDue s)

/-- FAULT (R411). -/
def execFaultMsg (demote cause faultTick : Nat) (detail : List Byte) (s : State) : Host.Outcome State Fault Refusal :=
  .next (faultReceive demote cause faultTick detail s)

/-- SWAP_REQ (R425). -/
def execSwapReq (s : State) : Host.Outcome State Fault Refusal := .next (swapReqReceive s)

/-- PARTNER_ABSENT (R411). -/
def execPartnerAbsent (s : State) : Host.Outcome State Fault Refusal := .next (partnerAbsentDue s)

/-- ROLE_UNCONFIRMED (R412). -/
def execRoleUnconfirmed (s : State) : Host.Outcome State Fault Refusal := .next (roleUnconfirmedDue s)

/-- DEMOTION (R422). -/
def execDemotion (s : State) : Host.Outcome State Fault Refusal := .next (demotionDue s)

/-- SWAP_REQUEST_RAISE (R425). -/
def execSwapRequestRaise (s : State) : Host.Outcome State Fault Refusal := .next (swapRaise s)

/-- SWAP_REQUEST_EXPIRE (R425). -/
def execSwapRequestExpire (s : State) : Host.Outcome State Fault Refusal := .next (swapExpire s)

/-- RESYNC_START (R426). -/
def execResyncStart (nonce : List Byte) (s : State) : Host.Outcome State Fault Refusal := .next (resyncBegin nonce s)

/-- TWIN_CMD STATUS (R474). -/
def execTwinCmdStatus (h : MbxHdr) (s : State) : Host.Outcome State Fault Refusal := .next (twinStatusCmd h s)

/-- TWIN_CMD SWAP (R425). -/
def execTwinCmdSwap (h : MbxHdr) (s : State) : Host.Outcome State Fault Refusal := .next (twinCmd h swapAsk s)

/-- TWIN_CMD RESYNC (R426). -/
def execTwinCmdResync (h : MbxHdr) (s : State) : Host.Outcome State Fault Refusal := .next (twinCmd h resyncAsk s)

/-- TWIN_CMD LEAVE (R410). -/
def execTwinCmdLeave (h : MbxHdr) (s : State) : Host.Outcome State Fault Refusal := .next (leaveCmd h s)

/-- TWIN_CMD PAIR (R406). -/
def execTwinCmdPair (h : MbxHdr) (nonce : List Byte) (s : State) : Host.Outcome State Fault Refusal := .next (twinCmd h (pairAsk nonce) s)

end Sys2Proof.Machine
end

