-- ==== Sys2Proof/Machine/Power.lean ====
section
/-! DEFINITION. Power, temperature, self-test in service, wear and JTAG (chapter 16), and entry to the safe hearth state
(R513). -/

namespace Sys2Proof.Machine

/-! ### Domains (R522 to R526) -/

/-- The domain that a bit of PWR_DOMAIN_CTRL switches (Table PWR-1, R547). -/
def bitDomain (b : Nat) : Nat := if b < 8 then b else 17 + b

/-- A course of either slot that is enabled reaches a position above 115. -/
def courseReachesHigh (s : State) : Bool :=
  (List.range 32).any fun i =>
    let v := courseVal s (i / 16) (i % 16)
    courseOn v && decide (116 < courseHead v + courseLen v)

/-- The upper half of the route store is in use: a region reaches it, or a bucket holds a valid version or a change. -/
def upperRoutesUsed (s : State) : Bool :=
  let upper (i : Nat) : Bool := decide (8 * 65536 ≤ i ∧ i < 8 * 131072)
  (regionList s).any (fun (_, _, r) => tb r 22 && decide (65536 < fld r 16 0 + 2 ^ fld r 21 17))
    || s.tbl.routes.any (fun e => upper e.1 && (tb e.2.ver.old 63 || tb e.2.ver.new 63))
    || s.tbl.changes.any (fun c => decide (c.key.tbl = tcRoute)
        && upper (8 * routeBucket s (routeV6 c.key.key) (routeLen c.key.key) (routeAddr c.key.key)))

/-- R523, Table PWR-1: a switched domain may go off. -/
def mayBeOff (d : Nat) (s : State) : Bool :=
  if d < 8 then (List.range 64).all fun k => !regBit s .LANE_MODE (64 * d + k) 4
  else match d with
    | 25 => isSafe s
    | 26 => isSafe s
    | 27 => s.twin.st = .solo && !regBit s .TWIN_CFG 0 0
    | 28 => !courseReachesHigh s && decide (s.tcam.txn = .idle)
    | 29 => !upperRoutesUsed s
    | _ => false

/-- The flue session keys are lost (R525, R542). -/
def loseSession (s : State) : State :=
  modTwin (fun t => { t with pair := { t.pair with ks := [], saltA := [], saltB := [], passed := false } }) s

/-- A domain controlled by PWR_DOMAIN_CTRL goes off, with what it held (R523, R525). -/
def dropDomain (d : Nat) (s : State) : State :=
  let s1 := domainOff d s
  match d with
  | 25 => modHost (fun h => { h with hbmHost := [] }) s1
  | 26 => modHost (fun h => { h with hbmHost := [] }) s1
  | 27 => modTwin (fun t => { t with groups := 0 }) (loseSession s1)
  | 28 => modTcam (fun t => { t with entries := t.entries.filter fun e => decide (e.1 / 512 < 116) }) s1
  | _ => s1

/-- One bit of a PWR_DOMAIN_CTRL write (R523, R524). -/
def domainBit (b : Nat) (on : Bool) (s : State) : State :=
  let d := bitDomain b
  if on = regBit s .PWR_DOMAIN_CTRL 0 b then s
  else if on then domainRequest d (regSetFld .PWR_DOMAIN_CTRL 0 b b 1 s)
  else if mayBeOff d s then dropDomain d (regSetFld .PWR_DOMAIN_CTRL 0 b b 0 s)
  else raiseEv 0x1C02 0 (w2 d) s

/-- A write of PWR_DOMAIN_CTRL acts on the written twin alone (R523). -/
def domainCtrlWrite (v : Word) (s : State) : State :=
  forEach (List.range 13) (fun b => domainBit b (v.getLsbD b)) s

/-! ### The safe hearth state (R513) -/

/-- A lane is disabled. -/
def disableLane (l : Nat) (s : State) : State := laneStop l (regSetFld .LANE_MODE l 4 4 0 s)

/-- Entry to the safe hearth state: every lane is disabled, the lane banks are off, the frame path is stopped (R513, R547). -/
def enterSafe (c : SafeCause) (s : State) : State :=
  let on := (List.range 512).filter fun l => regBit s .LANE_MODE l 4
  let s1 := forEach on disableLane (modBoot (fun b => { b with safe := c, enables := [], startS := none, pairWait := none })
    (modClk (fun k => { k with forwarding := false }) s))
  let s2 := forEach (List.range 8) domainOff (regSetFld .PWR_DOMAIN_CTRL 0 7 0 0 s1)
  raiseEv 0x1B03 0 (w2 (safeCode c)) s2

/-! ### Self-test failures (R535, R536) -/

/-- A failed block is reported (Table PWR-6). -/
def blockFailed (kind num : Nat) (s : State) : State := raiseEv 0x1C08 0 (w2 kind ++ w2 num) s

/-- MBIST at a switch-on found a failure (R536, Table PWR-3). -/
def inServiceFailure (e : Nat × Nat) (s : State) : State :=
  let s1 := blockFailed e.1 e.2 s
  match e.1 with
  | 1 => stoveFailure e.2 s1
  | 2 => failBrick e.2 s1
  | 3 => raiseEv 0x1009 0 (w2 e.2) (regSetFld .PWR_DOMAIN_CTRL 0 e.2 e.2 0 (addHealth 3 e.2 8 s1))
  | _ => s1

/-- A failure found in domain `d` keeps it off: a lane bank, the upper route store, an HBM stack. -/
def staysOff (d : Nat) (failed : List (Nat × Nat)) : Bool :=
  !failed.isEmpty && (decide (d < 8 ∨ d = 29) || decide (d = 25 ∨ d = 26))

/-- DOMAIN_READY: the first waiting domain's ramp and MBIST are complete (R524, R536). -/
def domainReadyStep (failed : List (Nat × Nat)) (s : State) : State :=
  match s.pwr.rampQ with
  | [] => s
  | d :: r =>
    let s0 := modPwr (fun p => { p with rampQ := r }) s
    if staysOff d failed then
      let s1 := regSetFld .PWR_DOMAIN_CTRL 0 (if d < 8 then d else d - 17) (if d < 8 then d else d - 17) 0 s0
      if d < 8 then inServiceFailure (3, d) s1
      else if d = 29 then blockFailed 0 29 s1
      else enterSafe .hbmFailed s1
    else
      let s1 := raiseEv 0x1C01 0 (w2 d ++ w2 1) (modPwr (fun p => { p with ready := p.ready + 2 ^ d }) s0)
      let s2 := if 8 ≤ d ∧ d ≤ 24 then modGroup (d - 8) (fun g => { g with powered := true }) s1 else s1
      forEach failed inServiceFailure s2

/-! ### Voltage (R527 to R529) -/

/-- The codes that the powered domains need, with the domains. -/
def poweredNeeds (need : List Nat) (s : State) : List (Nat × Nat) :=
  (need.zipIdx.map fun x => (x.2, x.1)).filter fun x => decide (x.1 < 31) && (decide (x.1 = 30) || tb s.pwr.ready x.1)

/-- The highest-clocked powered group whose effective code can still be lowered, the lowest-numbered among equals (R529). -/
def fastestGroup (s : State) : Option Nat :=
  let gs := (List.range 17).filter fun g => (groupOf s g).powered && decide (0 < wantedCode s g)
  match gs with
  | [] => none
  | g :: r => some (r.foldl (fun b x => if wantedCode s b < wantedCode s x then x else b) g)

/-- Set a group's effective clock code and change its clock through R261; the written code lifts the limit. -/
def setEffective (g code : Nat) (s : State) : State :=
  let w := Nat.min 10 (regFld s .STOVE_GROUP_CFG g 3 0)
  changeClock g (modPwr (fun p => { p with fEff := FMap.set 0 p.fEff g (if w ≤ code then 0 else code + 1) }) s)

/-- AVS_RECOMPUTE: `need` holds, for each domain, the least code at which its speed monitor reports slack of at least GUARD. -/
def avsStep (need : List Nat) (s : State) : State :=
  if s.boot.inReset || decide (s.boot.step < 4) || s.pwr.thermtrip then s
  else if !regBit s .PWR_AVS_CFG 0 0 then modPwr (fun p => { p with vidTarget := 100, avsLimit := false }) s
  else
    let l := poweredNeeds need s
    let m := l.foldl (fun a x => Nat.max a x.2) 72
    let s1 := modPwr (fun p => { p with vidTarget := Nat.min 140 m, avsLimit := decide (140 < m) }) s
    match l.find? fun x => decide (140 < x.2) with
    | none => s1
    | some (d, _) =>
      let s2 := raiseEv 0x1C03 0 (w2 d) s1
      match fastestGroup s2 with
      | none => s2
      | some g => setEffective g (wantedCode s2 g - 1) s2

/-- VID_STEP: CORE_VID moves by one code towards the setpoint. -/
def vidMove (s : State) : State :=
  if s.boot.inReset then s
  else modPwr (fun p => { p with vid := if p.vid < p.vidTarget then p.vid + 1 else if p.vidTarget < p.vid then p.vid - 1 else p.vid }) s

/-! ### Temperature (R530, R531) -/

/-- The hottest die sensor, the first among equals: its number and temperature. -/
def hottest : List Int → Option (Nat × Int)
  | [] => none
  | t :: r => some (r.foldl (fun (b : Nat × Nat × Int) x => if b.2.2 < x then (b.1 + 1, b.1 + 1, x) else (b.1 + 1, b.2.1, b.2.2))
      (0, 0, t)).2

/-- SENSOR: domain d for the 30 switched domains, 31 + n for AON sensor n (R547). -/
def sensorCode (i : Nat) : Nat := if i < 30 then i else i + 1

/-- A temperature in an event. -/
def tempData (t : Int) : List Byte := leBytes 2 (t % 65536).toNat

/-- A thermal trip (R531). -/
def thermalTrip (sensor : Nat) (t : Int) (s : State) : State :=
  let s1 := raiseEv 0x1C06 0 (w2 sensor ++ tempData t) s
  let s2 := modPwr (fun p => { p with thermtrip := true, rampQ := [] }) (modClk (fun k => { k with forwarding := false })
    (modBoot (fun b => { b with startS := none, pairWait := none }) s1))
  let s3 := forEach (List.range 17) (fun g => modGroup g fun x => { x with powered := false, parking := false, wakeFrom := none, joinAt := none }) s2
  forEach (List.range 30) dropDomain s3

/-- The groups whose effective code lies below the written one. -/
def loweredGroups (s : State) : List Nat := s.pwr.fEff.map (·.1)

/-- Every effective code above FLOOR is lowered by one (R530). -/
def throttleDown (s : State) : State :=
  let floor := regFld s .PWR_THERM_CFG 0 23 20
  forEach ((List.range 17).filter fun g => (groupOf s g).powered && decide (floor < wantedCode s g))
    (fun g t => setEffective g (wantedCode t g - 1) t) s

/-- Every effective code is raised by one, up to the written one (R530). -/
def throttleUp (s : State) : State :=
  forEach (loweredGroups s) (fun g t => setEffective g (wantedCode t g + 1) t) s

/-- Throttling begins or ends (event 0x1C05). -/
def setThrottling (on : Bool) (t : Int) (s : State) : State :=
  if s.pwr.throttling = on then s
  else raiseEv 0x1C05 0 (w2 (b2n on) ++ tempData t) (modPwr (fun p => { p with throttling := on }) s)

/-- Throttling at TJ_MAX `t` (R530): raising starts after 100 ms below THROTTLE − HYST and goes on every 10 ms; throttling has
ended once every code is the written one (notes/assumptions/48.md). -/
def throttleStep (t : Int) (s : State) : State :=
  let limit : Int := regFld s .PWR_THERM_CFG 0 15 8
  let hyst : Int := regFld s .PWR_THERM_CFG 0 19 16
  if limit ≤ t then throttleDown (setThrottling true t (modPwr (fun p => { p with coolFor := 0 }) s))
  else if !s.pwr.throttling then s
  else if limit - hyst ≤ t then modPwr (fun p => { p with coolFor := 0 }) s
  else
    let s1 := modPwr (fun p => { p with coolFor := p.coolFor + 1 }) s
    let s2 := if 100 ≤ s1.pwr.coolFor ∧ s1.pwr.coolFor % 10 = 0 then throttleUp s1 else s1
    if 100 ≤ s2.pwr.coolFor ∧ s2.pwr.fEff.isEmpty then setThrottling false t s2 else s2

/-- THERMAL_SAMPLE: the die sensors in the order of SENSOR, and the two HBM stacks. -/
def thermalStep (die : List Int) (h0 h1 : Int) (s : State) : State :=
  match hottest die with
  | none => s
  | some (i, t) =>
    if s.boot.inReset || s.pwr.thermtrip then s
    else
      let c := sensorCode i
      let s1 := modPwr (fun p => { p with tjMax := t, tjSensor := c, hbm0 := h0, hbm1 := h1 }) s
      let warn : Int := regFld s .PWR_THERM_CFG 0 7 0
      let s2 := if warn ≤ t then raiseLim 0x1C04 0 0 (ticksOfNs 1000000000) (w2 c ++ tempData t) s1 else s1
      if 115 ≤ t then thermalTrip c t s2
      else if 105 ≤ h0 then thermalTrip 25 h0 s2
      else if 105 ≤ h1 then thermalTrip 26 h1 s2
      else throttleStep t s2

/-! ### Wear (R545, R546) -/

/-- exp(x) for x in units of 2^-40, in the same units: the series at x ÷ 16, raised to the 16th power. -/
def expFix (x : Int) : Int :=
  let one : Int := 2 ^ 40
  let y := x / 16
  let e := ((List.range 20).reverse).foldl (fun a k => one + a * y / (((k : Nat) + 1 : Int) * one)) one
  let sq (a : Int) : Int := a * a / one
  sq (sq (sq (sq e)))

/-- AF at a temperature in °C, in units of 2^-40 (R546). -/
def agingFactor (t : Int) : Nat :=
  let k := max 1 (100 * t + 27315)
  (expFix (812350 * (k - 36815) * 2 ^ 40 / (36815 * k))).toNat

/-- AGING_REPORT: one second has passed. -/
def agingStep (degrade : List Nat) (s : State) : State :=
  if s.boot.inReset || s.pwr.thermtrip then s
  else
    let l := (degrade.take 31).map fun x => Nat.min x 4095
    let s1 := modPwr (fun p => { p with
      aging := l.zipIdx.foldl (fun m x => FMap.set 0 m x.2 x.1) p.aging,
      lifeAdded := p.lifeAdded + agingFactor p.tjMax * 10 ^ 12 / (3600 * 2 ^ 40) }) s
    match l.zipIdx.find? fun x => decide (800 ≤ lifeUsed x.1) with
    | some (x, d) =>
      if s.pwr.agingWarned then s1
      else raiseEv 0x1C07 0 (w2 d ++ w2 (lifeUsed x)) (modPwr (fun p => { p with agingWarned := true }) s1)
    | none => s1

/-! ### The stove sweep (R538 to R540) -/

/-- The ticks between visits: PERIOD_H × 3,600 ÷ 17 s (R538). -/
def sweepPeriod (s : State) : Nat := ticksOfNs (regFld s .BIST_SWEEP_CFG 0 15 8 * 3600 * 1000000000 / 17)

/-- The powered group whose last LBIST is oldest, the lowest-numbered among equals (R538). -/
def oldestGroup (s : State) : Option Nat :=
  let gs := (List.range 17).filter fun g => (groupOf s g).powered && !(groupOf s g).parking
  match gs with
  | [] => none
  | g :: r => some (r.foldl (fun b x => if FMap.get 0 s.pwr.lastLbist x < FMap.get 0 s.pwr.lastLbist b then x else b) g)

/-- A parked group: unpowered and not waking. -/
def isParked (s : State) (g : Nat) : Bool := !(groupOf s g).powered && (groupOf s g).wakeFrom.isNone && regBit s .STOVE_GROUP_CFG g 4

/-- A visit to group `g` begins (R539). -/
def visitGroup (g : Nat) (s : State) : State :=
  let need := (inService s).length
  let outside := ((eligible s).filter fun i => i / 4 ≠ g).length
  let start (c : Option Nat) : Visit := { group := g, cover := c, stage := 0 }
  if need ≤ outside then
    let l := sweepLeave (some (start none)) s
    applySet l.1 l.2
  else match (List.range 17).find? fun c => regBit s .BIST_SWEEP_CFG 0 1 && c ≠ g && isParked s c with
    | some c => unparkGroup c (modPwr (fun p => { p with visit := some (start (some c)) }) s)
    | none => raiseEv 0x1C0A 0 (w2 g) s

/-- SWEEP_VISIT: the periodic visit is due. -/
def sweepVisitDue (s : State) : State :=
  if regBit s .BIST_SWEEP_CFG 0 0 && s.pwr.visit.isNone && decide (s.pwr.nextVisit ≤ s.clk.tick) && decide (8 < s.boot.step)
      && !s.boot.inReset && !s.pwr.thermtrip then
    let s1 := modPwr (fun p => { p with nextVisit := s.clk.tick + sweepPeriod s }) s
    match oldestGroup s with
    | none => s1
    | some g => visitGroup g s1
  else s

/-- SWEEP_DRAINED: the group has drained; its cache slices are written back (R539). -/
def sweepDrainedStep (s : State) : State :=
  match s.pwr.visit with
  | none => s
  | some v =>
    if v.stage = 1 ∧ (groupStoves v.group).all fun i => stoveIdle s i then
      let s1 := forEach (groupStoves v.group) (fun i t =>
        if (stoveOf t i).st = .failed then t else setStove i .sweep (cacheFlush i t)) s
      modPwr (fun p => { p with visit := some { v with stage := 2 } }) s1
    else s

/-- SWEEP_TEST_DONE: LBIST and MBIST have ended; bit n of `failed` is stove n of the group. The stoves return from the next
tick on (R539; notes/assumptions/47.md). -/
def sweepTested (failed : Nat) (s : State) : State :=
  match s.pwr.visit with
  | none => s
  | some v =>
    if v.stage = 2 then
      modPwr (fun p => { p with visit := some { v with stage := 3, failed := failed, at_ := s.clk.tick + 1 },
                                lastLbist := FMap.set 0 p.lastLbist v.group s.clk.tick }) s
    else s

/-- SWEEP_RETURN: effect tick y (R539). -/
def sweepReturnStep (s : State) : State :=
  match s.pwr.visit with
  | none => s
  | some v =>
    if v.stage = 3 ∧ v.at_ ≤ s.clk.tick then
      let bad := (List.range 4).filter fun n => tb v.failed n && !decide ((stoveOf s (4 * v.group + n)).st = .failed)
      let marks := (groupStoves v.group).filterMap fun i =>
        if bad.contains (i % 4) then some (i, StoveState.failed)
        else if (stoveOf s i).st = .sweep then some (i, .spare) else none
      let parks := v.cover.filter fun c => regBit s .STOVE_GROUP_CFG c 4
      let leave := match parks with
        | none => []
        | some c => (groupStoves c).filterMap fun i => match (stoveOf s i).st with
          | .inService => some (i, StoveState.draining)
          | .spare => some (i, .draining)
          | _ => none
      let s1 := forEach bad (fun n => addHealth 1 (4 * v.group + n) 8) (modGroup v.group (fun x => { x with sweeping := false })
        (modPwr (fun p => { p with visit := none, visits := p.visits + 1 }) s))
      let s2 := match parks with
        | none => s1
        | some c => modGroup c (fun x => { x with parking := true }) s1
      raiseEv 0x1C09 0 (w2 v.group ++ w2 bad.length) (applySet (marks ++ leave) s2)
    else s

/-! ### JTAG (R541, R542) -/

/-- An instruction that locks out (R542). -/
def scanLock (code : Nat) (s : State) : State :=
  if s.boot.inReset || s.pwr.thermtrip then s
  else
    let s1 := loseSession (modBoot (fun b => { b with keys := [], cwkSensed := false, holding := none }) s)
    raiseEv 0x1C0B 0 (w2 code) (enterSafe .scan (modPwr (fun p => { p with scanned := true }) s1))

/-- Shift a value out of JTAG. -/
def jtagOut (v : Nat) (s : State) : State := modOut (fun o => { o with jtag := o.jtag ++ [v] }) s

/-! ### The health map and BIST (R543, R544) -/

/-- A health entry of R499 with its source in byte 1. -/
def healthEntry (h : Health) : List Byte := leBytes 1 h.kind ++ leBytes 1 h.src ++ (if h.kind = 4 then leBytes 2 0 else leBytes 2 h.num)
  ++ leBytes 4 (if h.kind = 4 then h.num else 0)

/-- The health map as HEALTH_READ writes it (R543). -/
def healthBytes (s : State) : List Byte :=
  let l := sortBy (fun (a b : Health) => decide (a.kind < b.kind ∨ (a.kind = b.kind ∧ a.num ≤ b.num))) s.boot.health
  leBytes 2 l.length ++ List.replicate 6 0 ++ leBytes 8 s.boot.healthTick ++ l.flatMap healthEntry

/-- HEALTH_READ (R543). -/
def healthCmd (h : MbxHdr) (s : State) : State :=
  mbxTake h opHealthRead (fun c s =>
    let b := healthBytes s
    if bufOut h < b.length then complete c stBadArgs 0 [] s
    else complete c stOk 0 [] (hostPut h.bufAddr.toNat b s)) s

/-- The report of a BIST_RUN (R544). -/
def bistReport (test mode result : Nat) (failed : List (Nat × Nat)) (s : State) : List Byte :=
  slice s.fuses.identity 0 16 ++ leBytes 8 s.clk.tick ++ leBytes 1 test ++ leBytes 1 mode ++ leBytes 1 result ++ [0]
    ++ leBytes 4 failed.length ++ failed.flatMap fun e => healthEntry ⟨e.1, e.2, 8⟩

/-- BIST_RUN of MBIST or LBIST may run on domain `d` (R544). -/
def bistAllowed (d : Nat) (s : State) : Bool :=
  decide (d < 30) && (isSafe s || !(tb s.pwr.ready d || s.pwr.rampQ.contains d))

/-! ### Commands -/

/-- DOMAIN_SWITCH_OFF (R523). -/
def execDomainSwitchOff (bit : Fin 13) (s : State) : Host.Outcome State Fault Refusal := .next (domainBit bit.val false s)

/-- DOMAIN_SWITCH_ON (R524). -/
def execDomainSwitchOn (bit : Fin 13) (s : State) : Host.Outcome State Fault Refusal := .next (domainBit bit.val true s)

/-- DOMAIN_READY (R524). -/
def execDomainReady (failed : List (Nat × Nat)) (s : State) : Host.Outcome State Fault Refusal := .next (domainReadyStep failed s)

/-- AVS_RECOMPUTE (R527, R529). -/
def execAvsRecompute (need : List Nat) (s : State) : Host.Outcome State Fault Refusal := .next (avsStep need s)

/-- VID_STEP (R527). -/
def execVidStep (s : State) : Host.Outcome State Fault Refusal := .next (vidMove s)

/-- THERMAL_SAMPLE (R530, R531). -/
def execThermalSample (die : List Int) (hbm0 hbm1 : Int) (s : State) : Host.Outcome State Fault Refusal :=
  .next (thermalStep die hbm0 hbm1 s)

/-- AGING_REPORT (R545, R546). -/
def execAgingReport (degrade : List Nat) (s : State) : Host.Outcome State Fault Refusal := .next (agingStep degrade s)

/-- SWEEP_VISIT (R538, R539). -/
def execSweepVisit (s : State) : Host.Outcome State Fault Refusal := .next (sweepVisitDue s)

/-- SWEEP_DRAINED (R539). -/
def execSweepDrained (s : State) : Host.Outcome State Fault Refusal := .next (sweepDrainedStep s)

/-- SWEEP_TEST_DONE (R539). -/
def execSweepTestDone (failed : Fin 16) (s : State) : Host.Outcome State Fault Refusal := .next (sweepTested failed.val s)

/-- SWEEP_RETURN (R539). -/
def execSweepReturn (s : State) : Host.Outcome State Fault Refusal := .next (sweepReturnStep s)

/-- EXTEST (R542). -/
def execExtest (s : State) : Host.Outcome State Fault Refusal := .next (scanLock 0x00 s)

/-- INTSCAN (R542). -/
def execIntscan (s : State) : Host.Outcome State Fault Refusal := .next (scanLock 0x3A s)

/-- BISTCTL (R542). -/
def execBistctl (s : State) : Host.Outcome State Fault Refusal := .next (scanLock 0x3B s)

/-- SAMPLE/PRELOAD (Table PWR-4): no lockout; the boundary register is no state of the model. -/
def execSamplePreload (s : State) : Host.Outcome State Fault Refusal := .next s

/-- IDCODE (R516). -/
def execIdcode (s : State) : Host.Outcome State Fault Refusal := .next (jtagOut 0x1624098F s)

/-- IDREAD (R515): the identity record, least significant bit first. -/
def execIdread (s : State) : Host.Outcome State Fault Refusal := .next (jtagOut (leVal (slice s.fuses.identity 0 16)) s)

/-- BYPASS, and any code not listed (R542). -/
def execBypass (_code : Byte) (s : State) : Host.Outcome State Fault Refusal := .next s

/-- HEALTH_READ (R543). -/
def execHealthRead (h : MbxHdr) (s : State) : Host.Outcome State Fault Refusal := .next (healthCmd h s)

end Sys2Proof.Machine
end

