-- ==== Sys2Proof/Machine/Boot.lean ====
section
/-! DEFINITION. Reset, the kindling image, the start sequence, the runtime overlay and the fuses (chapter 15; R560, R561 of
chapter 17). -/

namespace Sys2Proof.Machine

/-! ### The flash and its slots (R495, R496, R501) -/

/-- The bytes of a slot. -/
def slotBytes : Nat := 0x08000000

/-- The offset of the select trailer in a slot. -/
def trailerOff : Nat := 0x07FFF000

/-- `n` bytes of a slot. -/
def flashRead (s : State) (slot off n : Nat) : List Byte := FMap.bytes 0xFF s.boot.flash (slot * slotBytes + off) n

/-- Program bytes of a slot. -/
def flashWrite (slot off : Nat) (bs : List Byte) (s : State) : State :=
  modBoot (fun b => { b with flash := FMap.putBytes 0xFF b.flash (slot * slotBytes + off) bs }) s

/-- Erase the bytes of a slot from `lo` up to `hi`. -/
def flashErase (slot lo hi : Nat) (s : State) : State :=
  let keep (e : Nat × Byte) : Bool := !decide (slot * slotBytes + lo ≤ e.1 ∧ e.1 < slot * slotBytes + hi)
  modBoot (fun b => { b with flash := b.flash.filter keep }) s

/-- Every listed byte of the range of a slot reads 0xFF. -/
def flashBlank (s : State) (slot off n : Nat) : Bool :=
  s.boot.flash.all fun e => !decide (slot * slotBytes + off ≤ e.1 ∧ e.1 < slot * slotBytes + off + n)

/-- A select record with its SEQ (R501). -/
def selectRecord (seq : Nat) : List Byte :=
  let b := leBytes 4 0x4C455353 ++ leBytes 4 seq ++ List.replicate 7 0
  b ++ [crc8 b]

/-- The SEQ of entry `i` of a slot's trailer, when the record is valid. -/
def selectSeq (s : State) (slot i : Nat) : Option Nat :=
  let r := flashRead s slot (trailerOff + 16 * i) 16
  if leAt r 0 4 = 0x4C455353 ∧ crc8 (r.take 15) = byteAt r 15 then some (leAt r 4 4) else none

/-- A slot's select value: the SEQ of its last valid record. -/
def selectValue (s : State) (slot : Nat) : Option Nat :=
  (List.range 256).foldl (fun v i => (selectSeq s slot i) <|> v) none

/-- R502: the selected slot. -/
def selectedSlot (s : State) : Nat :=
  match selectValue s 0, selectValue s 1 with
  | some a, some b => if a < b then 1 else 0
  | none, some _ => 1
  | _, _ => 0

/-! ### The image (R497 to R500) -/

/-- A directory entry: TYPE, VERSION, OPTIONAL, OFFSET, LENGTH. -/
structure DirEntry where
  type : Nat
  version : Nat
  optional : Bool
  off : Nat
  len : Nat
  deriving DecidableEq, Repr

/-- The directory of an image. -/
def imageDir (img : List Byte) : List DirEntry :=
  (List.range (leAt img 12 2)).map fun i =>
    let e := (img.drop (256 + 32 * i)).take 32
    { type := leAt e 0 1, version := leAt e 1 1, optional := tb (leAt e 2 1) 0, off := leAt e 4 4, len := leAt e 8 4 }

/-- The device uses the section: a type of Table BOOT-3 at version 1 or below (R498). -/
def sectionKnown (e : DirEntry) : Bool := decide (1 ≤ e.type ∧ e.type ≤ 11 ∧ e.version ≤ 1)

/-- The bytes of the section of a type, if the image has one that the device uses. -/
def sectionOf (img : List Byte) (t : Nat) : Option (List Byte) :=
  ((imageDir img).find? fun e => sectionKnown e && decide (e.type = t)).map fun e => (img.drop e.off).take e.len

/-- R498: the layout of the sections. -/
def layoutOk (img : List Byte) : Bool :=
  let n := leAt img 12 2
  let d := imageDir img
  let apart (a b : DirEntry) : Bool := decide (a.off + a.len ≤ b.off ∨ b.off + b.len ≤ a.off)
  let ix := d.zipIdx
  d.all (fun e => decide (e.off % 8 = 0 ∧ 256 + 32 * n ≤ e.off ∧ e.off + e.len ≤ img.length) && (sectionKnown e || e.optional))
    && ix.all (fun a => ix.all fun b => decide (a.2 = b.2) || (apart a.1 b.1 && decide (a.1.type ≠ b.1.type)))
    && [1, 2, 3, 4].all fun t => d.any fun e => sectionKnown e && decide (e.type = t)

/-- Cut bytes into records of `k`, `n` of them. -/
def records (k : Nat) : Nat → List Byte → List (List Byte)
  | 0, _ => []
  | n + 1, bs => bs.take k :: records k n (bs.drop k)

/-- A section's register records (R499). -/
def regRecords (bs : List Byte) : List (List Byte) := records 12 (bs.length / 12) bs

/-- Table BOOT-3: a section may hold records of the register's block. -/
def sectionAllows (t a : Nat) : Bool :=
  let b := blockOf a
  match t with
  | 1 => b = 0 || b = 4 || b = 5 || b = 6 || (b = 3 && decide (a % 0x100000 < 0x10000))
  | 2 => b = 1
  | 3 => b = 2 || (b = 3 && decide (0x10000 ≤ a % 0x100000))
  | 4 => b = 7 || b = 8
  | 8 => b = 9
  | 9 => b = 10
  | _ => false

/-- The register names an RW field. -/
def hasRw (a : Nat) : Bool :=
  match Reg.find a with
  | some (r, _) => decide (r.info.rw ≠ 0)
  | none => false

/-- R499: the section's register records are in order. -/
def regSectionOk (t : Nat) (bs : List Byte) : Bool :=
  decide (bs.length % 12 = 0) && (regRecords bs).all fun r => sectionAllows t (leAt r 0 4) && hasRw (leAt r 0 4)

/-- The table records of a section: code, declared length and record; none where the last one runs over its end. -/
def tableRecords : Nat → List Byte → Option (List (Nat × List Byte))
  | 0, _ => none
  | n + 1, bs =>
    if bs.isEmpty then some []
    else
      let len := leAt bs 2 2
      let all := pad8 (4 + len)
      if bs.length < all ∨ bs.length < 4 then none
      else (tableRecords n (bs.drop all)).map fun r => (leAt bs 0 2, (bs.drop 4).take len) :: r

/-- R499: a section has the form of its records. -/
def sectionFormOk (t : Nat) (bs : List Byte) : Bool :=
  match t with
  | 5 => true
  | 6 => (tableRecords (bs.length + 1) bs).isSome
  | 7 => decide (bs.length % 72 = 0)
  | 8 => decide (8 ≤ bs.length ∧ leAt bs 0 1 < 64 ∧ leAt bs 1 7 = 0) && regSectionOk 8 (bs.drop 8)
  | 10 => decide (bs.length % 8 = 0) && (records 8 (bs.length / 8) bs).all fun r => leAt r 1 1 = 0
  | 11 => decide (bs.length = 32 + 40 * leAt bs 12 4)
  | _ => regSectionOk t bs

/-- The plaintext of a KEYS section, when its tag is correct (R499). -/
def keysText (cwk header bs : List Byte) : Option (List Byte) :=
  let iv := bs.take 12
  let c := (bs.drop 16).take (bs.length - 32)
  if gcmTag cwk iv (header.take 32) c = bs.drop (bs.length - 16) then some (gcmCrypt cwk iv c) else none

/-- The entries of the KEYS plaintext: slot, usage and key. -/
def keyEntries (text : List Byte) : List (Nat × Nat × List Byte) :=
  (records 40 (text.length / 40) text).map fun r => (leAt r 0 1, leAt r 1 1, slice r 8 32)

/-- R499, R519: the KEYS section decrypts and names slots of the key store. -/
def keysOk (f : Fuses) (img bs : List Byte) : Bool :=
  match f.cwk with
  | none => false
  | some k => match keysText k img bs with
    | none => false
    | some t => (keyEntries t).all fun e => decide (e.1 < 64)

/-- The signer's key is accepted (Table BOOT-4, KEY). -/
def signerOk (f : Fuses) (hd : List Byte) : Bool :=
  let k := leAt hd 23 1
  let h := sha384 (slice hd 64 96)
  if k = 0xFF then decide (h = f.rootHash) && !f.rootDisable
  else decide (k < 4) && decide (FMap.find? f.custHash k = some h) && !tb f.custRevoke k

/-- The checks of Table BOOT-4 on the header: the code of the first that fails. -/
def headerCheck (f : Fuses) (hd : List Byte) : Option Nat :=
  let len := leAt hd 8 4
  if leAt hd 0 4 ≠ 0x444E494B ∨ leAt hd 4 2 ≠ 1 ∨ leAt hd 6 2 ≠ 256 then some 0x02
  else if len < 512 ∨ trailerOff < len ∨ len % 256 ≠ 0 ∨ leAt hd 12 2 = 0 ∨ 32 < leAt hd 12 2 ∨ leAt hd 14 2 ≠ 0
      ∨ leAt hd 32 32 ≠ 0 then some 0x03
  else if 0xA1 < leAt hd 22 1 then some 0x04
  else if !signerOk f hd then some 0x05
  else if leAt hd 20 2 < f.svn then some 0x06
  else none

/-- The checks of Table BOOT-4 on the whole image, at the operating feature level. -/
def bodyCheck (f : Fuses) (level : Nat) (img : List Byte) : Option Nat :=
  let known := (imageDir img).filter sectionKnown
  let bytes (e : DirEntry) : List Byte := (img.drop e.off).take e.len
  let keys := sectionOf img 11
  let prog := sectionOf img 5
  if !ecdsaVerify (sha384 (img.take 160 ++ img.drop 256)) (slice img 64 96) (slice img 160 96) then some 0x07
  else if !layoutOk img || !(known.all fun e => sectionFormOk e.type (bytes e)) then some 0x08
  else if !(keys.map (keysOk f img)).getD true then some 0x09
  else match prog with
    | none => none
    | some p => match verifyImage level p with
      | .ok _ => none
      | .error _ => some 0x0A

/-- R500: the image of a slot, or the code of the first check that fails. `readable`: SFDP and every read complete. CWK is
known by its sensed copy, which a scan lock zeroises (R542; notes/assumptions/171.md). -/
def slotImage (readable : Bool) (slot : Nat) (s : State) : Except Nat (List Byte) :=
  let hd := flashRead s slot 0 256
  let f : Fuses := if s.boot.cwkSensed then s.fuses else { s.fuses with cwk := none }
  if !readable then .error 0x01
  else match headerCheck f hd with
    | some c => .error c
    | none =>
      let img := flashRead s slot 0 (leAt hd 8 4)
      match bodyCheck f s.twin.feature img with
      | some c => .error c
      | none => .ok img

/-! ### Step 8: applying records (R499, R504, R510, R511) -/

/-- Refusals of section `t` are counted, with one event for the section (R511). -/
def countRefusals (t n : Nat) (s : State) : State :=
  if n = 0 then s
  else
    let s1 := regCountN .BOOT_REFUSAL_CNT 0 31 n s
    if s.boot.refusedSects.contains t then s1
    else raiseEv 0x1B05 0 (w2 t ++ w4 n) (modBoot (fun b => { b with refusedSects := b.refusedSects ++ [t] }) s1)

/-- The record sets a clock code above the fuse limit (R504, R517): the masked bits are the record's, the others stand. -/
def recordClamped (a v m : Nat) (s : State) : Bool :=
  match Reg.find a with
  | some (.STOVE_GROUP_CFG, g) =>
    decide (fld m 3 0 ≠ 0 ∧ freqLimit s < (Nat.land v m + Nat.land (regFld s .STOVE_GROUP_CFG g 3 0) (15 - fld m 3 0)) % 16)
  | _ => false

/-- Apply a register record as REG_WRITE does. -/
def bootReg (r : List Byte) (s : State) : State :=
  let a := leAt r 0 4
  let v := leAt r 4 4
  let m := leAt r 8 4
  let s1 := applyReg a (BitVec.ofNat 32 v) (BitVec.ofNat 32 m) s
  if recordClamped a v m s then raiseEv 0x1B07 0 (w4 a) s1 else s1

/-- Apply a section of register records. -/
def bootRegs (bs : List Byte) (s : State) : State := forEach (regRecords bs) bootReg s

/-- A record of a versioned table at start: it takes effect on application; true when its table refuses it. -/
def bootVersioned (code : Nat) (ws : List Nat) (s : State) : Bool × State :=
  match checkRecord s code ws with
  | .error _ => (true, s)
  | .ok (k, d) =>
    let s1 := effectsDue (reachWrite k d s.clk.tick 0 s).2
    let s2 := modTbl (fun t => { t with changes := [], vstore := [] }) s1
    let asks := if code = 0 then tb d 63 else if code = 1 then tb d 59 else false
    (asks && decide ((verOf s2 k).new ≠ d), s2)

/-- A TCAM_TXN record at start: a commit applies at once. -/
def bootTxn (ws : List Nat) (s : State) : Bool × State :=
  let d := ws.getD 0 0
  let r := match fld d 1 0 with
    | 0 => txnOpen (fld d 31 16) s
    | 1 => let c := txnCommit (fld d 31 16) s.clk.tick s; (c.1, if c.1 = stOk then txnIdle (txnApply c.2) else c.2)
    | 2 => txnAbort (fld d 31 16) s
    | _ => (stBadEntry, s)
  (decide (r.1 ≠ stOk), r.2)

/-- A published half written before S: the staging copy and the published version (R295, R511). -/
def seedHalf (r : Nat) (v : List Byte) (s : State) : State := modEmber r (fun e => { e with staging := v, pubs := [(0, v)] }) s

/-- Apply a table record at start (R510, R511); true when it is refused. -/
def bootRecord (code : Nat) (rec : List Byte) (s : State) : Bool × State :=
  if recordLen code = 0 ∨ rec.length ≠ recordLen code then (true, s)
  else
    let ws := recordWords code rec
    let k0 := ws.getD 0 0
    if code ≤ 5 ∨ code = 10 ∨ code = 11 then bootVersioned code ws s
    else match code with
      | 6 => if k0 < 1048576 then (false, modEmber k0 (fun e => { e with priv := leBytes 24 (ws.getD 2 0) }) s) else (true, s)
      | 7 => if k0 < 1048576 then (false, seedHalf k0 (leBytes 32 (ws.getD 2 0)) s) else (true, s)
      | 8 => let r := tcamEntryOp ws s; (decide (r.1 ≠ stOk), r.2)
      | 9 => bootTxn ws s
      | 12 =>
        if meterOk ws then
          (false, modMeter k0 (fun x => meterSet (ws.getD 1 0, ws.getD 2 0, ws.getD 3 0) s.clk.tick { x with writes := [] }) s)
        else (true, s)
      | 13 => if encapOk ws then (false, modSession k0 (fun x => { x with encap := ws.drop 1 }) s) else (true, s)
      | _ => match counterKey code k0 with
        | some c => (false, pairSet c (ws.getD 1 0) (ws.getD 2 0) s)
        | none => (true, s)

/-- Apply table records: how many are refused. -/
def bootRecords (l : List (Nat × List Byte)) (s : State) : Nat × State :=
  l.foldl (fun a e => let r := bootRecord e.1 e.2 a.2; (a.1 + b2n r.1, r.2)) (0, s)

/-- Both versions of an entry are the newer one, in force from tick 0. -/
def settled (v : Ver) : Ver := { old := v.new, new := v.new, eff := 0 }

/-- Versions in force from tick 0 (R510). -/
def settleTables (s : State) : State :=
  let ents (m : FMap Entry) : FMap Entry := (m.map fun e => (e.1, { e.2 with ver := settled e.2.ver })).filter fun e => e.2 ≠ {}
  let vers (m : FMap Ver) : FMap Ver := (m.map fun e => (e.1, settled e.2)).filter fun e => e.2 ≠ {}
  let s1 := modTbl (fun t => { t with
    stations := (t.stations.map fun e => (e.1, { e.2 with ver := settled e.2.ver })).filter fun e => e.2.ver ≠ {},
    routes := (t.routes.map fun e => (e.1, { e.2 with ver := settled e.2.ver })).filter fun e => e.2.ver ≠ {},
    filters := vers t.filters, nexthops := ents t.nexthops, groups := ents t.groups, members := ents t.members,
    headers := ents t.headers, gone := [] }) s
  modBuf (fun b => { b with mcGroups := vers b.mcGroups, mcMembers := vers b.mcMembers }) s1

/-- An ember record of EMBER_SEEDS (R499); its published half takes S as its PUB_TICK later. True when it is refused. -/
def bootEmber (r : List Byte) (s : State) : Bool × State :=
  let i := leAt r 0 4
  if 1048576 ≤ i then (true, s)
  else
    let h := bootVersioned 5 [i, leAt r 8 8] s
    (h.1, if h.1 then h.2 else seedHalf i (slice r 40 32) (modEmber i (fun e => { e with priv := slice r 16 24 }) h.2))

/-- The ember seeds. -/
def bootEmbers (bs : List Byte) (s : State) : State :=
  let r := (records 72 (bs.length / 72) bs).foldl (fun (a : Nat × State) x => let y := bootEmber x a.2; (a.1 + b2n y.1, y.2)) (0, s)
  countRefusals 7 r.1 r.2

/-- Ports that R44 or R45 refuses start disabled (R511). -/
def refusePorts (s : State) : State :=
  let bad := (regInstances s .MAC_PORT_CFG).filter fun p => regBit s .MAC_PORT_CFG p 16 && (match hearthAt s p with
    | some (l, _) => bankFailed s (l / 64) || !chanMapOk s l
    | none => false)
  countRefusals 3 bad.length (forEach bad (fun p => regSetFld .MAC_PORT_CFG p 16 16 0) s)

/-- A block is unusable (R505): a lane bank's domain goes off, with event 0x1009. -/
def markUnusable (kind num src : Nat) (s : State) : State :=
  let first := !s.boot.health.any fun h => decide (h.kind = kind ∧ h.num = num)
  let s1 := addHealth kind num src s
  if first && decide (kind = 3) then
    raiseEv 0x1009 0 (w2 num) (modPwr (fun p => { p with ready := if tb p.ready num then p.ready - 2 ^ num else p.ready })
      (regSetFld .PWR_DOMAIN_CTRL 0 num num 0 s1))
  else s1

/-- The kind and number of a FACTORY_HEALTH bit (Table BOOT-9). -/
def factoryBlock (i : Nat) : Nat × Nat := if i < 68 then (1, i) else if i < 316 then (2, i - 68) else (3, i - 316)

/-- The health map of the start: FACTORY_HEALTH and the image's HEALTH section join the self-test's failures (R505). -/
def bootHealth (img : List Byte) (s : State) : State :=
  let fs := (List.range 324).filter fun i => tb s.fuses.factoryHealth i
  let s1 := forEach fs (fun i => markUnusable (factoryBlock i).1 (factoryBlock i).2 1) s
  let bs := (sectionOf img 10).getD []
  forEach (records 8 (bs.length / 8) bs)
    (fun r => markUnusable (leAt r 0 1) (if leAt r 0 1 = 4 then leAt r 4 4 else leAt r 2 2) 2) s1

/-- R329, R331: each position whose firebrick is unusable is mapped to the lowest free spare, or is unavailable. -/
def mapBrick (p : Nat) (s : State) : State :=
  match freeSpares s with
  | [] => raiseEv 0x1506 0 (w2 p) (modTcam (fun x => { x with unavailable := x.unavailable ++ [p] }) s)
  | f :: rest =>
    let s1 := modTcam (fun t => { t with posMap := FMap.set 0 t.posMap p (f + 1) }) s
    if rest.isEmpty then raiseEv 0x1507 0 (w2 s1.tcam.unavailable.length) s1 else s1

/-- The firebricks at start. -/
def mapBricks (s : State) : State :=
  let bad := (s.boot.health.filter fun h => h.kind = 2).map (·.num)
  let s1 := noteSpares (freeSpares s) (modTcam (fun t => { t with failedBricks := bad }) s)
  forEach ((List.range 240).filter fun p => bad.contains p) mapBrick s1

/-- The keys of the image fill the key store (R519). -/
def bootKeys (img : List Byte) (s : State) : State :=
  match sectionOf img 11, s.fuses.cwk with
  | some bs, some k => match keysText k img bs with
    | some t => modBoot (fun b => { b with
        keys := (keyEntries t).foldl (fun m e => FMap.set none m e.1 (some (e.2.2, e.2.1))) b.keys }) s
    | none => s
  | _, _ => s

/-- The stoves at start: failed ones, parked groups, and the lowest 64 eligible stoves in service (R242, R262, R535). -/
def stoveSetup (s : State) : State :=
  let failed (i : Nat) : Bool := s.boot.health.any fun h => decide (h.kind = 1 ∧ h.num = i)
  let park (g : Nat) : Bool := regBit s .STOVE_GROUP_CFG g 4
  let usable := allStoves.filter fun i => !failed i && !park (i / 4)
  let st (i : Nat) : StoveState :=
    if failed i then .failed else if park (i / 4) then .parked else if (usable.take 64).contains i then .inService else .spare
  let off := (List.range 17).filter park
  let s1 := forEach (List.range 17) (fun g => modGroup g fun x => { x with freq := wantedCode s g, powered := !park g }) s
  let s2 := forEach allStoves (fun i => setStove i (st i)) s1
  let s3 := modPwr (fun p => { p with ready := off.foldl (fun r g => if tb r (8 + g) then r - 2 ^ (8 + g) else r) p.ready,
                                      nextVisit := s.clk.tick + sweepPeriod s }) s2
  let s4 := modHob (fun h => { h with homeBase := usable.take 64, homeExc := [] }) s3
  let c := ownCapacity s4
  modAdm (fun a => { a with hForce := c.1, qForce := c.2, announced := some c }) s4

/-! ### The runtime overlay (R506, R507) -/

/-- The registers of the overlay, in a fixed order: those with RW fields of the blocks LANE to TIME. -/
def overlayRegs : List (Reg × Nat) :=
  (Reg.all.filter fun r => decide (r.info.rw ≠ 0 ∧ 1 ≤ blockOf r.info.off ∧ blockOf r.info.off ≤ 10)).flatMap fun r =>
    (List.range (r.info.n1 * r.info.n2)).map fun i => (r, i)

/-- The register records of the running state. -/
def overlayRegBytes (s : State) : List Byte :=
  overlayRegs.flatMap fun (r, i) =>
    leBytes 4 (r.addr i) ++ leBytes 4 (barWord s (r.addr i) &&& r.info.rw).toNat ++ leBytes 4 r.info.rw.toNat

/-- A table record as R499 gives it. -/
def tableRecord (code : Nat) (rec : List Byte) : List Byte :=
  let b := leBytes 2 code ++ leBytes 2 rec.length ++ rec
  slice b 0 (pad8 b.length)

/-- The ten words of a wide TCAM value. -/
def wideWords (v : Nat) : List Nat := (List.range 10).map fun k => fld v (64 * k + 63) (64 * k)

/-- The table records of the running state as of the current tick (R506). -/
def overlayTables (s : State) : List Byte :=
  let now (k : EntryKey) (v : Ver) : Nat := verNow s k v
  let ents (code : Nat) (m : FMap Entry) : List Byte :=
    m.flatMap fun e => tableRecord code (wordBytes [e.1, now ⟨code, e.1⟩ e.2.ver])
  let vers (code : Nat) (m : FMap Ver) : List Byte := m.flatMap fun e => tableRecord code (wordBytes [e.1, now ⟨code, e.1⟩ e.2])
  let routes := s.tbl.routes.flatMap fun e =>
    let d := now ⟨1, routeKey e.2.v6 e.2.len e.2.addr⟩ e.2.ver
    if !tb d 59 then []
    else tableRecord 1 (wordBytes (if e.2.v6 then [e.2.addr / 2 ^ 64, e.2.addr % 2 ^ 64, d] else [e.2.addr, 0, d]))
  let meters := s.egr.meters.flatMap fun e =>
    let x := e.2
    tableRecord 12 (wordBytes [e.1, x.cir + 2 ^ 28 * b2n x.mode + 2 ^ 63 * b2n x.valid, x.pir, x.cbs + 2 ^ 24 * x.ebs])
  let encaps := s.egr.mirrors.flatMap fun e => tableRecord 13 (wordBytes (e.1 :: (List.range 7).map fun k => e.2.encap.getD k 0))
  let tcam := s.tcam.entries.flatMap fun e =>
    let x := e.2
    if !memberOf x s.tcam.slot then []
    else tableRecord 8 (wordBytes ([e.1, x.prio + 2 ^ 16 * x.width, x.action, x.arg] ++ wideWords x.value ++ wideWords x.mask))
  let stations := s.tbl.stations.flatMap fun e =>
    let d := now ⟨0, e.2.key⟩ e.2.ver
    if tb d 63 && (tb d 37 || tb d 38) then tableRecord 0 (wordBytes [e.2.key, d]) else []
  routes ++ ents 2 s.tbl.nexthops ++ ents 3 s.tbl.groups ++ ents 4 s.tbl.members ++ ents 5 s.tbl.headers
    ++ vers 10 s.buf.mcGroups ++ vers 11 s.buf.mcMembers ++ meters ++ encaps ++ tcam ++ stations

/-- The body of an overlay: register records, then table records. -/
def overlayBody (s : State) : List Byte := overlayRegBytes s ++ overlayTables s

/-- The offset of an overlay behind an image (R496). -/
def overlayOff (imageLen : Nat) : Nat := cdiv imageLen 65536 * 65536

/-- The key of the overlay's tag (R506). -/
def overlayKey (cwk : List Byte) : List Byte := (sha384 (cwk ++ [0x6F, 0x76, 0x65, 0x72, 0x6C, 0x61, 0x79])).take 32

/-- An overlay with its header and tag. -/
def overlayBytes (cwk hash iv body : List Byte) (tick : Nat) : List Byte :=
  let b := leBytes 4 0x5952564F ++ leBytes 4 (80 + body.length) ++ leBytes 8 tick ++ slice hash 0 32 ++ slice iv 0 12
    ++ List.replicate 4 0 ++ body
  b ++ gcmTag (overlayKey cwk) (slice iv 0 12) b []

/-- Apply the records of an overlay as host writes (R507). -/
def overlayApply (body : List Byte) (s : State) : State :=
  let n := 12 * overlayRegs.length
  let s1 := bootRegs (body.take n) s
  let s2 := (bootRecords ((tableRecords (body.length + 1) (body.drop n)).getD []) s1).2
  modTwin (fun t => { t with written := true }) (modBoot (fun b => { b with overlay := true }) s2)

/-- The overlay of the boot slot: none without its magic; one that fails its tag, image hash or place is ignored with event
0x1B04 (R507). -/
def bootOverlay (slot : Nat) (s : State) : State :=
  let off := overlayOff s.boot.image.length
  let hd := flashRead s slot off 64
  let len := leAt hd 4 4
  if trailerOff < off + 64 ∨ leAt hd 0 4 ≠ 0x5952564F then s
  else if len < 80 ∨ trailerOff < off + len ∨ slice hd 16 32 ≠ s.boot.imageHash.take 32 then raiseEv 0x1B04 0 (w2 slot) s
  else
    let b := flashRead s slot off len
    match s.fuses.cwk with
    | none => raiseEv 0x1B04 0 (w2 slot) s
    | some k =>
      if gcmTag (overlayKey k) (slice hd 48 12) (b.take (len - 16)) [] ≠ b.drop (len - 16) then raiseEv 0x1B04 0 (w2 slot) s
      else overlayApply ((b.drop 64).take (len - 80)) s

/-! ### Reset (R509, R560, R561) -/

/-- Every field at its reset value, but for what lies outside the device or in fuses, and the waiting commands. -/
def bootReset (low supply : Bool) (s : State) : State :=
  { pending := s.pending, fuses := s.fuses, host := { hostMem := s.host.hostMem }, clk := { free := s.clk.free },
    boot := { flash := s.boot.flash, resetLow := low, supplyLow := supply } }

/-! ### The start sequence (R510, Table BOOT-7) -/

/-- BOOT_STATUS.STEP. -/
def atStep (n : Nat) (s : State) : State := modBoot (fun b => { b with step := n }) s

/-- A block found failed by self-test at start (R535). -/
def startFailure (e : Nat × Nat) (s : State) : State :=
  blockFailed e.1 (if e.1 = 4 then 0 else e.2) (markUnusable e.1 e.2 4 s)

/-- A slice has more than 1,024 unusable cells (R535). -/
def sliceLost (s : State) : Bool :=
  (List.range 16).any fun i => decide (1024 < ((unusableCells s).filter fun c => decide (c / 32768 = i)).length)

/-- Step 11: the start tick is named, or pairing governs (R512, R409). -/
def stepEleven (s : State) : State :=
  let s1 := atStep 11 s
  if regBit s1 .TWIN_CFG 0 0 then
    modBoot (fun b => { b with pairWait := some (s.clk.tick + ticksOfNs 10000000000) }) s1
  else nameStart (s.clk.tick + 1024) s1

/-- Steps 9 to 11. -/
def stepsToEnd (s : State) : State :=
  if sliceLost s then enterSafe .sliceFailed (atStep 9 s) else stepEleven (atStep 10 (stepNine (atStep 9 s)))

/-- Step 8: layers 2 to 4, in the order of Table BOOT-7. -/
def stepEight (slot : Nat) (img : List Byte) (s : State) : State :=
  let sec (t : Nat) : List Byte := (sectionOf img t).getD []
  let s0 := modBoot (fun b => { b with
    slot := some slot, image := img, imageHash := sha384 img, imageSvn := leAt img 20 2, imageVersion := leAt img 16 4,
    mapHash := sha384 (sec 2 ++ sec 3 ++ sec 4), initHash := sha384 (sec 6 ++ sec 7),
    kpSlot := leAt (sec 8) 0 1 }) (atStep 8 s)
  let s1 := bootKeys img (mapBricks (bootHealth img s0))
  let s2 := bootRegs (sec 4) (refusePorts (bootRegs (sec 3) (bootRegs (sec 2) (bootRegs (sec 1) s1))))
  let s3 := bootRegs ((sec 8).drop 8) (bootRegs (sec 9) s2)
  let r := bootRecords ((tableRecords ((sec 6).length + 1) (sec 6)).getD []) s3
  let s4 := bootEmbers (sec 7) (countRefusals 6 r.1 r.2)
  let s5 := match sectionOf img 5 with
    | some p => (loadProgram p s4).2
    | none => s4
  stoveSetup (settleTables (refusePorts (bootOverlay slot s5)))

/-- The blocks of a start that ends in the safe hearth state without an image: FACTORY_HEALTH joins the self-test's failures
(R505; notes/assumptions/170.md). -/
def blocksSetup (s : State) : State := stoveSetup (mapBricks (bootHealth [] s))

/-- Step 7: the slots are tried in the order of R502. -/
def stepSeven (inp : StartInput) (s : State) : State :=
  let a := selectedSlot s
  let b := 1 - a
  let readable (x : Nat) : Bool := if x = 0 then inp.flashA else inp.flashB
  let fail (x c : Nat) (t : State) : State :=
    raiseEv 0x1B01 0 (w2 x ++ w2 c) (modBoot (fun y => if x = 0 then { y with reasonA := c } else { y with reasonB := c }) t)
  let s0 := atStep 7 s
  match slotImage (readable a) a s0 with
  | .ok img => stepsToEnd (stepEight a img s0)
  | .error c =>
    let s1 := fail a c s0
    match slotImage (readable b) b s1 with
    | .ok img => stepsToEnd (stepEight b img (raiseEv 0x1B02 0 (w2 b) (modBoot (fun y => { y with fallback := true }) s1)))
    | .error c2 => enterSafe .noImage (blocksSetup (fail b c2 s1))

/-- Steps 3 to 6: PCIe, self-tests, HBM; then step 7 unless the straps or a failure hold the device. -/
def stepThree (inp : StartInput) (s : State) : State :=
  let on := 2 ^ 31 - 1 - 2 ^ 25 * inp.hbmFailed.toNat
  let s1 := modPwr (fun p => { p with ready := on })
    (modHost (fun h => { h with pcie := inp.pcie.toNat }) (modClk (fun c => { c with pllLocked := true, zeroNext := true }) s))
  let s2 := forEach inp.failed startFailure (atStep 4 s1)
  if inp.aonFailed || sliceLost s2 then enterSafe .sliceFailed (blocksSetup s2)
  else if inp.hbmFailed ≠ 0 then
    enterSafe .hbmFailed (blocksSetup (regSetFld .PWR_DOMAIN_CTRL 0 9 8 (3 - inp.hbmFailed.toNat) (atStep 5 s2)))
  else if inp.bootSafe then enterSafe .strap (blocksSetup (atStep 6 s2))
  else stepSeven inp (atStep 6 s2)

/-- Steps 1 and 2, from RESET_N rising: the straps are sampled, the fuses read, the PLLs locked (R509, R510, R554). -/
def runStart (inp : StartInput) (s : State) : State :=
  let s1 := modTwin (fun t => { t with side := inp.twinSide })
    (modBoot (fun b => { b with inReset := false, step := 1, vfuseOk := inp.vfuseOk, cwkSensed := s.fuses.cwk.isSome }) s)
  let up := modPwr (fun p => { p with ready := 2 ^ 31 - 1 })
    (modHost (fun h => { h with pcie := inp.pcie.toNat }) (modClk (fun c => { c with pllLocked := inp.pllLocked, zeroNext := true }) s1))
  if inp.testEn then scanLock Config.testEnCode.toNat up
  else if inp.fuseError then enterSafe .fuseError (stoveSetup up)
  else if inp.pllLocked then stepThree inp s1
  else modBoot (fun b => { b with step := 2, holding := some inp }) s1

/-- RESET_N rises. -/
def resetRise (inp : StartInput) (s : State) : State :=
  if !s.boot.resetLow then s
  else
    let s1 := modBoot (fun b => { b with resetLow := false }) s
    if s.boot.supplyLow then s1 else runStart inp s1

/-- RESET_N goes low for a time in ns (R509, R561). -/
def resetFall (ns : Nat) (s : State) : State :=
  if ns < 8000 then s
  else if 10000 ≤ ns then bootReset true s.boot.supplyLow s
  else if Config.shortPulseResets s.clk.free then bootReset true s.boot.supplyLow (useFree s)
  else useFree s

/-- A supply falls below its monitor's threshold (R560). -/
def supplyFall (s : State) : State := bootReset s.boot.resetLow true s

/-- Every supply is back (R560). -/
def supplyRise (inp : StartInput) (s : State) : State :=
  if !s.boot.supplyLow then s
  else
    let s1 := modBoot (fun b => { b with supplyLow := false }) s
    if s.boot.resetLow then s1 else runStart inp s1

/-- BOOT_CTRL.RESTART with its key: a soft reset (R15, R509). -/
def restartWrite (v : Word) (inp : StartInput) (s : State) : State :=
  if hostReaches s && v.getLsbD 1 && decide (wfld v 31 16 = 0xB007) then runStart inp (bootReset false false s) else s

/-- BOOT_CTRL.FORWARD (R514, R525). -/
def forwardWrite (v : Word) (s : State) : State :=
  if hostReaches s && v.getLsbD 0 && s.boot.startS.isNone && s.prog.pendingImg.isSome && tb s.pwr.ready 25 && tb s.pwr.ready 26
      && (s.boot.safe = .noImage || s.boot.safe = .strap) then
    nameStart (s.clk.tick + 1024) (modBoot (fun b => { b with byHand := true }) s)
  else s

/-- PLL_LOCK (R17, R510): the tick count is zeroed at the next boundary; a start held in step 2 goes on. -/
def pllLocks (s : State) : State :=
  if s.boot.inReset || s.clk.pllLocked then s
  else match s.boot.holding with
    | some inp => stepThree inp (modBoot (fun b => { b with holding := none }) s)
    | none => modClk (fun c => { c with pllLocked := true, zeroNext := true }) s

/-- At S of a start by hand the device leaves the safe hearth state and runs its twin step (R514). -/
def leaveSafe (s : State) : State :=
  match s.boot.startS with
  | some t =>
    if t = s.clk.tick ∧ isSafe s ∧ s.boot.byHand then
      if sliceLost s then enterSafe .sliceFailed (modBoot (fun b => { b with startS := none }) s)
      else forwardingDue (stepNine (modBoot (fun b => { b with safe := .none, step := 11 }) s))
    else s
  | none => s

/-- PAIR_WAIT_EXPIRE (R409): no pairing has completed within 10 s of start-up. -/
def pairWaitDue (s : State) : State :=
  match s.boot.pairWait with
  | some t =>
    if t ≤ s.clk.tick ∧ !s.clk.forwarding ∧ !s.twin.pair.passed ∧ (s.twin.st = .solo ∨ s.twin.st = .pairing) then
      let s1 := modBoot (fun b => { b with pairWait := none }) s
      beginForwarding (if s1.twin.st = .pairing then setState .solo s1 else s1)
    else s
  | none => s

/-! ### Fuses (R517, R518) -/

/-- BOOT_FUSE_DATA as bytes. -/
def fuseBytes (s : State) (n : Nat) : List Byte := (List.range n).flatMap fun w => leBytes 4 (FMap.get 0 s.boot.fuseData w)

/-- R518: the operation is refused. -/
def fuseRefused (op slot svn : Nat) (s : State) : Bool :=
  match op with
  | 1 => (FMap.find? s.fuses.custHash slot).isSome
  | 2 => false
  | 3 => false
  | 4 => s.fuses.cwk.isSome
  | 5 => decide (svn < s.fuses.svn ∨ 64 < svn)
  | _ => true

/-- BOOT_FUSE_CTRL.GO: an operation starts (R518). -/
def fuseGo (op slot svn : Nat) (s : State) : State :=
  if hostReaches s && isSafe s && s.boot.vfuseOk && s.boot.fuseOp.isNone then
    modBoot (fun b => { b with fuseOp := some { op := op, slot := slot, svn := svn, refused := fuseRefused op slot svn s } }) s
  else s

/-- A write of BOOT_FUSE_CTRL: its RW fields, then GO. -/
def fuseCtrlWrite (v : Word) (s : State) : State :=
  let s1 := regSet .BOOT_FUSE_CTRL 0 (v &&& Reg.BOOT_FUSE_CTRL.info.rw) s
  if v.getLsbD 16 then fuseGo (wfld v 2 0) (wfld v 4 3) (wfld v 14 8) s1 else s1

/-- A write of BOOT_FUSE_CTRL with GO, from its fields. -/
def fuseCommand (op slot svn : Nat) (s : State) : State :=
  if hostReaches s then fuseCtrlWrite (BitVec.ofNat 32 (op + 8 * slot + 256 * svn + 65536)) s else s

/-- The fuses that an operation blows; a hash of zeros leaves its slot unprogrammed (Table BOOT-9). -/
def blow (op slot svn : Nat) (s : State) (f : Fuses) : Fuses :=
  match op with
  | 1 => if fuseBytes s 12 = List.replicate 48 0 then f else { f with custHash := FMap.put f.custHash slot (fuseBytes s 12) }
  | 2 => { f with custRevoke := Nat.lor f.custRevoke (2 ^ slot) }
  | 3 => { f with rootDisable := true }
  | 4 => { f with cwk := some (fuseBytes s 8) }
  | _ => { f with svn := svn }

/-- FUSE_OP_DONE: the read-back (R518). -/
def fuseDone (verified : Bool) (s : State) : State :=
  match s.boot.fuseOp with
  | none => s
  | some o =>
    let res := if o.refused then 1 else if verified then 0 else 2
    let s1 := if res = 0 then { s with fuses := blow o.op o.slot o.svn s s.fuses } else s
    let sensed := s.boot.cwkSensed || decide (res = 0 ∧ o.op = 4)
    raiseEv 0x1B09 0 (w2 o.op ++ w2 res) (modBoot (fun b => { b with fuseOp := none, fuseResult := res, cwkSensed := sensed }) s1)

/-! ### Commands -/

/-- RESET_N_RISE (R509, R510). -/
def execResetNRise (inp : StartInput) (s : State) : Host.Outcome State Fault Refusal := .next (resetRise inp s)

/-- RESET_N_LOW (R509, R561). -/
def execResetNLow (lowNs : Nat) (s : State) : Host.Outcome State Fault Refusal := .next (resetFall lowNs s)

/-- SUPPLY_MONITOR_RESET (R560). -/
def execSupplyMonitorReset (s : State) : Host.Outcome State Fault Refusal := .next (supplyFall s)

/-- SUPPLY_MONITOR_RELEASE (R560). -/
def execSupplyMonitorRelease (inp : StartInput) (s : State) : Host.Outcome State Fault Refusal := .next (supplyRise inp s)

/-- RESTART (R15, R509). -/
def execRestart (value : Word) (inp : StartInput) (s : State) : Host.Outcome State Fault Refusal := .next (restartWrite value inp s)

/-- FORWARD (R514). -/
def execForward (value : Word) (s : State) : Host.Outcome State Fault Refusal := .next (forwardWrite value s)

/-- PLL_LOCK (R17). -/
def execPllLock (s : State) : Host.Outcome State Fault Refusal := .next (pllLocks s)

/-- PAIR_WAIT_EXPIRE (R409). -/
def execPairWaitExpire (s : State) : Host.Outcome State Fault Refusal := .next (pairWaitDue s)

/-- FUSE_PROGRAM_CUST_HASH (R518): OP 1. -/
def execFuseProgramCustHash (slot : Fin 4) (s : State) : Host.Outcome State Fault Refusal := .next (fuseCommand 1 slot.val 0 s)

/-- FUSE_REVOKE (R518): OP 2. -/
def execFuseRevoke (slot : Fin 4) (s : State) : Host.Outcome State Fault Refusal := .next (fuseCommand 2 slot.val 0 s)

/-- FUSE_ROOT_DISABLE (R518): OP 3. -/
def execFuseRootDisable (s : State) : Host.Outcome State Fault Refusal := .next (fuseCommand 3 0 0 s)

/-- FUSE_PROGRAM_CWK (R518): OP 4. -/
def execFuseProgramCwk (s : State) : Host.Outcome State Fault Refusal := .next (fuseCommand 4 0 0 s)

/-- FUSE_ADVANCE_SVN (R518): OP 5. -/
def execFuseAdvanceSvn (svn : Fin 128) (s : State) : Host.Outcome State Fault Refusal := .next (fuseCommand 5 0 svn.val s)

/-- FUSE_OP_DONE (R518). -/
def execFuseOpDone (verified : Bool) (s : State) : Host.Outcome State Fault Refusal := .next (fuseDone verified s)

end Sys2Proof.Machine
end

