-- ==== Sys2Proof/Machine/Access.lean ====
section
/-! DEFINITION. Direct accesses of BAR0 (R8 to R13, R463, R464): reads with what they latch, pop or clear, and writes by block; accesses
of BAR2 (R465). -/

namespace Sys2Proof.Machine

/-! ### Reads -/

/-- A read of the low word of a 64-bit quantity latches its high word (R9). -/
def latchHigh (a : Nat) (s : State) : State :=
  if isLowWord a then
    { s with regs := { s.regs with latch := FMap.set none s.regs.latch (a + 4) (some (barWord s (a + 4))) } }
  else s

/-- A read clears RC fields; the read returns the value before (R11, R13). -/
def clearRc (a : Nat) (s : State) : State :=
  match Reg.find a with
  | some (r, i) => if r.info.rc = 0 then s else regSet r i (regVal s r i &&& ~~~r.info.rc) s
  | none => s

/-- A read of TIME_NOW_FRAC latches the time of day at CK_TIME cycle `c` of the tick, and the tick (R458). -/
def latchNow (c : Nat) (s : State) : State :=
  modTime (fun u => { u with nowLatch := (todAt s s.clk.tick c, s.clk.tick) }) s

/-- A read of one aligned word of BAR0, at CK_TIME cycle `c` of the tick; an unmapped offset reads zero (R463). -/
def barRead (a c : Nat) (s : State) : State :=
  if !hostReaches s ∨ a % 4 ≠ 0 ∨ 0x4000000 ≤ a then s
  else match Reg.find a with
    | some (.TIME_NOW_FRAC, _) => let s1 := latchNow c s; readAnswer (barWord s1 a) s1
    | some (.HOST_TWI_FIFO, m) => twiPop m s
    | some (.HOST_UART_DATA, _) => uartPop s
    | _ => readAnswer (barShown s a) (clearRc a (latchHigh a s))

/-! ### Writes -/

/-- The ring of a ring register's instance. -/
def ringOfReg (r : Reg) (i : Nat) : Nat :=
  match r with
  | .HOST_QRING_BASE_LO => i + 3
  | .HOST_QRING_BASE_HI => i + 3
  | .HOST_QRING_CFG => i + 3
  | .HOST_QRING_PROD => i + 3
  | .HOST_QRING_CONS => i + 3
  | _ => i

/-- A write of a ring's base address; ignored while the ring is enabled (R467). -/
def ringBaseWrite (r : Reg) (i : Nat) (v : Word) (s : State) : State :=
  if ringEnabled s (ringOfReg r i) then s
  else match r with
    | .HOST_RING_BASE_LO => takeHeldHigh r .HOST_RING_BASE_HI i (mergeReg s r i v 0xFFFFFFFF) s
    | .HOST_QRING_BASE_LO => takeHeldHigh r .HOST_QRING_BASE_HI i (mergeReg s r i v 0xFFFFFFFF) s
    | _ => holdHigh r i v 0xFFFFFFFF s

/-- A write of a HOST register (R488 to R492). -/
def hostRegWrite (r : Reg) (i : Nat) (v : Word) (s : State) : State :=
  match r with
  | .HOST_RING_BASE_LO => ringBaseWrite r i v s
  | .HOST_RING_BASE_HI => ringBaseWrite r i v s
  | .HOST_QRING_BASE_LO => ringBaseWrite r i v s
  | .HOST_QRING_BASE_HI => ringBaseWrite r i v s
  | .HOST_RING_CFG => ringCfgSet (ringOfReg r i) v s
  | .HOST_QRING_CFG => ringCfgSet (ringOfReg r i) v s
  | .HOST_RING_PROD => ringProdWrite (ringOfReg r i) v s
  | .HOST_QRING_PROD => ringProdWrite (ringOfReg r i) v s
  | .HOST_RING_CONS => ringConsWrite (ringOfReg r i) v s
  | .HOST_QRING_CONS => ringConsWrite (ringOfReg r i) v s
  | .HOST_MDIO_CMD => mdioStart i v s
  | .HOST_TWI_CMD => twiCmd i v s
  | .HOST_TWI_FIFO => modTwi i (fun y => { y with toSend := y.toSend ++ [v.setWidth 8] }) s
  | .HOST_UART_DATA => uartPush v s
  | .HOST_ERR =>
    modHost (fun h => { h with vectors := FMap.upd {} h.vectors 2 fun x => { x with armed := true } }) (clearW1c (r.addr i) v s)
  | _ => if r.info.rw = 0 then s else regSet r i (mergeReg s r i v 0xFFFFFFFF) s

/-- A write of a BOOT register (R514, R518, R520); RESTART is a command of its own. -/
def bootRegWrite (r : Reg) (i : Nat) (v : Word) (s : State) : State :=
  match r with
  | .BOOT_CTRL => forwardWrite v s
  | .BOOT_FUSE_CTRL => fuseCtrlWrite v s
  | .BOOT_FUSE_DATA => modBoot (fun b => { b with fuseData := FMap.set 0 b.fuseData i v.toNat }) s
  | _ => clearW1c (r.addr i) v s

/-- A write of a TWIN, PWR or BIST register acts on the written twin at once (R435, R523, R547, R548). -/
def ownRegWrite (r : Reg) (i : Nat) (v : Word) (s : State) : State :=
  match r with
  | .PWR_DOMAIN_CTRL => domainCtrlWrite v s
  | _ =>
    let s1 := clearW1c (r.addr i) v s
    if r.info.rw = 0 then s1 else regSet r i (mergeReg s1 r i v 0xFFFFFFFF) s1

/-- A direct write of one aligned word of BAR0 (R463, R464). -/
def barWrite (a : Nat) (v : Word) (s : State) : State :=
  if !hostReaches s ∨ a % 4 ≠ 0 then s
  else match Reg.find a with
    | none => s
    | some (r, i) =>
      if agreedBlock a then directWrite a v s
      else match blockOf a with
        | 0 => applyReg a v 0xFFFFFFFF (clearW1c a v s)
        | 11 => hostRegWrite r i v s
        | 12 => bootRegWrite r i v s
        | _ => ownRegWrite r i v s

/-- An access of BAR0 that is not one aligned word completes with Unsupported Request (R463). -/
def badAccess (off bytes : Nat) (s : State) : State :=
  if !hostReaches s ∨ (bytes = 4 ∧ off % 4 = 0) then s
  else hostErr 2 { s with regs := { s.regs with rdData := none } }

/-! ### BAR2 (R465) -/

/-- The counter pair that an offset of the counter window belongs to (Table HOST-3). -/
def windowKey (a : Nat) : Nat :=
  if a < 0xC000000 then (a - 0x8000000) / 16 else fixedKey ((a - 0xC000000) / 0x400000) ((a - 0xC000000) % 0x400000 / 16)

/-- A byte of BAR2: the host region of HBM, or the HBM image of a counter pair. -/
def bar2Byte (s : State) (a : Nat) : Byte :=
  if a < 0x8000000 then FMap.get 0 s.host.hbmHost a
  else
    let p := FMap.get (0, 0) s.egr.image (windowKey a)
    byteAt (leBytes 8 p.1 ++ leBytes 8 p.2) (a % 16)

/-- A read of `len` bytes of BAR2. -/
def bar2Read (a len : Nat) (s : State) : State :=
  if !hostReaches s then s
  else { s with regs := { s.regs with rdBytes := (List.range len).map fun i => bar2Byte s (a + i) } }

/-- A write of BAR2: the counter window discards it. -/
def bar2Write (a : Nat) (bs : List Byte) (s : State) : State :=
  if !hostReaches s then s
  else modHost (fun h => { h with hbmHost := FMap.putBytes 0 h.hbmHost a (bs.take (0x8000000 - a)) }) s

/-! ### Commands -/

/-- TIME_NOW_LATCH (R458). -/
def execTimeNowLatch (cycle : Fin 40) (s : State) : Host.Outcome State Fault Refusal :=
  .next (barRead (Reg.TIME_NOW_FRAC.addr 0) cycle.val s)

/-- LOW_WORD_READ (R9). -/
def execLowWordRead (off : Nat) (s : State) : Host.Outcome State Fault Refusal := .next (barRead off 0 s)

/-- HIGH_WORD_WRITE (R10). -/
def execHighWordWrite (off : Nat) (value : Word) (s : State) : Host.Outcome State Fault Refusal := .next (barWrite off value s)

/-- RC_READ (R13, R463, R465): a read of a word of BAR0, or of bytes of BAR2. -/
def execRcRead (rd : BarRead) (s : State) : Host.Outcome State Fault Refusal :=
  .next (match rd with
    | .bar0 off => barRead off 0 s
    | .bar2 off len => bar2Read off len s)

/-- REGISTER_WRITE (R464, R465): a write of a word of BAR0, or of bytes of BAR2. -/
def execRegisterWrite (wr : BarWrite) (s : State) : Host.Outcome State Fault Refusal :=
  .next (match wr with
    | .bar0 off value => barWrite off value s
    | .bar2 off data => bar2Write off data s)

/-- BAD_ACCESS (R463). -/
def execBadAccess (off bytes : Nat) (s : State) : Host.Outcome State Fault Refusal := .next (badAccess off bytes s)

end Sys2Proof.Machine
end

