-- ==== Sys2Proof/Machine/Audit.lean ====
section
/-! DEFINITION. The auditor of the tables (R300 to R302). -/

namespace Sys2Proof.Machine

/-- The offset of a table's records in the shadow, their number and their size (Table TBL-8). -/
def shadowLayout (tbl : Nat) : Nat × Nat × Nat :=
  match tbl with
  | 0 => (0x00000000, 1052672, 16)
  | 1 => (0x01010000, 1050624, 16)
  | 2 => (0x02018000, 262144, 8)
  | 3 => (0x02218000, 16384, 8)
  | 4 => (0x02238000, 262144, 8)
  | 5 => (0x02438000, 1048576, 8)
  | _ => (0, 0, 0)

/-- The 64-bit word at an offset of the shadow (R300): what `given` says that host software has put there, by offset. A word it
does not name is zero in host memory, and what the host region of HBM holds (notes/assumptions/50.md). -/
def shadowWord (given : List (Nat × Nat)) (s : State) (off : Nat) : Nat :=
  match List.find? (fun e : Nat × Nat => decide (e.1 = off)) given with
  | some e => e.2 % 2 ^ 64
  | none =>
    if regBit s .TBL_AUDIT_CFG 0 2 then 0 else
    let base := (regVal s .TBL_AUDIT_BASE_HI 0).toNat * 2 ^ 32 + (regVal s .TBL_AUDIT_BASE_LO 0).toNat
    leVal (FMap.bytes 0 s.host.hbmHost (base + off) 8)

/-- A shadow record: key word and DATA; an indexed table has no key word. -/
def shadowRecord (given : List (Nat × Nat)) (s : State) (tbl i : Nat) : Nat × Nat :=
  let l := shadowLayout tbl
  if l.2.2 = 16 then (shadowWord given s (l.1 + 16 * i), shadowWord given s (l.1 + 16 * i + 8))
  else (0, shadowWord given s (l.1 + 8 * i))

/-- What the auditor knows of the entry at a physical index: its identity, the index it is named by, key word and DATA in force,
the effect tick of its last change, an uncorrectable error. -/
structure Audited where
  key : Option EntryKey
  idx : Nat
  word : Nat
  data : Nat
  last : Option Nat
  bad : Bool
  deriving DecidableEq, Repr

/-- The station entry at a physical index; one without a valid version in force is all zero. -/
def auditStation (s : State) (i : Nat) : Audited :=
  match FMap.find? s.tbl.stations i with
  | none => { key := none, idx := i, word := 0, data := 0, last := FMap.find? s.tbl.gone i, bad := false }
  | some e =>
    let k : EntryKey := ⟨0, e.key⟩
    let d := verNow s k e.ver
    let v := tb d 63
    { key := some k, idx := i, word := if v then e.key else 0, data := if v then d else 0, last := some e.ver.eff, bad := e.eccBad }

/-- The route at a slot, whose odd slot belongs to an IPv6 pair that begins below it. -/
def auditRoute (s : State) (i : Nat) : Audited :=
  let pair := if i % 2 = 1 then (FMap.find? s.tbl.routes (i - 1)).filter (·.v6) else none
  match pair, FMap.find? s.tbl.routes i with
  | some e, _ =>
    let k : EntryKey := ⟨1, routeKey true e.len e.addr⟩
    let v := tb (verNow s k e.ver) 59
    { key := some k, idx := i - 1, word := if v then e.addr % 2 ^ 64 else 0, data := 0, last := some e.ver.eff, bad := e.eccBad }
  | none, some e =>
    let k : EntryKey := ⟨1, routeKey e.v6 e.len e.addr⟩
    let d := verNow s k e.ver
    let v := tb d 59
    let w := if e.v6 then e.addr / 2 ^ 64 else e.addr
    { key := some k, idx := i, word := if v then w else 0, data := if v then d else 0, last := some e.ver.eff, bad := e.eccBad }
  | none, none =>
    { key := none, idx := i, word := 0, data := 0, last := FMap.find? s.tbl.gone (2 ^ 32 + i), bad := false }

/-- The entry of an indexed table; PUB_TICK is ignored (R301). -/
def auditIndexed (s : State) (tbl i : Nat) (m : FMap Entry) : Audited :=
  let k : EntryKey := ⟨tbl, i⟩
  match FMap.find? m i with
  | none => { key := some k, idx := i, word := 0, data := 0, last := none, bad := false }
  | some e => { key := some k, idx := i, word := 0, data := verNow s k e.ver, last := some e.ver.eff, bad := e.eccBad }

/-- The entry under audit. -/
def auditedAt (s : State) (tbl i : Nat) : Audited :=
  match tbl with
  | 0 => auditStation s i
  | 1 => auditRoute s i
  | 2 => auditIndexed s 2 i s.tbl.nexthops
  | 3 => auditIndexed s 3 i s.tbl.groups
  | 4 => auditIndexed s 4 i s.tbl.members
  | _ => auditIndexed s 5 i s.tbl.headers

/-- STATIC or SECURE is set in a station's DATA. -/
def fixedStation (d : Nat) : Bool := tb d 37 || tb d 38

/-- R301: the entry is compared, and differs from its shadow record. -/
def auditDiffers (s : State) (tbl : Nat) (a : Audited) (sh : Nat × Nat) : Bool :=
  let busy := match a.key with
    | some k => (changeOf s k).isSome
    | none => false
  let recent := match a.last with
    | some e => decide (s.clk.tick < e + 2 ^ 20)
    | none => false
  let skipped := decide (tbl = 0) && !(fixedStation a.data || fixedStation sh.2)
  let data := if tbl = 5 then sh.2 % 2 ^ 32 else sh.2
  !busy && !recent && !skipped && (a.bad || decide (a.word ≠ sh.1 ∨ a.data ≠ data))

/-- The mailbox sequence under which repairs are agreed: after every command of the same tick (notes/assumptions/49.md). -/
def repairSeq : Nat := 0xFFFFFFFF

/-- AUTO_REPAIR: the shadow value is written back as a host write with a device-assigned effect tick (R302). -/
def auditRepair (tbl i : Nat) (a : Audited) (sh : Nat × Nat) (given : List (Nat × Nat)) (s : State) : State :=
  let even := shadowRecord given s tbl (if tbl = 1 ∧ i % 2 = 1 ∧ a.idx ≠ i then i - 1 else i)
  let odd := shadowRecord given s tbl (i / 2 * 2 + 1)
  let words :=
    match tbl with
    | 0 => [if tb sh.2 63 then sh.1 else match a.key with
        | some k => k.key
        | none => sh.1, sh.2]
    | 1 =>
      if tb even.2 60 then [even.1, odd.1, even.2]
      else match a.key with
        | some k => if tb even.2 59 then [even.1, 0, even.2]
          else if routeV6 k.key then
            [routeAddr k.key / 2 ^ 64, routeAddr k.key % 2 ^ 64, 2 ^ 60 + routeLen k.key * 2 ^ 48]
          else [routeAddr k.key, 0, routeLen k.key * 2 ^ 48]
        | none => [even.1, 0, even.2]
    | _ => [i, sh.2]
  let rec_ := wordBytes words
  let e := assignTick s
  let w : HostWrite := { eff := e, side := s.twin.side, seq := repairSeq, act := .table tbl words }
  let r := acceptWrite w [] s
  if r.1 ≠ stOk then r.2.2
  else
    let h : MbxHdr := { version := BitVec.ofNat 8 s.host.version, flags := 0, cookie := 0, tick := 0, bufAddr := 0, bufLen := 0 }
    tellWrite e repairSeq (mbxEntry h opTableWrite 0 (tableArgs tbl rec_)) [] r.2.2

/-- Visit one entry: a mismatch is counted, reported and, with AUTO_REPAIR, repaired (R301, R302). True on a mismatch. -/
def auditVisit (given : List (Nat × Nat)) (once : Bool) (tbl i : Nat) (s : State) : Bool × State :=
  let a := auditedAt s tbl i
  let sh := shadowRecord given s tbl i
  if !auditDiffers s tbl a sh then (false, s)
  else
    let s1 := regCount .TBL_AUDIT_MISMATCH_CNT 0 s
    let told := once && s.tbl.auditBad.contains (tbl, a.idx)
    let s2 := if told then s1
      else raiseEv 0x1407 0 (w2 tbl ++ w4 i ++ w8 a.data ++ w8 sh.2) s1
    let s3 := if once && !told then modTbl (fun t => { t with auditBad := t.auditBad ++ [(tbl, a.idx)] }) s2 else s2
    (true, if regBit s .TBL_AUDIT_CFG 0 1 then auditRepair tbl i a sh given s3 else s3)

/-- The auditor's next visit (R300): after the last table a pass has ended. -/
def auditNext (given : List (Nat × Nat)) (s : State) : State :=
  let r := auditVisit given true s.tbl.auditTbl s.tbl.auditIdx s
  let s1 := if r.1 then modTbl (fun t => { t with auditMism := t.auditMism + 1 }) r.2 else r.2
  let n := s1.tbl.auditIdx + 1
  if n < (shadowLayout s1.tbl.auditTbl).2.1 then modTbl (fun t => { t with auditIdx := n }) s1
  else if s1.tbl.auditTbl < 5 then modTbl (fun t => { t with auditTbl := t.auditTbl + 1, auditIdx := 0 }) s1
  else
    let p := (s1.tbl.auditPasses + 1) % 2 ^ 32
    raiseEv 0x1408 0 (w4 p ++ w4 s1.tbl.auditMism)
      (modTbl (fun t => { t with auditTbl := 0, auditIdx := 0, auditPasses := p, auditBad := [], auditMism := 0 }) s1)

/-- The visits of one tick. -/
def auditStep (given : List (Nat × Nat)) (s : State) : State :=
  if regBit s .TBL_AUDIT_CFG 0 0 then forEach (List.range (regFld s .TBL_AUDIT_CFG 0 15 8)) (fun _ => auditNext given) s else s

/-- The visits of a TABLE_AUDIT (R474): the mismatches. -/
def auditRange (tbl first count : Nat) (given : List (Nat × Nat)) (s : State) : Nat × State :=
  (List.range count).foldl (fun (a : Nat × State) k =>
    let r := auditVisit given false tbl (first + k) a.2
    (a.1 + b2n r.1, r.2)) (0, s)

end Sys2Proof.Machine
end

