-- ==== Sys2Proof/Machine/Long.lean ====
section
/-! DEFINITION. The long mailbox commands as they finish (R469): PROGRAM_LOAD, TABLE_AUDIT, IMAGE_WRITE, IMAGE_SELECT and
BIST_RUN. Each ends with a status, a RESULT and the new state. -/

namespace Sys2Proof.Machine

/-- PROGRAM_LOAD (R191, R195). -/
def longProgram (c : LongCmd) (s : State) : Nat × List Byte × State :=
  let r := loadProgram c.bufIn s
  match r.1 with
  | some e => (stRefused, leBytes 1 e.1 ++ [0, 0, 0] ++ leBytes 4 e.2, r.2)
  | none =>
    let img := r.2.prog.pendingImg.getD {}
    (stOk, leBytes 2 img.id ++ leBytes 2 img.wcyc, r.2)

/-- TABLE_AUDIT (R474): a table of the shadow and indices within it. -/
def longAudit (c : LongCmd) (s : State) : Nat × List Byte × State :=
  let tbl := leAt c.args 0 2
  let first := leAt c.args 4 4
  let count := leAt c.args 8 4
  if 5 < tbl ∨ (shadowLayout tbl).2.1 < first + count then (stBadArgs, [], s)
  else let r := auditRange tbl first count c.shadow s; (stOk, leBytes 4 r.1, r.2)

/-- IMAGE_WRITE operation 0 (R508). -/
def imageData (slot off : Nat) (bs : List Byte) (s : State) : Nat × List Byte × State :=
  let n := bs.length
  if n = 0 ∨ n % 256 ≠ 0 ∨ off % 256 ≠ 0 ∨ 0x07FFEF00 < off ∨ trailerOff < off + n ∨ !flashBlank s slot off n then (stBadArgs, [], s)
  else (stOk, leBytes 4 n, flashWrite slot off bs s)

/-- IMAGE_WRITE operation 1 (R506): the running image and an overlay of the state as of the command's tick. A sensed copy of
CWK that a scan lock zeroised counts as no key (R542; notes/assumptions/171.md). -/
def imageCommit (slot : Nat) (c : LongCmd) (iv : List Byte) (s : State) : Nat × List Byte × State :=
  match s.fuses.cwk with
  | none => (stNotAllowed, [], s)
  | some k =>
    let n := s.boot.image.length
    let off := overlayOff n
    let ov := overlayBytes k s.boot.imageHash iv c.bufIn c.tick
    let kept := match s.boot.slot with
      | some b => decide (0 < n ∧ sha384 (flashRead s b 0 n) = s.boot.imageHash)
      | none => false
    if !s.boot.cwkSensed then (stNotAllowed, [], s)
    else if !kept ∨ trailerOff < off + ov.length then (stConfig, [], s)
    else
      let s1 := flashWrite slot off ov (flashWrite slot 0 s.boot.image (flashErase slot 0 slotBytes s))
      (stOk, leBytes 4 (n + ov.length), raiseEv 0x1B08 0 (w2 slot ++ w4 c.tick) s1)

/-- IMAGE_WRITE (R506, R508). -/
def longImageWrite (c : LongCmd) (iv : List Byte) (s : State) : Nat × List Byte × State :=
  let slot := leAt c.args 0 1
  let off := leAt c.args 4 4
  if 1 < slot then (stBadArgs, [], s)
  else if s.boot.slot = some slot then (stNotAllowed, [], s)
  else match leAt c.args 1 1 with
    | 0 => imageData slot off c.bufIn s
    | 1 => imageCommit slot c iv s
    | 2 => if off ≠ 0 then (stBadArgs, [], s) else (stOk, leBytes 4 0, flashErase slot 0 slotBytes s)
    | _ => (stBadArgs, [], s)

/-- The SEQ of a new select record (R503). -/
def nextSelect (s : State) : Nat :=
  match selectValue s 0, selectValue s 1 with
  | some a, some b => (Nat.max a b + 1) % 2 ^ 32
  | some a, none => (a + 1) % 2 ^ 32
  | none, some b => (b + 1) % 2 ^ 32
  | none, none => 1

/-- Write a select record into the first erased entry of a slot's trailer, erasing the trailer when it has none (R503). -/
def writeSelect (slot : Nat) (s : State) : State :=
  let r := selectRecord (nextSelect s)
  match (List.range 256).find? fun i => flashBlank s slot (trailerOff + 16 * i) 16 with
  | some i => flashWrite slot (trailerOff + 16 * i) r s
  | none => flashWrite slot trailerOff r (flashErase slot trailerOff slotBytes s)

/-- IMAGE_SELECT (R503). -/
def longSelect (c : LongCmd) (flashOk : Bool) (s : State) : Nat × List Byte × State :=
  let slot := leAt c.args 0 1
  if 1 < slot then (stBadArgs, [], s)
  else match slotImage flashOk slot s with
    | .error _ => (stAuth, [], s)
    | .ok _ => (stOk, [], writeSelect slot s)

/-- BIST_RUN (R540, R544). -/
def longBist (c : LongCmd) (inp : LongInput) (s : State) : Nat × List Byte × State :=
  let test := leAt c.args 0 1
  let mode := leAt c.args 1 1
  let found := if test = 3 then [] else inp.failed
  let rep := bistReport test mode (if test = 3 then 0 else inp.result) found s
  if test = 0 ∨ 3 < test ∨ c.bufLen < rep.length then (stBadArgs, [], s)
  else if test = 3 then
    if 17 ≤ mode then (stBadArgs, [], s)
    else if s.pwr.visit.isSome then (stBusy, [], s)
    else if !(groupOf s mode).powered then (stNotAllowed, [], s)
    else (stOk, [], hostPut c.bufAddr rep (visitGroup mode s))
  else if 31 ≤ mode then (stBadArgs, [], s)
  else if !bistAllowed mode s then (stNotAllowed, [], s)
  else (stOk, [], hostPut c.bufAddr rep (forEach found (fun e => addHealth e.1 e.2 8) s))

/-- A long command finishes: status, RESULT and state. -/
def longRun (c : LongCmd) (inp : LongInput) (s : State) : Nat × List Byte × State :=
  let op := c.cmd.opcode
  if op = opProgramLoad then longProgram c s
  else if op = opTableAudit then longAudit c s
  else if op = opImageWrite then longImageWrite c inp.iv s
  else if op = opImageSelect then longSelect c inp.flashOk s
  else longBist c inp s

/-- LONG_COMMAND_DONE (R469): the running long command finishes; the next one starts. One that waits for its tick goes on. -/
def longDone (inp : LongInput) (s : State) : State :=
  match s.host.longs with
  | [] => s
  | c :: rest =>
    if s.clk.tick < c.tick then s
    else
      let r := longRun c inp (modHost (fun h => { h with longs := rest }) s)
      complete c.cmd r.1 0 r.2.1 r.2.2

/-- IMAGE_WRITE operation 1 is taken (R471, R506): the overlay's records are those as of its TICK. -/
def commitCmd (h : MbxHdr) (slot : Nat) (s : State) : State :=
  mbxTake h opImageWrite (fun c s =>
    let t := if h.tick.toNat = 0 then s.clk.tick else h.tick.toNat
    if t < s.clk.tick then complete c stTooSoon 0 [] s
    else queueLong h c (leBytes 1 slot ++ [1, 0, 0]) (if t = s.clk.tick then overlayBody s else []) [] t s) s

/-- The overlays whose tick has come take their records (R471). -/
def commitsDue (s : State) : State :=
  let due (c : LongCmd) : Bool := decide (c.cmd.opcode = opImageWrite ∧ c.tick = s.clk.tick ∧ c.bufIn = []) && decide (leAt c.args 1 1 = 1)
  if s.host.longs.any due then
    let b := overlayBody s
    modHost (fun h => { h with longs := h.longs.map fun c => if due c then { c with bufIn := b } else c }) s
  else s

/-! ### Commands -/

/-- LONG_COMMAND_DONE (R469). -/
def execLongCommandDone (inp : LongInput) (s : State) : Host.Outcome State Fault Refusal := .next (longDone inp s)

/-- IMAGE_WRITE operation 1 (R506). -/
def execImageWriteCommit (h : MbxHdr) (slot : Nat) (s : State) : Host.Outcome State Fault Refusal := .next (commitCmd h slot s)

end Sys2Proof.Machine
end

