-- ==== Sys2Proof/Machine/Tick.lean ====
section
/-! DEFINITION. The tick boundary (R16 to R39): the count advances and everything whose tick has come takes effect, in the order of
R28 and R345. What depends on no tick count (a result's arrival, a received block, a test that ends) has commands of its own. -/

namespace Sys2Proof.Machine

/-- The messages of the tick that has ended leave in flue frames; the outputs of the new tick are empty. -/
def turnOutputs (s : State) : State := modOut (fun o => { flueFrames := o.flueFrames }) (packFlue s)

/-- The 64-bit count advances by 1, or is zeroed at the first boundary after the PLL locks (R16, R17). -/
def advanceTick (s : State) : State :=
  modClk (fun c => { c with tick := if c.zeroNext then 0 else (c.tick + 1) % 2 ^ 64, zeroNext := false }) (timeAdvance s)

/-- The ports whose MAC has anything to do: the enabled ones and those not in their reset state. -/
def livePorts (s : State) : List Nat :=
  let on := enabledPorts s
  on ++ (s.ports.map (·.1)).filter fun p => !on.contains p

/-- Starting, pairing and twin states: what is due before any decision of the tick (R409, R411, R429, R512, R514). -/
def startsDue (s : State) : State := pairWaitDue (forwardingDue (leaveSafe (twinEarly s)))

/-- Link effect ticks, the ends of holds and of suppressions, pause storms (R103 to R119). -/
def portEarly (p : Nat) (s : State) : State :=
  pauseWatch p (stormQuiet p (flapQuiet p (holdExpiry p (ctRaisesDue p (linkEffects p s)))))

/-- The ends of pauses that no frame admitted in the tick has extended, the idle time of a port's queues and its LPI counts (R94, R102,
R106, R109). -/
def portLate (p : Nat) (s : State) : State := countLpi p (lpiEnter p (noteEmpty p (pauseExpiry p s)))

/-- Changes of tables whose effect or completion tick has come, in the order of R28: a completion may let a queued change take
effect at this tick. -/
def changesDue (s : State) : State := effectsDue (completeDue (effectsDue (completeDue (hitsDue s))))

/-- Host writes, publishes, counters, the program's activation and the TCAM transaction of this tick (R28, R192, R296, R324,
R383, R391, R392). -/
def effectsOfTick (s : State) : State :=
  txnIdle (txnApply (activationDue (applyCounts (publishesDue (meterWritesDue (applyWrites (changesDue s)))))))

/-- The budgets of the tick (R357, R364). -/
def setBudgets (s : State) : State :=
  modBuf (fun b => { b with bankBudget := 60, replBudget := regFld s .BUF_MC_CFG 0 31 16 }) s

/-- Frames and bitmaps whose admission tick passes while nothing is forwarded: no lane is clean for a tick that is not admitted
(R37; notes/assumptions/6.md). -/
def dropStopped (s : State) : State :=
  let t := s.clk.tick
  let overs := s.adm.arrived.filter fun r => decide (r.arrival + admDelay s ≤ t)
  forEach overs (dropArrived drLaneNotClean) (modAdm (fun a => { a with
    arrived := a.arrived.filter fun r => decide (t < r.arrival + admDelay s)
    own := a.own.filter fun e => decide (t < e.1 + admDelay s)
    partner := a.partner.filter fun e => decide (t < e.1 + admDelay s)
    missed := a.missed.filter fun k => decide (t < k + admDelay s) }) s)

/-- Steps 2 to 4 of R345: admissions with the timer firings, residues, retirements; dispatch of the frames of A + 2. -/
def admitAndRetire (s : State) : State :=
  let s1 := dispatchDue (conflictStep (fireSlots (admitStep s)))
  placeholdersDue (noteRetirements (withPlaceholders retireStep) (residueRetries (residueEnds s1)))

/-- Step 5 of R345: grants, takes, flushes; then the transmit MACs' cell reads of the tick (R568). -/
def grantAndTake (s : State) : State :=
  stageStep (flushStep (takesDue (recircStep (withPlaceholders grantStep (mirrorTakes 17 s)))))

/-- The frame path's work of a tick in the order of R345. -/
def pathTick (s : State) : State :=
  let s1 := gainStep (applyReleases s)
  if s.clk.forwarding then flowControlStep (fetchStep (grantAndTake (admitAndRetire s1))) else dropStopped s1

/-- The agreement of the tick that has ended (R20, R126, R130, R254). -/
def agreementTick (s : State) : State := relayEndsSend (relayFlush (lateCutoff (decideClean s)))

/-- A departure report that is overdue (R448). -/
def reportsDue (s : State) : State := forEach (s.time.tsPend.map (·.tsid)) tsTimeout s

/-- Old values that no frame on its way needs any more are forgotten (R26, R192, R270, R298, R301). -/
def forgetOld (s : State) : State :=
  let t := s.clk.tick
  let needed (e : Nat) : Bool := s.hob.flight.any fun f => decide (f.adm < e) && !(f.ended && f.retired)
  let s1 := modEgr (fun g => { g with policyHist := g.policyHist.filter fun h => needed h.1 })
    (modTbl (fun x => { x with linkHist := x.linkHist.filter (fun h => needed h.1), awareHist := x.awareHist.filter (fun h => needed h.1),
                               gone := x.gone.filter fun e => decide (t < e.2 + 2 ^ 20) }) s)
  freeOldImages (freeVersions (prunePubs s1))

/-- What the ECC of the table entries finds that the last tick's admissions, dispositions and records' headers read: table, index,
and whether the error is uncorrectable (R271). -/
def eccReads (found : List (Nat × Nat × Bool)) (s : State) : State :=
  forEach found (fun f => lookupEcc (some (f.1, f.2.1)) (if f.2.2 then .uncorrectable else .corrected)) s

/-- Everything that falls to the boundary into the current tick; `before` is the state in which the last tick ended. -/
def tickWork (inp : TickInput) (before s : State) : State :=
  let s1 := movesDue (startsDue (adoptDue (eccReads inp.ecc s)))
  let s2 := forEach (livePorts s1) portEarly s1
  let s3 := setBudgets (effectsOfTick (forEach (List.range 17) groupJoin s2))
  let s4 := capacityStep (commitsDue (serveReads (scanStep s3)))
  let s5 := agreementTick (pathTick s4)
  let s6 := forEach (livePorts s5) portLate (forEach (knownLanes s5) (fun l t => trainTimeoutOp l (laneTick l t)) s5)
  let s7 := auditStep inp.shadow (scrubStep before inp.rowBad inp.shadowBad (reportsDue (hostTick s6)))
  forgetOld (imageStep (heartbeat (twinLate (timeSend s7))))

/-- A tick boundary of a device out of reset whose reference PLL is locked (R16, R17, R509). -/
def tickBoundary (inp : TickInput) (s : State) : State :=
  if s.boot.inReset || !s.clk.pllLocked then s else tickWork inp s (advanceTick (turnOutputs s))

/-! ### Commands -/

/-- TICK (R16). -/
def execTick (inp : TickInput) (s : State) : Host.Outcome State Fault Refusal := .next (tickBoundary inp s)

end Sys2Proof.Machine
end

