-- ==== Sys2Proof/Machine/Dispatch.lean ====
section
/-! DEFINITION. One arm per command: each calls its own meaning. -/

namespace Sys2Proof.Machine

/-- The effect of a command on everything but the queue. -/
def exec (i : Instr) (s : State) : Host.Outcome State Fault Refusal :=
  match i with
  | .resetNRise inp => Sys2Proof.Machine.execResetNRise inp s
  | .resetNLow lowNs => Sys2Proof.Machine.execResetNLow lowNs s
  | .supplyMonitorReset => Sys2Proof.Machine.execSupplyMonitorReset s
  | .restart value inp => Sys2Proof.Machine.execRestart value inp s
  | .forward value => Sys2Proof.Machine.execForward value s
  | .functionLevelReset => Sys2Proof.Machine.execFunctionLevelReset s
  | .d3hotEntry => Sys2Proof.Machine.execD3hotEntry s
  | .pciePerst => Sys2Proof.Machine.execPciePerst s
  | .pllLock => Sys2Proof.Machine.execPllLock s
  | .forwardingStart => Sys2Proof.Machine.execForwardingStart s
  | .pairWaitExpire => Sys2Proof.Machine.execPairWaitExpire s
  | .tick inp => Sys2Proof.Machine.execTick inp s
  | .dispatchQueueEntry => Sys2Proof.Machine.execDispatchQueueEntry s
  | .brickPositionMove pos => Sys2Proof.Machine.execBrickPositionMove pos s
  | .tcamScrubRepair good => Sys2Proof.Machine.execTcamScrubRepair good s
  | .bankFetchArrive queue => Sys2Proof.Machine.execBankFetchArrive queue s
  | .timerFire slot => Sys2Proof.Machine.execTimerFire slot s
  | .energyInterval nj => Sys2Proof.Machine.execEnergyInterval nj s
  | .laneModeWrite lane value => Sys2Proof.Machine.execLaneModeWrite lane value s
  | .retrain lane => Sys2Proof.Machine.execRetrain lane s
  | .laneBlockLock lane => Sys2Proof.Machine.execLaneBlockLock lane s
  | .trainingSetReceive lane set => Sys2Proof.Machine.execTrainingSetReceive lane set s
  | .alignEntry lane => Sys2Proof.Machine.execAlignEntry lane s
  | .inServiceEntry lane => Sys2Proof.Machine.execInServiceEntry lane s
  | .trainTimeout lane => Sys2Proof.Machine.execTrainTimeout lane s
  | .tickMarkerReceive lane set => Sys2Proof.Machine.execTickMarkerReceive lane set s
  | .hearthFrameReceive lane fr => Sys2Proof.Machine.execHearthFrameReceive lane fr s
  | .channelStatusReceive lane set => Sys2Proof.Machine.execChannelStatusReceive lane set s
  | .reservedOrderedSet lane set => Sys2Proof.Machine.execReservedOrderedSet lane set s
  | .timestampReportReceive lane set => Sys2Proof.Machine.execTimestampReportReceive lane set s
  | .laneOutOfStep lane => Sys2Proof.Machine.execLaneOutOfStep lane s
  | .blockLockLoss lane => Sys2Proof.Machine.execBlockLockLoss lane s
  | .outOfStepRealign lane => Sys2Proof.Machine.execOutOfStepRealign lane s
  | .plainFrameReceive lane fr => Sys2Proof.Machine.execPlainFrameReceive lane fr s
  | .txFirstBlock port cycle => Sys2Proof.Machine.execTxFirstBlock port cycle s
  | .underrun port linkLost => Sys2Proof.Machine.execUnderrun port linkLost s
  | .ctDecay port => Sys2Proof.Machine.execCtDecay port s
  | .cellReturn cell eccBad => Sys2Proof.Machine.execCellReturn cell eccBad s
  | .ashRefill slice => Sys2Proof.Machine.execAshRefill slice s
  | .ashSpill slice => Sys2Proof.Machine.execAshSpill slice s
  | .linkLossAbort port => Sys2Proof.Machine.execLinkLossAbort port s
  | .pauseExpiry port => Sys2Proof.Machine.execPauseExpiry port s
  | .pauseFrameSend port => Sys2Proof.Machine.execPauseFrameSend port s
  | .pauseRefresh port => Sys2Proof.Machine.execPauseRefresh port s
  | .pauseStorm port => Sys2Proof.Machine.execPauseStorm port s
  | .stormRecover port => Sys2Proof.Machine.execStormRecover port s
  | .stormClear port => Sys2Proof.Machine.execStormClear port s
  | .flapClear port => Sys2Proof.Machine.execFlapClear port s
  | .ctReset port => Sys2Proof.Machine.execCtReset port s
  | .macTxCtWrite port value => Sys2Proof.Machine.execMacTxCtWrite port value s
  | .lpiEnter port => Sys2Proof.Machine.execLpiEnter port s
  | .linkDetect port up => Sys2Proof.Machine.execLinkDetect port up s
  | .linkDownEffect port => Sys2Proof.Machine.execLinkDownEffect port s
  | .linkUpEffect port => Sys2Proof.Machine.execLinkUpEffect port s
  | .linkHoldExpiry port => Sys2Proof.Machine.execLinkHoldExpiry port s
  | .flapRelease port => Sys2Proof.Machine.execFlapRelease port s
  | .cleanBitmap tick clean => Sys2Proof.Machine.execCleanBitmap tick clean s
  | .bitmapMissing tick atPartner => Sys2Proof.Machine.execBitmapMissing tick atPartner s
  | .relay fr => Sys2Proof.Machine.execRelay fr s
  | .relayEnd lane tick => Sys2Proof.Machine.execRelayEnd lane tick s
  | .capacity h q effTick => Sys2Proof.Machine.execCapacity h q effTick s
  | .capacityChange => Sys2Proof.Machine.execCapacityChange s
  | .invocationStart t => Sys2Proof.Machine.execInvocationStart t s
  | .steal t => Sys2Proof.Machine.execSteal t s
  | .add t gd dst a b => Sys2Proof.Machine.execAdd t gd dst a b s
  | .sub t gd dst a b => Sys2Proof.Machine.execSub t gd dst a b s
  | .and t gd dst a b => Sys2Proof.Machine.execAnd t gd dst a b s
  | .or t gd dst a b => Sys2Proof.Machine.execOr t gd dst a b s
  | .xor t gd dst a b => Sys2Proof.Machine.execXor t gd dst a b s
  | .andn t gd dst a b => Sys2Proof.Machine.execAndn t gd dst a b s
  | .shl t gd dst a b => Sys2Proof.Machine.execShl t gd dst a b s
  | .shr t gd dst a b => Sys2Proof.Machine.execShr t gd dst a b s
  | .sar t gd dst a b => Sys2Proof.Machine.execSar t gd dst a b s
  | .mul t gd dst a b => Sys2Proof.Machine.execMul t gd dst a b s
  | .minu t gd dst a b => Sys2Proof.Machine.execMinu t gd dst a b s
  | .maxu t gd dst a b => Sys2Proof.Machine.execMaxu t gd dst a b s
  | .popc t gd dst a => Sys2Proof.Machine.execPopc t gd dst a s
  | .clz t gd dst a => Sys2Proof.Machine.execClz t gd dst a s
  | .hash t gd dst a b => Sys2Proof.Machine.execHash t gd dst a b s
  | .mov t gd dst a => Sys2Proof.Machine.execMov t gd dst a s
  | .pand t gd pd pa pb => Sys2Proof.Machine.execPand t gd pd pa pb s
  | .por t gd pd pa pb => Sys2Proof.Machine.execPor t gd pd pa pb s
  | .pxor t gd pd pa pb => Sys2Proof.Machine.execPxor t gd pd pa pb s
  | .pandn t gd pd pa pb => Sys2Proof.Machine.execPandn t gd pd pa pb s
  | .ceq t gd pd a b => Sys2Proof.Machine.execCeq t gd pd a b s
  | .cne t gd pd a b => Sys2Proof.Machine.execCne t gd pd a b s
  | .cltu t gd pd a b => Sys2Proof.Machine.execCltu t gd pd a b s
  | .cleu t gd pd a b => Sys2Proof.Machine.execCleu t gd pd a b s
  | .clts t gd pd a b => Sys2Proof.Machine.execClts t gd pd a b s
  | .cles t gd pd a b => Sys2Proof.Machine.execCles t gd pd a b s
  | .addi t gd dst a imm => Sys2Proof.Machine.execAddi t gd dst a imm s
  | .andi t gd dst a imm => Sys2Proof.Machine.execAndi t gd dst a imm s
  | .ori t gd dst a imm => Sys2Proof.Machine.execOri t gd dst a imm s
  | .xori t gd dst a imm => Sys2Proof.Machine.execXori t gd dst a imm s
  | .shli t gd dst a imm => Sys2Proof.Machine.execShli t gd dst a imm s
  | .shri t gd dst a imm => Sys2Proof.Machine.execShri t gd dst a imm s
  | .sari t gd dst a imm => Sys2Proof.Machine.execSari t gd dst a imm s
  | .movi t gd dst imm => Sys2Proof.Machine.execMovi t gd dst imm s
  | .movhi t gd dst a imm => Sys2Proof.Machine.execMovhi t gd dst a imm s
  | .ceqi t gd pd a imm => Sys2Proof.Machine.execCeqi t gd pd a imm s
  | .cnei t gd pd a imm => Sys2Proof.Machine.execCnei t gd pd a imm s
  | .cltui t gd pd a imm => Sys2Proof.Machine.execCltui t gd pd a imm s
  | .cgtui t gd pd a imm => Sys2Proof.Machine.execCgtui t gd pd a imm s
  | .cltsi t gd pd a imm => Sys2Proof.Machine.execCltsi t gd pd a imm s
  | .cgtsi t gd pd a imm => Sys2Proof.Machine.execCgtsi t gd pd a imm s
  | .ext t gd dst a pos len => Sys2Proof.Machine.execExt t gd dst a pos len s
  | .ins t gd dst a b pos len => Sys2Proof.Machine.execIns t gd dst a b pos len s
  | .tbit t gd pd a pos => Sys2Proof.Machine.execTbit t gd pd a pos s
  | .fext t gd dst a pos len boff => Sys2Proof.Machine.execFext t gd dst a pos len boff s
  | .fins t gd a b pos len boff => Sys2Proof.Machine.execFins t gd a b pos len boff s
  | .ld t gd dst a space size off => Sys2Proof.Machine.execLd t gd dst a space size off s
  | .st t gd a b space size off => Sys2Proof.Machine.execSt t gd a b space size off s
  | .feld t gd a pd => Sys2Proof.Machine.execFeld t gd a pd s
  | .feldAnswer t => Sys2Proof.Machine.execFeldAnswer t s
  | .fetch t gd dst a size off => Sys2Proof.Machine.execFetch t gd dst a size off s
  | .fetchAnswer t => Sys2Proof.Machine.execFetchAnswer t s
  | .heLoadAnswer t => Sys2Proof.Machine.execHeLoadAnswer t s
  | .lookupStation t gd dst a pd keysel => Sys2Proof.Machine.execLookupStation t gd dst a pd keysel s
  | .lookupRoute4 t gd dst a pd keysel limit => Sys2Proof.Machine.execLookupRoute4 t gd dst a pd keysel limit s
  | .lookupRoute6 t gd dst a b pd keysel limit => Sys2Proof.Machine.execLookupRoute6 t gd dst a b pd keysel limit s
  | .lookupNexthop t gd dst a pd => Sys2Proof.Machine.execLookupNexthop t gd dst a pd s
  | .lookupEcmp t gd dst a pd => Sys2Proof.Machine.execLookupEcmp t gd dst a pd s
  | .lookupTcam t gd dst a b pd profile => Sys2Proof.Machine.execLookupTcam t gd dst a b pd profile s
  | .lookupAnswer t ecc which => Sys2Proof.Machine.execLookupAnswer t ecc which s
  | .br t gd off => Sys2Proof.Machine.execBr t gd off s
  | .loop t gd dst count off => Sys2Proof.Machine.execLoop t gd dst count off s
  | .brx t gd a b => Sys2Proof.Machine.execBrx t gd a b s
  | .enter t gd => Sys2Proof.Machine.execEnter t gd s
  | .enterGrant t => Sys2Proof.Machine.execEnterGrant t s
  | .leave t gd => Sys2Proof.Machine.execLeave t gd s
  | .publish t gd => Sys2Proof.Machine.execPublish t gd s
  | .endInv t gd => Sys2Proof.Machine.execEndInv t gd s
  | .nop t gd => Sys2Proof.Machine.execNop t gd s
  | .emitFwd t gd a b queue qsrc => Sys2Proof.Machine.execEmitFwd t gd a b queue qsrc s
  | .emitMcast t gd a => Sys2Proof.Machine.execEmitMcast t gd a s
  | .emitTrap t gd code hq => Sys2Proof.Machine.execEmitTrap t gd code hq s
  | .emitDrop t gd a reason rsrc => Sys2Proof.Machine.execEmitDrop t gd a reason rsrc s
  | .emitRecirc t gd a => Sys2Proof.Machine.execEmitRecirc t gd a s
  | .mirror t gd session => Sys2Proof.Machine.execMirror t gd session s
  | .count t gd a b bsrc => Sys2Proof.Machine.execCount t gd a b bsrc s
  | .meter t gd a => Sys2Proof.Machine.execMeter t gd a s
  | .learn t gd a b ksrc => Sys2Proof.Machine.execLearn t gd a b ksrc s
  | .push4 t gd a b o => Sys2Proof.Machine.execPush4 t gd a b o s
  | .push8 t gd a b o => Sys2Proof.Machine.execPush8 t gd a b o s
  | .pop4 t gd a o => Sys2Proof.Machine.execPop4 t gd a o s
  | .pop8 t gd a o => Sys2Proof.Machine.execPop8 t gd a o s
  | .replace4 t gd a b o => Sys2Proof.Machine.execReplace4 t gd a b o s
  | .replace8 t gd a b o => Sys2Proof.Machine.execReplace8 t gd a b o s
  | .decTtl t gd => Sys2Proof.Machine.execDecTtl t gd s
  | .resultArrive inv => Sys2Proof.Machine.execResultArrive inv s
  | .heldRetireResume => Sys2Proof.Machine.execHeldRetireResume s
  | .holdTimeout => Sys2Proof.Machine.execHoldTimeout s
  | .lateList tick all positions => Sys2Proof.Machine.execLateList tick all positions s
  | .lateListMissing tick atPartner => Sys2Proof.Machine.execLateListMissing tick atPartner s
  | .stoveFail stove => Sys2Proof.Machine.execStoveFail stove s
  | .stoveDrained stove => Sys2Proof.Machine.execStoveDrained stove s
  | .freqWrite group value => Sys2Proof.Machine.execFreqWrite group value s
  | .clockSwitchDone group => Sys2Proof.Machine.execClockSwitchDone group s
  | .park group value => Sys2Proof.Machine.execPark group value s
  | .groupDomainOff group => Sys2Proof.Machine.execGroupDomainOff group s
  | .unpark group value => Sys2Proof.Machine.execUnpark group value s
  | .groupWakeReady group => Sys2Proof.Machine.execGroupWakeReady group s
  | .tableWrite h code record => Sys2Proof.Machine.execTableWrite h code record s
  | .tableRead h code record => Sys2Proof.Machine.execTableRead h code record s
  | .tableAudit h code first count shadow => Sys2Proof.Machine.execTableAudit h code first count shadow s
  | .hostWriteApply => Sys2Proof.Machine.execHostWriteApply s
  | .changeComplete tbl key => Sys2Proof.Machine.execChangeComplete tbl key s
  | .versionStoreWait tbl key => Sys2Proof.Machine.execVersionStoreWait tbl key s
  | .publishApply rec => Sys2Proof.Machine.execPublishApply rec s
  | .emberHostWrite lane => Sys2Proof.Machine.execEmberHostWrite lane s
  | .privateHalfRead lane => Sys2Proof.Machine.execPrivateHalfRead lane s
  | .tblEvictSeedWrite value => Sys2Proof.Machine.execTblEvictSeedWrite value s
  | .routeRegionWrite v6 len value => Sys2Proof.Machine.execRouteRegionWrite v6 len value s
  | .tcamTxnOpen h id => Sys2Proof.Machine.execTcamTxnOpen h id s
  | .tcamTxnCommit h id => Sys2Proof.Machine.execTcamTxnCommit h id s
  | .tcamTxnAbort h id => Sys2Proof.Machine.execTcamTxnAbort h id s
  | .tcamEntryWrite h record => Sys2Proof.Machine.execTcamEntryWrite h record s
  | .tcamEntryWithdraw h index => Sys2Proof.Machine.execTcamEntryWithdraw h index s
  | .tcamEntryClear h index => Sys2Proof.Machine.execTcamEntryClear h index s
  | .tcamTxnApply => Sys2Proof.Machine.execTcamTxnApply s
  | .tcamTxnIdle => Sys2Proof.Machine.execTcamTxnIdle s
  | .tcamCourseWrite off value => Sys2Proof.Machine.execTcamCourseWrite off value s
  | .residueRetry => Sys2Proof.Machine.execResidueRetry s
  | .residueTimeout => Sys2Proof.Machine.execResidueTimeout s
  | .hostDmaTake hq bufs => Sys2Proof.Machine.execHostDmaTake hq bufs s
  | .hostFrameWrite hq => Sys2Proof.Machine.execHostFrameWrite hq s
  | .meterWriteEffect meter => Sys2Proof.Machine.execMeterWriteEffect meter s
  | .mirrorMacTake => Sys2Proof.Machine.execMirrorMacTake s
  | .twinRoleAccept level => Sys2Proof.Machine.execTwinRoleAccept level s
  | .hello body nonce => Sys2Proof.Machine.execHello body nonce s
  | .confirm tag theirs => Sys2Proof.Machine.execConfirm tag theirs s
  | .tickSync count => Sys2Proof.Machine.execTickSync count s
  | .tsyncPulse => Sys2Proof.Machine.execTsyncPulse s
  | .pairingTimeout => Sys2Proof.Machine.execPairingTimeout s
  | .pairingRetry nonce => Sys2Proof.Machine.execPairingRetry nonce s
  | .coldStart => Sys2Proof.Machine.execColdStart s
  | .flueFrameReceive frame => Sys2Proof.Machine.execFlueFrameReceive frame s
  | .flueLinkChange group lock => Sys2Proof.Machine.execFlueLinkChange group lock s
  | .keepalive tick => Sys2Proof.Machine.execKeepalive tick s
  | .digest tick digest counts st => Sys2Proof.Machine.execDigest tick digest counts st s
  | .digestMissing tick => Sys2Proof.Machine.execDigestMissing tick s
  | .detect entries => Sys2Proof.Machine.execDetect entries s
  | .hostWrite effTick side seq entry => Sys2Proof.Machine.execHostWrite effTick side seq entry s
  | .inject apply body => Sys2Proof.Machine.execInject apply body s
  | .dmaTake effTick hq frames => Sys2Proof.Machine.execDmaTake effTick hq frames s
  | .time body => Sys2Proof.Machine.execTime body s
  | .timeStateAdopt => Sys2Proof.Machine.execTimeStateAdopt s
  | .snapData flags records => Sys2Proof.Machine.execSnapData flags records s
  | .snapLog tick record => Sys2Proof.Machine.execSnapLog tick record s
  | .laneClear map body => Sys2Proof.Machine.execLaneClear map body s
  | .placeholder tick body => Sys2Proof.Machine.execPlaceholder tick body s
  | .snapEnd join => Sys2Proof.Machine.execSnapEnd join s
  | .snapLate => Sys2Proof.Machine.execSnapLate s
  | .join => Sys2Proof.Machine.execJoin s
  | .warmDone warmTick => Sys2Proof.Machine.execWarmDone warmTick s
  | .warm => Sys2Proof.Machine.execWarm s
  | .stillWarming => Sys2Proof.Machine.execStillWarming s
  | .faultMsg demote cause faultTick detail => Sys2Proof.Machine.execFaultMsg demote cause faultTick detail s
  | .swapReq => Sys2Proof.Machine.execSwapReq s
  | .partnerAbsent => Sys2Proof.Machine.execPartnerAbsent s
  | .roleUnconfirmed => Sys2Proof.Machine.execRoleUnconfirmed s
  | .demotion => Sys2Proof.Machine.execDemotion s
  | .swapRequestRaise => Sys2Proof.Machine.execSwapRequestRaise s
  | .swapRequestExpire => Sys2Proof.Machine.execSwapRequestExpire s
  | .resyncStart nonce => Sys2Proof.Machine.execResyncStart nonce s
  | .twinCmdStatus h => Sys2Proof.Machine.execTwinCmdStatus h s
  | .twinCmdSwap h => Sys2Proof.Machine.execTwinCmdSwap h s
  | .twinCmdResync h => Sys2Proof.Machine.execTwinCmdResync h s
  | .twinCmdLeave h => Sys2Proof.Machine.execTwinCmdLeave h s
  | .twinCmdPair h nonce => Sys2Proof.Machine.execTwinCmdPair h nonce s
  | .timeStepSet h sec ns frac => Sys2Proof.Machine.execTimeStepSet h sec ns frac s
  | .timeStepAdjust h off => Sys2Proof.Machine.execTimeStepAdjust h off s
  | .timeRate h inc => Sys2Proof.Machine.execTimeRate h inc s
  | .timeUnlock h => Sys2Proof.Machine.execTimeUnlock h s
  | .trigArm trig value => Sys2Proof.Machine.execTrigArm trig value s
  | .triggerFire trig cycle => Sys2Proof.Machine.execTriggerFire trig cycle s
  | .triggerPulseEnd trig cycle => Sys2Proof.Machine.execTriggerPulseEnd trig cycle s
  | .ppsInCapture cycle => Sys2Proof.Machine.execPpsInCapture cycle s
  | .ppsOutRise cycle => Sys2Proof.Machine.execPpsOutRise cycle s
  | .ppsOutFall cycle => Sys2Proof.Machine.execPpsOutFall cycle s
  | .timestampTimeout tsid => Sys2Proof.Machine.execTimestampTimeout tsid s
  | .pop => Sys2Proof.Machine.execPop s
  | .timeNowLatch cycle => Sys2Proof.Machine.execTimeNowLatch cycle s
  | .lowWordRead off => Sys2Proof.Machine.execLowWordRead off s
  | .highWordWrite off value => Sys2Proof.Machine.execHighWordWrite off value s
  | .rcRead rd => Sys2Proof.Machine.execRcRead rd s
  | .registerWrite wr => Sys2Proof.Machine.execRegisterWrite wr s
  | .badAccess off bytes => Sys2Proof.Machine.execBadAccess off bytes s
  | .hostRingProdWrite ring value => Sys2Proof.Machine.execHostRingProdWrite ring value s
  | .hostRingConsWrite ring value => Sys2Proof.Machine.execHostRingConsWrite ring value s
  | .ringCfgWrite ring value => Sys2Proof.Machine.execRingCfgWrite ring value s
  | .versionQuery h high low => Sys2Proof.Machine.execVersionQuery h high low s
  | .programLoad h image => Sys2Proof.Machine.execProgramLoad h image s
  | .programActivate h id partner => Sys2Proof.Machine.execProgramActivate h id partner s
  | .programActivation => Sys2Proof.Machine.execProgramActivation s
  | .oldImageFree => Sys2Proof.Machine.execOldImageFree s
  | .portSet h port enable rate lane chan => Sys2Proof.Machine.execPortSet h port enable rate lane chan s
  | .queueSet h port uq mask values => Sys2Proof.Machine.execQueueSet h port uq mask values s
  | .regWrite h off value mask => Sys2Proof.Machine.execRegWrite h off value mask s
  | .imageWriteData h slot off data => Sys2Proof.Machine.execImageWriteData h slot off data s
  | .imageWriteCommit h slot => Sys2Proof.Machine.execImageWriteCommit h slot s
  | .imageWriteErase h slot off => Sys2Proof.Machine.execImageWriteErase h slot off s
  | .imageSelect h slot => Sys2Proof.Machine.execImageSelect h slot s
  | .bistRunMbist h domain => Sys2Proof.Machine.execBistRunMbist h domain s
  | .bistRunLbist h domain => Sys2Proof.Machine.execBistRunLbist h domain s
  | .bistRunSweep h group => Sys2Proof.Machine.execBistRunSweep h group s
  | .healthRead h => Sys2Proof.Machine.execHealthRead h s
  | .txDescriptorTake qp desc => Sys2Proof.Machine.execTxDescriptorTake qp desc s
  | .txFrameReadDone qp frame => Sys2Proof.Machine.execTxFrameReadDone qp frame s
  | .txCompletionWrite qp => Sys2Proof.Machine.execTxCompletionWrite qp s
  | .msiXMessage vec => Sys2Proof.Machine.execMsiXMessage vec s
  | .pcieLinkChange status => Sys2Proof.Machine.execPcieLinkChange status s
  | .pcieError what => Sys2Proof.Machine.execPcieError what s
  | .mdioCmd master value => Sys2Proof.Machine.execMdioCmd master value s
  | .mdioDone master data => Sys2Proof.Machine.execMdioDone master data s
  | .go master value => Sys2Proof.Machine.execGo master value s
  | .twiDone master res => Sys2Proof.Machine.execTwiDone master res s
  | .twiFifoRead master => Sys2Proof.Machine.execTwiFifoRead master s
  | .uartSend value => Sys2Proof.Machine.execUartSend value s
  | .uartRead => Sys2Proof.Machine.execUartRead s
  | .uartReceive byte => Sys2Proof.Machine.execUartReceive byte s
  | .fuseProgramCustHash slot => Sys2Proof.Machine.execFuseProgramCustHash slot s
  | .fuseRevoke slot => Sys2Proof.Machine.execFuseRevoke slot s
  | .fuseRootDisable => Sys2Proof.Machine.execFuseRootDisable s
  | .fuseProgramCwk => Sys2Proof.Machine.execFuseProgramCwk s
  | .fuseAdvanceSvn svn => Sys2Proof.Machine.execFuseAdvanceSvn svn s
  | .fuseOpDone verified => Sys2Proof.Machine.execFuseOpDone verified s
  | .domainSwitchOff bit => Sys2Proof.Machine.execDomainSwitchOff bit s
  | .domainSwitchOn bit => Sys2Proof.Machine.execDomainSwitchOn bit s
  | .domainReady failed => Sys2Proof.Machine.execDomainReady failed s
  | .avsRecompute need => Sys2Proof.Machine.execAvsRecompute need s
  | .vidStep => Sys2Proof.Machine.execVidStep s
  | .thermalSample die hbm0 hbm1 => Sys2Proof.Machine.execThermalSample die hbm0 hbm1 s
  | .agingReport degrade => Sys2Proof.Machine.execAgingReport degrade s
  | .sweepVisit => Sys2Proof.Machine.execSweepVisit s
  | .sweepDrained => Sys2Proof.Machine.execSweepDrained s
  | .sweepTestDone failed => Sys2Proof.Machine.execSweepTestDone failed s
  | .sweepReturn => Sys2Proof.Machine.execSweepReturn s
  | .extest => Sys2Proof.Machine.execExtest s
  | .intscan => Sys2Proof.Machine.execIntscan s
  | .bistctl => Sys2Proof.Machine.execBistctl s
  | .samplePreload => Sys2Proof.Machine.execSamplePreload s
  | .idcode => Sys2Proof.Machine.execIdcode s
  | .idread => Sys2Proof.Machine.execIdread s
  | .bypass code => Sys2Proof.Machine.execBypass code s
  | .laneBlockError lane lockLost => Sys2Proof.Machine.execLaneBlockError lane lockLost s
  | .supplyMonitorRelease inp => Sys2Proof.Machine.execSupplyMonitorRelease inp s
  | .receiveLpi lane on => Sys2Proof.Machine.execReceiveLpi lane on s
  | .longCommandDone inp => Sys2Proof.Machine.execLongCommandDone inp s
  | .txFrameEnd port => Sys2Proof.Machine.execTxFrameEnd port s

end Sys2Proof.Machine
end

