-- ==== Sys2Proof/Safety.lean ====
section
/-! DEFINITION. What counts as a safe run, and the terms in which claims speak of a command's effect: that it completes, and
which areas of the state it leaves alone. -/

namespace Sys2Proof.Machine

/-- The step answers a next state: no fault, no refusal. -/
def Safe (s : State) : Prop := ∃ t, step s = .next t

/-- Command `c` at state `s` answers a next state of which `P` holds. -/
def Completes (c : Instr) (s : State) (P : State → Prop) : Prop := ∃ t, exec c s = .next t ∧ P t

/-- The areas of the state: the queue, one for each chapter's part of the device, and, as areas of their own, the tick
count with its lock, the running threads of the hobs' part with their round robin, and the fuse operation in progress and the running image with its slot of the
start-up part. -/
inductive Area where
  | pending | clk | tick | regs | writes | lanes | ports | adm | prog | hob | threads | tbl | tcam | buf | egr | twin | time | host | boot
  | fuseOp | image | fuses | pwr | out
  deriving DecidableEq, Repr

/-- The state with every area that `k` does not name blotted out. -/
def keep (k : Area → Bool) (s : State) : State :=
  { pending := if k .pending then s.pending else []
    clk := if k .clk then s.clk else {
      tick := if k .tick then s.clk.tick else 0
      pllLocked := if k .tick then s.clk.pllLocked else false
      zeroNext := if k .tick then s.clk.zeroNext else false }
    regs := if k .regs then s.regs else {}
    writes := if k .writes then s.writes else []
    lanes := if k .lanes then s.lanes else []
    ports := if k .ports then s.ports else []
    adm := if k .adm then s.adm else {}
    prog := if k .prog then s.prog else {}
    hob := if k .hob then s.hob else {
      threads := if k .threads then s.hob.threads else []
      hobNext := if k .threads then s.hob.hobNext else [] }
    tbl := if k .tbl then s.tbl else {}
    tcam := if k .tcam then s.tcam else {}
    buf := if k .buf then s.buf else {}
    egr := if k .egr then s.egr else {}
    twin := if k .twin then s.twin else {}
    time := if k .time then s.time else {}
    host := if k .host then s.host else {}
    boot := if k .boot then s.boot else {
      fuseOp := if k .fuseOp then s.boot.fuseOp else none
      slot := if k .image then s.boot.slot else none
      image := if k .image then s.boot.image else [] }
    fuses := if k .fuses then s.fuses else {}
    pwr := if k .pwr then s.pwr else {}
    out := if k .out then s.out else {} }

/-- `t` is `s` in every area but those listed. `clk` alone listed leaves the tick count alone, `hob` alone the running
threads, `boot` alone the fuse operation in progress and the running image. -/
def SameBut (l : List Area) (s t : State) : Prop := keep (fun a => !l.contains a) t = keep (fun a => !l.contains a) s

/-- The registers at BAR0 offsets outside `l` hold what they held; the latched high words, the held writes and the last
read completion are as before. -/
def RegsBut (l : List Nat) (s t : State) : Prop :=
  t.regs = { s.regs with vals := t.regs.vals } ∧ ∀ a, a ∉ l → FMap.get none t.regs.vals a = FMap.get none s.regs.vals a

end Sys2Proof.Machine
end

