-- ==== Sys2Proof/WellFormed.lean ====
section
/-! DEFINITION. Well-formed commands: every operand has the width and length that the manual's structures give it. What a
command does with a value that its field can hold but that the manual refuses is its meaning's work, not a check here. -/

namespace Sys2Proof

/-- The number fits a field of `w` bits. -/
def fits (w n : Nat) : Bool := decide (n < 2 ^ w)

/-- A word of BAR0, 64 MiB (Table HOST-1, R463). -/
def bar0Ok (off : Nat) : Bool := fits 26 off && decide (off % 4 = 0)

/-- Health entries: kinds 1 to 4 and a 32-bit number (R499). -/
def healthOk (l : List (Nat × Nat)) : Bool := l.all fun e => decide (1 ≤ e.1 ∧ e.1 ≤ 4) && fits 32 e.2

/-- The fields of a TX descriptor fit (Table HOST-9). -/
def descOk (d : TxDesc) : Bool :=
  fits 64 d.addr && fits 32 d.length && fits 16 d.flags && fits 16 d.mss && fits 8 d.l3 && fits 8 d.l4 && fits 32 d.launch
    && fits 16 d.dest && fits 32 d.cookie && fits 32 d.rsvd

/-- The operands have the sizes that the manual's structures give them. -/
def wellFormed (i : Instr) : Bool :=
  match i with
  | .resetNRise inp => healthOk inp.failed
  | .restart _ inp => healthOk inp.failed
  | .tick inp => inp.shadow.all fun x => fits 64 x.2
  | .energyInterval nj => nj.length = 25
  | .hearthFrameReceive _ fr => fr.pre.length = 7
  | .txFirstBlock _ cycle => cycle < 40
  | .cleanBitmap tick _ => fits 64 tick
  | .bitmapMissing tick _ => fits 64 tick
  | .relay fr => fits 64 fr.tick && fits 16 fr.order && fits 32 fr.ts.1 && fits 16 fr.ts.2.1
  | .relayEnd _ tick => fits 64 tick
  | .capacity h q effTick => fits 32 h && fits 32 q && fits 64 effTick
  | .lateList tick _ positions => fits 64 tick && positions.all fun p => p < 4096
  | .lateListMissing tick _ => fits 64 tick
  | .tableWrite _ _ record => record.length ≤ 1048576
  | .tableRead _ _ record => record.length ≤ 1048576
  | .tableAudit _ _ first count shadow => fits 32 first && fits 32 count && shadow.all fun x => fits 64 x.2
  | .hello body nonce => body.length = 176 && nonce.length = 32
  | .confirm tag theirs => tag.length = 16 && decide (theirs = 0 ∨ theirs = 3 ∨ theirs = 4 ∨ theirs = 10 ∨ theirs = 11)
  | .tickSync count => fits 64 count
  | .pairingRetry nonce => nonce.length = 32
  | .keepalive tick => fits 64 tick
  | .snapData flags _ => decide (flags < 128)
  | .digest tick digest _ st => fits 64 tick && fits 64 digest && decide (st < 7)
  | .digestMissing tick => fits 64 tick
  | .detect entries => entries.all fun e => 1 ≤ e.kind && e.kind ≤ 3 && fits 64 e.tick
  | .hostWrite effTick _ seq _ => fits 64 effTick && fits 32 seq
  | .inject apply _ => fits 64 apply
  | .dmaTake effTick _ frames => fits 64 effTick && fits 32 frames
  | .snapLog tick _ => fits 64 tick
  | .placeholder tick _ => fits 64 tick
  | .snapEnd join => fits 64 join
  | .warmDone warmTick => fits 64 warmTick
  | .faultMsg demote cause faultTick _ => fits 64 demote && fits 8 cause && fits 64 faultTick
  | .resyncStart nonce => nonce.length = 32
  | .twinCmdPair _ nonce => nonce.length = 32
  | .timeStepSet _ sec ns frac => fits 48 sec && fits 32 ns && fits 16 frac
  | .timeStepAdjust _ off => decide (-2 ^ 63 ≤ off ∧ off < 2 ^ 63)
  | .timeRate _ inc => fits 48 inc
  | .lowWordRead off => bar0Ok off
  | .highWordWrite off _ => bar0Ok off
  | .rcRead (.bar0 off) => bar0Ok off
  | .rcRead (.bar2 off len) => decide (off + len ≤ 2 ^ 28)
  | .registerWrite (.bar0 off _) => bar0Ok off
  | .registerWrite (.bar2 off data) => decide (off + data.length ≤ 2 ^ 28)
  | .badAccess off bytes => fits 26 off && !(off % 4 = 0 && bytes = 4)
  | .versionQuery _ high low => fits 8 high && fits 8 low
  | .programActivate _ id _ => fits 16 id
  | .portSet _ port _ rate lane chan => fits 16 port && fits 8 rate && fits 16 lane && fits 8 chan
  | .queueSet _ port uq mask values => fits 16 port && fits 8 uq && fits 8 mask && values.length = 5 && values.all (fits 32)
  | .regWrite _ off _ _ => fits 32 off
  | .imageWriteData _ slot off _ => fits 8 slot && fits 32 off
  | .imageWriteCommit _ slot => fits 8 slot
  | .imageWriteErase _ slot off => fits 8 slot && fits 32 off
  | .imageSelect _ slot => fits 8 slot
  | .bistRunMbist _ domain => fits 8 domain
  | .bistRunLbist _ domain => fits 8 domain
  | .bistRunSweep _ group => fits 8 group
  | .txDescriptorTake _ desc => descOk desc
  | .domainReady failed => healthOk failed
  | .avsRecompute need => need.length = 31
  | .agingReport degrade => degrade.length = 31
  | .supplyMonitorRelease inp => healthOk inp.failed
  | .longCommandDone inp => inp.result ≤ 2 && healthOk inp.failed
  | .resetNLow .. | .supplyMonitorReset .. | .forward .. | .functionLevelReset .. | .d3hotEntry .. | .pciePerst ..
  | .pllLock .. | .forwardingStart .. | .pairWaitExpire .. | .dispatchQueueEntry .. | .brickPositionMove ..
  | .tcamScrubRepair .. | .bankFetchArrive .. | .timerFire .. | .laneModeWrite .. | .retrain .. | .laneBlockLock ..
  | .trainingSetReceive .. | .alignEntry .. | .inServiceEntry .. | .trainTimeout .. | .tickMarkerReceive ..
  | .channelStatusReceive .. | .reservedOrderedSet .. | .timestampReportReceive .. | .laneOutOfStep ..
  | .blockLockLoss .. | .outOfStepRealign .. | .plainFrameReceive .. | .underrun .. | .ctDecay .. | .cellReturn ..
  | .ashRefill .. | .ashSpill .. | .linkLossAbort .. | .pauseExpiry .. | .pauseFrameSend .. | .pauseRefresh ..
  | .pauseStorm .. | .stormRecover .. | .stormClear .. | .flapClear .. | .ctReset .. | .macTxCtWrite ..
  | .lpiEnter .. | .linkDetect .. | .linkDownEffect .. | .linkUpEffect .. | .linkHoldExpiry .. | .flapRelease ..
  | .capacityChange .. | .invocationStart .. | .steal .. | .add .. | .sub .. | .and .. | .or .. | .xor .. | .andn ..
  | .shl .. | .shr .. | .sar .. | .mul .. | .minu .. | .maxu .. | .popc .. | .clz .. | .hash .. | .mov .. | .pand ..
  | .por .. | .pxor .. | .pandn .. | .ceq .. | .cne .. | .cltu .. | .cleu .. | .clts .. | .cles .. | .addi ..
  | .andi .. | .ori .. | .xori .. | .shli .. | .shri .. | .sari .. | .movi .. | .movhi .. | .ceqi .. | .cnei ..
  | .cltui .. | .cgtui .. | .cltsi .. | .cgtsi .. | .ext .. | .ins .. | .tbit .. | .fext .. | .fins .. | .ld ..
  | .st .. | .feld .. | .feldAnswer .. | .fetch .. | .fetchAnswer .. | .heLoadAnswer .. | .lookupStation ..
  | .lookupRoute4 .. | .lookupRoute6 .. | .lookupNexthop .. | .lookupEcmp .. | .lookupTcam .. | .lookupAnswer ..
  | .br .. | .loop .. | .brx .. | .enter .. | .enterGrant .. | .leave .. | .publish .. | .endInv .. | .nop ..
  | .emitFwd .. | .emitMcast .. | .emitTrap .. | .emitDrop .. | .emitRecirc .. | .mirror .. | .count .. | .meter ..
  | .learn .. | .push4 .. | .push8 .. | .pop4 .. | .pop8 .. | .replace4 .. | .replace8 .. | .decTtl ..
  | .resultArrive .. | .heldRetireResume .. | .holdTimeout .. | .stoveFail .. | .stoveDrained .. | .freqWrite ..
  | .clockSwitchDone .. | .park .. | .groupDomainOff .. | .unpark .. | .groupWakeReady .. | .hostWriteApply ..
  | .changeComplete .. | .versionStoreWait .. | .publishApply .. | .emberHostWrite .. | .privateHalfRead ..
  | .tblEvictSeedWrite .. | .routeRegionWrite .. | .tcamTxnOpen .. | .tcamTxnCommit .. | .tcamTxnAbort ..
  | .tcamEntryWrite .. | .tcamEntryWithdraw .. | .tcamEntryClear .. | .tcamTxnApply .. | .tcamTxnIdle ..
  | .tcamCourseWrite .. | .residueRetry .. | .residueTimeout .. | .hostDmaTake .. | .hostFrameWrite ..
  | .meterWriteEffect .. | .mirrorMacTake .. | .twinRoleAccept .. | .tsyncPulse .. | .pairingTimeout ..
  | .coldStart .. | .flueFrameReceive .. | .flueLinkChange .. | .time .. | .timeStateAdopt ..
  | .laneClear .. | .snapLate .. | .join .. | .warm .. | .stillWarming .. | .swapReq .. | .partnerAbsent ..
  | .roleUnconfirmed .. | .demotion .. | .swapRequestRaise .. | .swapRequestExpire .. | .twinCmdStatus ..
  | .twinCmdSwap .. | .twinCmdResync .. | .twinCmdLeave .. | .timeUnlock .. | .trigArm .. | .triggerFire ..
  | .triggerPulseEnd .. | .ppsInCapture .. | .ppsOutRise .. | .ppsOutFall .. | .timestampTimeout .. | .pop ..
  | .timeNowLatch .. | .hostRingProdWrite .. | .hostRingConsWrite .. | .ringCfgWrite .. | .programLoad ..
  | .programActivation .. | .oldImageFree .. | .healthRead .. | .txFrameReadDone .. | .txCompletionWrite ..
  | .msiXMessage .. | .pcieLinkChange .. | .pcieError .. | .mdioCmd .. | .mdioDone .. | .go .. | .twiDone ..
  | .twiFifoRead .. | .uartSend .. | .uartRead .. | .uartReceive .. | .fuseProgramCustHash .. | .fuseRevoke ..
  | .fuseRootDisable .. | .fuseProgramCwk .. | .fuseAdvanceSvn .. | .fuseOpDone .. | .domainSwitchOff ..
  | .domainSwitchOn .. | .vidStep .. | .thermalSample .. | .sweepVisit .. | .sweepDrained .. | .sweepTestDone ..
  | .sweepReturn .. | .extest .. | .intscan .. | .bistctl .. | .samplePreload .. | .idcode .. | .idread ..
  | .bypass .. | .laneBlockError .. | .receiveLpi .. | .txFrameEnd .. => true

end Sys2Proof
end

