-- ==== Sys2Proof/Certificates/Slice0/Obligations.lean ====
section
/-! DEFINITION. The statements about the model, for the provers. Each says which rules of the manual it formalises; a helper
that several statements share stands before the first of them. -/

open Sys2Proof Sys2Proof.Machine

/-! ### The queue, reset, what a command leaves alone -/

/-- A step runs the command at the front of the queue with the queue's rest; on an empty queue the block idles (the model's
own queue, notes/assumptions/3.md). -/
def Obligations.StepRunsTheFrontCommand : Prop :=
  (∀ (c : Instr) (rest : List Instr) (s : State), step { s with pending := c :: rest } = exec c { s with pending := rest }) ∧
  ∀ s : State, s.pending = [] → step s = .next s

/-- What reset leaves: tick 0, the delays 24 and 48, every register at the reset value of its table and what the status registers of the
stoves, the cells and the schedulers show, lanes DISABLED, ports
down, twin SOLO, no forwarding, no command waiting (R15, R22, R39, R46, R112, R435, R520). -/
def Obligations.ResetLeavesTheManualsValues : Prop :=
  State.reset.clk.tick = 0 ∧ admDelay State.reset = 24 ∧ retDelay State.reset = 48 ∧
  (∀ (r : Reg) (i : Nat), regVal State.reset r i = r.info.reset) ∧
  (∀ (r : Reg) (i : Nat), r ∈ ([.STOVE_SERVICE, .STOVE_GROUP_STATUS, .BUF_CELLS_FREE, .EGR_PORT_STATUS] : List Reg) →
    regNow State.reset r i = r.info.reset) ∧
  (∀ l, (laneOf State.reset l).st = .disabled ∧ (laneOf State.reset l).blockLock = false) ∧
  (∀ p, (portOf State.reset p).up = false ∧ (portOf State.reset p).ctThresh = 4) ∧
  State.reset.twin.st = .solo ∧ State.reset.clk.forwarding = false ∧ State.reset.boot.step = 0 ∧
  State.reset.twin.feature = 2 ∧ State.reset.time.core.inc = 0x47AE147AE148 ∧ State.reset.tbl.evictX = 1 ∧
  State.reset.pwr.vid = 0x64 ∧ State.reset.pending = []

namespace Sys2Proof.Claims

/-- The areas of the state that a command may change, each command under the areas its rules name; every other area stays. -/
def changes : Instr → List Area
  | .samplePreload | .bypass _ => []
  | .dispatchQueueEntry | .resultArrive _ => [.hob]
  | .brickPositionMove _ | .tcamScrubRepair _ => [.tcam]
  | .ctDecay _ | .pauseExpiry _ | .receiveLpi _ _ => [.ports]
  | .ashRefill _ | .ashSpill _ => [.buf]
  | .tableAudit _ _ _ _ _ | .hostFrameWrite _ | .twinCmdStatus _ | .hostRingProdWrite _ _ | .hostRingConsWrite _ _
  | .versionQuery _ _ _ | .programLoad _ _ | .imageWriteData _ _ _ _ | .imageWriteCommit _ _ | .imageWriteErase _ _ _
  | .imageSelect _ _ | .bistRunMbist _ _ | .bistRunLbist _ _ | .bistRunSweep _ _ | .healthRead _
  | .txDescriptorTake _ _ | .txCompletionWrite _ | .uartSend _ | .uartReceive _ => [.host]
  | .tickSync _ | .keepalive _ | .laneClear _ _ | .snapEnd _ | .warmDone _ | .swapReq => [.twin]
  | .timeStateAdopt | .triggerPulseEnd _ _ | .ppsOutRise _ | .ppsOutFall _ => [.time]
  | .oldImageFree => [.prog]
  | .vidStep | .sweepTestDone _ => [.pwr]
  | .idcode | .idread => [.out]
  | .bankFetchArrive _ => [.ports, .buf]
  | .energyInterval _ => [.egr, .pwr]
  | .lpiEnter _ => [.ports, .out]
  | .cleanBitmap _ _ | .relayEnd _ _ | .capacity _ _ _ => [.adm, .twin]
  | .fetchAnswer _ | .enterGrant _ => [.hob, .threads]
  | .lateList _ _ _ => [.hob, .twin]
  | .mirrorMacTake => [.buf, .egr]
  | .pairingRetry _ => [.twin, .out]
  | .detect _ => [.ports, .twin]
  | .twinCmdResync _ => [.twin, .host]
  | .badAccess _ _ | .ringCfgWrite _ _ | .pcieLinkChange _ | .mdioDone _ _ | .twiDone _ _ | .twiFifoRead _
  | .uartRead => [.regs, .host]
  | .msiXMessage _ => [.host, .out]
  | .forward _ => [.regs, .host, .boot]
  | .trainingSetReceive _ _ | .reservedOrderedSet _ _ => [.regs, .lanes, .host]
  | .linkLossAbort _ | .txFrameEnd _ => [.ports, .egr, .out]
  | .pauseStorm _ | .stormRecover _ | .flapRelease _ => [.regs, .ports, .host]
  | .bitmapMissing _ _ | .capacityChange => [.regs, .adm, .host]
  | .lateListMissing _ _ => [.regs, .hob, .host]
  | .tableRead _ _ _ => [.hob, .tbl, .host]
  | .tcamTxnApply | .tcamTxnIdle => [.regs, .tcam, .host]
  | .hostDmaTake _ _ => [.buf, .host, .out]
  | .twinRoleAccept _ | .confirm _ _ | .pairingTimeout | .flueLinkChange _ _ | .stillWarming | .faultMsg _ _ _ _
  | .swapRequestRaise | .swapRequestExpire => [.regs, .twin, .host]
  | .dmaTake _ _ _ => [.buf, .twin, .host]
  | .twinCmdSwap _ | .twinCmdPair _ _ => [.twin, .host, .out]
  | .triggerFire _ _ | .ppsInCapture _ | .timestampTimeout _ | .timeNowLatch _ | .lowWordRead _ | .rcRead _
    => [.regs, .time, .host]
  | .pcieError _ => [.regs, .writes, .host]
  | .mdioCmd _ _ | .go _ _ => [.regs, .host, .out]
  | .fuseProgramCustHash _ | .fuseRevoke _ | .fuseRootDisable | .fuseProgramCwk | .fuseAdvanceSvn _
    => [.regs, .boot, .fuseOp]
  | .agingReport _ => [.regs, .host, .pwr]
  | .functionLevelReset | .d3hotEntry | .pciePerst => [.regs, .writes, .tbl, .host]
  | .pauseFrameSend _ | .pauseRefresh _ => [.lanes, .ports, .egr, .out]
  | .linkUpEffect _ => [.regs, .ports, .tbl, .host]
  | .linkHoldExpiry _ => [.regs, .ports, .buf, .host]
  | .heLoadAnswer _ | .feldAnswer _ => [.regs, .hob, .threads, .tbl]
  | .emberHostWrite _ | .privateHalfRead _ => [.regs, .hob, .tbl, .host]
  | .meterWriteEffect _ => [.writes, .egr, .twin, .host]
  | .flueFrameReceive _ => [.regs, .adm, .twin, .host]
  | .digest _ _ _ _ | .digestMissing _ | .resyncStart _ => [.regs, .twin, .host, .out]
  | .laneBlockLock _ | .alignEntry _ | .inServiceEntry _ | .trainTimeout _ | .tickMarkerReceive _ _
  | .channelStatusReceive _ _ | .laneOutOfStep _ | .blockLockLoss _ | .outOfStepRealign _
    => [.regs, .lanes, .ports, .host, .out]
  | .underrun _ _ => [.regs, .ports, .egr, .host, .out]
  | .clockSwitchDone _ => [.regs, .adm, .hob, .host, .out]
  | .groupDomainOff _ | .sweepDrained => [.regs, .hob, .tbl, .host, .pwr]
  | .publishApply _ => [.regs, .tbl, .twin, .host, .out]
  | .time _ => [.clk, .regs, .twin, .time, .host]
  | .snapLate | .roleUnconfirmed | .demotion => [.clk, .regs, .adm, .twin, .host]
  | .programActivation => [.regs, .adm, .prog, .egr, .host]
  | .fuseOpDone _ => [.regs, .host, .boot, .fuseOp, .fuses]
  | .domainSwitchOff _ | .domainSwitchOn _ => [.regs, .tcam, .twin, .host, .pwr]
  | .cellReturn _ _ => [.regs, .buf, .twin, .host, .boot, .out]
  | .linkDetect _ _ | .laneBlockError _ _ => [.regs, .lanes, .ports, .egr, .host, .out]
  | .add _ _ _ _ _ | .sub _ _ _ _ _ | .and _ _ _ _ _ | .or _ _ _ _ _ | .xor _ _ _ _ _ | .andn _ _ _ _ _
  | .shl _ _ _ _ _ | .shr _ _ _ _ _ | .sar _ _ _ _ _ | .mul _ _ _ _ _ | .minu _ _ _ _ _ | .maxu _ _ _ _ _
  | .popc _ _ _ _ | .clz _ _ _ _ | .hash _ _ _ _ _ | .mov _ _ _ _ | .pand _ _ _ _ _ | .por _ _ _ _ _
  | .pxor _ _ _ _ _ | .pandn _ _ _ _ _ | .ceq _ _ _ _ _ | .cne _ _ _ _ _ | .cltu _ _ _ _ _ | .cleu _ _ _ _ _
  | .clts _ _ _ _ _ | .cles _ _ _ _ _ | .addi _ _ _ _ _ | .andi _ _ _ _ _ | .ori _ _ _ _ _ | .xori _ _ _ _ _
  | .shli _ _ _ _ _ | .shri _ _ _ _ _ | .sari _ _ _ _ _ | .movi _ _ _ _ | .movhi _ _ _ _ _ | .ceqi _ _ _ _ _
  | .cnei _ _ _ _ _ | .cltui _ _ _ _ _ | .cgtui _ _ _ _ _ | .cltsi _ _ _ _ _ | .cgtsi _ _ _ _ _ | .ext _ _ _ _ _ _
  | .ins _ _ _ _ _ _ _ | .tbit _ _ _ _ _ | .fext _ _ _ _ _ _ _ | .fins _ _ _ _ _ _ _ | .ld _ _ _ _ _ _ _
  | .feld _ _ _ _ | .fetch _ _ _ _ _ _ | .lookupStation _ _ _ _ _ _ | .lookupRoute4 _ _ _ _ _ _ _
  | .lookupRoute6 _ _ _ _ _ _ _ _ | .lookupNexthop _ _ _ _ _ | .lookupEcmp _ _ _ _ _ | .lookupTcam _ _ _ _ _ _ _
  | .br _ _ _ | .loop _ _ _ _ _ | .brx _ _ _ _ | .enter _ _ | .leave _ _ | .publish _ _ | .endInv _ _ | .nop _ _
  | .emitFwd _ _ _ _ _ _ | .emitMcast _ _ _ | .emitTrap _ _ _ _ | .emitDrop _ _ _ _ _ | .emitRecirc _ _ _
  | .mirror _ _ _ | .count _ _ _ _ _ | .meter _ _ _ | .learn _ _ _ _ _ | .push4 _ _ _ _ _ | .push8 _ _ _ _ _
  | .pop4 _ _ _ _ | .pop8 _ _ _ _ | .replace4 _ _ _ _ _ | .replace8 _ _ _ _ _ | .decTtl _ _
    => [.regs, .prog, .hob, .threads, .egr, .host]
  | .stoveDrained _ => [.regs, .adm, .hob, .tbl, .host, .out]
  | .changeComplete _ _ | .versionStoreWait _ _ => [.regs, .tbl, .buf, .twin, .host, .out]
  | .warm => [.regs, .ports, .adm, .twin, .host, .out]
  | .avsRecompute _ => [.regs, .adm, .hob, .host, .pwr, .out]
  | .st _ _ _ _ _ _ _ => [.regs, .prog, .hob, .threads, .tbl, .egr, .host]
  | .groupWakeReady _ | .sweepVisit => [.regs, .adm, .hob, .tbl, .host, .pwr, .out]
  | .residueTimeout => [.regs, .buf, .egr, .twin, .host, .boot, .out]
  | .placeholder _ _ => [.regs, .ports, .buf, .twin, .host, .boot, .out]
  | .partnerAbsent => [.regs, .ports, .adm, .tbl, .twin, .host, .out]
  | .lookupAnswer _ _ _ => [.regs, .hob, .threads, .tbl, .tcam, .twin, .host, .out]
  | .residueRetry | .hello _ _ => [.regs, .ports, .buf, .egr, .twin, .host, .boot, .out]
  | .twinCmdLeave _ => [.clk, .regs, .ports, .adm, .tbl, .twin, .host, .out]
  | .sweepReturn => [.regs, .adm, .hob, .tbl, .host, .boot, .pwr, .out]
  | .timerFire _ => [.regs, .adm, .hob, .buf, .egr, .twin, .host, .boot, .out]
  | .hearthFrameReceive _ _ | .plainFrameReceive _ _ | .relay _ | .inject _ _ | .txFrameReadDone _ _
    => [.regs, .lanes, .adm, .buf, .egr, .twin, .host, .boot, .out]
  | .txFirstBlock _ _ => [.regs, .ports, .buf, .egr, .twin, .time, .host, .boot, .out]
  | .linkDownEffect _ => [.regs, .ports, .tbl, .buf, .egr, .twin, .host, .boot, .out]
  | .stoveFail _ => [.regs, .adm, .hob, .threads, .tbl, .twin, .host, .boot, .out]
  | .extest | .intscan | .bistctl => [.clk, .regs, .lanes, .ports, .twin, .host, .boot, .pwr, .out]
  | .timestampReportReceive _ _ => [.regs, .lanes, .ports, .buf, .egr, .twin, .time, .host, .boot, .out]
  | .invocationStart _ | .steal _ => [.regs, .ports, .hob, .threads, .buf, .egr, .twin, .host, .boot, .out]
  | .thermalSample _ _ _ => [.clk, .regs, .adm, .hob, .tcam, .twin, .host, .boot, .pwr, .out]
  | .forwardingStart => [.clk, .regs, .lanes, .ports, .adm, .prog, .tbl, .egr, .host, .boot, .out]
  | .heldRetireResume | .holdTimeout => [.regs, .writes, .ports, .hob, .tbl, .buf, .egr, .twin, .host, .boot, .out]
  | .longCommandDone _ => [.regs, .writes, .adm, .prog, .hob, .tbl, .egr, .host, .boot, .pwr, .out]
  | .pairWaitExpire | .coldStart => [.clk, .regs, .lanes, .ports, .adm, .prog, .tbl, .egr, .twin, .host, .boot, .out]
  | .domainReady _
    => [.clk, .regs, .lanes, .ports, .adm, .hob, .threads, .tbl, .tcam, .twin, .host, .boot, .pwr, .out]
  | .snapData _ _ | .snapLog _ _
    => [.regs, .lanes, .ports, .adm, .hob, .tbl, .tcam, .buf, .egr, .twin, .time, .host, .boot, .pwr, .out]
  | .join => [.clk, .regs, .lanes, .ports, .adm, .prog, .hob, .tbl, .buf, .egr, .twin, .host, .boot, .pwr, .out]
  | .laneModeWrite _ _ | .retrain _ | .stormClear _ | .flapClear _ | .ctReset _ | .macTxCtWrite _ _ | .freqWrite _ _
  | .park _ _ | .unpark _ _ | .hostWriteApply | .tblEvictSeedWrite _ | .routeRegionWrite _ _ _ | .tcamCourseWrite _ _
  | .trigArm _ _ | .pop
    => [.regs, .writes, .lanes, .ports, .adm, .hob, .tbl, .tcam, .buf, .egr, .twin, .time, .host, .boot, .pwr, .out]
  | .tableWrite _ _ _ | .tcamTxnOpen _ _ | .tcamTxnCommit _ _ | .tcamTxnAbort _ _ | .tcamEntryWrite _ _
  | .tcamEntryWithdraw _ _ | .tcamEntryClear _ _ | .hostWrite _ _ _ _ | .timeStepSet _ _ _ _ | .timeStepAdjust _ _
  | .timeRate _ _ | .timeUnlock _ | .programActivate _ _ _ | .portSet _ _ _ _ _ _ | .queueSet _ _ _ _ _
  | .regWrite _ _ _ _
    => [.regs, .writes, .lanes, .ports, .adm, .prog, .hob, .tbl, .tcam, .buf, .egr, .twin, .time, .host, .boot, .pwr, .out]
  | .highWordWrite _ _ | .registerWrite _
    => [.regs, .writes, .lanes, .ports, .adm, .hob, .tbl, .tcam, .buf, .egr, .twin, .time, .host, .boot, .fuseOp, .pwr, .out]
  | .tick _
    => [.clk, .tick, .regs, .writes, .lanes, .ports, .adm, .prog, .hob, .tbl, .tcam, .buf, .egr, .twin, .time, .host, .boot, .pwr, .out]
  | .tsyncPulse
    => [.clk, .tick, .regs, .writes, .lanes, .ports, .adm, .hob, .threads, .tbl, .tcam, .buf, .egr, .twin, .time, .host, .boot, .pwr, .out]
  | .resetNRise _ | .pllLock | .supplyMonitorRelease _
    => [.clk, .tick, .regs, .writes, .lanes, .ports, .adm, .prog, .hob, .tbl, .tcam, .buf, .egr, .twin, .time, .host, .boot, .image, .pwr, .out]
  | .resetNLow _ | .supplyMonitorReset | .restart _ _
    => [.clk, .tick, .regs, .writes, .lanes, .ports, .adm, .prog, .hob, .threads, .tbl, .tcam, .buf, .egr, .twin, .time, .host, .boot, .fuseOp, .image, .pwr, .out]

end Sys2Proof.Claims

/-- The frame of every command: whatever its operands and the state, it changes only the areas of its family. A lane command
leaves the tables alone, an Edxa instruction the lanes and ports, a host ring write the frame path, and so on. -/
def Obligations.EveryCommandKeepsToItsAreas : Prop :=
  ∀ (c : Instr) (s t : State), exec c s = .next t → SameBut (Claims.changes c) s t

/-! ### Fuses (R517, R518) -/

namespace Sys2Proof.Claims

/-- `b` is `a` with nothing unprogrammed and nothing read-only changed: fuses only blow, the count only rises and not past
64. -/
structure FusesGrow (a b : Fuses) : Prop where
  identity : b.identity = a.identity
  factoryHealth : b.factoryHealth = a.factoryHealth
  rootHash : b.rootHash = a.rootHash
  rootDisable : a.rootDisable = true → b.rootDisable = true
  custHash : ∀ n v, FMap.find? a.custHash n = some v → FMap.find? b.custHash n = some v
  custRevoke : ∀ n, tb a.custRevoke n = true → tb b.custRevoke n = true
  cwk : ∀ v, a.cwk = some v → b.cwk = some v
  svn : a.svn ≤ b.svn
  svnMax : b.svn ≤ Nat.max 64 a.svn

/-- The fuse operation in progress, if any, was judged by R518 on the fuses that are there. -/
def FuseJudged (s : State) : Prop := ∀ o, s.boot.fuseOp = some o → o.refused = fuseRefused o.op o.slot o.svn s

/-- What every step keeps: a judged operation, and fuses grown from `base`. -/
def FuseInv (base : Fuses) (s : State) : Prop := FuseJudged s ∧ FusesGrow base s.fuses

end Sys2Proof.Claims

/-- R517, R518: whatever command runs, a fuse once blown stays blown, a programmed customer hash or wrap key stays as it is,
and the fused count never falls and never passes 64. Every step keeps this, whatever the fuses were at first. -/
def Obligations.FusesOnlyEverBlow : Prop :=
  ∀ (base : Fuses) (s t : State), Claims.FuseInv base s → step s = .next t → Claims.FuseInv base t

namespace Sys2Proof.Claims

/-- The fuse operations that R518 lists, as commands: OP code, slot, count. -/
def FuseRequest (c : Instr) (op slot svn : Nat) : Prop :=
  (∃ n : Fin 4, c = .fuseProgramCustHash n ∧ op = 1 ∧ slot = n.val ∧ svn = 0) ∨
  (∃ n : Fin 4, c = .fuseRevoke n ∧ op = 2 ∧ slot = n.val ∧ svn = 0) ∨
  (c = .fuseRootDisable ∧ op = 3 ∧ slot = 0 ∧ svn = 0) ∨
  (c = .fuseProgramCwk ∧ op = 4 ∧ slot = 0 ∧ svn = 0) ∨
  ∃ n : Fin 128, c = .fuseAdvanceSvn n ∧ op = 5 ∧ slot = 0 ∧ svn = n.val

end Sys2Proof.Claims

/-- R518: each of the five operations starts on GO only in the safe hearth state and with VDD_FUSE in range; it is refused
where its slot or key is programmed or its count out of range; at its end RESULT says refused, failed or done, event 0x1B09
is raised, and only a verified operation that was not refused has blown its fuses. BOOT_FUSE_DATA reads zero. -/
def Obligations.FuseOperations : Prop :=
  (∀ (c : Instr) (op slot svn : Nat) (s : State), Claims.FuseRequest c op slot svn → hostReaches s = true →
    (isSafe s = true → s.boot.vfuseOk = true → s.boot.fuseOp = none →
      Completes c s fun t => t.boot.fuseOp = some { op := op, slot := slot, svn := svn, refused := fuseRefused op slot svn s } ∧
        SameBut [.regs, .boot, .fuseOp] s t) ∧
    (isSafe s = false ∨ s.boot.vfuseOk = false → Completes c s fun t => t.boot.fuseOp = s.boot.fuseOp)) ∧
  (∀ (v : Bool) (o : FuseOp) (s : State), s.boot.fuseOp = some o →
    Completes (.fuseOpDone v) s fun t => t.boot.fuseOp = none ∧ regBit t .BOOT_EVENT 0 8 = true ∧
      SameBut [.regs, .host, .boot, .fuseOp, .fuses] s t ∧
      (o.refused = true → t.boot.fuseResult = 1 ∧ t.fuses = s.fuses) ∧
      (o.refused = false → v = false → t.boot.fuseResult = 2 ∧ t.fuses = s.fuses) ∧
      (o.refused = false → v = true → t.boot.fuseResult = 0 ∧
        (o.op = 1 → t.fuses = if fuseBytes s 12 = List.replicate 48 0 then s.fuses
          else { s.fuses with custHash := FMap.put s.fuses.custHash o.slot (fuseBytes s 12) }) ∧
        (o.op = 2 → t.fuses = { s.fuses with custRevoke := Nat.lor s.fuses.custRevoke (2 ^ o.slot) }) ∧
        (o.op = 3 → t.fuses = { s.fuses with rootDisable := true }) ∧
        (o.op = 4 → t.fuses = { s.fuses with cwk := some (fuseBytes s 8) }) ∧
        (o.op = 5 → t.fuses = { s.fuses with svn := o.svn }))) ∧
  (∀ (slot svn : Nat) (s : State),
    (fuseRefused 1 slot svn s = true ↔ (FMap.find? s.fuses.custHash slot).isSome = true) ∧
    fuseRefused 2 slot svn s = false ∧ fuseRefused 3 slot svn s = false ∧
    (fuseRefused 4 slot svn s = true ↔ s.fuses.cwk.isSome = true) ∧
    (fuseRefused 5 slot svn s = true ↔ svn < s.fuses.svn ∨ 64 < svn)) ∧
  ∀ (i : Fin 12) (s : State), barWord s (Reg.BOOT_FUSE_DATA.addr i.val) = 0

/-! ### Lanes (chapter 02) -/

namespace Sys2Proof.Claims

/-- What a step of lane `l`'s own training may change: that lane, the detected link of its ports with the link transitions
announced for them, its event bits and the event ring. -/
def LaneOnly (l : Nat) (s t : State) : Prop :=
  SameBut [.regs, .lanes, .ports, .host, .out] s t ∧ (∀ m, m ≠ l → laneOf t m = laneOf s m) ∧
  (∀ p, portOf t p = { portOf s p with det := (portOf t p).det, ownAt := (portOf t p).ownAt }) ∧
  t.out = { s.out with flue := t.out.flue } ∧
  RegsBut [Reg.LANE_EVENT.addr l, Reg.HOST_EVENT_LOST_CNT.addr 0] s t

/-- The lane is in one of the states that TRAIN_TIMEOUT times. -/
def Training (x : Lane) : Prop := x.st = .acquire ∨ x.st = .negotiate ∨ x.st = .align

end Sys2Proof.Claims

/-! ### Ordered sets, stamps and received frames (R47 to R64, R73 to R82) -/

namespace Sys2Proof.Claims

/-- A Hearth lane that holds block lock takes ordered sets. -/
def TakesSets (s : State) (l : Nat) : Prop := isHearth (laneMode s l) = true ∧ (laneOf s l).blockLock = true

/-- `c` is the reception of set `o` on lane `l`, of whatever subtype. -/
def SetReceived (l : Fin 512) (o : OSet) (c : Instr) : Prop :=
  c = .trainingSetReceive l o ∨ c = .tickMarkerReceive l o ∨ c = .channelStatusReceive l o ∨ c = .reservedOrderedSet l o ∨
  c = .timestampReportReceive l o

/-- The stamp of a marker, reconstructed under R18. -/
def stampOf (s : State) (o : OSet) : Nat := reconstruct s.clk.tick (markerTick o % 65536)

/-- The tick-high and interval fields of a marker agree with its stamp and the lane's interval. -/
def MarkerFormat (s : State) (l : Nat) (o : OSet) : Prop :=
  stampOf s o / 65536 % 65536 = markerTick o / 65536 ∧ o.d3.toNat % 16 ≤ regFld s .LANE_HCFG l 3 0

end Sys2Proof.Claims

/-- R46 to R48, R52, R57, R61: what each ordered set does to the lane that receives it, and that a bad CRC-8 is a wire error
whatever the subtype, which ends a run of agreeing training sets or accepted markers. -/
def Obligations.OrderedSets : Prop :=
  ∀ (l : Fin 512) (o : OSet) (s : State), Claims.TakesSets s l.val →
    (osetGood o = false → ∀ c, Claims.SetReceived l o c →
      Completes c s fun t => (laneOf t l.val).openErr = some ((laneOf s l.val).openErr.getD ((laneOf s l.val).lastGood.getD 0)) ∧
        (laneOf t l.val).setsRx = 0 ∧ (laneOf t l.val).markers = 0 ∧
        (∀ m, m ≠ l.val → laneOf t m = laneOf s m) ∧ SameBut [.regs, .lanes, .host] s t) ∧
    (osetGood o = true →
      (Completes (.trainingSetReceive l o) s fun t => (laneOf t l.val).partnerCap = o.d2.toNat % 16 ∧
        (laneOf t l.val).partnerChans = some (o.d2.toNat / 16 + 1) ∧ (laneOf t l.val).st = (laneOf s l.val).st ∧
        (∀ m, m ≠ l.val → laneOf t m = laneOf s m) ∧ SameBut [.regs, .lanes, .host] s t ∧
        ((laneOf s l.val).st = .negotiate →
          Nat.min (ownVmax s) (o.d1.toNat % 16) < 1 ∨ Nat.min (ownVmax s) (o.d1.toNat % 16) < o.d1.toNat / 16 →
          (laneOf t l.val).setsRx = 0 ∧ (laneOf t l.val).hver = (laneOf s l.val).hver ∧
            ((laneOf s l.val).noMeet = false → regBit t .LANE_EVENT l.val 1 = true))) ∧
      ((laneOf s l.val).st = .align → (s.clk.tick ≤ Claims.stampOf s o + 3 ∧ Claims.stampOf s o ≤ s.clk.tick + 1 ∧
          Claims.MarkerFormat s l.val o →
        Completes (.tickMarkerReceive l o) s fun t => (laneOf t l.val).markers = (laneOf s l.val).markers + 1 ∧
          (∀ m, m ≠ l.val → laneOf t m = laneOf s m) ∧ SameBut [.regs, .lanes, .host] s t ∧
          ((laneOf s l.val).highStamp.getD 0 ≤ Claims.stampOf s o →
            (laneOf t l.val).lastGood = some (Claims.stampOf s o) ∧ SameBut [.lanes] s t)) ∧
        (¬(s.clk.tick ≤ Claims.stampOf s o + 3 ∧ Claims.stampOf s o ≤ s.clk.tick + 1 ∧ Claims.MarkerFormat s l.val o) →
        Completes (.tickMarkerReceive l o) s fun t => laneOf t l.val = { laneOf s l.val with markers := 0 } ∧
          (∀ m, m ≠ l.val → laneOf t m = laneOf s m) ∧ SameBut [.lanes] s t)) ∧
      ((laneOf s l.val).st ≠ .disabled →
        Completes (.channelStatusReceive l o) s fun t =>
          laneOf t l.val = { laneOf s l.val with chLink := o.d1.toNat, chLpi := o.d2.toNat, chFault := o.d3.toNat } ∧
          (∀ m, m ≠ l.val → laneOf t m = laneOf s m) ∧ SameBut [.lanes, .ports, .out] s t) ∧
      Completes (.reservedOrderedSet l o) s fun t =>
        laneOf t l.val = { laneOf s l.val with reservedSets := (laneOf s l.val).reservedSets + 1 } ∧
        (∀ m, m ≠ l.val → laneOf t m = laneOf s m) ∧ SameBut [.lanes] s t)

/-- R58: a stamp lower than the highest one received is a stamp-order error, whether it comes on a marker, in service or in ALIGN,
or on a frame: the lane is not clean for any tick from the lower stamp through the higher one, and event 0x1006 is raised. -/
def Obligations.StampOrderErrors : Prop :=
  (∀ (l : Fin 512) (o : OSet) (s : State) (h : Nat), Claims.TakesSets s l.val → (laneOf s l.val).st = .align → osetGood o = true →
    Claims.MarkerFormat s l.val o → s.clk.tick ≤ Claims.stampOf s o + 3 → Claims.stampOf s o ≤ s.clk.tick + 1 →
    (laneOf s l.val).highStamp = some h → Claims.stampOf s o < h →
    Completes (.tickMarkerReceive l o) s fun t => (Claims.stampOf s o, h) ∈ (laneOf t l.val).unclean ∧
      (laneOf t l.val).highStamp = some h ∧ regBit t .LANE_EVENT l.val 3 = true) ∧
  (∀ (l : Fin 512) (o : OSet) (s : State) (h : Nat), Claims.TakesSets s l.val → (laneOf s l.val).st = .inService → osetGood o = true →
    Claims.MarkerFormat s l.val o → Claims.stampOf s o ≤ s.clk.tick + 1 → (laneOf s l.val).highStamp = some h →
    Claims.stampOf s o < h →
    Completes (.tickMarkerReceive l o) s fun t =>
      (∀ k, Claims.stampOf s o ≤ k → k ≤ h → laneClean t l.val k = false) ∧ (laneOf t l.val).highStamp = some h ∧
      regBit t .LANE_EVENT l.val 3 = true) ∧
  ∀ (l : Fin 512) (f : HFrame) (s : State) (h : Nat), isHearth (laneMode s l.val) = true → (laneOf s l.val).st = .inService →
    crc8 (slice f.pre 0 6) = byteAt f.pre 6 → (laneOf s l.val).highStamp = some h →
    reconstruct s.clk.tick (beVal (slice f.pre 4 2)) ≤ s.clk.tick + 1 →
    reconstruct s.clk.tick (beVal (slice f.pre 4 2)) < h →
    Completes (.hearthFrameReceive l f) s fun t =>
      (∀ k, reconstruct s.clk.tick (beVal (slice f.pre 4 2)) ≤ k → k ≤ h → laneClean t l.val k = false) ∧
      (laneOf t l.val).highStamp = some h ∧ regBit t .LANE_EVENT l.val 3 = true

namespace Sys2Proof.Claims

/-- The pool has a free cell for each of `n` cells. -/
def CellsFree (s : State) (n : Nat) : Prop := (takeCells n s).1.length = n

/-- Port `p` takes a good frame of `n` bytes: enabled, not suppressed, the length within its limits, and the pool has cells. -/
def PortTakes (s : State) (p n : Nat) : Prop :=
  regBit s .MAC_PORT_CFG p 16 = true ∧ (portOf s p).suppressed = false ∧ 64 ≤ n ∧ n ≤ regFld s .MAC_PORT_CFG p 13 0 ∧
  CellsFree s (cellsOf n)

/-- A Hearth frame with a good preamble, a good frame-status set without error flags and a good FCS. -/
def GoodHearth (f : HFrame) : Prop :=
  crc8 (slice f.pre 0 6) = byteAt f.pre 6 ∧ tb (byteAt f.pre 0).toNat 5 = false ∧ fcsGood f.data = true ∧
  ∃ o, f.status = some o ∧ osetGood o = true ∧ osetSub o = 0 ∧ tb o.d1.toNat 3 = false ∧ tb o.d1.toNat 4 = false

end Sys2Proof.Claims

/-- R18, R19, R49, R53, R56, R73: a good frame on a Hearth lane in service, of a mapped channel, in stamp order, without a
gap in its PSEQ, is handed to the hearth sequencer with its port, arrival tick, PSEQ and bytes; a good frame on a linked
plain lane with the tick of its end. -/
def Obligations.FramesAreReceived : Prop :=
  (∀ (l : Fin 512) (f : HFrame) (s : State) (p : Nat), isHearth (laneMode s l.val) = true → (laneOf s l.val).st = .inService →
    Claims.GoodHearth f → (chanOf s l.val ((byteAt f.pre 0).toNat % 8)).1 = p →
    (chanOf s l.val ((byteAt f.pre 0).toNat % 8)).2.2 = true →
    b2n (tb (byteAt f.pre 0).toNat 3) + 1 = (laneOf s l.val).hver →
    (laneOf s l.val).highStamp.getD 0 ≤ reconstruct s.clk.tick (beVal (slice f.pre 4 2)) →
    reconstruct s.clk.tick (beVal (slice f.pre 4 2)) ≤ s.clk.tick + 1 →
    s.clk.tick + 5 ≤ reconstruct s.clk.tick (beVal (slice f.pre 4 2)) + admDelay s →
    FMap.get none (laneOf s l.val).pseq ((byteAt f.pre 0).toNat % 8) = none ∨
      FMap.get none (laneOf s l.val).pseq ((byteAt f.pre 0).toNat % 8) = some ((beVal (slice f.pre 1 3) + 2 ^ 24 - 1) % 2 ^ 24) →
    Claims.PortTakes s p f.data.length →
    Completes (.hearthFrameReceive l f) s fun t => ∃ r : Rx, t.adm.arrived = s.adm.arrived ++ [r] ∧ r.port = p ∧
      r.lane = l.val ∧ r.arrival = reconstruct s.clk.tick (beVal (slice f.pre 4 2)) ∧ r.bytes = f.data ∧
      r.seq = beVal (slice f.pre 1 3) ∧ r.flags = 0 ∧ r.cells.length = cellsOf f.data.length ∧
      (laneOf t l.val).highStamp = some r.arrival ∧
      FMap.get none (laneOf t l.val).pseq ((byteAt f.pre 0).toNat % 8) = some r.seq ∧
      ∀ m, m ≠ l.val → laneOf t m = laneOf s m) ∧
  ∀ (l : Fin 512) (f : PFrame) (s : State) (p : Nat), plainRate (laneMode s l.val) ≠ 0 → (laneOf s l.val).linked = true →
    laneOperates s l.val = true → (laneOf s l.val).port = some p → fcsGood f.data = true → f.symErr = false →
    5 ≤ admDelay s → Claims.PortTakes s p f.data.length →
    Completes (.plainFrameReceive l f) s fun t => ∃ r : Rx, t.adm.arrived = s.adm.arrived ++ [r] ∧ r.port = p ∧
      r.lane = l.val ∧ r.arrival = s.clk.tick ∧ r.bytes = f.data ∧ r.flags = 0 ∧ r.cells.length = cellsOf f.data.length ∧
      r.ts = some (plainStamp s l.val f.sfdTick f.sfdCycle.val) ∧ t.lanes = s.lanes

/-- R45, R46, R60 and Table LANE-2; R61, R62, R78, R109, R111: each move of a Hearth lane between its training states, with the
counts and times that the move starts again; a lane that its versions or its channel map keep in NEGOTIATE stays there (the time
limit leaves it alone: the model's choice, notes/assumptions/148.md); and what a lane signals: a block error is a wire error, lock lost with it ends block
lock, and on a plain lane the link; LPI signalled on a plain lane is noted on its port; a plain lane's PCS going up or down is
its port's link detected. -/
def Obligations.LaneTraining : Prop :=
  (∀ (l : Fin 512) (s : State),
    (isHearth (laneMode s l.val) = true → laneOperates s l.val = true → (laneOf s l.val).st = .acquire →
      Completes (.laneBlockLock l) s fun t => (laneOf t l.val).st = .negotiate ∧ (laneOf t l.val).blockLock = true ∧
        (laneOf t l.val).setsRx = 0 ∧ (laneOf t l.val).setsTx = 0 ∧
        (laneOf t l.val).trainFrom = (laneOf s l.val).trainFrom ∧ Claims.LaneOnly l.val s t) ∧
    ((laneOf s l.val).st = .negotiate → 8 ≤ (laneOf s l.val).setsRx → 8 ≤ (laneOf s l.val).setsTx →
      (chanMapOk s l.val = true → Completes (.alignEntry l) s fun t => (laneOf t l.val).st = .align ∧ (laneOf t l.val).markers = 0 ∧
        (laneOf t l.val).trainFrom = (laneOf s l.val).trainFrom ∧ Claims.LaneOnly l.val s t) ∧
      (chanMapOk s l.val = false → Completes (.alignEntry l) s fun t => (laneOf t l.val).st = .negotiate ∧
        (laneOf t l.val).refused = true ∧ Claims.LaneOnly l.val s t)) ∧
    ((laneOf s l.val).st = .align → 16 ≤ (laneOf s l.val).markers → markerOk s l.val = true →
      Completes (.inServiceEntry l) s fun t => (laneOf t l.val).st = .inService ∧
        (laneOf t l.val).eseq = (if isSolo s then [] else (laneOf s l.val).eseq) ∧ Claims.LaneOnly l.val s t) ∧
    (Claims.Training (laneOf s l.val) → laneStays s l.val = true → Completes (.trainTimeout l) s fun t => t = s) ∧
    (Claims.Training (laneOf s l.val) → laneStays s l.val = false →
      (laneOf s l.val).trainFrom + ticksOfNs (regFld s .LANE_GCFG 0 15 8 * 1000000) ≤ s.clk.tick →
      Completes (.trainTimeout l) s fun t => (laneOf t l.val).st = .acquire ∧ (laneOf t l.val).trainFrom = s.clk.tick ∧
        (laneOf t l.val).blockLock = false ∧ regBit t .LANE_EVENT l.val 2 = true ∧ Claims.LaneOnly l.val s t) ∧
    ((laneOf s l.val).st = .outOfStep → (laneOf s l.val).trainFrom < s.clk.tick →
      Completes (.outOfStepRealign l) s fun t => (laneOf t l.val).st = .align ∧ (laneOf t l.val).trainFrom = s.clk.tick ∧
        Claims.LaneOnly l.val s t) ∧
    ((laneOf s l.val).st = .inService → isHearth (laneMode s l.val) = true →
      (provenTick (laneOf s l.val)).getD 0 + 32 < s.clk.tick →
      Completes (.laneOutOfStep l) s fun t => (laneOf t l.val).st = .outOfStep ∧ regBit t .LANE_EVENT l.val 0 = true ∧
        Claims.LaneOnly l.val s t) ∧
    (∀ a, (laneOf s l.val).lockLostAt = some a → (laneOf s l.val).st = .inService → a + 32 ≤ s.clk.tick →
      Completes (.blockLockLoss l) s fun t => (laneOf t l.val).st = .outOfStep ∧ regBit t .LANE_EVENT l.val 0 = true ∧
        Claims.LaneOnly l.val s t)) ∧
  (∀ (l : Fin 512) (s : State),
    (∀ lost, isHearth (laneMode s l.val) = true → (laneOf s l.val).st ≠ .disabled → (laneOf s l.val).blockLock = true →
      Completes (.laneBlockError l lost) s fun t =>
        (laneOf t l.val).openErr = some ((laneOf s l.val).openErr.getD ((laneOf s l.val).lastGood.getD 0)) ∧
        (laneOf t l.val).blockLock = !lost ∧
        (laneOf t l.val).lockLostAt = (if lost then some s.clk.tick else (laneOf s l.val).lockLostAt) ∧
        (∀ m, m ≠ l.val → laneOf t m = laneOf s m) ∧ SameBut [.regs, .lanes, .host] s t) ∧
    (isHearth (laneMode s l.val) = false → (laneOf s l.val).linked = true →
      (Completes (.laneBlockError l false) s fun t => laneClean t l.val s.clk.tick = false ∧ (laneOf t l.val).linked = true ∧
        SameBut [.regs, .lanes, .host] s t) ∧
      Completes (.laneBlockError l true) s fun t => laneClean t l.val s.clk.tick = false ∧ (laneOf t l.val).linked = false ∧
        SameBut [.regs, .lanes, .ports, .egr, .host, .out] s t) ∧
    (∀ on p, plainRate (laneMode s l.val) ≠ 0 → (laneOf s l.val).port = some p →
      Completes (.receiveLpi l on) s fun t => portOf t p = { portOf s p with rxLpi := on } ∧
        (∀ q, q ≠ p → portOf t q = portOf s q) ∧ SameBut [.ports] s t) ∧
    (plainRate (laneMode s l.val) ≠ 0 → laneOperates s l.val = true → (laneOf s l.val).linked = false →
      (Completes (.laneBlockLock l) s fun t => (laneOf t l.val).linked = true ∧ (laneOf t l.val).blockLock = true ∧
        Claims.LaneOnly l.val s t) ∧
      ∀ p : Fin 2048, plainAt s p.val = some l.val →
        Completes (.linkDetect p true) s fun t => (laneOf t l.val).linked = true ∧ Claims.LaneOnly l.val s t) ∧
    (∀ p : Fin 2048, plainAt s p.val = some l.val → (laneOf s l.val).linked = true →
      Completes (.linkDetect p false) s fun t => (laneOf t l.val).linked = false ∧ (laneOf t l.val).blockLock = false ∧
        ∀ m, m ≠ l.val → laneOf t m = laneOf s m) ∧
    ∀ (p : Fin 2048) (up : Bool), plainAt s p.val = none →
      Completes (.linkDetect p up) s fun t => (portOf t p.val).det = portDetected s p.val ∧
        (∀ q, q ≠ p.val → portOf t q = portOf s q) ∧ SameBut [.ports, .out] s t)/-! ### Ports (chapter 03) -/

namespace Sys2Proof.Claims

/-- Port `p` alone changes, and within the areas `l`. -/
def PortOnly (l : List Area) (p : Nat) (s t : State) : Prop := SameBut l s t ∧ ∀ q, q ≠ p → portOf t q = portOf s q

/-- Frame `f` is the one that port `p` is sending, `r` are the frames granted behind it. -/
def Sending (s : State) (p : Nat) (f : TxFrame) (r : List TxFrame) : Prop :=
  (portOf s p).tx = f :: r ∧ f.started.isSome = true ∧ isPlaceholder f.srcPos = false

/-- What leaves on the wire of port `p` for frame `f`, its FCS inverted or not: on a plain lane the frame; on a Hearth
channel its preamble, the frame and its frame-status set with FCS_INVERTED (Tables LANE-4 and LANE-6). -/
def wire (s : State) (p : Nat) (f : TxFrame) (inverted : Bool) : List LaneOut :=
  match hearthAt s p with
  | some (l, c) => [.frame l (some (egressPreamble c (laneOf s l).hver f.eseq (f.tsid.getD 0))) f.bytes inverted,
      .oset l (osetBytes 0 (c + 32 * b2n inverted) 0 0 0 (f.eseq % 256))]
  | none => match plainAt s p with
    | some l => [.frame l none f.bytes inverted]
    | none => []

/-- A frame of `n` bytes is counted as dropped with a reason, with effect at the next tick. -/
def DropCounted (reason n : Nat) (s t : State) : Prop :=
  t.egr.ctrPend = s.egr.ctrPend ++ [(s.clk.tick + 1, fixedKey 2 reason, 1, n)]

end Sys2Proof.Claims

/-- R83 to R88, R95, R99, R107, R113: the first granted frame that PFC does not hold starts, from two ticks after its grant, once it
is on die and its first CT_THRESH cells, or all of its cells, are staged, on a port that is up, enabled, awake, not paused and
owes no pause frame; ESEQs keep the order in which frames leave. It ends whole; it is cut off with an inverted FCS when staged
data runs out, which raises CT_THRESH by 2 up to 64 in solo operation and at an agreed tick in a pair, or when the link is
lost, in the cycle of an underrun too, which does not. CT_THRESH decays by 2 down to CT_BASE after 2^20 frames. -/
def Obligations.FrameTransmission : Prop :=
  ∀ (p : Fin 2048) (s : State) (f : TxFrame) (r : List TxFrame),
    (∀ j i, nextFrame s p.val = some (f, i) → mayStart s p.val = true →
      s.clk.forwarding = true ∧ f.grant + 2 ≤ s.clk.tick ∧ portPaused s p.val = false ∧ pauseOwed s p.val = false ∧
      (8 ≤ f.queue ∨ queuePaused s p.val f.queue = false) ∧
      (portOf s p.val).up = true ∧ portEnabled s p.val = true ∧ (portOf s p.val).wakeUntil ≤ s.clk.tick ∧ f.offDie = false ∧
      (f.cells.length ≤ f.staged ∨ (portOf s p.val).ctThresh ≤ f.staged) ∧
      (f.tsid = none → Completes (.txFirstBlock p j) s fun t =>
        (∃ g, (portOf t p.val).tx.head? = some g ∧ g.started = some s.clk.tick ∧ { g with started := f.started, eseq := f.eseq } = f) ∧
        (portOf t p.val).tx.map (·.eseq) = (portOf s p.val).tx.map (·.eseq) ∧
        portOf t p.val = { portOf s p.val with tx := (portOf t p.val).tx } ∧ Claims.PortOnly [.ports] p.val s t)) ∧
    (Claims.Sending s p.val f r → f.cells.length ≤ f.staged → Completes (.txFrameEnd p) s fun t =>
      portOf t p.val = { portOf s p.val with
        tx := r, decay := (portOf s p.val).decay + b2n (regBit s .MAC_TX_CT p.val 15 && !f.counted) } ∧
      t.out = { s.out with lanes := s.out.lanes ++ Claims.wire s p.val f false } ∧ t.egr.ctrPend = s.egr.ctrPend ∧
      Claims.PortOnly [.ports, .egr, .out] p.val s t) ∧
    (Claims.Sending s p.val f r → f.staged < f.cells.length → inPair s = false → Completes (.underrun p false) s fun t =>
      portOf t p.val = { portOf s p.val with tx := r, ctThresh := Nat.min 64 ((portOf s p.val).ctThresh + 2), decay := 0 } ∧
      t.out = { s.out with lanes := s.out.lanes ++ Claims.wire s p.val f true } ∧ Claims.DropCounted 0x53 f.rxLen s t ∧
      Claims.PortOnly [.regs, .ports, .egr, .host, .out] p.val s t) ∧
    (Claims.Sending s p.val f r → f.staged < f.cells.length → inPair s = true → Completes (.underrun p false) s fun t =>
      portOf t p.val = { portOf s p.val with tx := r, ctRaiseAt := (portOf s p.val).ctRaiseAt ++ [assignTick s] } ∧
      Claims.DropCounted 0x53 f.rxLen s t ∧ Claims.PortOnly [.regs, .ports, .egr, .host, .out] p.val s t) ∧
    (∀ c, c = Instr.linkLossAbort p ∨ c = Instr.underrun p true ∧ f.staged < f.cells.length → Claims.Sending s p.val f r →
      Completes c s fun t =>
      portOf t p.val = { portOf s p.val with tx := r } ∧
      t.out = { s.out with lanes := s.out.lanes ++ Claims.wire s p.val f true } ∧ Claims.DropCounted 0x54 f.rxLen s t ∧
      Claims.PortOnly [.ports, .egr, .out] p.val s t) ∧
    (regBit s .MAC_TX_CT p.val 15 = true → 2 ^ 20 ≤ (portOf s p.val).decay → Completes (.ctDecay p) s fun t =>
      portOf t p.val = { portOf s p.val with
        ctThresh := Nat.max (regFld s .MAC_TX_CT p.val 6 0) ((portOf s p.val).ctThresh - 2), decay := 0 } ∧
      Claims.PortOnly [.ports] p.val s t)

/-- R103: a port, or a priority of it, paused beyond PAUSE_WD: its pause is cleared, its storm bit set, event 0x1104
raised, and from then on its pause frames are not honoured; a PAUSE_WD of 0 disables the watchdog; the default is 200 ms,
3,906,250 ticks. Key 8 is PAUSE, keys 0 to 7 are the priorities. -/
def Obligations.PauseWatchdog : Prop :=
  ∀ (p : Fin 2048) (s : State),
    (∀ k from_, k < 9 → FMap.get none (portOf s p.val).pauseFrom k = some from_ → s.clk.tick < pauseExpOf (portOf s p.val) k →
      regFld s .MAC_WATCHDOG p.val 15 0 ≠ 0 →
      regFld s .MAC_WATCHDOG p.val 15 0 * 5000000 < (s.clk.tick - from_) * 256 →
      Completes (.pauseStorm p) s fun t => pauseExpOf (portOf t p.val) k = 0 ∧ inStorm (portOf t p.val) k = true ∧
        regBit t .MAC_PORT_EVENT p.val 3 = true ∧ Claims.PortOnly [.regs, .ports, .host] p.val s t) ∧
    (regFld s .MAC_WATCHDOG p.val 15 0 = 0 → Completes (.pauseStorm p) s fun t => t = s) ∧
    (∀ bs k, k < 9 → inStorm (portOf s p.val) k = true →
      pauseExpOf (portOf (consumeControl p.val bs s) p.val) k = pauseExpOf (portOf s p.val) k) ∧
    regFld State.reset .MAC_WATCHDOG p.val 15 0 = 200 ∧ 200 * 5000000 = 3906250 * 256

/-- R95, R98 to R102, R105, R106, R108: pause expiries that have passed are forgotten with the run of continuous pause, the others
stand; flow control newly asserted is advertised at a frame boundary and again at half the time last advertised, released flow
control with quanta 0, counted in TX_PAUSE or TX_PFC, and not at all with TX_MODE 0; a storm ends after STORM_RECOVER ms; a port
that has been empty for IDLE ticks enters transmit LPI. -/
def Obligations.FlowControlAndIdle : Prop :=
  ∀ (p : Fin 2048) (s : State),
    (∀ k, k < 9 → pauseExpOf (portOf s p.val) k ≤ s.clk.tick →
      Completes (.pauseExpiry p) s fun t => pauseExpOf (portOf t p.val) k = 0 ∧
        FMap.get none (portOf t p.val).pauseFrom k = none ∧ Claims.PortOnly [.ports] p.val s t) ∧
    (∀ k, k < 9 → s.clk.tick < pauseExpOf (portOf s p.val) k →
      Completes (.pauseExpiry p) s fun t => pauseExpOf (portOf t p.val) k = pauseExpOf (portOf s p.val) k ∧
        FMap.get none (portOf t p.val).pauseFrom k = FMap.get none (portOf s p.val).pauseFrom k ∧
        Claims.PortOnly [.ports] p.val s t) ∧
    (generates s p.val = false → ∀ c, c = Instr.pauseFrameSend p ∨ c = Instr.pauseRefresh p → Completes c s fun t => t = s) ∧
    (∀ c w, w = fcWantedOf s p.val →
      c = Instr.pauseFrameSend p ∧ Nat.lor w (portOf s p.val).fcSent ≠ (portOf s p.val).fcSent ∨
        c = Instr.pauseRefresh p ∧ (portOf s p.val).fcSent ≠ 0 ∧ Nat.lor w (portOf s p.val).fcSent ≠ w ∨
        c = Instr.pauseRefresh p ∧ (portOf s p.val).fcSent ≠ 0 ∧ w ≠ 0 ∧
          pauseTicks s p.val (portOf s p.val).fcQuanta ≤ 2 * (s.clk.tick - (portOf s p.val).fcSentAt) →
      generates s p.val = true → atBoundary s p.val = true →
      Completes c s fun t =>
        portOf t p.val = { portOf s p.val with fcSent := w, fcSentAt := s.clk.tick, fcQuanta := regFld s .MAC_FC_CFG p.val 31 16,
                                               tx := (portOf t p.val).tx } ∧
        (portOf t p.val).tx.map (fun f => { f with eseq := 0 }) = (portOf s p.val).tx.map (fun f => { f with eseq := 0 }) ∧
        (hearthAt s p.val = none → (portOf t p.val).tx = (portOf s p.val).tx) ∧
        FMap.get 0 t.egr.stats (p.val * 32 + if regFld s .MAC_FC_CFG p.val 3 2 = 2 then 28 else 27) =
          (FMap.get 0 s.egr.stats (p.val * 32 + if regFld s .MAC_FC_CFG p.val 3 2 = 2 then 28 else 27) + 1) % 2 ^ 64 ∧
        (∃ x, t.out.lanes = s.out.lanes ++ x ∧ x ≠ []) ∧ Claims.PortOnly [.lanes, .ports, .egr, .out] p.val s t) ∧
    (∀ k, k < 9 → inStorm (portOf s p.val) k = true → regFld s .MAC_WATCHDOG p.val 31 16 ≠ 0 →
      regFld s .MAC_WATCHDOG p.val 31 16 * 5000000 ≤ (s.clk.tick - FMap.get 0 (portOf s p.val).lastNonZero k) * 256 →
      Completes (.stormRecover p) s fun t => inStorm (portOf t p.val) k = false ∧
        Claims.PortOnly [.regs, .ports, .host] p.val s t) ∧
    (regBit s .MAC_EEE_CFG p.val 0 = true → (portOf s p.val).txLpi = false → portEmpty s p.val = true →
      (portOf s p.val).emptyFrom + regFld s .MAC_EEE_CFG p.val 15 4 ≤ s.clk.tick →
      Completes (.lpiEnter p) s fun t => portOf t p.val = { portOf s p.val with txLpi := true } ∧
        t.out = { s.out with lanes := s.out.lanes ++ (match plainAt s p.val with
          | some l => [.lpi l true]
          | none => []) } ∧ Claims.PortOnly [.ports, .out] p.val s t)

/-- R112, R114 to R119, R123 in solo operation: a link transition takes effect at its tick. Going down clears the pauses and the
storms, counts a flap and raises event 0x1102; going up raises event 0x1101; a suppressed port stays down, its transitions are
counted and reported all the same. A port still down when LINK_HOLD has passed is
flushed with event 0x1103; a suppressed port without a flap for FLAP_QUIET seconds is released. -/
def Obligations.LinkTransitions : Prop :=
  ∀ (p : Fin 2048) (s : State),
    (∀ e, s.twin.st = .solo → (portOf s p.val).ownAt = [(e, false)] → (portOf s p.val).partnerAt = [] →
      (portOf s p.val).recheck = none → e ≤ s.clk.tick → (portOf s p.val).up = true → (portOf s p.val).ownUp = true →
      Completes (.linkDownEffect p) s fun t => (portOf t p.val).up = false ∧ (portOf t p.val).ownUp = false ∧
        (portOf t p.val).ownAt = [] ∧ (portOf t p.val).downL = some s.clk.tick ∧ (portOf t p.val).lastDown = s.clk.tick ∧
        (portOf t p.val).pauseExp = 0 ∧ (portOf t p.val).pfcExp = [] ∧ (portOf t p.val).pauseStorm = false ∧
        (portOf t p.val).pfcStorm = 0 ∧ (portOf t p.val).flaps = (s.clk.tick :: (portOf s p.val).flaps).take 16 ∧
        (portOf t p.val).tx = (portOf s p.val).tx ∧ regBit t .MAC_PORT_EVENT p.val 1 = true ∧
        (∀ q, q ≠ p.val → portOf t q = portOf s q)) ∧
    (∀ e, s.twin.st = .solo → (portOf s p.val).ownAt = [(e, true)] → (portOf s p.val).partnerAt = [] →
      (portOf s p.val).recheck = none → e ≤ s.clk.tick → (portOf s p.val).up = false → (portOf s p.val).ownUp = false →
      (portOf s p.val).suppressed = false →
      Completes (.linkUpEffect p) s fun t => (portOf t p.val).up = true ∧ (portOf t p.val).ownUp = true ∧
        (portOf t p.val).ownAt = [] ∧ (portOf t p.val).downL = none ∧ (portOf t p.val).lastUp = s.clk.tick ∧
        (portOf t p.val).flushed = false ∧ regBit t .MAC_PORT_EVENT p.val 0 = true ∧
        (∀ q, q ≠ p.val → portOf t q = portOf s q)) ∧
    (∀ e b, s.twin.st = .solo → (portOf s p.val).ownAt = [(e, b)] → (portOf s p.val).partnerAt = [] →
      (portOf s p.val).recheck = none → e ≤ s.clk.tick → (portOf s p.val).up = false → (portOf s p.val).ownUp = !b →
      (portOf s p.val).suppressed = true →
      Completes (if b then Instr.linkUpEffect p else .linkDownEffect p) s fun t => (portOf t p.val).up = false ∧
        (portOf t p.val).ownUp = b ∧ (b = false → (portOf t p.val).flaps = (s.clk.tick :: (portOf s p.val).flaps).take 16) ∧
        regBit t .MAC_PORT_EVENT p.val (b2n (!b)) = true) ∧
    (∀ L, (portOf s p.val).downL = some L → (portOf s p.val).up = false → (portOf s p.val).flushed = false →
      L + ticksOfNs (regFld s .MAC_LINK_CFG p.val 6 0 * 1000000) ≤ s.clk.tick →
      Completes (.linkHoldExpiry p) s fun t => portOf t p.val = { portOf s p.val with flushed := true } ∧
        regBit t .MAC_PORT_EVENT p.val 2 = true ∧ Claims.PortOnly [.regs, .ports, .buf, .host] p.val s t) ∧
    ((portOf s p.val).suppressed = true → regFld s .MAC_LINK_CFG p.val 27 20 ≠ 0 →
      secondsPassed s ((portOf s p.val).flaps.headD 0) (regFld s .MAC_LINK_CFG p.val 27 20) = true →
      Completes (.flapRelease p) s fun t =>
        portOf t p.val = { portOf s p.val with suppressed := false, recheck := some (s.clk.tick + 1) } ∧
        Claims.PortOnly [.regs, .ports, .host] p.val s t)
/-! ### Registers (R8 to R13, R458, R463, R464) -/

/-- R9: a read of the low word of a 64-bit quantity returns it and latches its high word, and no other latch changes; a read
of the high word returns the latched value, and before the first read of the low word the current value. -/
def Obligations.LowWordReadsLatch : Prop :=
  (∀ (a : Nat) (s : State), hostReaches s = true → a % 4 = 0 → a < 0x4000000 → isLowWord a = true →
    Completes (.lowWordRead a) s fun t => t.regs.rdData = some (barShown s a) ∧
      t.regs = { s.regs with rdData := t.regs.rdData,
                             latch := FMap.set none s.regs.latch (a + 4) (some (barWord s (a + 4))) } ∧
      (∀ b, b ≠ a + 4 → FMap.get none t.regs.latch b = FMap.get none s.regs.latch b) ∧
      FMap.get none t.regs.latch (a + 4) = some (barWord s (a + 4)) ∧ SameBut [.regs] s t) ∧
  (∀ (a : Nat) (s : State) (v : Word), isHighWord a = true → FMap.get none s.regs.latch a = some v → barShown s a = v) ∧
  (∀ (a : Nat) (s : State), isHighWord a = true → FMap.get none s.regs.latch a = none → barShown s a = barWord s a) ∧
  ∀ a, FMap.get none State.reset.regs.latch a = none

namespace Sys2Proof.Claims

/-- The base registers of a ring: of the three first rings, or of the rings of the queue pairs; `k` is the instance. -/
def baseHi (qp : Bool) : Reg := if qp then .HOST_QRING_BASE_HI else .HOST_RING_BASE_HI
def baseLo (qp : Bool) : Reg := if qp then .HOST_QRING_BASE_LO else .HOST_RING_BASE_LO

end Sys2Proof.Claims

/-- R11, R13, R458, R463, R465: a read returns the value and then clears RC fields; a written 1 clears a W1C bit at once, a 0 none; a
read of TIME_NOW_FRAC latches the time of day and the tick; an access that is not one aligned word completes with Unsupported
Request and sets HOST_ERR.BAD_ACCESS. A read of BAR2 returns bytes of the host region or of the counters' image; a write of it
changes the host region, and none of the counter window. -/
def Obligations.RegisterAccess : Prop :=
  (∀ (a : Nat) (r : Reg) (i : Nat) (s : State), hostReaches s = true → a % 4 = 0 → a < 0x4000000 → Reg.find a = some (r, i) →
    isLowWord a = false → r ≠ .TIME_NOW_FRAC → r ≠ .HOST_TWI_FIFO → r ≠ .HOST_UART_DATA → r.info.rc ≠ 0 →
    Completes (.rcRead (.bar0 a)) s fun t => t.regs.rdData = some (barShown s a) ∧
      regVal t r i = regVal s r i &&& ~~~r.info.rc ∧
      (∀ b, b ≠ r.addr i → FMap.get none t.regs.vals b = FMap.get none s.regs.vals b) ∧ SameBut [.regs] s t) ∧
  (∀ (a : Nat) (r : Reg) (i : Nat) (v : Word) (s : State), hostReaches s = true → a % 4 = 0 → agreedBlock a = true →
    Reg.find a = some (r, i) → r.info.w1c ≠ 0 → r.info.rw = 0 → r.info.wo = 0 →
    Completes (.registerWrite (.bar0 a v)) s fun t => regVal t r i = regVal s r i &&& ~~~(v &&& r.info.w1c) ∧
      RegsBut [r.addr i] s t ∧ SameBut [.regs] s t) ∧
  (∀ (c : Fin 40) (s : State), hostReaches s = true → Completes (.timeNowLatch c) s fun t =>
    t.time = { s.time with nowLatch := (todAt s s.clk.tick c.val, s.clk.tick) } ∧ t.regs.rdData.isSome = true ∧
      SameBut [.regs, .time] s t) ∧
  (∀ (off n : Nat) (s : State), hostReaches s = true → ¬(n = 4 ∧ off % 4 = 0) →
    Completes (.badAccess off n) s fun t => t.regs.rdData = none ∧ regBit t .HOST_ERR 0 2 = true ∧
      SameBut [.regs, .host] s t) ∧
  (∀ (off len : Nat) (s : State), hostReaches s = true → off + len ≤ 2 ^ 28 →
    Completes (.rcRead (.bar2 off len)) s fun t => t.regs = { s.regs with rdBytes := t.regs.rdBytes } ∧
      t.regs.rdBytes.length = len ∧ SameBut [.regs] s t ∧
      ∀ i, i < len →
        (off + i < 0x8000000 → byteAt t.regs.rdBytes i = FMap.get 0 s.host.hbmHost (off + i)) ∧
        ∀ k, (0x8000000 ≤ off + i ∧ off + i < 0xC000000 ∧ k = (off + i - 0x8000000) / 16 ∨
            0xC000000 ≤ off + i ∧ k = fixedKey ((off + i - 0xC000000) / 0x400000) ((off + i - 0xC000000) % 0x400000 / 16)) →
          ((off + i) % 16 < 8 → byteAt t.regs.rdBytes i = byteAt (leBytes 8 (FMap.get (0, 0) s.egr.image k).1) ((off + i) % 16)) ∧
          (8 ≤ (off + i) % 16 → byteAt t.regs.rdBytes i = byteAt (leBytes 8 (FMap.get (0, 0) s.egr.image k).2) ((off + i) % 16 - 8))) ∧
  ∀ (off : Nat) (bs : List Byte) (s : State), hostReaches s = true → off + bs.length ≤ 2 ^ 28 →
    Completes (.registerWrite (.bar2 off bs)) s fun t => SameBut [.host] s t ∧
      t.host = { s.host with hbmHost := t.host.hbmHost } ∧
      ∀ a, FMap.get 0 t.host.hbmHost a =
        if off ≤ a ∧ a < off + bs.length ∧ a < 0x8000000 then byteAt bs (a - off) else FMap.get 0 s.host.hbmHost a

namespace Sys2Proof.Claims

/-- The commands that are direct writes of one register of an agreed block: the offset and the value each writes. -/
def DirectWrite (c : Instr) (a : Nat) (v : Word) : Prop :=
  (∃ l, c = .laneModeWrite l v ∧ a = Reg.LANE_MODE.addr l.val) ∨
  (∃ l, c = .retrain l ∧ a = Reg.LANE_CTRL.addr l.val ∧ v = 1) ∨
  (∃ p, c = .stormClear p ∧ a = Reg.MAC_PORT_CTRL.addr p.val ∧ v = 1) ∨
  (∃ p, c = .flapClear p ∧ a = Reg.MAC_PORT_CTRL.addr p.val ∧ v = 2) ∨
  (∃ p, c = .ctReset p ∧ a = Reg.MAC_PORT_CTRL.addr p.val ∧ v = 4) ∨
  (∃ p, c = .macTxCtWrite p v ∧ a = Reg.MAC_TX_CT.addr p.val) ∨
  (∃ g, (c = .freqWrite g v ∨ c = .park g v ∨ c = .unpark g v) ∧ a = Reg.STOVE_GROUP_CFG.addr g.val) ∨
  (c = .tblEvictSeedWrite v ∧ a = Reg.TBL_EVICT_SEED.addr 0) ∨
  (∃ n, c = .routeRegionWrite true n v ∧ a = Reg.TBL_ROUTE_REGION6.addr n.val) ∨
  (∃ n, c = .routeRegionWrite false n v ∧ n.val ≤ 32 ∧ a = Reg.TBL_ROUTE_REGION.addr n.val) ∨
  (∃ o, c = .tcamCourseWrite o v ∧ a = 0x600000 + o.val / 4 * 4) ∨
  (∃ k, c = .trigArm k v ∧ a = Reg.TIME_TRIG_CFG.addr k.val) ∨
  (c = .pop ∧ a = Reg.TIME_TSF_CTRL.addr 0 ∧ v = 1) ∨
  (c = .registerWrite (.bar0 a v) ∧ a % 4 = 0 ∧ agreedBlock a = true ∧ (Reg.find a).isSome = true)

end Sys2Proof.Claims

namespace Sys2Proof.Claims

/-- Nothing waits that the safe hearth state would carry out beside a write: no host write, no change, publish or meter write. -/
def Quiet (s : State) : Prop :=
  s.writes = [] ∧ (∀ c, c ∈ s.tbl.changes → c.applied = true ∨ s.clk.tick < c.eff) ∧
  (∀ e, e ∈ s.tbl.embers → e.2.sched = none ∧ e.2.hostSched = []) ∧ ∀ e, e ∈ s.egr.meters → e.2.pendE = none

/-- The state at another tick. -/
def atTick (n : Nat) (s : State) : State := { s with clk := { s.clk with tick := n } }

/-- A register after a direct write: RW fields take the value, a 1 clears a W1C bit, other bits stay; the value is clamped (R11). -/
def Stored (s t : State) (r : Reg) (i : Nat) (v : Word) : Prop :=
  regVal t r i = clampReg s r ((regVal s r i &&& ~~~r.info.rw &&& ~~~(v &&& r.info.w1c)) ||| (v &&& r.info.rw))

/-- What a direct write has done to state `s` once it is in effect (R42, R71, R105, R119, R120, R261, R262, R283, R288, R320, R451,
R458). -/
def WriteEffect (c : Instr) (s t : State) : Prop :=
  match c with
  | .laneModeWrite l v =>
    (regBit s .LANE_MODE l.val 4 = false →
      regVal t .LANE_MODE l.val = (if started s then v else setFld v 4 4 0) &&& 0x1FF ∧
      (started s = false → ∀ m, m ∈ t.boot.enables ↔ (if m = l.val then v.getLsbD 4 = true else m ∈ s.boot.enables)) ∧
      (started s = true → v.getLsbD 4 = true → isHearth (wfld v 3 0) = true →
        (laneOf t l.val).st = .acquire ∧ (laneOf t l.val).trainFrom = s.clk.tick)) ∧
    (regBit s .LANE_MODE l.val 4 = true → v.getLsbD 4 = false → regBit t .LANE_MODE l.val 4 = false ∧
      (laneOf t l.val).st = .disabled ∧ (laneOf t l.val).linked = false)
  | .retrain l =>
    ((laneOf s l.val).st ≠ .disabled → (laneOf t l.val).st = .acquire ∧ (laneOf t l.val).trainFrom = s.clk.tick) ∧
    ((laneOf s l.val).st = .disabled → t.lanes = s.lanes)
  | .stormClear p => (∀ k, k < 9 → inStorm (portOf t p.val) k = false) ∧ ∀ q, q ≠ p.val → portOf t q = portOf s q
  | .flapClear p => (portOf t p.val).suppressed = false ∧ (portOf t p.val).flaps = [] ∧ ∀ q, q ≠ p.val → portOf t q = portOf s q
  | .ctReset p => portOf t p.val = { portOf s p.val with ctThresh := regFld s .MAC_TX_CT p.val 6 0, decay := 0 } ∧
      ∀ q, q ≠ p.val → portOf t q = portOf s q
  | .macTxCtWrite p v => Stored s t .MAC_TX_CT p.val v ∧ portOf t p.val = { portOf s p.val with ctThresh := wfld v 6 0 } ∧
      ∀ q, q ≠ p.val → portOf t q = portOf s q
  | .freqWrite g v | .park g v | .unpark g v =>
    Stored s t .STOVE_GROUP_CFG g.val v ∧
    (v.getLsbD 4 = regBit s .STOVE_GROUP_CFG g.val 4 → (groupOf s g.val).switchTo = none → FMap.get 0 s.pwr.fEff g.val = 0 →
      wfld v 3 0 ≤ freqLimit s → (groupOf s g.val).freq < wfld v 3 0 → (groupOf t g.val).switchTo = some (wfld v 3 0, s.clk.tick)) ∧
    (v.getLsbD 4 = true → regBit s .STOVE_GROUP_CFG g.val 4 = false → s.pwr.visit = none → (groupOf s g.val).parking = false →
      (groupOf s g.val).powered = true → (groupOf s g.val).sweeping = false → (groupOf t g.val).parking = true ∧
        ∀ i, i < 68 → i / 4 = g.val → (stoveOf s i).st = .inService ∨ (stoveOf s i).st = .spare ∨ (stoveOf s i).st = .waking →
          (stoveOf t i).st = .draining) ∧
    (v.getLsbD 4 = false → regBit s .STOVE_GROUP_CFG g.val 4 = true → (groupOf s g.val).parking = false →
      (groupOf s g.val).powered = false → (groupOf s g.val).wakeFrom = none →
        (groupOf t g.val).wakeFrom = some (s.clk.tick + 2048) ∧
        (tb s.pwr.ready (8 + g.val) = false → t.pwr.rampQ.contains (8 + g.val) = true) ∧
        ∀ i, i < 68 → i / 4 = g.val → (stoveOf s i).st = .parked → (stoveOf t i).st = .waking)
  | .tblEvictSeedWrite v => t.tbl = { s.tbl with evictX := if v = 0 then 1 else v.toNat }
  | .routeRegionWrite true n v => v &&& 0x7FFFFF = v → regVal s .TBL_ROUTE_REGION6 n.val = 0 →
      (regionOk s true n.val v.toNat = true → regVal t .TBL_ROUTE_REGION6 n.val = v) ∧
      (regionOk s true n.val v.toNat = false → regVal t .TBL_ROUTE_REGION6 n.val = 0)
  | .routeRegionWrite false n v => n.val ≤ 32 → v &&& 0x7FFFFF = v → regVal s .TBL_ROUTE_REGION n.val = 0 →
      (regionOk s false n.val v.toNat = true → regVal t .TBL_ROUTE_REGION n.val = v) ∧
      (regionOk s false n.val v.toNat = false → regVal t .TBL_ROUTE_REGION n.val = 0)
  | .tcamCourseWrite o v => ∀ i, o.val / 4 * 4 = 0x1000 + 4 * i → i < 16 →
      (s.tcam.txn = .open →
        t.tcam = { s.tcam with courses := FMap.set 0 s.tcam.courses ((1 - s.tcam.slot) * 16 + i) (v &&& 0x3FFFFF).toNat }) ∧
      (s.tcam.txn = .idle → pathStopped s = true → ∀ slot, slot < 2 → s.tcam.slot < 2 →
        FMap.get 0 t.tcam.courses (slot * 16 + i) = (v &&& 0x3FFFFF).toNat)
  | .trigArm k v => Stored s t .TIME_TRIG_CFG k.val v ∧
      ∀ b, b ≠ Reg.TIME_TRIG_CFG.addr k.val → FMap.get none t.regs.vals b = FMap.get none s.regs.vals b
  | .pop => t.time = { s.time with fifo := s.time.fifo.drop 1 } ∧ (FMap.get {} t.host.vectors 3).armed = true
  | _ => True

end Sys2Proof.Claims

/-- R10, R464, R473: a write of a disabled ring's base high word is held and does not show; the next write of the low word puts both
in effect. A direct write of an agreed register with RW or WO fields is, in solo operation, a host write for the next tick, and
what it does stands when the host writes of that tick are carried out; in the safe hearth state it acts at once; in a pair it is
ignored in full but for its W1C bits, sets HOST_ERR.DIRECT_WRITE_REJECT and raises event 0x1A03. -/
def Obligations.DirectWrites : Prop :=
  (∀ (qp : Bool) (k a : Nat) (v : Word) (s : State), hostReaches s = true → a % 4 = 0 → blockOf a = 11 →
    k < (if qp then 256 else 3) → ringEnabled s (k + if qp then 3 else 0) = false →
    (Reg.find a = some (Claims.baseHi qp, k) →
      Completes (.highWordWrite a v) s fun t => FMap.get none t.regs.high ((Claims.baseHi qp).addr k) = some v ∧
        t.regs.vals = s.regs.vals ∧ t.regs.latch = s.regs.latch ∧ SameBut [.regs] s t) ∧
    (∀ h, Reg.find a = some (Claims.baseLo qp, k) → FMap.get none s.regs.high ((Claims.baseHi qp).addr k) = some h →
      Completes (.registerWrite (.bar0 a v)) s fun t => regVal t (Claims.baseHi qp) k = h ∧
        regVal t (Claims.baseLo qp) k = (regVal s (Claims.baseLo qp) k &&& ~~~0xFFFFF000) ||| (v &&& 0xFFFFF000) ∧
        FMap.get none t.regs.high ((Claims.baseHi qp).addr k) = none ∧ SameBut [.regs] s t)) ∧
  (∀ (c : Instr) (a : Nat) (v : Word) (s : State), Claims.DirectWrite c a v → hostReaches s = true → holdsWritable a = true →
    isSafe s = false →
    (inPair s = false → Completes c s fun t =>
      (∃ w : HostWrite, w ∈ t.writes ∧ w.eff = s.clk.tick + 1 ∧ w.direct = true ∧ w.act = .reg a v.toNat 0xFFFFFFFF ∧
        t.writes.length = s.writes.length + 1 ∧ ∀ x, x ∈ t.writes → x = w ∨ x ∈ s.writes) ∧
      SameBut [.regs, .writes, .host] s t) ∧
    (inPair s = false → s.writes = [] → Completes c s fun t => Completes .hostWriteApply (Claims.atTick (s.clk.tick + 1) t)
      fun u => u.writes = [] ∧ Claims.WriteEffect c (Claims.atTick (s.clk.tick + 1) s) u) ∧
    (inPair s = true → Completes c s fun t => t.writes = s.writes ∧ regBit t .HOST_ERR 0 1 = true ∧
      SameBut [.regs, .host] s t)) ∧
  ∀ (c : Instr) (a : Nat) (v : Word) (s : State), Claims.DirectWrite c a v → hostReaches s = true → holdsWritable a = true →
    isSafe s = true → inPair s = false → Claims.Quiet s → Completes c s fun t => t.writes = [] ∧ Claims.WriteEffect c s t

namespace Sys2Proof.Claims

/-- The only host write that waits is a direct write of `v` to register `r`, instance `i`, and its effect tick has come. -/
def WriteDue (s : State) (r : Reg) (i : Nat) (v : Word) : Prop :=
  ∃ w a, s.writes = [w] ∧ w.cmd = none ∧ w.direct = true ∧ w.eff ≤ s.clk.tick ∧ w.act = .reg a v.toNat 0xFFFFFFFF ∧
    Reg.find a = some (r, i)

end Sys2Proof.Claims

/-- R42, R71, R105, R119, R120, R283, R288, R319, R458: what a register write does at its effect tick. A lane retrains, starts or
stops; a port's storms and flaps are cleared, its CT_THRESH returns to CT_BASE or takes the written value; the eviction
generator takes its seed; a route region is stored; a course of the open transaction's slot is stored; the oldest timestamp
record is removed. -/
def Obligations.RegisterWritesTakeEffect : Prop :=
  ∀ (s : State) (i : Nat) (v : Word),
    (Claims.WriteDue s .LANE_CTRL i v → v.getLsbD 0 = true → (laneOf s i).st ≠ .disabled →
      Completes .hostWriteApply s fun t => t.writes = [] ∧ (laneOf t i).st = .acquire ∧ (laneOf t i).trainFrom = s.clk.tick) ∧
    (Claims.WriteDue s .LANE_MODE i v → started s = true → v.getLsbD 4 = true → regBit s .LANE_MODE i 4 = false →
      isHearth (wfld v 3 0) = true → Completes .hostWriteApply s fun t => t.writes = [] ∧ regVal t .LANE_MODE i = v &&& 0x1FF ∧
        (laneOf t i).st = .acquire) ∧
    (Claims.WriteDue s .MAC_PORT_CTRL i 1 → Completes .hostWriteApply s fun t => t.writes = [] ∧
      (∀ k, k < 9 → inStorm (portOf t i) k = false) ∧ ∀ q, q ≠ i → portOf t q = portOf s q) ∧
    (Claims.WriteDue s .MAC_PORT_CTRL i 2 → Completes .hostWriteApply s fun t => t.writes = [] ∧
      (portOf t i).suppressed = false ∧ (portOf t i).flaps = [] ∧ ∀ q, q ≠ i → portOf t q = portOf s q) ∧
    (Claims.WriteDue s .MAC_PORT_CTRL i 4 → Completes .hostWriteApply s fun t => t.writes = [] ∧
      portOf t i = { portOf s i with ctThresh := regFld s .MAC_TX_CT i 6 0, decay := 0 } ∧ ∀ q, q ≠ i → portOf t q = portOf s q) ∧
    (Claims.WriteDue s .MAC_TX_CT i v → Completes .hostWriteApply s fun t => t.writes = [] ∧
      regVal t .MAC_TX_CT i = (regVal s .MAC_TX_CT i &&& ~~~0x807F) ||| (v &&& 0x807F) ∧
      portOf t i = { portOf s i with ctThresh := wfld v 6 0 } ∧ ∀ q, q ≠ i → portOf t q = portOf s q) ∧
    (Claims.WriteDue s .TBL_EVICT_SEED i v → Completes .hostWriteApply s fun t => t.writes = [] ∧
      t.tbl = { s.tbl with evictX := if v = 0 then 1 else v.toNat }) ∧
    (∀ v6, Claims.WriteDue s (if v6 then Reg.TBL_ROUTE_REGION6 else Reg.TBL_ROUTE_REGION) i v → v &&& 0x7FFFFF = v →
      regionOk s v6 i v.toNat = true → regVal s (if v6 then Reg.TBL_ROUTE_REGION6 else Reg.TBL_ROUTE_REGION) i = 0 →
      Completes .hostWriteApply s fun t => t.writes = [] ∧
        regVal t (if v6 then Reg.TBL_ROUTE_REGION6 else Reg.TBL_ROUTE_REGION) i = v) ∧
    (Claims.WriteDue s .TCAM_COURSE i v → s.tcam.txn = .open → Completes .hostWriteApply s fun t => t.writes = [] ∧
      t.tcam = { s.tcam with courses := FMap.set 0 s.tcam.courses ((1 - s.tcam.slot) * 16 + i) (v &&& 0x3FFFFF).toNat }) ∧
    (Claims.WriteDue s .TIME_TSF_CTRL i 1 → Completes .hostWriteApply s fun t => t.writes = [] ∧
      t.time = { s.time with fifo := s.time.fifo.drop 1 }) ∧
    (Claims.WriteDue s .TIME_TRIG_CFG i v → wfld v 23 8 ≠ 0 → Completes .hostWriteApply s fun t => t.writes = [] ∧
      regVal t .TIME_TRIG_CFG i = (regVal s .TIME_TRIG_CFG i &&& ~~~0x00FFFF0F) ||| (v &&& 0x00FFFF0F) ∧
      RegsBut [Reg.TIME_TRIG_CFG.addr i] s t)
/-! ### Edxa (chapters 05 and 06) -/

namespace Sys2Proof.Claims

/-- The thread, guard and instruction word that an instruction command names (Tables ISA-1 to ISA-9, R196 to R199). -/
def wordOf : Instr → Option (ThreadRef × Guard × Nat)
  | .add t gd d a b => some (t, gd, encBase 0x01 d.val a.val b.val gd)
  | .sub t gd d a b => some (t, gd, encBase 0x02 d.val a.val b.val gd)
  | .and t gd d a b => some (t, gd, encBase 0x03 d.val a.val b.val gd)
  | .or t gd d a b => some (t, gd, encBase 0x04 d.val a.val b.val gd)
  | .xor t gd d a b => some (t, gd, encBase 0x05 d.val a.val b.val gd)
  | .andn t gd d a b => some (t, gd, encBase 0x06 d.val a.val b.val gd)
  | .shl t gd d a b => some (t, gd, encBase 0x07 d.val a.val b.val gd)
  | .shr t gd d a b => some (t, gd, encBase 0x08 d.val a.val b.val gd)
  | .sar t gd d a b => some (t, gd, encBase 0x09 d.val a.val b.val gd)
  | .mul t gd d a b => some (t, gd, encBase 0x0A d.val a.val b.val gd)
  | .minu t gd d a b => some (t, gd, encBase 0x0B d.val a.val b.val gd)
  | .maxu t gd d a b => some (t, gd, encBase 0x0C d.val a.val b.val gd)
  | .popc t gd d a => some (t, gd, encBase 0x0D d.val a.val 0 gd)
  | .clz t gd d a => some (t, gd, encBase 0x0E d.val a.val 0 gd)
  | .hash t gd d a b => some (t, gd, encBase 0x0F d.val a.val b.val gd)
  | .mov t gd d a => some (t, gd, encBase 0x10 d.val a.val 0 gd)
  | .pand t gd d a b => some (t, gd, encBase 0x14 d.val a.val b.val gd)
  | .por t gd d a b => some (t, gd, encBase 0x15 d.val a.val b.val gd)
  | .pxor t gd d a b => some (t, gd, encBase 0x16 d.val a.val b.val gd)
  | .pandn t gd d a b => some (t, gd, encBase 0x17 d.val a.val b.val gd)
  | .ceq t gd d a b => some (t, gd, encBase 0x18 d.val a.val b.val gd)
  | .cne t gd d a b => some (t, gd, encBase 0x19 d.val a.val b.val gd)
  | .cltu t gd d a b => some (t, gd, encBase 0x1A d.val a.val b.val gd)
  | .cleu t gd d a b => some (t, gd, encBase 0x1B d.val a.val b.val gd)
  | .clts t gd d a b => some (t, gd, encBase 0x1C d.val a.val b.val gd)
  | .cles t gd d a b => some (t, gd, encBase 0x1D d.val a.val b.val gd)
  | .addi t gd d a i => some (t, gd, encI 0x21 d.val a.val gd i)
  | .andi t gd d a i => some (t, gd, encI 0x23 d.val a.val gd i)
  | .ori t gd d a i => some (t, gd, encI 0x24 d.val a.val gd i)
  | .xori t gd d a i => some (t, gd, encI 0x25 d.val a.val gd i)
  | .shli t gd d a i => some (t, gd, encI 0x27 d.val a.val gd i)
  | .shri t gd d a i => some (t, gd, encI 0x28 d.val a.val gd i)
  | .sari t gd d a i => some (t, gd, encI 0x29 d.val a.val gd i)
  | .movi t gd d i => some (t, gd, encI 0x30 d.val 0 gd i)
  | .movhi t gd d a i => some (t, gd, encI 0x31 d.val a.val gd i)
  | .ceqi t gd d a i => some (t, gd, encI 0x38 d.val a.val gd i)
  | .cnei t gd d a i => some (t, gd, encI 0x39 d.val a.val gd i)
  | .cltui t gd d a i => some (t, gd, encI 0x3A d.val a.val gd i)
  | .cgtui t gd d a i => some (t, gd, encI 0x3B d.val a.val gd i)
  | .cltsi t gd d a i => some (t, gd, encI 0x3C d.val a.val gd i)
  | .cgtsi t gd d a i => some (t, gd, encI 0x3D d.val a.val gd i)
  | .ext t gd d a pos len => some (t, gd, encF 0x40 d.val a.val 0 gd pos.val len.val 0)
  | .ins t gd d a b pos len => some (t, gd, encF 0x41 d.val a.val b.val gd pos.val len.val 0)
  | .tbit t gd d a pos => some (t, gd, encF 0x42 d.val a.val 0 gd pos.val 0 0)
  | .fext t gd d a pos len o => some (t, gd, encF 0x43 d.val a.val 0 gd pos.val len.val o.val)
  | .fins t gd a b pos len o => some (t, gd, encF 0x44 0 a.val b.val gd pos.val len.val o.val)
  | .ld t gd d a sp n o => some (t, gd, encM 0x50 d.val a.val 0 gd (spaceCode sp) n.val o.val 0)
  | .st t gd a b sp n o => some (t, gd, encM 0x51 0 a.val b.val gd (spaceCode sp) n.val o.val 0)
  | .feld t gd a pd => some (t, gd, encM 0x52 0 a.val 0 gd 0 0 0 pd.val)
  | .fetch t gd d a n o => some (t, gd, encM 0x53 d.val a.val 0 gd 0 n.val o.val 0)
  | .lookupStation t gd d a pd k => some (t, gd, encL d.val a.val 0 gd pd.val 0 k.val 0)
  | .lookupRoute4 t gd d a pd k n => some (t, gd, encL d.val a.val 0 gd pd.val 1 k.val n.val)
  | .lookupRoute6 t gd d a b pd k n => some (t, gd, encL d.val a.val b.val gd pd.val 2 k.val n.val)
  | .lookupNexthop t gd d a pd => some (t, gd, encL d.val a.val 0 gd pd.val 3 0 0)
  | .lookupEcmp t gd d a pd => some (t, gd, encL d.val a.val 0 gd pd.val 4 0 0)
  | .lookupTcam t gd d a b pd n => some (t, gd, encL d.val a.val b.val gd pd.val 5 0 n.val)
  | .br t gd o => some (t, gd, encB 0x60 0 0 0 gd 0 o.val)
  | .loop t gd d n o => some (t, gd, encB 0x61 d.val 0 0 gd n.val o.val)
  | .brx t gd a b => some (t, gd, encB 0x62 0 a.val b.val gd 0 0)
  | .enter t gd => some (t, gd, encB 0x63 0 0 0 gd 0 0)
  | .leave t gd => some (t, gd, encB 0x64 0 0 0 gd 0 0)
  | .publish t gd => some (t, gd, encB 0x65 0 0 0 gd 0 0)
  | .endInv t gd => some (t, gd, encB 0x66 0 0 0 gd 0 0)
  | .nop t gd => some (t, gd, encB 0x67 0 0 0 gd 0 0)
  | .emitFwd t gd a b q qs => some (t, gd, encE 0x70 0 a.val b.val gd (q.val * 2 ^ 31 + b2n qs * 2 ^ 30))
  | .emitMcast t gd a => some (t, gd, encE 0x70 0 a.val 0 gd (2 ^ 34))
  | .emitTrap t gd n q => some (t, gd, encE 0x70 0 0 0 gd (2 * 2 ^ 34 + n.val * 2 ^ 14 + q.val * 2 ^ 8))
  | .emitDrop t gd a r rs => some (t, gd, encE 0x70 0 a.val 0 gd (3 * 2 ^ 34 + b2n rs * 2 ^ 30 + r.toNat))
  | .emitRecirc t gd a => some (t, gd, encE 0x70 0 a.val 0 gd (4 * 2 ^ 34))
  | .mirror t gd n => some (t, gd, encE 0x71 0 0 0 gd n.val)
  | .count t gd a b bs => some (t, gd, encE 0x72 0 a.val b.val gd (b2n bs))
  | .meter t gd a => some (t, gd, encE 0x73 0 a.val 0 gd 0)
  | .learn t gd a b k => some (t, gd, encE 0x74 0 a.val b.val gd (b2n k))
  | .push4 t gd a b o => some (t, gd, encE 0x78 0 a.val b.val gd o.val)
  | .push8 t gd a b o => some (t, gd, encE 0x79 0 a.val b.val gd o.val)
  | .pop4 t gd a o => some (t, gd, encE 0x7A 0 a.val 0 gd o.val)
  | .pop8 t gd a o => some (t, gd, encE 0x7B 0 a.val 0 gd o.val)
  | .replace4 t gd a b o => some (t, gd, encE 0x7C 0 a.val b.val gd o.val)
  | .replace8 t gd a b o => some (t, gd, encE 0x7D 0 a.val b.val gd o.val)
  | .decTtl t gd => some (t, gd, encE 0x7E 0 0 0 gd 0)
  | _ => none

/-- Thread `t` runs `th`, of invocation `fr` in image `img`; it is ready, its turn has come in its hob's round robin (R152), and the
word of command `c`, an instruction of that thread with guard `gd`, stands at its pc. -/
def Issues (s : State) (c : Instr) (t : ThreadRef) (gd : Guard) (th : Thread) (fr : Inflight) (img : Image) : Prop :=
  ∃ w, wordOf c = some (t, gd, w) ∧ runningAt s (threadKey t) = some (th, fr, img) ∧ th.wait = .ready ∧
    hobTurn s t = true ∧ img.code[th.pc]? = some (BitVec.ofNat 64 w)

/-- The thread with the instruction's issue cycles charged to its invocation (Table ISA-4). -/
def charged (c : Instr) (th : Thread) : Thread :=
  match wordOf c with
  | some (_, _, w) => { th with res := { th.res with cycles := th.res.cycles + costOf w } }
  | none => th

/-- Nothing but the threads, their hob's round robin, which goes on behind `t`, and the cycle counts of the energy interval changes,
and of the threads only `t`, which is now `y`. -/
def Continues (s u : State) (t : ThreadRef) (y : Thread) : Prop :=
  threadAt u (threadKey t) = some y ∧ (∀ k, k ≠ threadKey t → threadAt u k = threadAt s k) ∧
  u.hob = { s.hob with threads := u.hob.threads,
                       hobNext := FMap.set 0 s.hob.hobNext (hobKey t) ((t.thr.val + 1) % 8) } ∧ u.egr = { s.egr with cyclesRun := u.egr.cyclesRun } ∧
  SameBut [.hob, .threads, .egr] s u

/-- What an instruction that writes one register from the registers `g` writes, and where (Table ISA-4, R204 to R208). -/
def registerWritten (g : GReg → DWord) : Instr → Option (GReg × DWord)
  | .add _ _ d a b => some (d, BitVec.ofNat 64 ((g a).toNat + (g b).toNat))
  | .sub _ _ d a b => some (d, BitVec.ofInt 64 ((g a).toNat - (g b).toNat : Int))
  | .and _ _ d a b => some (d, g a &&& g b)
  | .or _ _ d a b => some (d, g a ||| g b)
  | .xor _ _ d a b => some (d, g a ^^^ g b)
  | .andn _ _ d a b => some (d, g a &&& ~~~(g b))
  | .shl _ _ d a b => some (d, BitVec.ofNat 64 ((g a).toNat * 2 ^ ((g b).toNat % 64)))
  | .shr _ _ d a b => some (d, BitVec.ofNat 64 ((g a).toNat / 2 ^ ((g b).toNat % 64)))
  | .sar _ _ d a b => some (d, BitVec.ofInt 64 ((g a).toInt / 2 ^ ((g b).toNat % 64)))
  | .mul _ _ d a b => some (d, BitVec.ofNat 64 ((g a).toNat * (g b).toNat))
  | .minu _ _ d a b => some (d, BitVec.ofNat 64 (min (g a).toNat (g b).toNat))
  | .maxu _ _ d a b => some (d, BitVec.ofNat 64 (max (g a).toNat (g b).toNat))
  | .popc _ _ d a => some (d, BitVec.ofNat 64 ((List.range 64).filter fun i => (g a).getLsbD i).length)
  | .clz _ _ d a => some (d, if g a = 0 then 64 else BitVec.ofNat 64 (63 - (g a).toNat.log2))
  | .hash _ _ d a b => some (d, BitVec.ofNat 64 (crc32c (leBytes 8 (g a).toNat ++ leBytes 8 (g b).toNat)).toNat)
  | .mov _ _ d a => some (d, g a)
  | .addi _ _ d a i => some (d, BitVec.ofInt 64 ((g a).toInt + i.toInt))
  | .andi _ _ d a i => some (d, g a &&& BitVec.ofNat 64 i.toNat)
  | .ori _ _ d a i => some (d, g a ||| BitVec.ofNat 64 i.toNat)
  | .xori _ _ d a i => some (d, g a ^^^ BitVec.ofNat 64 i.toNat)
  | .shli _ _ d a i => some (d, BitVec.ofNat 64 ((g a).toNat * 2 ^ (i.toNat % 64)))
  | .shri _ _ d a i => some (d, BitVec.ofNat 64 ((g a).toNat / 2 ^ (i.toNat % 64)))
  | .sari _ _ d a i => some (d, BitVec.ofInt 64 ((g a).toInt / 2 ^ (i.toNat % 64)))
  | .movi _ _ d i => some (d, BitVec.ofInt 64 i.toInt)
  | .movhi _ _ d a i => some (d, BitVec.ofNat 64 (i.toNat * 2 ^ 32 + (g a).toNat % 2 ^ 32))
  | .ext _ _ d a pos len => some (d, BitVec.ofNat 64 ((g a).toNat / 2 ^ pos.val % 2 ^ len.val))
  | .ins _ _ d a b pos len =>
    let field := BitVec.ofNat 64 (2 ^ len.val - 1)
    some (d, g a &&& ~~~(field <<< pos.val) ||| (g b &&& field) <<< pos.val)
  | _ => none

/-- What an instruction that writes one predicate writes, and where, from the registers and the predicates (R207, R208). -/
def predicateWritten (g : GReg → DWord) (p : PReg → Bool) : Instr → Option (PReg × Bool)
  | .pand _ _ d a b => some (d, p a && p b)
  | .por _ _ d a b => some (d, p a || p b)
  | .pxor _ _ d a b => some (d, xor (p a) (p b))
  | .pandn _ _ d a b => some (d, p a && !p b)
  | .ceq _ _ d a b => some (d, g a == g b)
  | .cne _ _ d a b => some (d, g a != g b)
  | .cltu _ _ d a b => some (d, decide ((g a).toNat < (g b).toNat))
  | .cleu _ _ d a b => some (d, decide ((g a).toNat ≤ (g b).toNat))
  | .clts _ _ d a b => some (d, decide ((g a).toInt < (g b).toInt))
  | .cles _ _ d a b => some (d, decide ((g a).toInt ≤ (g b).toInt))
  | .ceqi _ _ d a i => some (d, decide ((g a).toInt = i.toInt))
  | .cnei _ _ d a i => some (d, decide ((g a).toInt ≠ i.toInt))
  | .cltui _ _ d a i => some (d, decide ((g a).toNat < i.toNat))
  | .cgtui _ _ d a i => some (d, decide (i.toNat < (g a).toNat))
  | .cltsi _ _ d a i => some (d, decide ((g a).toInt < i.toInt))
  | .cgtsi _ _ d a i => some (d, decide (i.toInt < (g a).toInt))
  | .tbit _ _ d a pos => some (d, (g a).getLsbD pos.val)
  | _ => none

end Sys2Proof.Claims

/-- R203 to R208, R153: an arithmetic, logic, shift, bit-field or immediate instruction whose guard holds writes its result into
its destination (a write to g0 is discarded, g0 reads zero), a compare, predicate or bit-test instruction only the predicate
that it names (a write to p0 is discarded, p0 reads true); each charges its cycles and goes on; every other register and
predicate, the rest of the thread, other threads and the rest of the device stay. -/
def Obligations.RegisterInstructions : Prop :=
  (∀ (c : Instr) (s : State) (t : ThreadRef) (gd : Guard) (th : Thread) (fr : Inflight) (img : Image) (d : GReg) (v : DWord),
    Claims.Issues s c t gd th fr img → guardHolds th gd = true → Claims.registerWritten (gGet th) c = some (d, v) →
    Completes c s fun u => ∃ y, Claims.Continues s u t (stepOn y) ∧
      (∀ i, gGet y i = if i = d ∧ i ≠ 0 then v else gGet th i) ∧ y = { Claims.charged c th with g := y.g }) ∧
  (∀ (c : Instr) (s : State) (t : ThreadRef) (gd : Guard) (th : Thread) (fr : Inflight) (img : Image) (d : PReg) (v : Bool),
    Claims.Issues s c t gd th fr img → guardHolds th gd = true →
    Claims.predicateWritten (gGet th) (pGet th) c = some (d, v) →
    Completes c s fun u => ∃ y, Claims.Continues s u t (stepOn y) ∧
      (∀ i, pGet y i = if i = d ∧ i ≠ 0 then v else pGet th i) ∧ y = { Claims.charged c th with p := y.p })

/-- R200: an instruction executes when PRED holds and PNEG is 0, or PRED is false and PNEG is 1, never with p0 and PNEG 1. One
that does not execute has no effect beyond its cycles: the thread goes on with the next instruction, or, for LOOP, behind the
loop's body. -/
def Obligations.GuardedInstructions : Prop :=
  (∀ (th : Thread) (gd : Guard),
    (guardHolds th gd = true ↔ (pGet th gd.pred = true ∧ gd.neg = false) ∨ (pGet th gd.pred = false ∧ gd.neg = true)) ∧
    (gd.pred = 0 → gd.neg = true → guardHolds th gd = false)) ∧
  ∀ (c : Instr) (s : State) (t : ThreadRef) (gd : Guard) (th : Thread) (fr : Inflight) (img : Image),
    Claims.Issues s c t gd th fr img → guardHolds th gd = false →
    Completes c s fun u => Claims.Continues s u t (match c with
      | .loop _ _ _ _ o => jumpTo (th.pc + o.val + 1) (Claims.charged c th)
      | _ => stepOn (Claims.charged c th))


namespace Sys2Proof.Claims

/-- A byte of a space as an invocation reads it (Table HOB-1, R157, R159, R162, R178); KC beyond the image's constants is open. -/
def spaceByte (img : Image) (fr : Inflight) (th : Thread) : Space → Nat → Byte
  | .fw, i => if i < fr.rx.bytes.length then fwByte fr.rx.bytes th.res.edits i else 0
  | .md, i => byteAt fr.md i
  | .he, _ => 0
  | .fe, i => byteAt th.fe i
  | .sc, i => FMap.get 0 th.sc i
  | .kc, i => kcByte img i

/-- The bit at a position of FW's string of 1,024 bits (R209). -/
def fwBit (img : Image) (fr : Inflight) (th : Thread) (i : Nat) : Bool :=
  (spaceByte img fr th .fw (i / 8)).getLsbD (7 - i % 8)

/-- The value of an access of `n` bytes: FW in network order, the other spaces little-endian (Table HOB-1). -/
def accessValue (sp : Space) (bs : List Byte) : DWord := BitVec.ofNat 64 (if sp = .fw then beVal bs else leVal bs)

/-- Byte `j` of the `n` bytes that a store of value `v` writes (R212). -/
def storedByte (sp : Space) (v : DWord) (n j : Nat) : Byte :=
  BitVec.ofNat 8 (v.toNat / 256 ^ (if sp = .fw then n - 1 - j else j))

/-- A record with bytes of HE replaced from offset `off` on: its private half below offset 32, its staging copy above. -/
def heWritten (e : Ember) (off : Nat) (bs : List Byte) : Ember :=
  if off < 32 then { e with priv := e.priv.take (off - 8) ++ bs ++ e.priv.drop (off - 8 + bs.length) }
  else { e with staging := e.staging.take (off - 32) ++ bs ++ e.staging.drop (off - 32 + bs.length) }

/-- The halves have their sizes: 24 and 32 bytes (R293). -/
def emberSized (e : Ember) : Prop := e.priv.length = 24 ∧ e.staging.length = 32

/-- A script as R160 and R161 build it: at most 8 edits, each REWRITE over bytes of its own block. -/
def ScriptOk (es : List Edit) : Prop :=
  es.length ≤ 8 ∧ ∀ b m, Edit.rewrite b m ∈ es → ∀ i v, FMap.find? m i = some v → i / 8 = b

/-- The 8-byte blocks of FW that bytes `lo` to `lo + n - 1` touch and that the script does not rewrite yet. -/
def freshBlocks (es : List Edit) (lo n : Nat) : Nat :=
  ((List.range 16).filter fun b => decide (lo / 8 ≤ b ∧ b ≤ (lo + n - 1) / 8) && (rewriteOf es b).isNone).length

/-- A write of the `n` bytes of FW from `lo` on faults with nothing: it ends before the FCS and in FW, the script has room, no
edit of another kind covers a byte (R157, R160, R161, R163). -/
def MayWriteFw (fr : Inflight) (es : List Edit) (lo n : Nat) : Prop :=
  lo + n + 4 ≤ fr.rx.bytes.length ∧ lo + n ≤ 128 ∧ es.length + freshBlocks es lo n ≤ 8 ∧
    ∀ e ∈ es, (∃ b m, e = Edit.rewrite b m) ∨ ∀ j < n, editCovers fr.md e (lo + j) = false

/-- The thread waits for an access (R201). -/
def Waits (s u : State) (t : ThreadRef) (c : Instr) (th : Thread) (w : Wait) : Prop :=
  Continues s u t { charged c th with wait := w }

/-- Thread `t` runs `th`, which waits for access `w`, in image `img` for invocation `fr`. -/
def WaitsFor (s : State) (t : ThreadRef) (w : Wait) (th : Thread) (fr : Inflight) (img : Image) : Prop :=
  runningAt s (threadKey t) = some (th, fr, img) ∧ th.wait = w

/-- Of the threads only `t` changes, to `y`, and of the other areas no more than `l`. -/
def ThreadGoesOn (l : List Area) (s u : State) (t : ThreadRef) (y : Thread) : Prop :=
  threadAt u (threadKey t) = some y ∧ (∀ k, k ≠ threadKey t → threadAt u k = threadAt s k) ∧
  SameBut (Area.hob :: Area.threads :: l) s u

/-- The place in an ember lane's order has been passed on. -/
def TicketPassed (u : State) (fr : Inflight) : Prop :=
  fr.turn < (ticketsOf u fr.emberLane).low ∨ fr.turn ∈ (ticketsOf u fr.emberLane).passed

/-- The invocation `fr` of thread `t` is over: the thread is free, the ticket has passed, other threads and lanes are as they
were, and the result `r` waits for retirement, or, when the frame has retired without it, the frame is forgotten (R152, R173,
R248). -/
def Ended (s u : State) (t : ThreadRef) (fr : Inflight) (r : Result) : Prop :=
  threadAt u (threadKey t) = none ∧ (∀ k, k ≠ threadKey t → threadAt u k = threadAt s k) ∧ TicketPassed u fr ∧
  (∀ l, l ≠ fr.emberLane → ticketsOf u l = ticketsOf s l) ∧ (∀ f, f ≠ fr.id → flightOf u f = flightOf s f) ∧
  flightOf u fr.id = (if fr.retired then none else some { fr with ended := true, result := some r })

/-- The value that an invocation publishes when it ends (R177): the staging copy as it left its section, or as it stands. -/
def publishedValue (s : State) (fr : Inflight) (th : Thread) : Option (List Byte) :=
  if th.publishing then
    match th.res.publish with
    | some v => some v
    | none => if fr.ember.isSome then some (stagingOf s fr) else none
  else none

/-- The thread behind its ordered section: a publishing invocation's value is the staging copy as it stands (R177). -/
def leftSection (s : State) (fr : Inflight) (th : Thread) : Thread :=
  { th with sect := .after, res := { th.res with publish := (if th.publishing = true ∧ fr.ember.isSome = true then some (stagingOf s fr) else th.res.publish) } }

/-- The invocation ends with a disposition, all it requested before standing (R166). -/
def EndsWith (s u : State) (t : ThreadRef) (c : Instr) (th : Thread) (fr : Inflight) (d : Disp) : Prop :=
  Ended s u t fr { (charged c th).res with disp := d, publish := publishedValue s fr th } ∧ SameBut [.hob, .threads, .egr] s u

end Sys2Proof.Claims

/-- R156, R157, R175, R178, R201, R209, R210, R212, R213, R215, R216: what the loads do when nothing is out of range. FEXT takes the
field's bits from FW; LD reads a space, zero-extended, an LD from HE, a FELD and a FETCH make the thread wait for their answer.
A FELD answer fills FE with the record's published half as of the admission tick, zero and false without a valid record; a
FETCH answer brings the frame's bytes as received; an HE load brings the home record's bytes. Each lets the thread go on. -/
def Obligations.LoadInstructions : Prop :=
  (∀ (c : Instr) (s : State) (t : ThreadRef) (gd : Guard) (th : Thread) (fr : Inflight) (img : Image),
    Claims.Issues s c t gd th fr img → guardHolds th gd = true →
    (∀ x y d a (pos : Fin 8) (len : Fin 65) (o : Fin 128), c = .fext x y d a pos len o →
      8 * ((gGet th a).toNat + o.val) + pos.val + len.val ≤ 1024 →
      Completes c s fun u => ∃ z v, Claims.Continues s u t (stepOn z) ∧
        (∀ j : Fin 64, v.getLsbD j.val = (decide (j.val < len.val) &&
          Claims.fwBit img fr th (8 * ((gGet th a).toNat + o.val) + pos.val + len.val - 1 - j.val))) ∧
        (∀ i, gGet z i = if i = d ∧ i ≠ 0 then v else gGet th i) ∧ z = { Claims.charged c th with g := z.g }) ∧
    (∀ x y d a sp (n : Fin 4) (o : Fin 65536), c = .ld x y d a sp n o → accessAddr th a o % 2 ^ n.val = 0 →
      accessAddr th a o + 2 ^ n.val ≤ spaceSize sp →
      Completes c s fun u =>
        if sp = .he then Claims.Waits s u t c th (.heLoad d.val (accessAddr th a o) (2 ^ n.val))
        else ∃ z, Claims.Continues s u t (stepOn z) ∧ (∀ i, gGet z i = if i = d ∧ i ≠ 0 then
            Claims.accessValue sp ((List.range (2 ^ n.val)).map fun j => Claims.spaceByte img fr th sp (accessAddr th a o + j))
            else gGet th i) ∧ z = { Claims.charged c th with g := z.g }) ∧
    (∀ x y a pd, c = .feld x y a pd → (gGet th a).toNat < 1048576 →
      Completes c s fun u => Claims.Waits s u t c th (.feld (gGet th a).toNat pd.val)) ∧
    (∀ x y d a (n : Fin 4) (o : Fin 65536), c = .fetch x y d a n o → accessAddr th a o + 2 ^ n.val ≤ 16352 →
      Completes c s fun u => Claims.Waits s u t c th (.fetch d.val (accessAddr th a o) (2 ^ n.val)))) ∧
  (∀ (s : State) (t : ThreadRef) (th : Thread) (fr : Inflight) (img : Image),
    (∀ r (pd : PReg), Claims.WaitsFor s t (.feld r pd.val) th fr img → Completes (.feldAnswer t) s fun u => ∃ z,
      Claims.ThreadGoesOn [.regs, .tbl] s u t (stepOn z) ∧
      z.fe = (if emberValid s r fr.adm then (pubAt (emberOf s r) fr.adm).2 else List.replicate 32 0) ∧
      (∀ i, pGet z i = if i = pd ∧ i ≠ 0 then emberValid s r fr.adm else pGet th i) ∧
      z = { th with wait := .ready, fe := z.fe, p := z.p }) ∧
    (∀ (d : GReg) o n, Claims.WaitsFor s t (.fetch d.val o n) th fr img → Completes (.fetchAnswer t) s fun u => ∃ z,
      Claims.ThreadGoesOn [] s u t (stepOn z) ∧ (∀ i, gGet z i = if i = d ∧ i ≠ 0 then
        BitVec.ofNat 64 (beVal ((List.range n).map fun j => byteAt fr.rx.bytes (o + j))) else gGet th i) ∧
      z = { th with wait := .ready, g := z.g }) ∧
    (∀ (d : GReg) o n, Claims.WaitsFor s t (.heLoad d.val o n) th fr img → Completes (.heLoadAnswer t) s fun u => ∃ z,
      Claims.ThreadGoesOn [.regs, .tbl] s u t (stepOn z) ∧ (∀ i, gGet z i = if i = d ∧ i ≠ 0 then
        BitVec.ofNat 64 (leVal ((List.range n).map fun j => byteAt (heBytes s fr.ember fr.adm) (o + j))) else gGet th i) ∧
      z = { th with wait := .ready, g := z.g }))

/-- R157, R160, R162, R176, R211, R212: what the stores do when nothing faults. A store or FINS into FW changes the bytes that
FW reads, in REWRITE edits of the script, and no other byte of FW; a store into SC changes its bytes; a store into HE changes
the home record's bytes and no other record. -/
def Obligations.StoreInstructions : Prop :=
  ∀ (c : Instr) (s : State) (t : ThreadRef) (gd : Guard) (th : Thread) (fr : Inflight) (img : Image),
    Claims.Issues s c t gd th fr img → guardHolds th gd = true → Claims.ScriptOk th.res.edits →
    (∀ x y a b (n : Fin 4) (o : Fin 65536), c = .st x y a b .fw n o → accessAddr th a o % 2 ^ n.val = 0 →
      Claims.MayWriteFw fr th.res.edits (accessAddr th a o) (2 ^ n.val) → Completes c s fun u => ∃ z,
        Claims.Continues s u t (stepOn z) ∧ (∀ i, Claims.spaceByte img fr z .fw i =
          if accessAddr th a o ≤ i ∧ i < accessAddr th a o + 2 ^ n.val
          then Claims.storedByte .fw (gGet th b) (2 ^ n.val) (i - accessAddr th a o) else Claims.spaceByte img fr th .fw i) ∧
        z.res.edits.length = th.res.edits.length + Claims.freshBlocks th.res.edits (accessAddr th a o) (2 ^ n.val) ∧
        z = { Claims.charged c th with res := { (Claims.charged c th).res with edits := z.res.edits } }) ∧
    (∀ x y a b (pos : Fin 8) (len : Fin 65) (o : Fin 128) st, c = .fins x y a b pos len o → 0 < len.val →
      st = 8 * ((gGet th a).toNat + o.val) + pos.val →
      Claims.MayWriteFw fr th.res.edits (st / 8) ((st + len.val - 1) / 8 + 1 - st / 8) → Completes c s fun u => ∃ z,
        Claims.Continues s u t (stepOn z) ∧ (∀ i, i < 1024 → Claims.fwBit img fr z i =
          if st ≤ i ∧ i < st + len.val then (gGet th b).getLsbD (st + len.val - 1 - i) else Claims.fwBit img fr th i) ∧
        z = { Claims.charged c th with res := { (Claims.charged c th).res with edits := z.res.edits } }) ∧
    (∀ x y a b (n : Fin 4) (o : Fin 65536), c = .st x y a b .sc n o → accessAddr th a o % 2 ^ n.val = 0 →
      accessAddr th a o + 2 ^ n.val ≤ 256 → Completes c s fun u => ∃ z,
        Claims.Continues s u t (stepOn z) ∧ (∀ i, FMap.get 0 z.sc i =
          if accessAddr th a o ≤ i ∧ i < accessAddr th a o + 2 ^ n.val
          then Claims.storedByte .sc (gGet th b) (2 ^ n.val) (i - accessAddr th a o) else FMap.get 0 th.sc i) ∧
        z = { Claims.charged c th with sc := z.sc }) ∧
    (∀ x y a b (n : Fin 4) (o : Fin 65536) r, c = .st x y a b .he n o → accessAddr th a o % 2 ^ n.val = 0 →
      8 ≤ accessAddr th a o → accessAddr th a o + 2 ^ n.val ≤ 64 → fr.ember = some r →
      heWriteFault s (some r) fr.adm (b2n (isTimer fr)) = none → Completes c s fun u =>
        Claims.ThreadGoesOn [.regs, .tbl, .egr] s u t (stepOn (Claims.charged c th)) ∧
        emberOf u r = Claims.heWritten (emberOf s r) (accessAddr th a o)
          ((List.range (2 ^ n.val)).map (Claims.storedByte .he (gGet th b) (2 ^ n.val))) ∧
        (Claims.emberSized (emberOf s r) → ∀ i, i < 64 → byteAt (heBytes u (some r) fr.adm) i =
          if accessAddr th a o ≤ i ∧ i < accessAddr th a o + 2 ^ n.val
          then Claims.storedByte .he (gGet th b) (2 ^ n.val) (i - accessAddr th a o)
          else byteAt (heBytes s (some r) fr.adm) i) ∧ ∀ q, q ≠ r → emberOf u q = emberOf s q)

/-- R201, R223 to R227: a LOOKUP makes the thread wait; its answer writes the destination and the hit predicate, a TCAM answer
the argument too, a station hit is recorded as a hit of the frame, and the thread goes on; an entry with an uncorrectable error
is none for the answer (R271). The answer words are those of Table ISA-7, zero on a miss but for PROBE_LIMIT of a route lookup. -/
def Obligations.Lookups : Prop :=
  (∀ (c : Instr) (s : State) (t : ThreadRef) (gd : Guard) (th : Thread) (fr : Inflight) (img : Image),
    Claims.Issues s c t gd th fr img → guardHolds th gd = true →
    ∀ (d : GReg) (pd : PReg) (a b : GReg) (k n : Nat) (tab : Nat),
      (∃ x y q, c = .lookupStation x y d a pd q ∧ tab = 0 ∧ k = q.val ∧ n = 0 ∧ b = 0) ∨
      (∃ x y q m, c = .lookupRoute4 x y d a pd q m ∧ tab = 1 ∧ k = q.val ∧ n = m.val ∧ b = 0) ∨
      (∃ x y q m, c = .lookupRoute6 x y d a b pd q m ∧ tab = 2 ∧ k = q.val ∧ n = m.val) ∨
      (∃ x y, c = .lookupNexthop x y d a pd ∧ tab = 3 ∧ k = 0 ∧ n = 0 ∧ b = 0) ∨
      (∃ x y, c = .lookupEcmp x y d a pd ∧ tab = 4 ∧ k = 0 ∧ n = 0 ∧ b = 0) ∨
      (∃ x y m, c = .lookupTcam x y d a b pd m ∧ tab = 5 ∧ k = 0 ∧ n = m.val) →
      Completes c s fun u => Claims.Waits s u t c th (.lookup tab k n d.val pd.val (gGet th a) (gGet th b))) ∧
  (∀ (s : State) (t : ThreadRef) (th : Thread) (fr : Inflight) (img : Image) (d : GReg) (pd : PReg) (tab k n : Nat)
      (va vb : DWord) (ecc : EccResult) (which : Nat), (tab = 5 → d.val < 31) →
    Claims.WaitsFor s t (.lookup tab k n d.val pd.val va vb) th fr img → Completes (.lookupAnswer t ecc which) s fun u =>
      ∃ z x, x = lookupAnswer (if ecc = .uncorrectable then lookupEcc (entryRead (lookupAnswer s fr th tab k n va vb) which) ecc s else s)
        fr th tab k n va vb ∧
      Claims.ThreadGoesOn [.regs, .tbl, .tcam, .twin, .host, .out] s u t (stepOn z) ∧
      (∀ i, gGet z i = if tab = 5 ∧ i.val = d.val + 1 then BitVec.ofNat 64 x.arg
        else if i = d ∧ i ≠ 0 then BitVec.ofNat 64 x.word else gGet th i) ∧
      (∀ i, pGet z i = if i = pd ∧ i ≠ 0 then x.hit else pGet th i) ∧
      z.res = { th.res with hits := th.res.hits ++ x.station.toList } ∧
      z = { th with wait := .ready, g := z.g, p := z.p, res := z.res }) ∧
  ∀ (s : State) (fr : Inflight) (th : Thread) (tab k n : Nat) (va vb : DWord),
    ((lookupAnswer s fr th tab k n va vb).hit = false → (lookupAnswer s fr th tab k n va vb).arg = 0 ∧
      (lookupAnswer s fr th tab k n va vb).station = none ∧ ((lookupAnswer s fr th tab k n va vb).word = 0 ∨
        (tab = 1 ∨ tab = 2) ∧ (lookupAnswer s fr th tab k n va vb).word = 2 ^ 56)) ∧
    (∀ data, stationLookup s (stationLookupKey fr th k va) fr.adm = some data →
      (lookupAnswer s fr th 0 k n va vb).hit = true ∧ (lookupAnswer s fr th 0 k n va vb).word = data % 2 ^ 63) ∧
    ((nexthopAt s (va.toNat % 2 ^ 18) fr.adm).testBit 63 = true → (lookupAnswer s fr th 3 k n va vb).hit = true ∧
      (lookupAnswer s fr th 3 k n va vb).word = nexthopAt s (va.toNat % 2 ^ 18) fr.adm % 2 ^ 59) ∧
    (∀ h j, ecmpSelect s (va.toNat % 2 ^ 14) (va.toNat / 2 ^ 16 % 2 ^ 16) fr.adm = some (h, j) →
      (lookupAnswer s fr th 4 k n va vb).hit = true ∧ (lookupAnswer s fr th 4 k n va vb).word = h + j * 2 ^ 48 + 2 ^ 62) ∧
    (∀ i e, tcamWinner s fr.adm n fr.rx.bytes fr.md va vb = some (i, e) → (lookupAnswer s fr th 5 k n va vb).hit = true ∧
      (lookupAnswer s fr th 5 k n va vb).word = e.action ∧ (lookupAnswer s fr th 5 k n va vb).arg = e.arg)

/-- R217 to R219, R203, R173, R177, R221: sequence, branches and the ordered section. The next instruction follows; at the end of a
LOOP body the next iteration with its number in the loop's register, or the end; BR continues at pc + OFF, BRX at the handler
its TCAM word names with srcB in g31, LOOP starts iteration 0; a branch behind the body ends the loop; NOP does nothing. ENTER
goes on when every earlier ticket of the lane has passed, else the thread waits until ENTER_GRANT; LEAVE passes the ticket, and
a publishing invocation's value is the staging copy as it stands then; PUBLISH marks the invocation. -/
def Obligations.SequenceAndSections : Prop :=
  ((∀ th : Thread, (th.loop = none → stepOn th = { th with pc := th.pc + 1 }) ∧
    (∀ l, th.loop = some l → th.pc ≠ l.last → stepOn th = { th with pc := th.pc + 1 }) ∧
    (∀ l, th.loop = some l → th.pc = l.last → l.count ≤ l.iter → stepOn th = { th with pc := th.pc + 1, loop := none }) ∧
    (∀ l, th.loop = some l → th.pc = l.last → l.iter < l.count → (stepOn th).pc = l.first ∧
      (stepOn th).loop = some { l with iter := l.iter + 1 } ∧ stepOn th = { th with
        pc := l.first, loop := some { l with iter := l.iter + 1 }, g := (stepOn th).g } ∧
      ∀ i : GReg, gGet (stepOn th) i = if i.val = l.dst ∧ i ≠ 0 then BitVec.ofNat 64 (l.iter + 1) else gGet th i) ∧
    (∀ pc, jumpTo pc th = { th with pc := pc, loop := match th.loop with
      | some l => if pc = l.last + 1 then none else some l
      | none => none })) ∧
  ∀ (c : Instr) (s : State) (t : ThreadRef) (gd : Guard) (th : Thread) (fr : Inflight) (img : Image),
    Claims.Issues s c t gd th fr img → guardHolds th gd = true →
    (∀ x y, c = .nop x y → Completes c s fun u => Claims.Continues s u t (stepOn (Claims.charged c th))) ∧
    (∀ x y o, c = .br x y o →
      Completes c s fun u => Claims.Continues s u t (jumpTo (th.pc + o.val) (Claims.charged c th))) ∧
    (∀ x y d n o, c = .loop x y d n o → Completes c s fun u => ∃ z, Claims.Continues s u t (jumpTo (th.pc + 1) z) ∧
      (∀ i, gGet z i = if i = d then 0 else gGet th i) ∧
      z = { Claims.charged c th with g := z.g, loop := some ⟨th.pc + 1, th.pc + o.val, 0, n.val, d.val⟩ }) ∧
    (∀ x y a b pc, c = .brx x y a b →
      img.handlers[if (gGet th a).getLsbD 54 then (gGet th a).toNat / 2 ^ 46 % 2 ^ 8 else 0]? = some pc →
      Completes c s fun u => ∃ z, Claims.Continues s u t (jumpTo pc z) ∧
        (∀ i, gGet z i = if i = 31 then gGet th b else gGet th i) ∧ z.res.entryId =
          1 + (if (gGet th a).getLsbD 54 then (gGet th a).toNat / 2 ^ 46 % 2 ^ 8 else 0) ∧
        z = { Claims.charged c th with g := z.g, res := { (Claims.charged c th).res with entryId := z.res.entryId } })) ∧
  ((∀ (c : Instr) (s : State) (t : ThreadRef) (gd : Guard) (th : Thread) (fr : Inflight) (img : Image),
    Claims.Issues s c t gd th fr img → guardHolds th gd = true →
    (∀ x y, c = .enter x y → Completes c s fun u =>
      if th.sect ≠ .before then Claims.Continues s u t (stepOn (Claims.charged c th))
      else if turnCome s fr.emberLane fr.turn then
        Claims.Continues s u t (stepOn { Claims.charged c th with sect := .inside })
      else Claims.Waits s u t c th .ticket) ∧
    (∀ x y, c = .leave x y → Completes c s fun u =>
      Claims.ThreadGoesOn [.egr] s u t (stepOn (Claims.leftSection s fr (Claims.charged c th))) ∧
      Claims.TicketPassed u fr ∧ (∀ l, l ≠ fr.emberLane → ticketsOf u l = ticketsOf s l) ∧ u.hob.flight = s.hob.flight) ∧
    (∀ x y, c = .publish x y → heWriteFault s fr.ember fr.adm (b2n (isTimer fr)) = none → Completes c s fun u =>
      Claims.Continues s u t (stepOn { Claims.charged c th with publishing := true }))) ∧
  ∀ (s : State) (t : ThreadRef) (th : Thread) (fr : Inflight) (img : Image), Claims.WaitsFor s t .ticket th fr img →
    (turnCome s fr.emberLane fr.turn = true → Completes (.enterGrant t) s fun u =>
      Claims.ThreadGoesOn [] s u t (stepOn { th with wait := .ready, sect := .inside })) ∧
    (turnCome s fr.emberLane fr.turn = false → Completes (.enterGrant t) s fun u => u = s))

/-- R166 to R169, R189, R222, R228, R229: the terminal instructions end the invocation with their disposition. FWD resolves the
destination word, a port, next hop or ECMP group, as of the admission tick, with the queue of the E field or of srcB; a FWD
that resolves to nothing drops the frame; RECIRC of a recirculated frame is a drop with RECIRC_LIMIT; END leaves a frame
without a disposition and completes a timer firing. A timer firing without a template may only drop or end. -/
def Obligations.Dispositions : Prop :=
  ∀ (c : Instr) (s : State) (t : ThreadRef) (gd : Guard) (th : Thread) (fr : Inflight) (img : Image),
    Claims.Issues s c t gd th fr img → guardHolds th gd = true →
    (∀ x y, c = .endInv x y → Completes c s fun u =>
      Claims.EndsWith s u t c th fr (if isTimer fr then .done else .none)) ∧
    (∀ x y a r rs v, c = .emitDrop x y a r rs → v = (if rs then (gGet th a).toNat % 256 else r.toNat) → 0x80 ≤ v →
      Completes c s fun u => Claims.EndsWith s u t c th fr (.drop v)) ∧
    (noTemplate fr = false →
      (∀ x y a b (q : Fin 8) qs d, c = .emitFwd x y a b q qs →
        (match (gGet th a).toNat / 2 ^ 62 with
          | 0 => d = Disp.fwd (BitVec.ofNat 64 ((gGet th a).toNat % 2 ^ 11)) (if qs then (gGet th b).toNat % 8 else q.val)
          | 1 => let h := nexthopAt s ((gGet th a).toNat % 2 ^ 18) fr.adm
            d = if h.testBit 63 then Disp.fwd (BitVec.ofNat 64 (h / 2 ^ 48 % 2 ^ 11))
              (if qs then (gGet th b).toNat % 8 else q.val) else Disp.drop drNextHopInvalid
          | 2 => match ecmpSelect s ((gGet th a).toNat % 2 ^ 14) ((gGet th a).toNat / 2 ^ 16 % 2 ^ 16) fr.adm with
            | some (i, _) => d = Disp.fwd (BitVec.ofNat 64 (nexthopAt s i fr.adm / 2 ^ 48 % 2 ^ 11))
                (if qs then (gGet th b).toNat % 8 else q.val)
            | none => d = Disp.drop drEcmpEmpty
          | _ => False) →
        Completes c s fun u => Claims.EndsWith s u t c th fr d) ∧
      (∀ x y a, c = .emitMcast x y a → (gGet th a).toNat < 65536 → Completes c s fun u =>
        Claims.EndsWith s u t c th fr (.mcast (gGet th a).toNat)) ∧
      (∀ x y (n : Fin 65536) (q : Fin 64), c = .emitTrap x y n q → Completes c s fun u =>
        Claims.EndsWith s u t c th fr (.trap q.val n.val)) ∧
      (∀ x y a, c = .emitRecirc x y a → Completes c s fun u => Claims.EndsWith s u t c th fr
        (if (leVal (slice fr.md 44 4)).testBit 18 then .drop drRecircLimit else .recirc ((gGet th a).toNat % 2 ^ 32))))

/-- R167, R230 to R235 and Table HOB-3: requests and edits that fault with nothing join the invocation's result in order. A
session named again, a COUNT or METER whose word does not ask for it, change nothing; COUNT beyond eight and METER beyond two are
discarded and counted. -/
def Obligations.RequestsAndEdits : Prop :=
  ∀ (c : Instr) (s : State) (t : ThreadRef) (gd : Guard) (th : Thread) (fr : Inflight) (img : Image),
    Claims.Issues s c t gd th fr img → guardHolds th gd = true →
    (∀ r, (∃ x y n, c = .mirror x y n ∧ n.val ∈ th.res.mirrors ∧ r = (Claims.charged c th).res) ∨
        (∃ x y n, c = .mirror x y n ∧ n.val ∉ th.res.mirrors ∧ th.res.mirrors.length < 2 ∧
          r = { (Claims.charged c th).res with mirrors := th.res.mirrors ++ [n.val] }) ∨
        (∃ x y a b bs, c = .count x y a b bs ∧ (gGet th a).getLsbD 22 = false ∧ r = (Claims.charged c th).res) ∨
        (∃ x y a b bs, c = .count x y a b bs ∧ (gGet th a).getLsbD 22 = true ∧ th.res.counts.length < 8 ∧
          r = { (Claims.charged c th).res with counts := th.res.counts ++ [(((gGet th a).toNat % 2 ^ 22), (if bs then (gGet th b).toNat % 2 ^ 32 else leVal (slice fr.md 26 2) % 2 ^ 14))] }) ∨
        (∃ x y a, c = .meter x y a ∧ (gGet th a).getLsbD 41 = false ∧ r = (Claims.charged c th).res) ∨
        (∃ x y a, c = .meter x y a ∧ (gGet th a).getLsbD 41 = true ∧ th.res.meters.length < 2 ∧
          r = { (Claims.charged c th).res with meters := th.res.meters ++ [((gGet th a).toNat / 2 ^ 23 % 2 ^ 18, (gGet th a).toNat / 2 ^ 42 % 2 ^ 4)] }) ∨
        (∃ x y a b, c = .learn x y a b true ∧ r = { (Claims.charged c th).res with learn := some ((gGet th a).toNat / 2 ^ 48 % 2 ^ 12, (gGet th a).toNat % 2 ^ 48, (gGet th b).toNat % 2 ^ 11) }) ∨
        (∃ x y a b, c = .learn x y a b false ∧ isTimer fr = false ∧ leVal (slice fr.md 48 2) % 2 ^ 12 < 2048 ∧
          r.learn = some (leVal (slice fr.md 50 2) % 2 ^ 12,
            beVal ((List.range 6).map fun j => Claims.spaceByte img fr th .fw (6 + j)), leVal (slice fr.md 48 2) % 2 ^ 12) ∧
          r = { (Claims.charged c th).res with learn := r.learn }) →
      Completes c s fun u => Claims.Continues s u t (stepOn { Claims.charged c th with res := r })) ∧
    ((∃ x y a b bs, c = .count x y a b bs ∧ (gGet th a).getLsbD 22 = true ∧ 8 ≤ th.res.counts.length) ∨
      (∃ x y a, c = .meter x y a ∧ (gGet th a).getLsbD 41 = true ∧ 2 ≤ th.res.meters.length) →
      Completes c s fun u => Claims.ThreadGoesOn [.regs, .egr, .host] s u t (stepOn (Claims.charged c th)) ∧
        (regVal u .EGR_REQ_DISCARD_CNT 0).toNat = min ((regVal s .EGR_REQ_DISCARD_CNT 0).toNat + 1) (2 ^ 32 - 1)) ∧
    (th.res.edits.length < 8 → ∀ e cover, editConflicts fr.md th.res.edits cover (match e with
          | Edit.push _ _ => true
          | _ => false) = false →
      (∃ n x y a b o off, (c = .push4 x y a b o ∧ n = 4 ∨ c = .push8 x y a b o ∧ n = 8) ∧ off = (gGet th a).toNat + o.val ∧
          12 ≤ off ∧ off ≤ 127 ∧ e = .push off (beBytes n (gGet th b).toNat) ∧ cover = [off]) ∨
        (∃ n x y a o off, (c = .pop4 x y a o ∧ n = 4 ∨ c = .pop8 x y a o ∧ n = 8) ∧ off = (gGet th a).toNat + o.val ∧
          12 ≤ off ∧ off + n ≤ 128 ∧ off + n + 4 ≤ fr.rx.bytes.length ∧ e = .pop off n ∧
          cover = (List.range n).map (off + ·)) ∨
        (∃ n x y a b o off, (c = .replace4 x y a b o ∧ n = 4 ∨ c = .replace8 x y a b o ∧ n = 8) ∧
          off = (gGet th a).toNat + o.val ∧ 12 ≤ off ∧ off + n ≤ 128 ∧ off + n + 4 ≤ fr.rx.bytes.length ∧
          e = .replace off (beBytes n (gGet th b).toNat) ∧ cover = (List.range n).map (off + ·)) ∨
        (∃ x y, c = .decTtl x y ∧ (mdByte fr.md 8 % 16 = 1 ∨ mdByte fr.md 8 % 16 = 2) ∧ e = .decTtl ∧
          cover = [ttlOff fr.md]) →
      Completes c s fun u => ∃ z, Claims.Continues s u t (stepOn z) ∧ z.res.edits = th.res.edits ++ [e] ∧
        z = { Claims.charged c th with res := { (Claims.charged c th).res with edits := z.res.edits } })

namespace Sys2Proof.Claims

/-- The cause with which a write of the `n` bytes of FW from `lo` on faults, if it does (R157, R161, R163). -/
def fwCause (fr : Inflight) (es : List Edit) (lo n : Nat) : Option Nat :=
  if fr.rx.bytes.length < lo + n + 4 ∨ 128 < lo + n then some 1
  else if 0 < freshBlocks es lo n ∧ 8 < es.length + freshBlocks es lo n then some 5
  else if (List.range n).any fun j =>
      (es.any fun e => editCovers fr.md e (lo + j)) && !(es.any fun e => match e with
        | .rewrite _ m => (FMap.find? m (lo + j)).isSome
        | _ => false) then some 6
  else none

/-- The cause with which a new edit over bytes `cover` faults, if it does (R161, R163). -/
def editCause (fr : Inflight) (es : List Edit) (cover : List Nat) (isPush : Bool) : Option Nat :=
  if 8 ≤ es.length then some 5 else if editConflicts fr.md es cover isPush then some 6 else none

/-- The cause of Table HOB-10 with which an instruction faults in a state, if it does: 1 ADDRESS, 2 READ_ONLY,
3 HOME_MISS_WRITE, 4 OWNER_CLASS, 5 EDIT_OVERFLOW, 6 EDIT_CONFLICT, 7 MIRROR_LIMIT, 8 DROP_CODE, 9 TABLE_INDEX, 10 TEMPLATE. -/
def causeOf (s : State) (img : Image) (fr : Inflight) (th : Thread) : Instr → Option Nat
  | .fext _ _ _ a pos len o => if 1024 < 8 * ((gGet th a).toNat + o.val) + pos.val + len.val then some 1 else none
  | .fins _ _ a _ pos len o =>
    let st := 8 * ((gGet th a).toNat + o.val) + pos.val
    if len.val = 0 then none else if 1024 < st + len.val then some 1
    else fwCause fr th.res.edits (st / 8) ((st + len.val - 1) / 8 + 1 - st / 8)
  | .ld _ _ _ a sp n o =>
    if accessAddr th a o % 2 ^ n.val ≠ 0 ∨ spaceSize sp < accessAddr th a o + 2 ^ n.val then some 1 else none
  | .st _ _ a _ sp n o =>
    if accessAddr th a o % 2 ^ n.val ≠ 0 ∨ spaceSize sp < accessAddr th a o + 2 ^ n.val then some 1
    else match sp with
      | .fw => fwCause fr th.res.edits (accessAddr th a o) (2 ^ n.val)
      | .sc => none
      | .he => if accessAddr th a o < 8 then some 2 else heWriteFault s fr.ember fr.adm (b2n (isTimer fr))
      | _ => some 2
  | .feld _ _ a _ => if 1048576 ≤ (gGet th a).toNat then some 9 else none
  | .fetch _ _ _ a n o => if 16352 < accessAddr th a o + 2 ^ n.val then some 1 else none
  | .brx _ _ a _ =>
    if img.handlers.length ≤ (if (gGet th a).getLsbD 54 then (gGet th a).toNat / 2 ^ 46 % 2 ^ 8 else 0) then some 9 else none
  | .publish _ _ => heWriteFault s fr.ember fr.adm (b2n (isTimer fr))
  | .emitFwd _ _ a _ _ _ => if (gGet th a).toNat / 2 ^ 62 = 3 then some 9 else if noTemplate fr then some 10 else none
  | .emitMcast _ _ a => if 65536 ≤ (gGet th a).toNat then some 9 else if noTemplate fr then some 10 else none
  | .emitTrap _ _ _ _ => if noTemplate fr then some 10 else none
  | .emitRecirc _ _ _ => if noTemplate fr then some 10 else none
  | .emitDrop _ _ a r rs => if (if rs then (gGet th a).toNat % 256 else r.toNat) < 0x80 then some 8 else none
  | .mirror _ _ n => if n.val ∉ th.res.mirrors ∧ 2 ≤ th.res.mirrors.length then some 7 else none
  | .learn _ _ _ _ k => if k = false ∧ isTimer fr = true then some 10 else none
  | .push4 _ _ a _ o | .push8 _ _ a _ o =>
    if (gGet th a).toNat + o.val < 12 ∨ 127 < (gGet th a).toNat + o.val then some 1
    else editCause fr th.res.edits [(gGet th a).toNat + o.val] true
  | .pop4 _ _ a o | .replace4 _ _ a _ o => overCause fr th ((gGet th a).toNat + o.val) 4
  | .pop8 _ _ a o | .replace8 _ _ a _ o => overCause fr th ((gGet th a).toNat + o.val) 8
  | .decTtl _ _ =>
    if mdByte fr.md 8 % 16 ≠ 1 ∧ mdByte fr.md 8 % 16 ≠ 2 then some 1 else editCause fr th.res.edits [ttlOff fr.md] false
  | _ => none
where
  /-- The cause with which a POP or REPLACE of `n` bytes at `off` faults, if it does. -/
  overCause (fr : Inflight) (th : Thread) (off n : Nat) : Option Nat :=
    if off < 12 ∨ 128 < off + n ∨ fr.rx.bytes.length < off + n + 4 then some 1
    else editCause fr th.res.edits ((List.range n).map (off + ·)) false

/-- What every step keeps of each running invocation (R160, R161, R167, R233): its script, at most two distinct sessions,
eight COUNT and two METER requests. -/
def LimitsKept (s : State) : Prop :=
  ∀ k th, threadAt s k = some th → ScriptOk th.res.edits ∧ th.res.mirrors.length ≤ 2 ∧ th.res.mirrors.Nodup ∧
    th.res.counts.length ≤ 8 ∧ th.res.meters.length ≤ 2

end Sys2Proof.Claims

/-- R156 to R158, R161, R163, R167, R168, R171, R176, R189, R195, R210 to R212, R215, R216, R219, R221, R228, R235, R236: an
instruction that the rules fault ends its invocation: the frame's result is a fault without edits, requests or publish, its
ticket passes, cause and pc are recorded, the fault counter and event bit 0x1385 tell of it. -/
def Obligations.InstructionFaults : Prop :=
  ∀ (c : Instr) (s : State) (t : ThreadRef) (gd : Guard) (th : Thread) (fr : Inflight) (img : Image) (cause : Nat),
    Claims.Issues s c t gd th fr img → guardHolds th gd = true → Claims.ScriptOk th.res.edits →
    Claims.causeOf s img fr th c = some cause → Completes c s fun u =>
      Claims.Ended s u t fr { disp := .fault, cycles := (Claims.charged c th).res.cycles, entryId := th.res.entryId } ∧
      u.prog = { s.prog with lastFaultPc := th.pc, lastFaultCause := cause } ∧ regBit u .STOVE_PROG_EVENT 0 3 = true ∧
      (regVal u .STOVE_PROG_FAULT_CNT 0).toNat = min ((regVal s .STOVE_PROG_FAULT_CNT 0).toNat + 1) (2 ^ 32 - 1) ∧
      SameBut [.regs, .prog, .hob, .threads, .egr, .host] s u

/-- R152, R173, R175: instructions of one thread touch no other: whatever an instruction does, the other threads, the other
invocations, the tickets of other ember lanes and every ember record but its own home record stay as they were; on an idle
thread it does nothing. -/
def Obligations.InvocationsAreIsolated : Prop :=
  ∀ (c : Instr) (s u : State) (t : ThreadRef) (gd : Guard) (w : Nat), Claims.wordOf c = some (t, gd, w) → exec c s = .next u →
    (∀ k, k ≠ threadKey t → threadAt u k = threadAt s k) ∧ (threadAt s (threadKey t) = none → u = s) ∧
    ∀ th, threadAt s (threadKey t) = some th → (∀ f, f ≠ th.inv → flightOf u f = flightOf s f) ∧
      ∀ fr, flightOf s th.inv = some fr → (∀ l, l ≠ fr.emberLane → ticketsOf u l = ticketsOf s l) ∧
        ∀ r, fr.ember ≠ some r → emberOf u r = emberOf s r

/-- R160, R161, R167, R233: whatever command runs, no invocation's result outgrows its limits: at most 8 edits, each REWRITE over
its own 8-byte block, 2 distinct mirror sessions, 8 COUNT and 2 METER requests. Every step keeps this. -/
def Obligations.InvocationsKeepTheirLimits : Prop := ∀ s t : State, Claims.LimitsKept s → step s = .next t → Claims.LimitsKept t


/-! ### Admission between the twins (chapters 04 and 12) -/

namespace Sys2Proof.Claims

/-- Tick `k` is one that a message's low 32 bits can name. -/
def Near (s : State) (k : Nat) : Prop := s.clk.tick ≤ k + 2 ^ 30 ∧ k ≤ s.clk.tick + 2 ^ 30

/-- The twin controller is as before, but that it has held a message the partner sent at tick `k`. -/
def Heard (s t : State) (k : Nat) : Prop := t.twin = { s.twin with heard := Nat.max s.twin.heard k }

/-- A 32-bit saturating counter register has counted one. -/
def CountedOne (r : Reg) (s t : State) : Prop := (regVal t r 0).toNat = min ((regVal s r 0).toNat + 1) (2 ^ 32 - 1)

end Sys2Proof.Claims

/-- R126, R128, R131, R134, R135, R418: what the partner's admission messages do. A lane-clean bitmap is held for its tick; a tick
whose bitmap is not held in time is noted with event 0x1203 and counted, and is then admitted under the active twin's own
bitmap alone; the event is raised also for a bitmap of its own that the partner lacks; a relay-end record counts for its lane and
tick when since the last one no flue frame was lost and no relayed frame left incomplete; a change of H
and Q is held until its effect tick, then in force, and with it C, whose change raises event 0x1202. -/
def Obligations.AdmissionAgreement : Prop :=
  (∀ (s : State) (k : Nat) (m : BitVec 512), Claims.Near s k → Completes (.cleanBitmap (k % 2 ^ 32) m) s fun t =>
    FMap.find? t.adm.partner k = some m ∧ (∀ j, j ≠ k → FMap.find? t.adm.partner j = FMap.find? s.adm.partner j) ∧
    t.adm = { s.adm with partner := t.adm.partner } ∧ Claims.Heard s t (k + admDelay s - 5) ∧ SameBut [.adm, .twin] s t) ∧
  (∀ (s : State) (k : Nat), inPair s = true → s.twin.pairSince ≤ s.clk.tick → k + admDelay s = s.clk.tick + 1 →
    (FMap.find? s.adm.partner k = none → k ∉ s.adm.missed → Completes (.bitmapMissing k false) s fun t =>
      t.adm = { s.adm with missed := s.adm.missed ++ [k] } ∧ Claims.CountedOne .ADM_AGREE_MISS s t ∧
      regBit t .ADM_EVENT 0 2 = true ∧ SameBut [.regs, .adm, .host] s t) ∧
    (FMap.find? s.adm.partner k ≠ none → Completes (.bitmapMissing k false) s fun t => t = s) ∧
    Completes (.bitmapMissing k true) s fun t => regBit t .ADM_EVENT 0 2 = true ∧
      (∀ b, b ≠ Reg.ADM_EVENT.addr 0 → FMap.get none t.regs.vals b = FMap.get none s.regs.vals b) ∧ SameBut [.regs, .host] s t) ∧
  (∀ (s : State) (k : Nat), agrees s = true → s.twin.st ≠ .warming → k ∈ s.adm.missed →
    agreedMap s k = if countsAsStandby s then 0 else FMap.get 0 s.adm.own k) ∧
  (∀ (s : State) (k : Nat) (m : BitVec 512), agrees s = true → s.twin.st ≠ .warming → k ∉ s.adm.missed →
    FMap.find? s.adm.partner k = some m → agreedMap s k = FMap.get 0 s.adm.own k &&& m) ∧
  (∀ (s : State) (l : Fin 512) (k : Nat), Claims.Near s k → Completes (.relayEnd l (k % 2 ^ 32)) s fun t =>
    t.adm.relayEnds = (if FMap.get 0 s.adm.relaySeen l.val = s.adm.flueLoss ∧ l.val ∉ s.adm.relayBroken then s.adm.relayEnds ++ [(l.val, k)]
      else s.adm.relayEnds) ∧ FMap.get 0 t.adm.relaySeen l.val = s.adm.flueLoss ∧
    (∀ m, m ≠ l.val → FMap.get 0 t.adm.relaySeen m = FMap.get 0 s.adm.relaySeen m) ∧
    (∀ m, m ∈ t.adm.relayBroken ↔ m ∈ s.adm.relayBroken ∧ m ≠ l.val) ∧
    t.adm = { s.adm with relayEnds := t.adm.relayEnds, relaySeen := t.adm.relaySeen, relayBroken := t.adm.relayBroken } ∧
    Claims.Heard s t (s.clk.tick - 1) ∧ SameBut [.adm, .twin] s t) ∧
  (∀ (s : State) (h q e : Nat), Claims.Near s e → Completes (.capacity h q (e % 2 ^ 32)) s fun t =>
    t.adm = { s.adm with capAt := s.adm.capAt ++ [(e, true, h, q)] } ∧ Claims.Heard s t (s.clk.tick - 1) ∧
    SameBut [.adm, .twin] s t) ∧
  ∀ (s : State) (e h q : Nat) (theirs : Bool), s.adm.capAt = [(e, theirs, h, q)] →
    (s.clk.tick < e → s.adm.cForce = capacityOf s (forceHQ s).1 (forceHQ s).2 → Completes .capacityChange s fun t => t = s) ∧
    (e ≤ s.clk.tick → Completes .capacityChange s fun t => t.adm.capAt = [] ∧
      (t.adm.hForce, t.adm.qForce) = (if theirs then (s.adm.hForce, s.adm.qForce) else (h, q)) ∧
      (t.adm.partnerH, t.adm.partnerQ) = (if theirs then (some h, some q) else (s.adm.partnerH, s.adm.partnerQ)) ∧
      t.adm.cForce = (if s.adm.kForce = 0 then regFld s .ADM_GOV_CFG 0 27 16 else min (regFld s .ADM_GOV_CFG 0 27 16)
        ((forceHQ t).1 * (forceHQ t).2 * regFld s .ADM_GOV_CFG 0 7 0 / (256 * s.adm.kForce))) ∧
      (t.adm.cForce ≠ s.adm.cForce → regBit t .ADM_EVENT 0 1 = true) ∧ SameBut [.regs, .adm, .host] s t)

namespace Sys2Proof.Claims

/-- No earlier frame of the relayed frame's port is still incomplete, and none of its port is broken. -/
def RelayWhole (s : State) (f : RelayFrame) : Prop :=
  (∀ e, e ∈ s.adm.relayPart → e.1 / 65536 = f.port.val → e.1 = f.port.val * 65536 + f.order % 65536) ∧
  ∀ k, k ∈ s.adm.relayBad → k / 65536 ≠ f.port.val

end Sys2Proof.Claims

/-- R131, R417: relayed frames of the partner's solo ports. A chunk that continues its frame is kept, one that does not discards the
frame, whose lane is then not clean for its tick, and the last one makes the frame ingress of the same port, in cells of this twin,
unless its lane is wired here. A frame left incomplete by the next one of its port is forgotten, and the lane's next relay-end
record does not count. -/
def Obligations.RelayedFrames : Prop :=
  (∀ (s : State) (f : RelayFrame) (l : Nat), plainAt s f.port.val = some l →
    (∃ e, e ∈ s.adm.relayPart ∧ e.1 / 65536 = f.port.val ∧ e.1 ≠ f.port.val * 65536 + f.order % 65536) →
    Completes (.relay f) s fun t => l ∈ t.adm.relayBroken ∧
      ∀ k, k / 65536 = f.port.val → k ≠ f.port.val * 65536 + f.order % 65536 → FMap.get [] t.adm.relayPart k = []) ∧
  ∀ (s : State) (f : RelayFrame) (l k : Nat), plainAt s f.port.val = some l → (laneOf s l).wired = false → Claims.Near s k →
    f.tick = k % 2 ^ 32 → Claims.RelayWhole s f →
    (f.offset = (FMap.get [] s.adm.relayPart (f.port.val * 65536 + f.order % 65536)).length → f.last = false →
      Completes (.relay f) s fun t => FMap.get [] t.adm.relayPart (f.port.val * 65536 + f.order % 65536) =
        FMap.get [] s.adm.relayPart (f.port.val * 65536 + f.order % 65536) ++ f.data ∧
        t.adm = { s.adm with relayPart := t.adm.relayPart } ∧ SameBut [.adm, .twin] s t) ∧
    (f.offset ≠ (FMap.get [] s.adm.relayPart (f.port.val * 65536 + f.order % 65536)).length →
      Completes (.relay f) s fun t => FMap.get [] t.adm.relayPart (f.port.val * 65536 + f.order % 65536) = [] ∧
        (f.last = false → f.port.val * 65536 + f.order % 65536 ∈ t.adm.relayBad ∧ SameBut [.adm, .twin] s t) ∧
        (f.last = true → (k, k) ∈ (laneOf t l).unclean ∧ SameBut [.adm, .lanes, .twin] s t) ∧
        t.adm = { s.adm with relayPart := t.adm.relayPart, relayBad := t.adm.relayBad }) ∧
    (∀ bs, bs = FMap.get [] s.adm.relayPart (f.port.val * 65536 + f.order % 65536) ++ f.data →
      f.offset + f.data.length = bs.length → f.last = true → Claims.CellsFree s (cellsOf bs.length) →
      s.clk.tick + 5 ≤ k + admDelay s →
      Completes (.relay f) s fun t => ∃ r : Rx, t.adm.arrived = s.adm.arrived ++ [r] ∧ r.port = f.port.val ∧ r.lane = l ∧
        r.arrival = k ∧ r.bytes = bs ∧ r.flags = f.flags.toNat ∧ r.ts = some f.ts ∧ r.cells.length = cellsOf bs.length ∧
        r.owner = 8 * f.port.val + r.cls ∧ r.cls = governorClass s f.port.val bs ∧
        FMap.get [] t.adm.relayPart (f.port.val * 65536 + f.order % 65536) = [] ∧ t.lanes = s.lanes)

/-! ### Time (chapter 13) -/

namespace Sys2Proof.Claims

/-- The record of Table TIME-2 for request `q`, its flags and departure time `d`. -/
def tsRecord (s : State) (q : TsPending) (flags d : Nat) : Nat × Nat × Nat × Nat :=
  (s.time.nextSeq + q.tsid * 65536, q.port + flags + 2 ^ 16 * q.qp, d / 2 ^ 48 % 2 ^ 32, d / 2 ^ 32 % 2 ^ 16)

/-- A departure time of request `q` is known: a record with the next SEQ joins the FIFO, or, when the FIFO is full, is
discarded and counted; the request is over (R447). -/
def Departed (s t : State) (q : TsPending) (flags d : Nat) : Prop :=
  t.time.nextSeq = (s.time.nextSeq + 1) % 65536 ∧ t.time.tsPend = s.time.tsPend.filter (fun p => p.tsid ≠ q.tsid) ∧
  t.time = { s.time with nextSeq := t.time.nextSeq, tsPend := t.time.tsPend, fifo := t.time.fifo } ∧
  (s.time.fifo.length < 4096 → t.time.fifo = s.time.fifo ++ [tsRecord s q flags d] ∧ t.regs = s.regs) ∧
  (4096 ≤ s.time.fifo.length → t.time.fifo = s.time.fifo ∧ CountedOne .TIME_TSF_OVF_CNT s t)

/-- The departure flags: plain lane, and a step since the grant (Table TIME-2). -/
def tsFlags (s : State) (plain : Bool) (q : TsPending) (dep : Nat) : Nat :=
  2 ^ 11 * b2n plain + 2 ^ 12 * b2n (steppedIn s (q.grant + 1) dep)

end Sys2Proof.Claims

/-- R450, R451, R453, R454: triggers and pulse per second. An armed trigger that reaches its target fires: ARM clears, FIRED
sets, its pin does what MODE says and, when asked, event 0x1909 is raised; a pulse ends at its cycle. A rising edge of
PPS_IN captures the time of day with event 0x1908; PPS_OUT rises once in a second when NS first reaches OFFSET in LOCKED, never
by a step, and falls after its width. -/
def Obligations.TriggersAndPulses : Prop :=
  ∀ (j : Fin 40) (s : State),
    (∀ (k : Fin 8) (cfg : Word), regVal s .TIME_TRIG_CFG k.val = cfg →
      ((cfg.getLsbD 0 = true ∧ (todAt s s.clk.tick j.val / 2 ^ 48 % 2 ^ 32 + 2 ^ 32 - (regVal s .TIME_TRIG_TARGET k.val).toNat)
          % 2 ^ 32 < 2 ^ 31) → Completes (.triggerFire k j) s fun t =>
        (∀ i, i < 32 → (regVal t .TIME_TRIG_CFG k.val).getLsbD i = if i = 0 then false else if i = 4 then true else cfg.getLsbD i) ∧
        (∀ i, t.time.pins.testBit i = if i = k.val then (match cfg.toNat / 2 % 4 with
          | 0 => true
          | 1 => true
          | 2 => false
          | _ => !s.time.pins.testBit i) else s.time.pins.testBit i) ∧
        FMap.get none t.time.pulses k.val =
          (if cfg.toNat / 2 % 4 = 0 then some (s.clk.tick * 40 + j.val + cfg.toNat / 2 ^ 8 % 2 ^ 16) else none) ∧
        t.time = { s.time with pins := t.time.pins, pulses := t.time.pulses } ∧
        (cfg.getLsbD 3 = true → regBit t .TIME_EVENT 0 8 = true) ∧ SameBut [.regs, .time, .host] s t) ∧
      (cfg.getLsbD 0 = false → Completes (.triggerFire k j) s fun t => t = s) ∧
      (∀ e, FMap.get none s.time.pulses k.val = some e → e ≤ s.clk.tick * 40 + j.val →
        Completes (.triggerPulseEnd k j) s fun t => FMap.get none t.time.pulses k.val = none ∧
          (∀ i, t.time.pins.testBit i = if i = k.val then false else s.time.pins.testBit i) ∧
          t.time = { s.time with pins := t.time.pins, pulses := t.time.pulses } ∧ SameBut [.time] s t)) ∧
    (regBit s .TIME_CFG 0 17 = true → Completes (.ppsInCapture j) s fun t =>
      t.time = { s.time with ppsNs := todNs (todAt s s.clk.tick j.val), ppsSec := todSec (todAt s s.clk.tick j.val) % 2 ^ 32 } ∧
      regBit t .TIME_EVENT 0 7 = true ∧ SameBut [.regs, .time, .host] s t) ∧
    (regBit s .TIME_CFG 0 17 = false → Completes (.ppsInCapture j) s fun t => t = s) ∧
    (0 < j.val → regBit s .TIME_CFG 0 16 = true → s.time.core.locked = true →
      regFld s .TIME_PPS_OUT_OFF 0 29 0 ≤ todNs (todAt s s.clk.tick j.val) →
      (todNs (todAt s s.clk.tick (j.val - 1)) < regFld s .TIME_PPS_OUT_OFF 0 29 0 ∨
        todSec (todAt s s.clk.tick (j.val - 1)) ≠ todSec (todAt s s.clk.tick j.val)) →
      s.time.ppsLast ≠ some (todSec (todAt s s.clk.tick j.val)) → Completes (.ppsOutRise j) s fun t =>
        t.time = { s.time with
          ppsOut := true, ppsLast := some (todSec (todAt s s.clk.tick j.val))
          ppsFall := some (s.clk.tick * 40 + j.val + regFld s .TIME_CFG 0 31 24 * 78125) } ∧ SameBut [.time] s t) ∧
    (regBit s .TIME_CFG 0 16 = false ∨ s.time.core.locked = false ∨ j.val = 0 ∧ s.clk.tick ∈ s.time.steps →
      Completes (.ppsOutRise j) s fun t => t = s) ∧
    (∀ e, s.time.ppsFall = some e → e ≤ s.clk.tick * 40 + j.val ∨ s.time.core.locked = false ∨ regBit s .TIME_CFG 0 16 = false →
      Completes (.ppsOutFall j) s fun t => t.time = { s.time with ppsOut := false, ppsFall := none } ∧ SameBut [.time] s t)

/-- R446 to R448, R84, R456, R457: departure times of frames that asked for one. A plain lane's is the time of the frame's first
block with the lane's egress compensation; a Hearth lane's comes in a timestamp report, by the low bits of the departure tick and
SUBTICK; a request without a departure time 256 ticks after its grant uses up a SEQ and is counted with event 0x1906; a report
that names no request is counted too and otherwise ignored. Time between the twins: a state message that differs from the standby's own state is
counted with event 0x1907 and held for adoption; one that agrees changes nothing; a held state is adopted 256 ticks on,
advanced to then; a departure record of the partner joins the FIFO. -/
def Obligations.DepartureTimes : Prop :=
  ((∀ (p : Fin 2048) (j l i : Nat) (s : State) (f : TxFrame) (q : TsPending), nextFrame s p.val = some (f, i) →
    mayStart s p.val = true → f.tsid = some q.tsid → plainAt s p.val = some l → tsPending s q.tsid = some q → inPair s = false →
    Completes (.txFirstBlock p j) s fun t =>
      (∃ g, (portOf t p.val).tx.head? = some g ∧ g.started = some s.clk.tick ∧ { g with started := f.started, eseq := f.eseq } = f) ∧
      Claims.Departed s t q (Claims.tsFlags s true q s.clk.tick)
        (todAdd (todAt s s.clk.tick j) (regFld s .TIME_LANE_COMP l 31 16 * 2 ^ 44 : Nat)) ∧
      SameBut [.regs, .ports, .time, .host] s t) ∧
  (∀ (l : Fin 512) (o : OSet) (s : State), Claims.TakesSets s l.val → osetGood o = true → (laneOf s l.val).st = .inService →
    (∀ q dep, tsPending s (o.d2.toNat * 256 + o.d3.toNat) = some q → dep ≤ s.clk.tick → s.clk.tick < dep + 256 →
      dep % 256 = o.d6.toNat → Completes (.timestampReportReceive l o) s fun t =>
        Claims.Departed s t q (Claims.tsFlags s false q dep) (todAdd (ttAt s dep) (o.d5.toNat % 64 * 4 * 2 ^ 48 / 5 : Nat)) ∧
        SameBut [.regs, .time, .host] s t) ∧
    (tsPending s (o.d2.toNat * 256 + o.d3.toNat) = none → Completes (.timestampReportReceive l o) s fun t =>
      Claims.CountedOne .TIME_TSF_TIMEOUT_CNT s t ∧ SameBut [.regs] s t)) ∧
  ∀ (id : Fin 65536) (s : State) (q : TsPending), tsPending s id.val = some q →
    (q.grant + 256 ≤ s.clk.tick → Completes (.timestampTimeout id) s fun t =>
      t.time = { s.time with nextSeq := (s.time.nextSeq + 1) % 65536, tsPend := s.time.tsPend.filter fun p => p.tsid ≠ id.val } ∧
      Claims.CountedOne .TIME_TSF_TIMEOUT_CNT s t ∧ regBit t .TIME_EVENT 0 5 = true ∧ SameBut [.regs, .time, .host] s t) ∧
    (s.clk.tick < q.grant + 256 → Completes (.timestampTimeout id) s fun t => t = s)) ∧
  ((∀ (b : List Byte) (s : State), (byteAt b 0).toNat = 1 → countsAsStandby s = true →
    (timeDiffers s (timeOfMessage b).1 (timeOfMessage b).2 = true → Completes (.time b) s fun t =>
      (∃ c, t.time = { s.time with adoptAt := s.time.adoptAt ++ [((timeOfMessage b).1, c)] } ∧
        c.tod / 2 ^ 32 = (timeOfMessage b).2.tod / 2 ^ 32 ∧ c = { (timeOfMessage b).2 with tod := c.tod }) ∧
      Claims.CountedOne .TIME_CHECK_MISMATCH_CNT s t ∧ regBit t .TIME_EVENT 0 6 = true ∧ Claims.Heard s t (s.clk.tick - 1) ∧
      t.clk = { s.clk with free := t.clk.free } ∧ SameBut [.clk, .regs, .time, .twin, .host] s t) ∧
    (timeDiffers s (timeOfMessage b).1 (timeOfMessage b).2 = false → Completes (.time b) s fun t =>
      Claims.Heard s t (s.clk.tick - 1) ∧ SameBut [.twin] s t)) ∧
  (∀ (b : List Byte) (s : State) (q : TsPending), (byteAt b 0).toNat = 2 →
    tsPending s (leVal (slice b 8 4) / 65536) = some q → s.time.fifo.length < 4096 → Completes (.time b) s fun t =>
      t.time = { s.time with
        nextSeq := (s.time.nextSeq + 1) % 65536, tsPend := s.time.tsPend.filter fun p => p.tsid ≠ q.tsid
        fifo := s.time.fifo ++ [(s.time.nextSeq + q.tsid * 65536, leVal (slice b 12 4), leVal (slice b 16 4), leVal (slice b 20 4) % 65536)] } ∧
      Claims.Heard s t (s.clk.tick - 1) ∧ SameBut [.time, .twin, .host] s t) ∧
  ∀ (s : State) (k : Nat) (c : TimeCore), s.time.adoptAt = [(k, c)] →
    (k + 256 ≤ s.clk.tick → (∀ a ∈ s.time.acts, a.1 ≤ k) → Completes .timeStateAdopt s fun t =>
      t.time = { s.time with adoptAt := [], core := Nat.repeat advanceCore (s.clk.tick - k) c } ∧ SameBut [.time] s t) ∧
    (s.clk.tick < k + 256 → Completes .timeStateAdopt s fun t => t = s))
/-! ### Stoves, programs and retirement (chapters 05 and 07) -/

namespace Sys2Proof.Claims

/-- The stoves in service are the lowest 64 that are eligible (R242). -/
def SetRight (t : State) : Prop := ∀ i, i < 68 → ((stoveOf t i).st = .inService ↔ i ∈ (eligible t).take 64)

/-- Thread `k` starts invocation `f` at `pc` for entry `e`: registers, predicates, spaces and script are clear (R153). -/
def Started (t : State) (k f pc e : Nat) : Prop :=
  threadAt t k = some { inv := f, pc := pc, fe := List.replicate 32 0, res := { entryId := e } }

/-- Where invocation `fr` starts in image `img`, and its entry id (R185, R188, Table EGR-5). -/
def StartsAt (img : Image) (fr : Inflight) (pc e : Nat) : Prop :=
  match fr.kind with
  | .timer n => e = 257 + n ∧ (∃ x, img.slots[n]? = some x ∧ pc = x.entry)
  | _ => e = 0 ∧ pc = img.entry

/-- A waiting frame, or firing, can enter its home stove: the stove is in service and, for a frame, its work queue has room (R241, R243,
R249). -/
def CanEnter (s : State) (x : Inflight) : Prop :=
  (stoveOf s (homeOf s x.emberLane)).st = .inService ∧
  (isTimer x = true ∨ (stoveOf s (homeOf s x.emberLane)).queue.length < 2048)

/-- A stove's own record has changed alone, among the stoves. -/
def StoveOnly (i : Nat) (s t : State) : Prop := ∀ j, j ≠ i → stoveOf t j = stoveOf s j

end Sys2Proof.Claims

/-- R152 to R154, R188, R243, R249, R251, R252: dispatch, starts and steals. The first waiting frame or firing that its home stove, in
service and with room, can take enters its work queue or the firings' queue; a free frame thread takes the head of its stove's work queue, the timers' thread the head of the firings; a free frame
thread of a stove in service with an empty queue takes the earliest frame of its victim, which keeps its lane and ticket. A
victim is another stove in service, within STEAL_DIST on the ring and with at least STEAL_MIN waiting frames; none that
qualifies is nearer, and of the nearest none has a deeper queue. -/
def Obligations.InvocationsStart : Prop :=
  (∀ (s : State),
    (∀ l1 f l2 x, s.hob.dispWait = l1 ++ f :: l2 → f ∉ l1 → flightOf s f = some x → Claims.CanEnter s x →
      (∀ g, g ∈ l1 → ∀ y, flightOf s g = some y → ¬Claims.CanEnter s y) →
      Completes .dispatchQueueEntry s fun t => t.hob.dispWait = l1 ++ l2 ∧ stoveOf t (homeOf s x.emberLane) =
        (if isTimer x then { stoveOf s (homeOf s x.emberLane) with timerQueue := (stoveOf s (homeOf s x.emberLane)).timerQueue ++ [f] }
         else { stoveOf s (homeOf s x.emberLane) with queue := (stoveOf s (homeOf s x.emberLane)).queue ++ [f] }) ∧
        Claims.StoveOnly (homeOf s x.emberLane) s t ∧ t.hob = { s.hob with dispWait := t.hob.dispWait, stoves := t.hob.stoves } ∧
        SameBut [.hob] s t) ∧
    ((∀ g, g ∈ s.hob.dispWait → ∀ y, flightOf s g = some y → ¬Claims.CanEnter s y) →
      Completes .dispatchQueueEntry s fun t => t = s) ∧
    ∀ (th : ThreadRef) (f : Nat) (r : List Nat) (fr : Inflight) (img : Image) (pc e : Nat), threadAt s (threadKey th) = none →
      flightOf s f = some fr → imageOf s fr.gen = some img → Claims.StartsAt img fr pc e →
      ((stoveOf s th.stove.val).st = .inService ∨ (stoveOf s th.stove.val).st = .draining →
        (timerThread th = false → (stoveOf s th.stove.val).queue = f :: r → Completes (.invocationStart th) s fun t =>
          Claims.Started t (threadKey th) f pc e ∧ (∀ k, k ≠ threadKey th → threadAt t k = threadAt s k) ∧
          stoveOf t th.stove.val = { stoveOf s th.stove.val with queue := r } ∧ Claims.StoveOnly th.stove.val s t ∧
          t.hob.flight = s.hob.flight ∧ SameBut [.hob, .threads] s t) ∧
        (timerThread th = true → (stoveOf s th.stove.val).timerQueue = f :: r → Completes (.invocationStart th) s fun t =>
          Claims.Started t (threadKey th) f pc e ∧ (∀ k, k ≠ threadKey th → threadAt t k = threadAt s k) ∧
          stoveOf t th.stove.val = { stoveOf s th.stove.val with timerQueue := r } ∧ Claims.StoveOnly th.stove.val s t ∧
          t.hob.flight = s.hob.flight ∧ SameBut [.hob, .threads] s t)) ∧
      ∀ j, timerThread th = false → (stoveOf s th.stove.val).st = .inService → (stoveOf s th.stove.val).queue = [] →
        stealVictim s th.stove.val = some j → f ∈ (stoveOf s j).queue → (∀ g, g ∈ (stoveOf s j).queue → f ≤ g) →
        Completes (.steal th) s fun t => Claims.Started t (threadKey th) f pc e ∧
          (∀ k, k ≠ threadKey th → threadAt t k = threadAt s k) ∧
          stoveOf t j = { stoveOf s j with queue := (stoveOf s j).queue.erase f } ∧ Claims.StoveOnly j s t ∧
          t.hob.flight = s.hob.flight ∧ (regVal t .STOVE_STOLEN_CNT th.stove.val).toNat =
            min ((regVal s .STOVE_STOLEN_CNT th.stove.val).toNat + 1) (2 ^ 32 - 1) ∧ SameBut [.regs, .hob, .threads] s t) ∧
  (∀ (s : State) (i j : Nat), i < 68 → stealVictim s i = some j →
    j ≠ i ∧ (stoveOf s j).st = .inService ∧ ringDist i j ≤ regFld s .STOVE_CFG 0 2 0 ∧
    regFld s .STOVE_CFG 0 15 4 ≤ (stoveOf s j).queue.length ∧ (stoveOf s j).queue ≠ [] ∧
    ∀ k, k < 68 → k ≠ i → (stoveOf s k).st = .inService → ringDist i k ≤ regFld s .STOVE_CFG 0 2 0 →
      regFld s .STOVE_CFG 0 15 4 ≤ (stoveOf s k).queue.length → (stoveOf s k).queue ≠ [] →
      ringDist i j ≤ ringDist i k ∧ (ringDist i j = ringDist i k → (stoveOf s k).queue.length ≤ (stoveOf s j).queue.length))

/-- R242, R243, R258: the stove set. A stove fails: its queue and threads are empty, its invocations are lost and their tickets
pass, event 0x1302 is raised when it had any; a drained stove leaves DRAINING unless its group parks, for WAKING when its group has been
unparked since; then the lowest 64 eligible
stoves are in service. -/
def Obligations.StoveSet : Prop :=
  ∀ (s : State) (i : Fin 68),
    ((stoveOf s i.val).st ≠ .failed → Completes (.stoveFail i) s fun t => (stoveOf t i.val).st = .failed ∧
      (stoveOf t i.val).queue = [] ∧ (stoveOf t i.val).timerQueue = [] ∧
      (∀ k, threadAt t k = if k / 256 = i.val then none else threadAt s k) ∧ Claims.SetRight t ∧
      (∀ f fr, f ∈ stoveWork s i.val → flightOf s f = some fr → fr.retired = false →
        flightOf t f = some { fr with ended := true, result := some { disp := .lost } } ∧ Claims.TicketPassed t fr) ∧
      (stoveWork s i.val ≠ [] → regBit t .STOVE_EVENT 0 1 = true)) ∧
    ((stoveOf s i.val).st = .failed → Completes (.stoveFail i) s fun t => t = s) ∧
    ((stoveOf s i.val).st = .draining → stoveIdle s i.val = true →
      ((groupOf s (i.val / 4)).parking = true → Completes (.stoveDrained i) s fun t => t = s) ∧
      ((groupOf s (i.val / 4)).parking = false → (groupOf s (i.val / 4)).sweeping = true →
        Completes (.stoveDrained i) s fun t => stoveOf t i.val = { stoveOf s i.val with st := .sweep } ∧
          Claims.StoveOnly i.val s t ∧ SameBut [.regs, .hob, .host] s t) ∧
      ((groupOf s (i.val / 4)).parking = false → (groupOf s (i.val / 4)).sweeping = false → (groupOf s (i.val / 4)).wakeFrom ≠ none →
        Completes (.stoveDrained i) s fun t => stoveOf t i.val = { stoveOf s i.val with st := .waking } ∧
          Claims.StoveOnly i.val s t ∧ SameBut [.regs, .hob, .host] s t) ∧
      ((groupOf s (i.val / 4)).parking = false → (groupOf s (i.val / 4)).sweeping = false → (groupOf s (i.val / 4)).wakeFrom = none →
        Completes (.stoveDrained i) s fun t => ((stoveOf t i.val).st = .spare ∨ (stoveOf t i.val).st = .inService) ∧
          Claims.SetRight t ∧ SameBut [.regs, .adm, .hob, .tbl, .host, .out] s t)) ∧
    ((stoveOf s i.val).st ≠ .draining ∨ stoveIdle s i.val = false → Completes (.stoveDrained i) s fun t => t = s)

/-- R260 to R262: a group's clock and power. A written FREQ is switched to, at once when it raises the clock; the switch raises
event 0x1308; PARK takes the group's stoves out of service, and once they have drained its domain goes off; clearing PARK wakes
them, one that still drains once it has drained; 2,048 ticks later, powered, their entry is given an effect tick, with the H and Q
that come with it, and at that tick they join. -/
def Obligations.GroupClockAndPower : Prop :=
  ∀ (s : State) (g : Fin 17),
    (∀ v code, Claims.WriteDue s .STOVE_GROUP_CFG g.val v → v.getLsbD 4 = false → regBit s .STOVE_GROUP_CFG g.val 4 = false →
      (groupOf s g.val).switchTo = none → FMap.get 0 s.pwr.fEff g.val = 0 → wfld v 3 0 = code → code ≤ freqLimit s →
      ((groupOf s g.val).freq < code → Completes .hostWriteApply s fun t =>
        groupOf t g.val = { groupOf s g.val with switchTo := some (code, s.clk.tick), qLimit := none }) ∧
      (code < (groupOf s g.val).freq → Completes .hostWriteApply s fun t => (groupOf t g.val).qLimit = some code ∧
        ∃ x, (groupOf t g.val).switchTo = some (code, x) ∧ s.clk.tick ≤ x)) ∧
    (∀ code from_, (groupOf s g.val).switchTo = some (code, from_) →
      (from_ ≤ s.clk.tick → Completes (.clockSwitchDone g) s fun t =>
        groupOf t g.val = { groupOf s g.val with freq := code, switchTo := none, qLimit := none } ∧
        (∀ h, h ≠ g.val → groupOf t h = groupOf s h) ∧ regBit t .STOVE_EVENT 0 7 = true ∧
        SameBut [.regs, .adm, .hob, .host, .out] s t) ∧
      (s.clk.tick < from_ → Completes (.clockSwitchDone g) s fun t => t = s)) ∧
    (∀ v, Claims.WriteDue s .STOVE_GROUP_CFG g.val v → v.getLsbD 4 = true → regBit s .STOVE_GROUP_CFG g.val 4 = false →
      wfld v 3 0 = (groupOf s g.val).freq → (groupOf s g.val).freq ≤ freqLimit s → (groupOf s g.val).switchTo = none →
      FMap.get 0 s.pwr.fEff g.val = 0 → (groupOf s g.val).powered = true → (groupOf s g.val).parking = false →
      (groupOf s g.val).sweeping = false → s.pwr.visit = none → Completes .hostWriteApply s fun t =>
        (groupOf t g.val).parking = true ∧ Claims.SetRight t ∧ ∀ i, i / 4 = g.val → i < 68 →
          (stoveOf t i).st = (match (stoveOf s i).st with
            | .inService => .draining
            | .spare => .draining
            | .waking => .draining
            | x => x)) ∧
    (∀ v, Claims.WriteDue s .STOVE_GROUP_CFG g.val v → v.getLsbD 4 = false → regBit s .STOVE_GROUP_CFG g.val 4 = true →
      wfld v 3 0 = (groupOf s g.val).freq → (groupOf s g.val).freq ≤ freqLimit s → (groupOf s g.val).switchTo = none →
      FMap.get 0 s.pwr.fEff g.val = 0 →
      ((groupOf s g.val).parking = true ∨ (groupOf s g.val).powered = false ∧ (groupOf s g.val).wakeFrom = none) →
      Completes .hostWriteApply s fun t =>
        groupOf t g.val = { groupOf s g.val with parking := false, wakeFrom := some (s.clk.tick + 2048), joinAt := none } ∧
        ((groupOf s g.val).parking = false → tb t.pwr.ready (8 + g.val) = true ∨ 8 + g.val ∈ t.pwr.rampQ) ∧
        ∀ i, i / 4 = g.val → (stoveOf t i).st =
          (if (stoveOf s i).st = .parked ∨ (stoveOf s i).st = .draining ∧ stoveIdle s i = true then .waking else (stoveOf s i).st)) ∧
    ((groupOf s g.val).parking = true → (∀ i, i / 4 = g.val → stoveIdle s i = true) → Completes (.groupDomainOff g) s fun t =>
      groupOf t g.val = { groupOf s g.val with parking := false, powered := false } ∧ tb t.pwr.ready (8 + g.val) = false ∧
      (∀ i, (stoveOf t i).st = if i / 4 = g.val ∧ (stoveOf s i).st ≠ .failed then .parked else (stoveOf s i).st) ∧
      (tb s.pwr.ready (8 + g.val) = true → regBit t .PWR_EVENT 0 0 = true) ∧ SameBut [.regs, .hob, .tbl, .host, .pwr] s t) ∧
    (∀ e, (groupOf s g.val).wakeFrom = some e → s.pwr.visit = none →
      (∀ j, (groupOf s g.val).joinAt = some j →
        (j ≤ s.clk.tick → Completes (.groupWakeReady g) s fun t =>
          (groupOf t g.val).wakeFrom = none ∧ (groupOf t g.val).freq = wantedCode s g.val ∧ Claims.SetRight t ∧
          (∀ i, i / 4 = g.val → i < 68 → (stoveOf t i).st ≠ .waking) ∧
          SameBut [.regs, .adm, .hob, .tbl, .host, .pwr, .out] s t) ∧
        (s.clk.tick < j → Completes (.groupWakeReady g) s fun t => t = s)) ∧
      ((groupOf s g.val).joinAt = none →
        ((groupOf s g.val).powered = true → e ≤ assignTick s → s.clk.tick < assignTick s →
          Completes (.groupWakeReady g) s fun t => groupOf t g.val = { groupOf s g.val with joinAt := some (assignTick s) } ∧
            t.hob.stoves = s.hob.stoves ∧ (∀ c, c ∈ t.adm.capAt → c ∈ s.adm.capAt ∨ c.1 = assignTick s) ∧
            SameBut [.adm, .hob, .out] s t) ∧
        ((groupOf s g.val).powered = false ∨ assignTick s < e → Completes (.groupWakeReady g) s fun t => t = s)))

/-- R185, R186, R189, R192: timer firings and program images. A slot whose tick has come fires once, and without a template takes
the next place of its ember lane; at its tick a scheduled activation makes the pending image the active one, the old image
staying until RET_DELAY + 1 later and until no frame of it is left. -/
def Obligations.ImagesAndTimers : Prop :=
  (∀ (n : Fin 64) (s : State) (img : Image) (x : TimerSlot), slotDue s n.val s.clk.tick = some (img, x) → x.tmpl = none →
    Completes (.timerFire n) s fun t => ∃ fr : Inflight, t.hob.flight = s.hob.flight ++ [fr] ∧ fr.kind = .timer n.val ∧
      fr.id = s.adm.nextId ∧ fr.adm = s.clk.tick ∧ fr.ret = s.clk.tick + x.retOffset ∧ fr.homeKey = 4 * 2 ^ 60 + n.val ∧
      fr.emberLane = emberLaneOf fr.homeKey ∧ fr.turn = (ticketsOf s fr.emberLane).issued ∧ fr.rx.bytes = [] ∧ fr.gen = img.gen ∧
      fr.ember = (if x.homeValid then some x.homeEmber else none) ∧ fr.ended = false ∧ fr.retired = false ∧
      (ticketsOf t fr.emberLane).issued = (ticketsOf s fr.emberLane).issued + 1 ∧
      t.adm = { s.adm with nextId := s.adm.nextId + 1, admPos := s.adm.admPos + 1 } ∧ SameBut [.adm, .hob] s t) ∧
  (∀ (n : Fin 64) (s : State), slotDue s n.val s.clk.tick = none → Completes (.timerFire n) s fun t => t = s) ∧
  (∀ (s : State) (n k : Nat) (img : Image) (x : TimerSlot), s.prog.active = some img → img.slots[n]? = some x →
    (slotDue s n k).isSome = (decide (s.prog.activeFrom ≤ k ∧ x.phase ≤ k ∧ (k - x.phase) % x.interval = 0) && s.clk.forwarding &&
      !(s.hob.flight.any fun f => decide (f.kind = .timer n ∧ f.adm = k)))) ∧
  (∀ (s : State) (e id : Nat) (img : Image), s.prog.actAt = some (e, id) → s.prog.pendingImg = some img →
    (e ≤ s.clk.tick → Completes .programActivation s fun t => t.prog.active = some img ∧ t.prog.pendingImg = none ∧
      t.prog.actAt = none ∧ t.prog.activeFrom = s.clk.tick ∧ t.adm = { s.adm with kForce := img.k } ∧
      t.prog.olds = s.prog.olds ++ (s.prog.active.map fun o => (o, s.clk.tick + retDelay s + 1)).toList ∧
      regBit t .STOVE_PROG_EVENT 0 2 = true ∧ SameBut [.regs, .adm, .prog, .egr, .host] s t) ∧
    (s.clk.tick < e → Completes .programActivation s fun t => t = s)) ∧
  ∀ s : State, Completes .oldImageFree s fun t => t.prog = { s.prog with olds := t.prog.olds } ∧ SameBut [.prog] s t ∧
    ∀ o, o ∈ t.prog.olds ↔ o ∈ s.prog.olds ∧
      (s.clk.tick < o.2 ∨ ∃ f ∈ s.hob.flight, f.gen = o.1.gen ∧ (f.ended = false ∨ f.retired = false))

/-- R180, R254 to R257: results and lateness. A result reaches the retire sequencer at its tick; the partner's late list is held for
its retire tick; one that is not held in time is noted with event 0x1305 and counted, and the event is raised also for a list of its own that the
partner lacks; in solo operation a held frame retires
once its result has come, or is dropped as late with event 0x1306 when it has been held too long. -/
def Obligations.ResultsAndLateness : Prop :=
  (∀ (s : State) (f : Nat) (x : Inflight) (r : Result), flightOf s f = some x → x.result = some r → r.disp ≠ .lost →
    (x.arrived = none → Completes (.resultArrive f) s fun t => flightOf t f = some { x with arrived := some s.clk.tick } ∧
      (∀ g, g ≠ f → flightOf t g = flightOf s g) ∧ t.hob = { s.hob with flight := t.hob.flight } ∧ SameBut [.hob] s t) ∧
    (x.arrived ≠ none → Completes (.resultArrive f) s fun t => t = s)) ∧
  (∀ (s : State) (k : Nat) (all : Bool) (pos : List Nat), Claims.Near s k → Completes (.lateList (k % 2 ^ 32) all pos) s fun t =>
    FMap.get none t.hob.latePartner k = some { all := all, pos := pos } ∧
    (∀ j, j ≠ k → FMap.get none t.hob.latePartner j = FMap.get none s.hob.latePartner j) ∧
    t.hob = { s.hob with latePartner := t.hob.latePartner } ∧ Claims.Heard s t (k - 4) ∧ SameBut [.hob, .twin] s t) ∧
  (∀ (s : State) (k : Nat), inPair s = true → s.twin.pairSince ≤ s.clk.tick → k = s.clk.tick + 1 →
    (FMap.get none s.hob.latePartner k = none → k ∉ s.hob.retMissing → Completes (.lateListMissing k false) s fun t =>
      t.hob = { s.hob with retMissing := s.hob.retMissing ++ [k] } ∧ Claims.CountedOne .STOVE_LATELIST_MISS s t ∧
      regBit t .STOVE_EVENT 0 4 = true ∧ SameBut [.regs, .hob, .host] s t) ∧
    (FMap.get none s.hob.latePartner k ≠ none → Completes (.lateListMissing k false) s fun t => t = s) ∧
    Completes (.lateListMissing k true) s fun t => regBit t .STOVE_EVENT 0 4 = true ∧
      (∀ b, b ≠ Reg.STOVE_EVENT.addr 0 → FMap.get none t.regs.vals b = FMap.get none s.regs.vals b) ∧ SameBut [.regs, .host] s t) ∧
  ∀ (s : State) (f : Inflight) (r : Result), isSolo s = true → agrees s = false → underSource s = false →
    s.hob.heldFrom = some f.id → flightOf s f.id = some f → retireDue s = [f] → f.late = true → f.kind = .program →
    (∀ a, f.arrived = some a → a < s.clk.tick → f.result = some r → r.disp ≠ .lost → f.ended = true →
      regBit s .STOVE_CFG 0 16 = false → Completes .heldRetireResume s fun t => t.hob.heldFrom = none ∧ flightOf t f.id = none ∧
        t.hob.slotsUsed = (if f.slot then s.hob.slotsUsed - 1 else s.hob.slotsUsed)) ∧
    (f.arrived = none → f.result = none → regBit s .STOVE_CFG 0 16 = false →
      (f.ret + regFld s .STOVE_HOLD_CFG 0 15 0 ≤ s.clk.tick → Completes .holdTimeout s fun t => t.hob.heldFrom = none ∧
        (∃ y, flightOf t f.id = some y ∧ y.retired = true ∨ f.ended = true ∧ flightOf t f.id = none) ∧
        regBit t .STOVE_EVENT 0 5 = true) ∧
      Completes .heldRetireResume s fun t => t = s)

/-! ### Tables, ember records and the TCAM (chapters 08 and 09) -/

namespace Sys2Proof.Claims

/-- MBX_CPL takes the next completion at once. -/
def CplReady (s : State) : Prop := s.host.cplWait = [] ∧ ringEnabled s 1 = true ∧ ringFull s 1 = false

/-- The place in host memory of the next completion entry. -/
def cplAt (s : State) : Nat := ringBase s 1 + (ringOf s 1).prod % ringSize s 1 * 32

/-- Command `c` has completed: Table HOST-6's entry, with its PHASE, is in MBX_CPL, and the command is not outstanding any more
(R466, R467, R469). -/
def Answered (s t : State) (c : MbxCmd) (status tick : Nat) (result : List Byte) : Prop :=
  FMap.bytes 0 t.host.hostMem (cplAt s) 32 = splice (completionRecord c status tick result) 11
    [BitVec.ofNat 8 (b2n ((ringOf s 1).made / ringSize s 1 % 2 = 0))] ∧
  (ringOf t 1).prod = ((ringOf s 1).prod + 1) % 65536 ∧ t.host.cplWait = [] ∧ ∀ x, x ∈ t.host.outstanding → x.seq ≠ c.seq

/-- If the device has a command to complete and MBX_CPL takes the entry, it completes it so. -/
def AnswersTo (s t : State) (c : Option MbxCmd) (status tick : Nat) (result : List Byte) : Prop :=
  ∀ x, c = some x → x.quiet = false → CplReady s → Answered s t x status tick result

/-- The change `c` of entry `k`, of no filter word's, whose versions were `v`, has completed: the newer version is the older one too, the version
store holds `kept`, and the queued change, if any, is the entry's change. -/
def ChangeOver (s t : State) (k : EntryKey) (v : Ver) (c : Change) (kept : List VersionRec) : Prop :=
  verOf t k = { v with old := v.new } ∧ t.tbl.vstore = kept ∧ (∀ j, j ≠ k → changeOf t j = changeOf s j) ∧
  ∀ least, least = (if c.done < s.clk.tick then s.clk.tick + 1 else s.clk.tick) →
    changeOf t k = c.queued.map fun q =>
      { key := k, eff := max q.1 least, done := max q.1 least + retDelay s, applied := false, parts := q.2, ageE := none,
        queued := none, waiting := true, linked := false }

/-- A place of a lane's order has been passed on. -/
def TurnPassed (t : State) (lane n : Nat) : Prop := n < (ticketsOf t lane).low ∨ n ∈ (ticketsOf t lane).passed

end Sys2Proof.Claims

/-- R266, R268, R270: a change completes at its completion tick. The newer version becomes the older one; the old value goes to
the version store while an invocation admitted before it runs; with the store full the completion waits outside a pair, and in a pair goes
ahead with event 0x1405; a queued change follows; a removed station gives its place up. -/
def Obligations.ChangesComplete : Prop :=
  ∀ (tbl key : Nat) (s : State) (c : Change) (v : Ver), changeOf s ⟨tbl, key⟩ = some c → verOf s ⟨tbl, key⟩ = v →
    (c.applied = false ∨ s.clk.tick < c.done → Completes (.changeComplete tbl key) s fun t => t = s) ∧
    (c.applied = true → c.done ≤ s.clk.tick → tbl ∈ [2, 3, 4, 5, 10, 11] → c.linked = false →
      (runningBefore s v.eff = false → Completes (.changeComplete tbl key) s fun t =>
        Claims.ChangeOver s t ⟨tbl, key⟩ v c s.tbl.vstore ∧ SameBut [.tbl, .buf] s t) ∧
      (runningBefore s v.eff = true →
        (vstoreUsed s < 65536 → Completes (.changeComplete tbl key) s fun t =>
          Claims.ChangeOver s t ⟨tbl, key⟩ v c (s.tbl.vstore ++ [⟨⟨tbl, key⟩, v.old, v.eff⟩]) ∧ SameBut [.tbl, .buf] s t) ∧
        (65536 ≤ vstoreUsed s → inPair s = false → Completes (.changeComplete tbl key) s fun t => t = s) ∧
        (65536 ≤ vstoreUsed s → inPair s = true → Completes (.changeComplete tbl key) s fun t =>
          verOf t ⟨tbl, key⟩ = { v with old := v.new } ∧ t.tbl.vstore = s.tbl.vstore ∧ regBit t .TBL_EVENT 0 4 = true) ∧
        (vstoreUsed (freeVersions s) < 65536 → Completes (.versionStoreWait tbl key) s fun t =>
          Claims.ChangeOver s t ⟨tbl, key⟩ v c
            ((s.tbl.vstore.filter fun r => runningBefore s r.eff) ++ [⟨⟨tbl, key⟩, v.old, v.eff⟩]) ∧ SameBut [.tbl, .buf] s t))) ∧
    ∀ i, c.applied = true → c.done ≤ s.clk.tick → tbl = 0 → v.new.testBit 63 = false → stationAt s key = some i →
      runningBefore s v.eff = false → Completes (.changeComplete tbl key) s fun t =>
        t.tbl.stations = FMap.erase s.tbl.stations i ∧ t.tbl.vstore = s.tbl.vstore ∧ SameBut [.tbl] s t

/-- R295 to R299: ember records. A scheduled publish becomes the published version at its effect tick, for every admission
from then on, the version before it stays, and cached published copies of the record go; in solo operation it waits while the version
store has no room for the version that it displaces; a host publish completes its
command; a host write of a half, and a read of the private half, take effect at their own place in the lane's order, which
then passes. -/
def Obligations.EmberRecords : Prop :=
  (∀ (r : Fin 1048576) (s : State) (e : Nat) (v : List Byte) (x : Ember), emberOf s r.val = x → e ≤ s.clk.tick →
    (x.sched = some (e, v) → x.hostSched = [] → pubFits r.val e v s = false → Completes (.publishApply r) s fun t =>
      emberOf t r.val = { x with sched := some (s.clk.tick + 1, v) } ∧ (∀ q, q ≠ r.val → emberOf t q = emberOf s q) ∧
        SameBut [.tbl] s t) ∧
    (vstoreUsed s < 65536 → ∀ c, x.sched = some (e, v) ∧ x.hostSched = [] ∧ c = none ∨ x.sched = none ∧ x.hostSched = [(e, v, c)] →
      Completes (.publishApply r) s fun t => (∀ a, e ≤ a → pubAt (emberOf t r.val) a = (e, v)) ∧
        (emberOf t r.val).pubs.take 2 = ((e, v) :: x.pubs).take 2 ∧ (emberOf t r.val).lastPub = some e ∧
        (emberOf t r.val).sched = none ∧ (emberOf t r.val).hostSched = [] ∧ (emberOf t r.val).priv = x.priv ∧
        (emberOf t r.val).staging = x.staging ∧ (∀ q, q ≠ r.val → emberOf t q = emberOf s q) ∧
        t.tbl.cached = (s.tbl.cached.filter fun y => decide (y.2.1 ≠ 2 ^ 20 + r.val)) ∧
        Claims.AnswersTo s t c 0 (if isSafe s then 0 else e) (leBytes 4 r.val))) ∧
  (∀ (r : Fin 1048576) (s : State), (∀ e v, (emberOf s r.val).sched = some (e, v) → s.clk.tick < e) →
    (∀ h, h ∈ (emberOf s r.val).hostSched → s.clk.tick < h.1) →
    Completes (.publishApply r) s fun t => (∀ q, emberOf t q = emberOf s q) ∧ SameBut [.tbl] s t) ∧
  ∀ (l : Fin 262144) (s : State),
    (laneOpReady s l.val = none → (Completes (.emberHostWrite l) s fun t => t = s) ∧ Completes (.privateHalfRead l) s fun t => t = s) ∧
    ∀ o, laneOpReady s l.val = some o →
      (∀ toPriv v, o.write = some (toPriv, v) → Completes (.emberHostWrite l) s fun t =>
        emberOf t o.record = (if toPriv then { emberOf s o.record with priv := v } else { emberOf s o.record with staging := v }) ∧
        (∀ q, q ≠ o.record → emberOf t q = emberOf s q) ∧ t.tbl.laneOps = s.tbl.laneOps.erase o ∧
        Claims.TurnPassed t l.val o.ticket ∧ Claims.AnswersTo s t o.cmd 0 o.tick (leBytes 4 o.record) ∧
        SameBut [.regs, .hob, .tbl, .host] s t) ∧
      (o.write = none → ∀ bs, bs = halfRead o.record o.homeKey (emberOf s o.record).priv → Completes (.privateHalfRead l) s fun t =>
        t.tbl = { s.tbl with laneOps := s.tbl.laneOps.erase o, cached := t.tbl.cached, cacheFree := t.tbl.cacheFree } ∧ Claims.TurnPassed t l.val o.ticket ∧
        Claims.AnswersTo s t o.cmd 0 o.tick (leBytes 4 bs.length) ∧
        (Claims.CplReady s → o.bufAddr + bs.length ≤ Claims.cplAt s ∨ Claims.cplAt s + 32 ≤ o.bufAddr →
          FMap.bytes 0 t.host.hostMem o.bufAddr bs.length = bs) ∧ SameBut [.regs, .hob, .tbl, .host] s t)

/-- R324, R328, R330: TCAM transactions, repair and spares. At its effect tick a committed transaction's slot becomes the slot
in force, for the admissions from then on, with event 0x1502; once no older invocation runs and the retirement delay has
passed it is idle, the other slot has no members, event 0x1503; the entry of rows repaired after their mismatches answers again, a row that does
not yet compare good is repaired again; a failed
firebrick's position is filled by its spare from the move's tick on. -/
def Obligations.TcamTransactions : Prop :=
  ∀ (s : State),
    (s.tcam.txn = .committed → s.tcam.txnE ≤ s.clk.tick → s.tcam.slot ≤ 1 → Completes .tcamTxnApply s fun t =>
      t.tcam = { s.tcam with slot := 1 - s.tcam.slot, txn := .completing } ∧ (∀ a, a < s.tcam.txnE → slotAt t a = s.tcam.slot) ∧
      (∀ a, s.tcam.txnE ≤ a → slotAt t a = 1 - s.tcam.slot) ∧ regBit t .TCAM_EVENT 0 1 = true ∧ SameBut [.regs, .tcam, .host] s t) ∧
    (s.tcam.txn ≠ .committed ∨ s.clk.tick < s.tcam.txnE → Completes .tcamTxnApply s fun t => t = s) ∧
    (s.tcam.txn = .completing → s.tcam.txnE + retDelay s ≤ s.clk.tick → runningBefore s s.tcam.txnE = false → s.tcam.slot ≤ 1 →
      Completes .tcamTxnIdle s fun t => t.tcam.txn = .idle ∧ t.tcam.slot = s.tcam.slot ∧
        (∀ i, memberOf (tcamEntry t i) (1 - s.tcam.slot) = false ∧
          memberOf (tcamEntry t i) s.tcam.slot = memberOf (tcamEntry s i) s.tcam.slot) ∧
        (∀ i, i < 16 → courseVal t s.tcam.slot i = courseVal s s.tcam.slot i ∧ courseVal t (1 - s.tcam.slot) i = 0) ∧
        regBit t .TCAM_EVENT 0 2 = true ∧ SameBut [.regs, .tcam, .host] s t) ∧
    (s.tcam.txn ≠ .completing ∨ s.clk.tick < s.tcam.txnE + retDelay s ∨ runningBefore s s.tcam.txnE = true →
      Completes .tcamTxnIdle s fun t => t = s) ∧
    (∀ fb r k i l, s.tcam.repair = (fb, r, k, i) :: l →
      (k < s.clk.tick → Completes (.tcamScrubRepair true) s fun t => t.tcam = { s.tcam with repair := l, suppressed := t.tcam.suppressed } ∧
        ((∃ y, y ∈ l ∧ y.2.2.2 = i) → t.tcam.suppressed = s.tcam.suppressed) ∧
        ((∀ y, y ∈ l → y.2.2.2 ≠ i) → t.tcam.suppressed = s.tcam.suppressed.filter fun y => decide (y ≠ i)) ∧ SameBut [.tcam] s t) ∧
      (k < s.clk.tick → Completes (.tcamScrubRepair false) s fun t => t.tcam = { s.tcam with repair := l ++ [(fb, r, k, i)] } ∧
        SameBut [.tcam] s t) ∧
      ∀ g, s.clk.tick ≤ k → Completes (.tcamScrubRepair g) s fun t => t = s) ∧
    (∀ g, s.tcam.repair = [] → Completes (.tcamScrubRepair g) s fun t => t = s) ∧
    ∀ (p : Fin 240),
      (∀ f e r, s.tcam.moves = (p.val, f, e) :: r → e ≤ s.clk.tick → Completes (.brickPositionMove p) s fun t =>
        brickAt t p.val = f ∧ (∀ q, q ≠ p.val → brickAt t q = brickAt s q) ∧
        t.tcam = { s.tcam with posMap := t.tcam.posMap, moves := t.tcam.moves } ∧ (p.val, f, e) ∉ t.tcam.moves ∧
        SameBut [.tcam] s t) ∧
      ((∀ m, m ∈ s.tcam.moves → m.1 = p.val → s.clk.tick < m.2.2) → Completes (.brickPositionMove p) s fun t => t = s)

/-! ### The buffer pool and egress (chapters 10 and 11) -/

namespace Sys2Proof.Claims

/-- The cells of a run list, in order. -/
def cellsIn (r : List (Nat × Nat)) : List Nat := r.flatMap fun x => (List.range x.2).map (x.1 + ·)

/-- The free cells of a slice, the cache first and then the ring. -/
def freeIn (s : State) (i : Nat) : List Nat := cellsIn (sliceOf s i).cache ++ cellsIn (sliceOf s i).ring

end Sys2Proof.Claims

/-- R338 to R340, R358, R365, R366, R537: cells, residue and bank fetches. A returned cell goes to the end of its slice's cache,
from which 256 entries have gone to the ring where it was full, once; returned twice it is counted and reported, and a cell whose link word is bad is retired; a refill moves the first 256
cells of the ring to the cache, a spill the first 256 of the cache to the ring, in order; a residue copy is linked at a retry
that finds its queue ready, and ends at its time-out, or when its port is down, with event 0x1609; the oldest fetch still off die arrives. -/
def Obligations.BufferCells : Prop :=
  (∀ (c : Fin 524288) (s : State) (i : Nat), i = c.val / 32768 →
    (cellAlloc s c.val = true → Completes (.cellReturn c false) s fun t => cellAlloc t c.val = false ∧
      (runLen (sliceOf s i).cache < 1024 → sliceOf t i = { sliceOf s i with cache := runAdd (sliceOf s i).cache c.val } ∧
        Claims.cellsIn (sliceOf t i).cache = Claims.cellsIn (sliceOf s i).cache ++ [c.val]) ∧
      (1024 ≤ runLen (sliceOf s i).cache →
        Claims.cellsIn (sliceOf t i).cache = (Claims.cellsIn (sliceOf s i).cache).drop 256 ++ [c.val] ∧
        Claims.cellsIn (sliceOf t i).ring = Claims.cellsIn (sliceOf s i).ring ++ (Claims.cellsIn (sliceOf s i).cache).take 256) ∧
      (∀ j, j ≠ i → sliceOf t j = sliceOf s j) ∧ (∀ d, d ≠ c.val → cellAlloc t d = cellAlloc s d) ∧ SameBut [.buf] s t) ∧
    (cellAlloc s c.val = false → Completes (.cellReturn c false) s fun t => (∀ d, cellAlloc t d = cellAlloc s d) ∧
      (∀ j, sliceOf t j = sliceOf s j) ∧ regFld t .BUF_DOUBLE_FREE_CNT 0 15 0 =
        min (regFld s .BUF_DOUBLE_FREE_CNT 0 15 0 + 1) 65535 ∧
      regBit t .BUF_EVENT 0 3 = true ∧ (inPair s = true → t.twin.fault.isSome = true)) ∧
    Completes (.cellReturn c true) s fun t => cellAlloc t c.val = false ∧
      sliceOf t i = { sliceOf s i with retired := (sliceOf s i).retired + 1 } ∧ (∀ j, j ≠ i → sliceOf t j = sliceOf s j) ∧
      regBit t .BUF_EVENT 0 3 = true ∧ regBit t .BIST_EVENT 0 3 = true) ∧
  (∀ (i : Fin 16) (s : State),
    (runLen (sliceOf s i.val).cache < 256 → 0 < runLen (sliceOf s i.val).ring → Completes (.ashRefill i) s fun t =>
      Claims.cellsIn (sliceOf t i.val).cache =
        Claims.cellsIn (sliceOf s i.val).cache ++ (Claims.cellsIn (sliceOf s i.val).ring).take 256 ∧
      Claims.cellsIn (sliceOf t i.val).ring = (Claims.cellsIn (sliceOf s i.val).ring).drop 256 ∧
      Claims.freeIn t i.val = Claims.freeIn s i.val ∧ (∀ j, j ≠ i.val → sliceOf t j = sliceOf s j) ∧ SameBut [.buf] s t) ∧
    (256 ≤ runLen (sliceOf s i.val).cache ∨ runLen (sliceOf s i.val).ring = 0 → Completes (.ashRefill i) s fun t => t = s) ∧
    (768 < runLen (sliceOf s i.val).cache → Completes (.ashSpill i) s fun t =>
      Claims.cellsIn (sliceOf t i.val).cache = (Claims.cellsIn (sliceOf s i.val).cache).drop 256 ∧
      Claims.cellsIn (sliceOf t i.val).ring =
        Claims.cellsIn (sliceOf s i.val).ring ++ (Claims.cellsIn (sliceOf s i.val).cache).take 256 ∧
      (∀ j, j ≠ i.val → sliceOf t j = sliceOf s j) ∧ SameBut [.buf] s t) ∧
    (runLen (sliceOf s i.val).cache ≤ 768 → Completes (.ashSpill i) s fun t => t = s)) ∧
  (∀ (s : State) (r : Residue), s.buf.residue = [r] →
    (r.entered < s.clk.tick → (s.clk.tick - r.entered) % 16 = 0 → (portOf s (r.queue / 8)).flushed = false →
      mcReady s r.queue r.cells false = true → Completes .residueRetry s fun t => t.buf.residue = [] ∧
        (∃ c : Copy, (queueOf t r.queue).copies = (queueOf s r.queue).copies ++ [c] ∧ c.frame = r.frame ∧ c.cells = r.cells ∧
          c.kind = .mcast r.group) ∧
        (queueOf t r.queue).depth = (queueOf s r.queue).depth + r.cells ∧ t.buf.replBudget = s.buf.replBudget - 1 ∧
        ∀ q, q ≠ r.queue → queueOf t q = queueOf s q) ∧
    (s.clk.tick ≤ r.entered ∨ (s.clk.tick - r.entered) % 16 ≠ 0 ∨
      (portOf s (r.queue / 8)).flushed = false ∧ mcReady s r.queue r.cells false = false →
      Completes .residueRetry s fun t => t = s) ∧
    (r.entered + r.rt ≤ s.clk.tick ∨ (portOf s (r.queue / 8)).up = false → Completes .residueTimeout s fun t => t.buf.residue = [] ∧ regBit t .BUF_EVENT 0 8 = true ∧
      (∀ x, storedOf s r.frame = some x → 1 < x.refs → storedOf t r.frame =
        some { x with refs := x.refs - 1, copies := x.copies - 1 })) ∧
    (s.clk.tick < r.entered + r.rt → (portOf s (r.queue / 8)).up = true → Completes .residueTimeout s fun t => t = s)) ∧
  ∀ (q : Fin 16384) (s : State),
    (∀ l1 f l2, (portOf s (q.val / 8)).tx = l1 ++ f :: l2 → (∀ g, g ∈ l1 → g.offDie = false ∨ g.queue ≠ q.val % 8) →
      f.offDie = true → f.queue = q.val % 8 → Completes (.bankFetchArrive q) s fun t =>
        portOf t (q.val / 8) = { portOf s (q.val / 8) with tx := l1 ++ { f with offDie := false } :: l2 } ∧
        (∀ p, p ≠ q.val / 8 → portOf t p = portOf s p) ∧ SameBut [.ports] s t) ∧
    ((∀ g, g ∈ (portOf s (q.val / 8)).tx → g.offDie = false ∨ g.queue ≠ q.val % 8) → ∀ l1 c l2,
      (queueOf s q.val).copies = l1 ++ c :: l2 → (∀ d, d ∈ l1 → d.offDie = false) → c.offDie = true →
      Completes (.bankFetchArrive q) s fun t =>
        queueOf t q.val = { queueOf s q.val with copies := l1 ++ { c with offDie := false } :: l2 } ∧
        (∀ u, u ≠ q.val → queueOf t u = queueOf s u) ∧ SameBut [.buf] s t)

/-- R383, R389, R395, R470, R473: what egress does on its own. A meter write takes effect, both buckets full, once the retirement delay
has passed and no earlier frame is unretired, in the safe hearth state at once; its command completes then, and a write that waited
behind it becomes the incomplete one; the mirror MAC takes the head copy of the next session's queue whose slot is empty;
at the end of an interval each meter's energy is added up, shared out by weight, and what is left over, with no weights all of
it, goes to class 15, so that nothing is lost. -/
def Obligations.EgressEffects : Prop :=
  (∀ (m : Fin 262144) (s : State) (e ord d0 d1 d2 : Nat), (meterOf s m.val).pendE = some e →
    (meterOf s m.val).writes = [(ord, d0, d1, d2)] →
    (isSafe s = true ∧ e ≤ s.clk.tick ∨ e + retDelay s ≤ s.clk.tick ∧ (∀ f, f ∈ s.hob.flight → f.adm < e → f.retired = true) →
      ∀ y : Meter, y =
        { cir := fld d0 27 0, mode := d0.testBit 28, valid := d0.testBit 63, pir := fld d1 27 0, cbs := fld d2 23 0,
          ebs := fld d2 47 24, tc := fld d2 23 0 * 65536, te := fld d2 47 24 * 65536, last := s.clk.tick } →
      Completes (.meterWriteEffect m) s fun t =>
        ((meterOf s m.val).queued = [] → meterOf t m.val = y) ∧
        (∀ x o a b c, (meterOf s m.val).queued = [(x, o, a, b, c)] →
          meterOf t m.val = { y with pendE := some (max s.clk.tick x), writes := [(o, a, b, c)] }) ∧
        (∀ n, n ≠ m.val → meterOf t n = meterOf s n) ∧ SameBut [.writes, .egr, .twin, .host] s t ∧
        ((∀ w, w ∈ s.writes → hostOrd w ≠ ord) → SameBut [.egr] s t) ∧
        ∀ w, s.writes.find? (fun x => decide (hostOrd x = ord)) = some w →
          t.writes = s.writes.filter (fun x => decide (hostOrd x ≠ ord)) ∧
          Claims.AnswersTo s t w.cmd 0 (if isSafe s then 0 else e) (leBytes 4 m.val)) ∧
    (¬(isSafe s = true ∧ e ≤ s.clk.tick ∨ e + retDelay s ≤ s.clk.tick ∧ ∀ f, f ∈ s.hob.flight → f.adm < e → f.retired = true) →
      Completes (.meterWriteEffect m) s fun t => t = s)) ∧
  (∀ (s : State) (m : Nat) (c : Copy) (r : List Copy), m < 16 → s.egr.mirNext = m → (queueOf s (mqOf m)).copies = c :: r →
    (schedOf s (mirDest s m)).mirSlot = none → (∀ k, k < 16 → k ≠ m → (queueOf s (mqOf k)).copies = []) →
    Completes .mirrorMacTake s fun t => (schedOf t (mirDest s m)).mirSlot = some c ∧
      queueOf t (mqOf m) = { queueOf s (mqOf m) with copies := r } ∧ (∀ q, q ≠ mqOf m → queueOf t q = queueOf s q) ∧
      (∀ p, p ≠ mirDest s m → schedOf t p = schedOf s p) ∧ t.egr.mirNext = (m + 1) % 16 ∧ SameBut [.buf, .egr] s t) ∧
  (∀ (s : State), (∀ m, m < 16 → (queueOf s (mqOf m)).copies = [] ∨ (schedOf s (mirDest s m)).mirSlot.isSome = true) →
    Completes .mirrorMacTake s fun t => t = s) ∧
  (∀ (nj : List Nat) (s : State),
    (s.clk.tick % 65536 = 0 → Completes (.energyInterval nj) s fun t =>
      (∀ d, d < 25 → FMap.get 0 t.pwr.energy d = (FMap.get 0 s.pwr.energy d + nj.getD d 0) % 2 ^ 64) ∧
      t.egr.bytesMoved = [] ∧ t.egr.activeTicks = [] ∧ t.egr.cyclesRun = [] ∧
      (enabledPorts s = [] → s.egr.cyclesRun = [] → s.egr.ctrPend = [] → ∀ d, d < 25 →
        (pairOf t (fixedKey 15 d)).1 = ((pairOf s (fixedKey 15 d)).1 + nj.getD d 0) % 2 ^ 64) ∧ SameBut [.egr, .pwr] s t) ∧
    (s.clk.tick % 65536 ≠ 0 → Completes (.energyInterval nj) s fun t => t = s)) ∧
  ∀ (e total : Nat) (ws : List (Nat × Nat)), total = (ws.map (·.2)).sum → 0 < total →
    (divideEnergy e ws).1 = ws.map (fun w => (w.1, e * w.2 / total)) ∧
    ((divideEnergy e ws).1.map (·.2)).sum + (divideEnergy e ws).2 = e

/-! ### The twins: pairing, faults, resynchronisation (chapter 12) -/

namespace Sys2Proof.Claims

/-- A flue message of the type, its tick and its body, left. -/
def Told (s t : State) (type tick : Nat) (body : List Byte) : Prop := t.out = (flueSend type 0 tick body s).out

/-- Pairing is refused with reason `r`: event 0x1802, and the next try follows after 1 s (R406, Table TWIN-4). -/
def PairRefused (s t : State) (r : Nat) : Prop :=
  t.twin.lastRefusal = r ∧ t.twin.pair.started = none ∧ t.twin.pair.hello = [] ∧ t.twin.pair.passed = false ∧
  t.twin.pair.retryAt = some (s.clk.tick + 19531250) ∧ t.twin.st = (if s.twin.st = .pairing then .solo else s.twin.st) ∧
  t.twin.flueVer = 0 ∧ t.twin.feature = 2 ∧ regBit t .TWIN_EVENT 0 1 = true

/-- The twin has stopped its frame path and is DIVERGED (R410, R424). -/
def Diverged (t : State) : Prop := t.twin.st = .diverged ∧ t.clk.forwarding = false

/-- The twin is in a pair formed at this tick: ACTIVE by its accepted level, by `first` when both levels are equal (R413); the partner
is in the other state. -/
def PairFormed (s t : State) (first : Bool) : Prop :=
  t.twin.st = (if (if s.twin.role = partnerLevel s then first else s.twin.role) then .active else .standby) ∧
  t.twin.partnerState = (if t.twin.st = .active then 5 else 4) ∧ t.twin.pairSince = s.clk.tick ∧ t.twin.absent = false ∧
  t.twin.source = false ∧ t.twin.fault = none ∧ t.twin.partnerFault = none ∧ t.twin.bySilence = false ∧
  (s.twin.role = partnerLevel s → regBit t .TWIN_EVENT 0 9 = true)

end Sys2Proof.Claims

/-- R404 to R410, R413: pairing. In SOLO and PAIRING a HELLO begins the twin's own try if none is under way and is answered with
CONFIRM (of zeros without a key, log entry 166), or with a refusal for the same side or a foreign version; a CONFIRM whose tag is
right, when neither twin finds a reason of Table TWIN-4, makes pairing pass and sets the session key, and else the first reason of
both refuses; a try ends after 100 ms; the joiner learns the next pulse's count and adopts it at that pulse, and what its lanes
and ports remember of ticks moves with it (log entry 169); the pair forms at the cold start's tick. -/
def Obligations.TwinPairing : Prop :=
  ∀ (s : State) (p : Pairing), s.twin.pair = p →
    (∀ (body nonce : List Byte), mayPair s = true → body.length = 176 → s.twin.st = .solo ∨ s.twin.st = .pairing →
      (helloFlag body 0 = s.twin.side → Completes (.hello body nonce) s fun t => Claims.PairRefused s t 1) ∧
      (helloFlag body 0 ≠ s.twin.side → min 2 (leAt body 1 1) < max 1 (leAt body 0 1) →
        Completes (.hello body nonce) s fun t => Claims.PairRefused s t 2) ∧
      (helloFlag body 0 ≠ s.twin.side → max 1 (leAt body 0 1) ≤ min 2 (leAt body 1 1) →
        Completes (.hello body nonce) s fun t => t.twin.pair.hello = body ∧ t.twin.source = false ∧
          t.twin.st = (if s.twin.st = .solo ∧ s.clk.forwarding = true then .solo else .pairing) ∧
          (p.started.isSome = true → p.hello = [] → t.twin.pair = { p with hello := body } ∧
            (pairKey s = none → Claims.Told s t 0x02 s.clk.tick (List.replicate 16 0)) ∧
            ∀ k, pairKey s = some k → Claims.Told s t 0x02 s.clk.tick (gcmTag k (slice p.nonce 0 12) (bothHellos t) [])) ∧
          (p.started = none ∨ p.hello ≠ [] → t.twin.pair.started = some s.clk.tick ∧ t.twin.pair.nonce = slice nonce 0 32 ∧
            t.twin.pair.sentHello = helloBody s nonce))) ∧
    (∀ body nonce, mayPair s = false ∨ body.length ≠ 176 ∨ s.twin.st ≠ .solo ∧ s.twin.st ≠ .pairing →
      Completes (.hello body nonce) s fun t => t = s) ∧
    (∀ tag theirs, p.hello ≠ [] → p.passed = false →
      (pairKey s = none → Completes (.confirm tag theirs) s fun t => Claims.PairRefused s t 3) ∧
      ∀ k own, pairKey s = some k →
        own = (if gcmTag k (slice p.hello 128 12) (bothHellos s) [] = tag then (refusalAfterAuth s).getD 0 else 3) →
        (own ≠ 0 ∨ theirs ≠ 0 → Completes (.confirm tag theirs) s fun t =>
          Claims.PairRefused s t (if own = 0 then theirs else if theirs = 0 then own else min own theirs)) ∧
        (own = 0 → theirs = 0 → Completes (.confirm tag theirs) s fun t => t.twin.pair.passed = true ∧
            t.twin.pair.master = masterOver p.sentHello p.hello ∧ t.twin.flueVer = min 2 (leAt p.hello 1 1) ∧
            t.twin.feature = min 2 (leAt p.hello 2 1) ∧ t.twin.partnerRole = helloFlag p.hello 2 ∧ t.twin.txCounter = 0 ∧
            t.twin.rxCounter = none ∧ t.twin.pair.ks = slice (sha384 (k ++ slice (bothHellos s) 128 32 ++ slice (bothHellos s) 304 32
              ++ [0x66, 0x6C, 0x75, 0x65, 0x20, 0x73, 0x65, 0x73, 0x73, 0x69, 0x6F, 0x6E])) 0 32 ∧ SameBut [.twin] s t)) ∧
    (∀ tag theirs, p.hello = [] ∨ p.passed = true → Completes (.confirm tag theirs) s fun t => t = s) ∧
    (∀ k, p.started = some k → (k + 1953125 ≤ s.clk.tick → Completes .pairingTimeout s fun t => Claims.PairRefused s t 12) ∧
      (s.clk.tick < k + 1953125 → Completes .pairingTimeout s fun t => t = s)) ∧
    (∀ k nonce, p.retryAt = some k → mayPair s = true → s.twin.st = .solo → s.twin.source = false →
      (k ≤ s.clk.tick → Completes (.pairingRetry nonce) s fun t => t.twin.pair.started = some s.clk.tick ∧
        t.twin.pair.nonce = slice nonce 0 32 ∧ t.twin.pair.sentHello = helloBody s nonce ∧ t.twin.pair.hello = [] ∧
        t.twin.pair.retryAt = none ∧ Claims.Told s t 0x01 s.clk.tick (helloBody s nonce) ∧ SameBut [.twin, .out] s t) ∧
      (s.clk.tick < k → Completes (.pairingRetry nonce) s fun t => t = s)) ∧
    (p.passed = true → p.master = false → p.synced = false →
      (∀ n, Completes (.tickSync n) s fun t => t.twin.pair = { p with syncTick := some n } ∧ SameBut [.twin] s t) ∧
      ∀ n, p.syncTick = some n →
        (isCold p.sentHello p.hello = true → Completes .tsyncPulse s fun t => t.clk = { s.clk with tick := n } ∧
          t.twin.pair = { p with synced := true, started := none, coldAt := some (n + 1024) } ∧ t.twin.st = s.twin.st ∧
          t.twin.heard = n ∧ t.twin.stSince = n ∧ t.adm.arrived = [] ∧
          SameBut [.clk, .tick, .lanes, .ports, .adm, .buf, .egr, .twin, .host] s t) ∧
        (isCold p.sentHello p.hello = false → Completes .tsyncPulse s fun t => t.clk.tick = n ∧ t.clk.forwarding = false ∧
          t.twin.st = .syncing ∧ t.writes = [] ∧ t.adm.arrived = [] ∧ t.hob.flight = [])) ∧
    (p.passed = false ∨ p.master = true ∨ p.synced = true → (∀ n, Completes (.tickSync n) s fun t => t = s) ∧
      Completes .tsyncPulse s fun t => t = s) ∧
    (∀ c, p.coldAt = some c → s.twin.st = .pairing → p.master = true ∨ p.synced = true →
      (c ≤ s.clk.tick → Completes .coldStart s fun t => Claims.PairFormed s t (!s.twin.side) ∧ t.twin.pair.coldAt = none ∧
        (isSafe t = false → t.pwr.thermtrip = false → t.clk.forwarding = true)) ∧
      (s.clk.tick < c → Completes .coldStart s fun t => t = s)) ∧
    ∀ (g : Fin 2) (lock : Bool),
      (s.twin.groups.testBit g.val ≠ lock → Completes (.flueLinkChange g lock) s fun t =>
        (∀ i, t.twin.groups.testBit i = if i = g.val then lock else s.twin.groups.testBit i) ∧
        (s.twin.groups = 0 → p.started = none → t.twin.pair.retryAt = some s.clk.tick) ∧ regBit t .TWIN_EVENT 0 2 = true ∧
        SameBut [.regs, .twin, .host] s t) ∧
      (s.twin.groups.testBit g.val = lock → Completes (.flueLinkChange g lock) s fun t => t = s)

/-- R401, R411, R412, R414 to R416, R420 to R422, R425, R87, R112: what the twins tell each other, and losing the partner. A
message heard, a digest that differs or is missing, a detection, a flue frame taken or discarded; silence for more than 4
ticks or a FAULT's tick makes the twin SOLO; its own demotion tick, or 50 µs unconfirmed after silence, makes it DIVERGED;
levels of TWIN_ROLE and swap requests keep their dwell. -/
def Obligations.TwinFaultsAndRoles : Prop :=
  ∀ (s : State),
    (∀ k, Claims.Near s k → Completes (.keepalive (k % 2 ^ 32)) s fun t => Claims.Heard s t k ∧ SameBut [.twin] s t) ∧
    (∀ k d cs st, Claims.Near s k → digesting s = false → Completes (.digest (k % 2 ^ 32) d cs st) s fun t =>
      t.twin = { s.twin with heard := max s.twin.heard (k + 1), partnerState := st } ∧ SameBut [.twin] s t) ∧
    (∀ k d cs st, Claims.Near s k → digesting s = true → (inPair s = true → s.twin.pairSince ≤ k) →
      (FMap.find? s.twin.digests k = none → Completes (.digest (k % 2 ^ 32) d cs st) s fun t =>
        FMap.get none t.twin.partnerDigests k = some d ∧ t.twin.digests = s.twin.digests ∧ t.twin.partnerState = st ∧
        SameBut [.twin] s t) ∧
      (FMap.find? s.twin.digests k = some d → Completes (.digest (k % 2 ^ 32) d cs st) s fun t =>
        FMap.find? t.twin.digests k = none ∧ t.twin.fault = s.twin.fault ∧ t.twin.partnerState = st ∧
        t.twin.goodDigests = (if s.twin.source then s.twin.goodDigests + 1 else 0) ∧ SameBut [.twin] s t) ∧
      ∀ a, FMap.find? s.twin.digests k = some a → a ≠ d →
        Completes (.digest (k % 2 ^ 32) d cs st) s fun t => FMap.find? t.twin.digests k = none ∧
          Claims.CountedOne .TWIN_DIGEST_MISMATCH_CNT s t ∧ regBit t .TWIN_EVENT 0 5 = true ∧
          t.twin.lastMismatch = some s.clk.tick ∧ t.twin.goodDigests = 0 ∧
          (s.twin.st = .warming ∨ s.twin.source = true → t.twin.failNow = some (s.twin.failNow.getD 4) ∧ t.twin.fault = s.twin.fault) ∧
          (s.twin.st ≠ .warming → s.twin.source = false → ∀ u, u = { s with twin := { s.twin with partnerState := st } } →
            (countsAsStandby u = true → s.twin.partnerFault = none → s.twin.fault = none →
              t.twin.fault = some (9, s.clk.tick, s.clk.tick + 5)) ∧ (countsAsStandby u = false → t.twin.fault = s.twin.fault))) ∧
    (∀ k a, s.twin.digests = [(k, a)] → inPair s = true → s.twin.pairSince ≤ k → s.twin.source = false →
      (k + 5 = s.clk.tick → Completes (.digestMissing k) s fun t => t.twin.digests = [] ∧
        Claims.CountedOne .TWIN_DIGEST_MISMATCH_CNT s t ∧ regBit t .TWIN_EVENT 0 5 = true) ∧
      (k + 5 ≠ s.clk.tick → Completes (.digestMissing k) s fun t => t = s)) ∧
    (∀ (p : Fin 2048) k, Claims.Near s k →
      (∀ up, Completes (.detect [{ port := p, kind := if up then 2 else 1, tick := k % 2 ^ 32 }]) s fun t =>
        portOf t p.val = { portOf s p.val with partnerAt := (portOf s p.val).partnerAt ++ [(k + admDelay s, up)] } ∧
        (∀ q, q ≠ p.val → portOf t q = portOf s q) ∧ SameBut [.ports, .twin] s t) ∧
      Completes (.detect [{ port := p, kind := 3, tick := k % 2 ^ 32 }]) s fun t =>
        portOf t p.val = { portOf s p.val with ctRaiseAt := (portOf s p.val).ctRaiseAt ++ [k + regFld s .TWIN_CFG 0 15 8] } ∧
        (∀ q, q ≠ p.val → portOf t q = portOf s q) ∧ SameBut [.ports, .twin] s t) ∧
    (∀ d c f x, Claims.Near s d → Completes (.faultMsg (d % 2 ^ 32) c f x) s fun t =>
      t.twin.partnerFault = (if inPair s then some (c, f, d) else s.twin.partnerFault) ∧
      t.twin.lastFaultMsg = leBytes 2 c ++ [0, 0] ++ leBytes 4 f ++ slice x 0 8 ∧ SameBut [.regs, .twin, .host] s t) ∧
    (inPair s = true →
      (((∃ c f d, s.twin.partnerFault = some (c, f, d) ∧ d ≤ s.clk.tick) ∨ s.twin.heard + 4 < s.clk.tick →
        Completes .partnerAbsent s fun t => t.twin.st = .solo ∧ t.twin.absent = true ∧ t.twin.soloBy411 = true ∧
          t.twin.soloSince = s.clk.tick ∧ t.clk = s.clk) ∧
      ((∀ c f d, s.twin.partnerFault = some (c, f, d) → s.clk.tick < d) →
        (s.clk.tick ≤ s.twin.heard + 4 → Completes .partnerAbsent s fun t => t = s) ∧
        (s.twin.heard + 4 < s.clk.tick → Completes .partnerAbsent s fun t =>
          t.twin.bySilence = (decide (s.twin.st = .standby) && !s.twin.role))))) ∧
    (s.twin.st = .solo → s.twin.bySilence = true →
      (s.twin.soloSince + 977 ≤ s.clk.tick → Completes .roleUnconfirmed s fun t => Claims.Diverged t ∧ t.twin.lastCause = 10) ∧
      (s.clk.tick < s.twin.soloSince + 977 → Completes .roleUnconfirmed s fun t => t = s)) ∧
    (s.twin.st ≠ .solo ∨ s.twin.bySilence = false → Completes .roleUnconfirmed s fun t => t = s) ∧
    (∀ c f d, s.twin.fault = some (c, f, d) → inPair s = true →
      (d ≤ s.clk.tick → Completes .demotion s fun t => Claims.Diverged t ∧ t.twin.fault = none) ∧
      (s.clk.tick < d → Completes .demotion s fun t => t = s)) ∧
    (∀ level, s.twin.roleNext.getD s.twin.role ≠ level →
      ((∀ k, s.twin.roleSince = some k → k + 195313 ≤ s.clk.tick ∨ s.twin.st = .solo ∧ s.twin.soloBy411 = true) →
        Completes (.twinRoleAccept level) s fun t =>
          t.twin = { s.twin with roleNext := some level, roleSince := some s.clk.tick } ∧ regBit t .TWIN_EVENT 0 7 = true ∧
          SameBut [.regs, .twin, .host] s t) ∧
      (∀ k, s.twin.roleSince = some k → s.clk.tick < k + 195313 → s.twin.st ≠ .solo ∨ s.twin.soloBy411 = false →
        Completes (.twinRoleAccept level) s fun t => t = s)) ∧
    (Completes .swapReq s fun t => t.twin.swapAsked = (s.twin.swapAsked || decide (s.twin.st = .standby)) ∧ SameBut [.twin] s t) ∧
    (s.twin.st = .standby → s.twin.swapReq = none → twinReady s = true → s.twin.partnerFault = none →
      (s.twin.swapAsked = true ∨ regFld s .TWIN_SWAP_CFG 0 21 0 ≠ 0 ∧ (∀ x, s.twin.swapNext = some x → x ≤ s.clk.tick) ∧
        s.twin.roleSince.getD s.twin.pairSince + regFld s .TWIN_SWAP_CFG 0 21 0 * 19531250 ≤ s.clk.tick) →
      (∀ m, s.twin.lastMismatch = some m → m + 19531250 ≤ s.clk.tick) → Completes .swapRequestRaise s fun t =>
        t.twin = { s.twin with swapReq := some s.clk.tick, swapAsked := false } ∧ regBit t .TWIN_EVENT 0 8 = true ∧
        SameBut [.regs, .twin, .host] s t) ∧
    (s.twin.st ≠ .standby ∨ s.twin.swapReq ≠ none → Completes .swapRequestRaise s fun t => t = s) ∧
    (∀ k, s.twin.swapReq = some k →
      (k + 1953125 ≤ s.clk.tick → Completes .swapRequestExpire s fun t => t.twin = { s.twin with
        swapReq := none, swapNext := some (s.clk.tick + regFld s .TWIN_SWAP_CFG 0 21 0 * 19531250 / 16) } ∧
        regBit t .TWIN_EVENT 0 8 = true ∧ SameBut [.regs, .twin, .host] s t) ∧
      (s.clk.tick < k + 1953125 → Completes .swapRequestExpire s fun t => t = s)) ∧
    ∀ (f c iv : List Byte) (n : Nat), n = leAt f 0 8 → c = (f.drop 8).take (f.length - 24) →
      iv = (if s.twin.side then s.twin.pair.saltA else s.twin.pair.saltB) ++ slice f 0 8 →
      (s.twin.pair.ks = [] → Completes (.flueFrameReceive f) s fun t => t = s) ∧
      (s.twin.pair.ks ≠ [] → gcmTag s.twin.pair.ks iv [] c ≠ f.drop (f.length - 16) ∨ f.length < 24 ∨ 1056 < f.length ∨
          (∃ x, s.twin.rxCounter = some x ∧ n ≤ x) → Completes (.flueFrameReceive f) s fun t =>
        Claims.CountedOne .TWIN_FLUE_AUTH_FAIL_CNT s t ∧ regBit t .TWIN_EVENT 0 10 = true ∧ t.twin.inbox = [] ∧
        t.twin.partial_ = [] ∧ t.twin.rxCounter = s.twin.rxCounter ∧ t.adm = { s.adm with flueLoss := s.adm.flueLoss + 1 } ∧
        SameBut [.regs, .adm, .twin, .host] s t) ∧
      ∀ x m, s.twin.rxCounter = some x → s.twin.pair.ks ≠ [] → gcmTag s.twin.pair.ks iv [] c = f.drop (f.length - 16) →
        24 ≤ f.length → f.length ≤ 1056 → x < n → flueParse (c.length / 8 + 1) (gcmCrypt s.twin.pair.ks iv c) = [m] →
        m.flags < 128 → s.twin.partial_ = [] → Completes (.flueFrameReceive f) s fun t => t.twin.rxCounter = some n ∧
          t.twin.inbox = [m] ∧ t.adm = { s.adm with flueLoss := s.adm.flueLoss + (n - x - 1) } ∧ SameBut [.adm, .twin] s t

/-- R407, R426 to R432: resynchronisation. A diverged twin begins an attempt; a joiner applies the records of the snapshot (a body
sent compressed once it is expanded, whose coding log entry 168 leaves free), in SYNCING and WARMING alone; lanes become clear; placeholders are linked at their link tick; at J it enters WARMING and
forwards, at W both twins form the pair; an attempt whose snapshot is late fails. -/
def Obligations.Resynchronisation : Prop :=
  ∀ (s : State),
    (∀ nonce, s.twin.st = .diverged → regBit s .TWIN_CFG 0 1 = true ∧ s.twin.fails < 4 ∨ s.twin.resyncCmd = true →
      mayPair s = true → s.clk.tick ≤ s.twin.heard + 4 →
      s.twin.stSince + ticksOfNs (regFld s .TWIN_CFG 0 23 16 * 100000000) ≤ s.clk.tick →
      Completes (.resyncStart nonce) s fun t => t.twin.st = .pairing ∧ t.twin.resyncCmd = false ∧
        t.twin.pair.started = some s.clk.tick ∧ t.twin.pair.sentHello = helloBody s nonce ∧ t.twin.pair.nonce = slice nonce 0 32 ∧
        Claims.Told s t 0x01 s.clk.tick (helloBody s nonce)) ∧
    (∀ nonce, s.twin.st ≠ .diverged → Completes (.resyncStart nonce) s fun t => t = s) ∧
    (∀ b c, ((∃ fl d, c = .snapData fl d ∧ b = (if 2 ≤ s.twin.flueVer ∧ fl.testBit 0 = true then Config.zeroRunExpand d else d)) ∨
        ∃ k, c = .snapLog k b) →
      (s.twin.st ≠ .syncing → s.twin.st ≠ .warming → Completes c s fun t => Claims.Heard s t (s.clk.tick - 1) ∧ SameBut [.twin] s t) ∧
      (s.twin.st = .syncing ∨ s.twin.st = .warming → ∀ i x, (∀ r, r = (⟨3, 14, i, x⟩ : ItemRec) → itemsOf (b.length / 8) b = [r] →
          Completes c s fun t => pairOf t i = (leAt x 0 8 % 2 ^ 64, leAt x 8 8 % 2 ^ 64) ∧
            (∀ k, k ≠ i → pairOf t k = pairOf s k)) ∧
        (∀ r, r = (⟨7, 0, i, x⟩ : ItemRec) → itemsOf (b.length / 8) b = [r] → Completes c s fun t =>
          ownerOf t i = ⟨leAt x 0 4, leAt x 4 4, leAt x 8 4, decide (leAt x 12 1 = 1)⟩ ∧ (∀ k, k ≠ i → ownerOf t k = ownerOf s k) ∧
          t.buf.sharedUsed = (t.buf.owners.map fun e => e.2.shUsed).sum) ∧
        (∀ r, r = (⟨10, 1, i, x⟩ : ItemRec) → itemsOf (b.length / 8) b = [r] → Completes c s fun t =>
          t.tbl = { s.tbl with evictX := leAt x 0 4 }) ∧
        ∀ r, 11 ≤ r.kind → itemsOf (b.length / 8) b = [r] → Completes c s fun t => SameBut [.buf, .twin] s t)) ∧
    (∀ b, Completes (.laneClear true b) s fun t => t.twin.clearAll = true ∧
      (∀ l, l ∈ t.twin.unclear ↔ l / 8 < b.length ∧ (byteAt b (l / 8)).getLsbD (l % 8) = false) ∧ SameBut [.twin] s t) ∧
    (∀ b, Completes (.laneClear false b) s fun t => t.twin.clearAll = s.twin.clearAll ∧
      (∀ l, l ∈ t.twin.unclear ↔ l ∈ s.twin.unclear ∧ l ≠ leAt b 0 4) ∧ SameBut [.twin] s t) ∧
    (∀ b k, Claims.Near s k →
      (s.twin.st ≠ .warming → s.twin.st ≠ .syncing → Completes (.placeholder (k % 2 ^ 32) b) s fun t => SameBut [.twin] s t ∧
        t.twin.placeWait = s.twin.placeWait) ∧
      (s.twin.st = .warming ∨ s.twin.st = .syncing →
        (s.clk.tick < k → Completes (.placeholder (k % 2 ^ 32) b) s fun t =>
          t.twin.placeWait = s.twin.placeWait ++ [(k, b)] ∧ SameBut [.twin] s t) ∧
        ∀ q, q = leAt b 0 4 → k ≤ s.clk.tick → (16384 ≤ q ∨ (queueOf s q).banked = 0 ∧ regBit s .BUF_QUEUE_CFG q 20 = false ∧
            (queueOf s q).depth + leAt b 4 2 ≤ queueMax s q) → Completes (.placeholder (k % 2 ^ 32) b) s fun t =>
          (queueOf t q).copies = (queueOf s q).copies ++ [phCopy b] ∧ (queueOf t q).depth = (queueOf s q).depth + leAt b 4 2 ∧
          (storedOf t (phFrame (leAt b 12 4))).isSome = true ∧ ∀ u, u ≠ q → queueOf t u = queueOf s u)) ∧
    (∀ j, (s.twin.st = .syncing → Completes (.snapEnd j) s fun t => t.twin.joinTick = some j ∧ t.twin.bulkSent = true ∧
        SameBut [.twin] s t) ∧
      (s.twin.st ≠ .syncing → Completes (.snapEnd j) s fun t => Claims.Heard s t (s.clk.tick - 1) ∧ SameBut [.twin] s t)) ∧
    (s.twin.bulkSent = false → s.twin.failNow = none →
      (∀ j, s.twin.source = true → s.twin.st = .solo → s.twin.joinTick = some j →
        (j ≤ s.clk.tick + 8 → Completes .snapLate s fun t => t.twin.source = false ∧ t.twin.st = .solo ∧ t.twin.lastResyncFail = 1 ∧
          t.twin.resyncFailed = (s.twin.resyncFailed + 1) % 65536 ∧ regBit t .TWIN_EVENT 0 6 = true ∧ t.clk = s.clk) ∧
        (s.clk.tick + 8 < j → Completes .snapLate s fun t => t = s)) ∧
      (s.twin.source = false → s.twin.st = .syncing →
        (s.twin.stSince + 2 ^ 20 ≤ s.clk.tick + 8 → Completes .snapLate s fun t => Claims.Diverged t ∧ t.twin.lastResyncFail = 1 ∧
          t.twin.fails = s.twin.fails + 1 ∧ regBit t .TWIN_EVENT 0 6 = true) ∧
        (s.clk.tick + 8 < s.twin.stSince + 2 ^ 20 → Completes .snapLate s fun t => t = s))) ∧
    (∀ j, s.twin.st = .syncing → s.twin.bulkSent = true → s.twin.joinTick = some j →
      (j ≤ s.clk.tick → Completes .join s fun t => t.twin.st = .warming ∧ t.twin.clearAll = false ∧
        (isSafe t = false → t.pwr.thermtrip = false → t.clk.forwarding = true)) ∧
      (s.clk.tick < j → Completes .join s fun t => t = s)) ∧
    (∀ w, Claims.Near s w → (s.twin.st = .warming → Completes (.warmDone (w % 2 ^ 32)) s fun t => t.twin.warmTick = some w ∧
        SameBut [.twin] s t) ∧
      (s.twin.st ≠ .warming → Completes (.warmDone (w % 2 ^ 32)) s fun t => t.twin.warmTick = s.twin.warmTick ∧ SameBut [.twin] s t)) ∧
    (∀ w, s.twin.warmTick = some w →
      (s.twin.st = .warming ∨ s.twin.source = true → w ≤ s.clk.tick → Completes .warm s fun t =>
        Claims.PairFormed s t (decide (s.twin.st ≠ .warming)) ∧ t.twin.fails = 0 ∧
        t.twin.resyncDone = (s.twin.resyncDone + 1) % 65536 ∧ regBit t .TWIN_EVENT 0 6 = true) ∧
      (s.clk.tick < w → Completes .warm s fun t => t = s)) ∧
    (s.twin.st = .warming → s.twin.warnedWarm = false →
      (s.twin.stSince + 19531250 ≤ s.clk.tick → Completes .stillWarming s fun t => t.twin = { s.twin with warnedWarm := true } ∧
        regBit t .TWIN_EVENT 0 6 = true ∧ SameBut [.regs, .twin, .host] s t) ∧
      (s.clk.tick < s.twin.stSince + 19531250 → Completes .stillWarming s fun t => t = s))

/-! ### The host interface (chapter 14) -/

namespace Sys2Proof.Claims

/-- The HOST block has been reset (R461): rings, version agreement and outstanding commands are gone, the commands run to their
end without a completion, registers of other blocks keep their values, and HOST_ERR.FLR is set. -/
def HostWasReset (s t : State) : Prop :=
  t.host.rings = [] ∧ t.host.version = 0 ∧ t.host.outstanding = [] ∧ t.host.cplWait = [] ∧ t.host.txDone = [] ∧
  t.writes = (s.writes.map fun w => { w with cmd := w.cmd.map fun c => { c with quiet := true } }) ∧
  (∀ a, blockOf a ≠ 11 → FMap.get none t.regs.vals a = FMap.get none s.regs.vals a) ∧ regBit t .HOST_ERR 0 3 = true ∧
  SameBut [.regs, .writes, .tbl, .host] s t

/-- A record of `n` bytes has been written to the device-filled ring `k` with PHASE in bit 0 of byte `ph` (R466, R467). -/
def RingTook (s t : State) (k ph n : Nat) (rec : List Byte) : Prop :=
  FMap.bytes 0 t.host.hostMem (ringBase s k + (ringOf s k).prod % ringSize s k * n) n =
    splice rec ph [byteAt rec ph &&& 0xFE ||| BitVec.ofNat 8 (b2n ((ringOf s k).made / ringSize s k % 2 = 0))] ∧
  (ringOf t k).prod = ((ringOf s k).prod + 1) % 65536 ∧ (ringOf t k).cons = (ringOf s k).cons ∧
  (∀ j, j ≠ k → ringOf t j = ringOf s j)

/-- One frame has come to the hearth sequencer on port 2,048 with apply tick `a` (R125, R480). -/
def Injected (s t : State) (a : Nat) (bytes : List Byte) : Prop :=
  ∃ r : Rx, t.adm.arrived = s.adm.arrived ++ [r] ∧ r.port = 2048 ∧ r.arrival = a ∧ r.bytes = bytes ∧
    r.cells.length = cellsOf bytes.length

end Sys2Proof.Claims

/-- R461, R466, R467, R488, R492: resets and rings. Function Level Reset, D3hot and PERST reset the HOST block; host software
moves PROD of its rings and CONS of the device's; enabling a ring clamps its size and starts a pass, disabling zeroes PROD and
CONS, and for MBX_CMD ends the version agreement; the size of a ring in use does not change. -/
def Obligations.HostResetsAndRings : Prop :=
  ∀ (s : State),
    (hostReaches s = true → Completes .functionLevelReset s fun t => Claims.HostWasReset s t ∧ t.host.pcie = s.host.pcie) ∧
    (hostReaches s = true → Completes .d3hotEntry s fun t => Claims.HostWasReset s t ∧ t.host.pcie = s.host.pcie) ∧
    (hostReaches s = true → Completes .pciePerst s fun t => Claims.HostWasReset s t ∧ t.host.pcie = 0) ∧
    (hostReaches s = false → ∀ c, c = .functionLevelReset ∨ c = .d3hotEntry ∨ c = .pciePerst → Completes c s fun t => t = s) ∧
    ∀ (k : Fin 259) (v : Word), hostReaches s = true →
      (ringByHost k.val = true → Completes (.hostRingProdWrite k v) s fun t =>
        ringOf t k.val = { ringOf s k.val with prod := wfld v 15 0 } ∧ (∀ j, j ≠ k.val → ringOf t j = ringOf s j) ∧
        SameBut [.host] s t) ∧
      (ringByHost k.val = false → Completes (.hostRingProdWrite k v) s fun t => t = s) ∧
      (ringByHost k.val = true → Completes (.hostRingConsWrite k v) s fun t => t = s) ∧
      (ringByHost k.val = false → Completes (.hostRingConsWrite k v) s fun t => (ringOf t k.val).cons = wfld v 15 0 ∧
        (k.val ≠ 1 → (FMap.get {} t.host.vectors (ringVector k.val)).armed = true ∧ t.host.hostMem = s.host.hostMem) ∧
        (∀ j, j ≠ k.val → ringOf t j = ringOf s j) ∧
        (∀ q rec, k.val = 1 → s.host.cplWait = [(q, rec)] → ringEnabled s 1 = true →
          ((ringOf s 1).prod + 65536 - wfld v 15 0) % 65536 < ringSize s 1 → t.host.cplWait = [] ∧
            (ringOf t 1).prod = ((ringOf s 1).prod + 1) % 65536) ∧ SameBut [.host] s t) ∧
      (ringEnabled s k.val = false → v.getLsbD 4 = true → s.host.cplWait = [] → s.host.held = [] →
        Completes (.ringCfgWrite k v) s fun t => ringEnabled t k.val = true ∧
          ringSize t k.val = 2 ^ min 12 (max 4 (wfld v 3 0)) ∧ ringOf t k.val = { ringOf s k.val with made := 0 } ∧
          t.host.nextSeq = (if k.val = 0 then 0 else s.host.nextSeq) ∧ SameBut [.regs, .host] s t) ∧
      (ringEnabled s k.val = true → v.getLsbD 4 = false → Completes (.ringCfgWrite k v) s fun t =>
        ringEnabled t k.val = false ∧ ringOf t k.val = {} ∧ ringSize t k.val = ringSize s k.val ∧
        t.host.version = (if k.val = 0 then 0 else s.host.version) ∧ SameBut [.regs, .host] s t) ∧
      (ringEnabled s k.val = true → v.getLsbD 4 = true → Completes (.ringCfgWrite k v) s fun t =>
        ringEnabled t k.val = true ∧ ringSize t k.val = ringSize s k.val ∧ t.host = s.host ∧ SameBut [.regs] s t)

/-- R360, R462, R477 to R481, R484, R485: injection and delivery. Descriptors are taken round robin; a frame that fails its checks
is counted and not injected, one in order comes to port 2,048 at its apply tick with its FCS; a completed descriptor's record is
written while the ring has room; the head of a host queue is taken into posted buffers with an agreed effect tick. -/
def Obligations.InjectionAndDelivery : Prop :=
  ∀ (s : State) (q : Fin 64),
    (∀ d, s.clk.forwarding = true → nextPair s = some q.val → Completes (.txDescriptorTake q d) s fun t =>
      t.host.lastPair = q.val ∧ t.host.nextDesc = s.host.nextDesc + 1 ∧
      t.host.txDone = s.host.txDone ++ [{ id := s.host.nextDesc, qp := q.val, cookie := d.cookie, desc := d }] ∧
      ringOf t (txRing q.val) = { ringOf s (txRing q.val) with cons := ((ringOf s (txRing q.val)).cons + 1) % 65536 } ∧
      SameBut [.host] s t) ∧
    (∀ d, s.clk.forwarding = false ∨ nextPair s ≠ some q.val → Completes (.txDescriptorTake q d) s fun t => t = s) ∧
    (∀ bs, txReading s q.val = none → Completes (.txFrameReadDone q bs) s fun t => t = s) ∧
    (∀ bs x, txReading s q.val = some x →
      (txOk s q.val bs x.desc = false → Completes (.txFrameReadDone q bs) s fun t => t.adm = s.adm ∧
        t.host.txDone = (s.host.txDone.map fun d => if d.id = x.id then { d with read := true, invalid := true } else d) ∧
        t.egr.ctrPend = s.egr.ctrPend ++ [(s.clk.tick + 1, fixedKey 2 drInjectInvalid, 1, bs.length + 4)] ∧
        SameBut [.regs, .egr, .host] s t) ∧
      (txOk s q.val bs x.desc = true → x.desc.flags = 0 → Claims.CellsFree s (cellsOf (bs.length + 4)) → 5 ≤ admDelay s →
        ∀ a, a = max (max (assignTick s) (s.clk.tick + pacingWait s.host.pacing)) s.host.lastApply →
        Completes (.txFrameReadDone q bs) s fun t => Claims.Injected s t a (bs ++ fcsBytes bs) ∧ t.host.lastApply = a ∧
          t.host.pacing = s.host.pacing - (bs.length + 24 : Nat) ∧
          t.host.txDone = s.host.txDone.map fun d =>
            if d.id = x.id then { d with read := true, left := 1, segmented := false, tsWait := false } else d)) ∧
    (∀ x, List.find? (fun d => decide (d.qp = q.val) && txComplete s d) s.host.txDone = some x → (txRecord x).length = 16 →
      (ringEnabled s (txcRing q.val) = true → ringFull s (txcRing q.val) = false → Completes (.txCompletionWrite q) s fun t =>
        Claims.RingTook s t (txcRing q.val) 4 16 (txRecord x) ∧
        t.host.txDone = (s.host.txDone.filter fun d => decide (d.id ≠ x.id)) ∧ SameBut [.host] s t) ∧
      (ringEnabled s (txcRing q.val) = false ∨ ringFull s (txcRing q.val) = true →
        Completes (.txCompletionWrite q) s fun t => t = s)) ∧
    (∀ k body n, Claims.Near s k → n = leAt body 2 2 → (slice body 24 n).length = n → Claims.CellsFree s (cellsOf n) →
      s.clk.tick + 5 ≤ k + admDelay s → Completes (.inject (k % 2 ^ 32) body) s fun t =>
        Claims.Injected s t k (slice body 24 n)) ∧
    (∀ bufs l1 c l2 len n e, (queueOf s (hqOf q.val)).copies = l1 ++ c :: l2 → (∀ x, x ∈ l1 → x.release.isSome = true) →
      c.release = none → c.from_ ≤ s.clk.tick → s.twin.st = .active ∨ s.twin.st = .solo →
      ringEnabled s (rxbRing q.val) = true → ringEnabled s (rxcRing q.val) = true → len = storedLen s c.frame →
      n = cdiv len (rxBufSize s q.val) → n ≤ ringUsed s (rxbRing q.val) → n ≤ bufs.length →
      ringUsed s (rxcRing q.val) + rxOwed s q.val < ringSize s (rxcRing q.val) → 0 < s.host.rxBudget →
      e = (if inPair s then assignTick s else s.clk.tick + 1) → Completes (.hostDmaTake q bufs) s fun t =>
        t.host.takes = s.host.takes ++ [(e, q.val, 1, bufs.take n)] ∧ t.host.rxBudget = s.host.rxBudget - len ∧
        (ringOf t (rxbRing q.val)).cons = ((ringOf s (rxbRing q.val)).cons + n) % 65536 ∧
        (queueOf t (hqOf q.val)).copies = l1 ++ { c with release := some e } :: l2 ∧ SameBut [.buf, .host, .out] s t) ∧
    (∀ bufs, s.twin.st ≠ .active → s.twin.st ≠ .solo → Completes (.hostDmaTake q bufs) s fun t => t = s) ∧
    (∀ k l1 c l2, Claims.Near s k → (queueOf s (hqOf q.val)).copies = l1 ++ c :: l2 → (∀ x, x ∈ l1 → x.release.isSome = true) →
      c.release = none → Completes (.dmaTake (k % 2 ^ 32) q 1) s fun t => t.host.takes = s.host.takes ++ [(k, q.val, 1, [])] ∧
        (queueOf t (hqOf q.val)).copies = l1 ++ { c with release := some k } :: l2 ∧ SameBut [.buf, .twin, .host] s t) ∧
    (∀ x, List.find? (fun y => decide (y.1 = q.val)) s.host.taken = some x → x.2.1.length = 64 →
      (ringEnabled s (rxcRing q.val) = true → ringFull s (rxcRing q.val) = false → Completes (.hostFrameWrite q) s fun t =>
        Claims.RingTook s t (rxcRing q.val) 3 64 x.2.1 ∧ t.host.taken = s.host.taken.erase x ∧ SameBut [.host] s t) ∧
      (ringEnabled s (rxcRing q.val) = false ∨ ringFull s (rxcRing q.val) = true →
        Completes (.hostFrameWrite q) s fun t => t = s)) ∧
    (List.find? (fun y => decide (y.1 = q.val)) s.host.taken = none → Completes (.hostFrameWrite q) s fun t => t = s)

/-- R488 to R493: interrupts, the management buses, the UART and PCI Express errors. A vector with enough records, or its time
run out, sends one message and starts anew; an MDIO access and a two-wire transaction run one at a time; the FIFOs of the
two-wire masters and the UART give what they hold in order; an error ends the command, descriptor or ring that it hit and sets
HOST_ERR.DMA_ERROR. -/
def Obligations.HostBuses : Prop :=
  ∀ (s : State),
    (∀ v : Fin 68, ∀ x, FMap.get {} s.host.vectors v.val = x →
      (x.armed = true → 0 < x.count → regFld s .HOST_IRQ_MOD v.val 31 16 ≤ x.count ∨
        (∃ k, x.since = some k ∧ k + ticksOfNs (1000 * regFld s .HOST_IRQ_MOD v.val 15 0) ≤ s.clk.tick) →
        Completes (.msiXMessage v) s fun t => t.out = { s.out with msix := s.out.msix ++ [v.val] } ∧
          FMap.get {} t.host.vectors v.val = { count := 0, since := none, armed := false } ∧
          (∀ w, w ≠ v.val → FMap.get {} t.host.vectors w = FMap.get {} s.host.vectors w) ∧ SameBut [.host, .out] s t) ∧
      (x.armed = false ∨ x.count = 0 → Completes (.msiXMessage v) s fun t => t = s)) ∧
    (∀ v : Word, Completes (.pcieLinkChange v) s fun t => t.host.pcie = wfld v 11 0 ∧
      (wfld v 11 0 % 1024 = s.host.pcie % 1024 → t.host = { s.host with pcie := t.host.pcie } ∧ SameBut [.host] s t)) ∧
    (∀ q c, List.find? (fun x => decide (x.seq = q)) s.host.outstanding = some c → c.quiet = false →
      Completes (.pcieError (.command q)) s fun t => (∀ x, x ∈ t.host.outstanding → x.seq ≠ q) ∧
        (∀ w, w ∈ t.writes → w.cmd ≠ some c) ∧ (∀ l, l ∈ t.host.longs → l.cmd.seq ≠ q) ∧ regBit t .HOST_ERR 0 0 = true) ∧
    (∀ (q : Fin 64) d, txReading s q.val = some d → Completes (.pcieError (.descriptor q)) s fun t =>
      t.host.txDone = (s.host.txDone.map fun x => if x.id = d.id then { x with read := true, invalid := true } else x) ∧
      regBit t .HOST_ERR 0 0 = true ∧ SameBut [.regs, .host] s t) ∧
    (∀ (k : Fin 259) i, ringEnabled s k.val = true → Completes (.pcieError (.ring k i)) s fun t =>
      ringEnabled t k.val = false ∧ ringOf t k.val = {} ∧ regBit t .HOST_ERR 0 0 = true ∧ SameBut [.regs, .host] s t) ∧
    (∀ (m : Fin 8) (v : Word), hostReaches s = true →
      ((FMap.get {} s.host.mdio m.val).busy = false → Completes (.mdioCmd m v) s fun t =>
        (FMap.get {} t.host.mdio m.val).busy = true ∧ regVal t .HOST_MDIO_CMD m.val = v &&& Reg.HOST_MDIO_CMD.info.rw ∧
        t.out = { s.out with mdio := s.out.mdio ++ [(m.val, v.toNat, regFld s .HOST_MDIO_DATA m.val 15 0)] } ∧
        SameBut [.regs, .host, .out] s t) ∧
      ((FMap.get {} s.host.mdio m.val).busy = true → Completes (.mdioCmd m v) s fun t => t = s)) ∧
    (∀ (m : Fin 8) (data : Fin 65536),
      ((FMap.get {} s.host.mdio m.val).busy = true → Completes (.mdioDone m data) s fun t =>
        (FMap.get {} t.host.mdio m.val).busy = false ∧ regFld t .HOST_MDIO_DATA m.val 15 0 =
          (if regBit s .HOST_MDIO_CMD m.val 11 then data.val else regFld s .HOST_MDIO_DATA m.val 15 0) ∧
        SameBut [.regs, .host] s t) ∧
      ((FMap.get {} s.host.mdio m.val).busy = false → Completes (.mdioDone m data) s fun t => t = s)) ∧
    (∀ (m : Fin 8) (v : Word) x, hostReaches s = true → twiOf s m.val = x →
      (v.getLsbD 31 = true → x.status.testBit 0 = false → Completes (.go m v) s fun t =>
        t.out = { s.out with twi := s.out.twi ++ [(m.val, wfld v 30 0, x.toSend.take (wfld v 13 8))] } ∧
        twiOf t m.val = { x with status := x.status / 256 % 64 * 256 + 1, toSend := x.toSend.drop (wfld v 13 8) } ∧
        regVal t .HOST_TWI_CMD m.val = v &&& Reg.HOST_TWI_CMD.info.rw ∧ SameBut [.regs, .host, .out] s t) ∧
      (v.getLsbD 31 = false ∨ x.status.testBit 0 = true → Completes (.go m v) s fun t => SameBut [.regs] s t)) ∧
    (∀ (m : Fin 8) x, twiOf s m.val = x → x.status.testBit 0 = true →
      (∀ bs ok n, n = (if regBit s .HOST_TWI_CMD m.val 22 then 32 else regFld s .HOST_TWI_CMD m.val 21 16) →
        Completes (.twiDone m (.stop bs ok)) s fun t => twiOf t m.val = { x with
          status := (bs.take n).length * 256 + 16 * b2n (regBit s .HOST_TWI_CFG m.val 2 && !ok), got := x.got ++ bs.take n } ∧
          SameBut [.host] s t) ∧
      ∀ r bit, r = .nack ∧ bit = 2 ∨ r = .arbLost ∧ bit = 4 ∨ r = .timeout ∧ bit = 8 → Completes (.twiDone m r) s fun t =>
        twiOf t m.val = { x with status := x.status / 256 % 64 * 256 + bit } ∧ SameBut [.regs, .host] s t) ∧
    (∀ (m : Fin 8) r, (twiOf s m.val).status.testBit 0 = false → Completes (.twiDone m r) s fun t => t = s) ∧
    (∀ (m : Fin 8), hostReaches s = true → Completes (.twiFifoRead m) s fun t =>
      t.regs.rdData = some (BitVec.ofNat 32 ((twiOf s m.val).got.headD 0).toNat) ∧
      twiOf t m.val = { twiOf s m.val with got := (twiOf s m.val).got.drop 1 } ∧ SameBut [.regs, .host] s t) ∧
    (∀ v : Word, hostReaches s = true → Completes (.uartSend v) s fun t =>
      t.host = { s.host with uartTx := if s.host.uartTx.length < 64 then s.host.uartTx ++ [v.setWidth 8] else s.host.uartTx } ∧
      SameBut [.host] s t) ∧
    (hostReaches s = true → Completes .uartRead s fun t => t.host = { s.host with uartRx := s.host.uartRx.drop 1 } ∧
      (∀ b r, s.host.uartRx = b :: r → s.host.uartTx.length < 64 →
        t.regs.rdData = some (BitVec.ofNat 32 (b.toNat + 256))) ∧ SameBut [.regs, .host] s t) ∧
    ∀ b : Byte,
      (regBit s .HOST_UART_CFG 0 16 = true → s.host.uartRx.length < 64 → Completes (.uartReceive b) s fun t =>
        t.host = { s.host with uartRx := s.host.uartRx ++ [b] } ∧ SameBut [.host] s t) ∧
      (regBit s .HOST_UART_CFG 0 16 = false ∨ 64 ≤ s.host.uartRx.length → Completes (.uartReceive b) s fun t => t = s)

/-! ### The mailbox (chapters 12 to 16) -/

namespace Sys2Proof.Claims

/-- The header and the opcode (Table HOST-8) of a mailbox command. -/
def mailboxHead : Instr → Option (MbxHdr × Nat)
  | .versionQuery h _ _ => some (h, 0x01)
  | .programLoad h _ => some (h, 0x10)
  | .programActivate h _ _ => some (h, 0x11)
  | .tableWrite h _ _ => some (h, 0x20)
  | .tcamTxnOpen h _ => some (h, 0x20)
  | .tcamTxnCommit h _ => some (h, 0x20)
  | .tcamTxnAbort h _ => some (h, 0x20)
  | .tcamEntryWrite h _ => some (h, 0x20)
  | .tcamEntryWithdraw h _ => some (h, 0x20)
  | .tcamEntryClear h _ => some (h, 0x20)
  | .tableRead h _ _ => some (h, 0x21)
  | .tableAudit h _ _ _ _ => some (h, 0x22)
  | .portSet h _ _ _ _ _ => some (h, 0x30)
  | .queueSet h _ _ _ _ => some (h, 0x31)
  | .regWrite h _ _ _ => some (h, 0x32)
  | .twinCmdStatus h => some (h, 0x40)
  | .twinCmdSwap h => some (h, 0x40)
  | .twinCmdResync h => some (h, 0x40)
  | .twinCmdLeave h => some (h, 0x40)
  | .twinCmdPair h _ => some (h, 0x40)
  | .timeStepSet h _ _ _ => some (h, 0x50)
  | .timeStepAdjust h _ => some (h, 0x50)
  | .timeRate h _ => some (h, 0x51)
  | .timeUnlock h => some (h, 0x52)
  | .imageWriteData h _ _ _ => some (h, 0x60)
  | .imageWriteCommit h _ => some (h, 0x60)
  | .imageWriteErase h _ _ => some (h, 0x60)
  | .imageSelect h _ => some (h, 0x61)
  | .bistRunMbist h _ => some (h, 0x70)
  | .bistRunLbist h _ => some (h, 0x70)
  | .bistRunSweep h _ => some (h, 0x70)
  | .healthRead h => some (h, 0x71)
  | _ => none

/-- The status with which a command is refused before its arguments are judged (R472, R474, Table HOST-5): no agreed version, an
opcode above the agreed one, another version, reserved flags or too long a buffer. -/
def Unfit (s : State) (h : MbxHdr) (op st : Nat) : Prop :=
  (op ≠ 0x01 ∧ s.host.version = 0 ∧ st = 0x02) ∨
  ((op = 0x22 ∨ op = 0x71) ∧ 0 < s.host.version ∧ s.host.version < 3 ∧ st = 0x01) ∨
  (op ≠ 0x01 ∧ 0 < s.host.version ∧ (3 ≤ s.host.version ∨ op ≠ 0x22 ∧ op ≠ 0x71) ∧ h.version.toNat ≠ s.host.version ∧ st = 0x02) ∨
  ((op = 0x01 ∨ 0 < s.host.version ∧ (3 ≤ s.host.version ∨ op ≠ 0x22 ∧ op ≠ 0x71) ∧ h.version.toNat = s.host.version) ∧
    (4 ≤ h.flags.toNat ∨ 2 ^ 20 < h.bufLen.toNat) ∧ st = 0x03)

/-- The device takes the command, which is fit, and MBX_CPL takes completions. -/
def MbxTakes (s : State) (h : MbxHdr) (op : Nat) : Prop := mbxOpen s = true ∧ CplReady s ∧ ∀ st, ¬Unfit s h op st

/-- The command as taken: the next mailbox sequence, its cookie and opcode (R469). -/
def cmdOf (s : State) (h : MbxHdr) (op : Nat) : MbxCmd := { seq := s.host.nextSeq, cookie := h.cookie.toNat, opcode := op }

/-- The command has been answered at once with TICK 0. -/
def AnsweredNow (s t : State) (h : MbxHdr) (op st : Nat) (res : List Byte) : Prop := Answered s t (cmdOf s h op) st 0 res

/-- The host write that a command names, with the input buffer's length it needs and the partner's hash it comes with (R474,
R475, Table HOST-8). -/
def WriteCommand (c : Instr) (h : MbxHdr) (op : Nat) (act : WriteAct) (n : Nat) (partner : List Byte) : Prop :=
  (partner = [] ∧
    ((op = 0x20 ∧
      ((∃ code rec, c = .tableWrite h code rec ∧ rec ≠ [] ∧ rec.length = recordLen code.val ∧
          act = .table code.val (recordWords code.val rec) ∧ n = if rec.length ≤ 24 then 0 else rec.length) ∨
        (∃ id, c = .tcamTxnOpen h id ∧ act = .table 9 [id.val * 65536] ∧ n = 0) ∨
        (∃ id, c = .tcamTxnCommit h id ∧ act = .table 9 [1 + id.val * 65536] ∧ n = 0) ∨
        (∃ id, c = .tcamTxnAbort h id ∧ act = .table 9 [2 + id.val * 65536] ∧ n = 0) ∨
        (∃ rec, c = .tcamEntryWrite h rec ∧ rec.length = 192 ∧ act = .table 8 (recordWords 8 rec) ∧ n = 192) ∨
        (∃ i, c = .tcamEntryWithdraw h i ∧ act = .table 8 ((i.val + 2 ^ 17) :: List.replicate 23 0) ∧ n = 192) ∨
        (∃ i, c = .tcamEntryClear h i ∧ act = .table 8 ((i.val + 2 ^ 18) :: List.replicate 23 0) ∧ n = 192))) ∨
      (n = 0 ∧
        ((∃ a b d, c = .timeStepSet h a b d ∧ op = 0x50 ∧ a < 2 ^ 48 ∧ b < 2 ^ 32 ∧ d < 2 ^ 16 ∧ act = .time (.stepSet (todOf a b d))) ∨
          (∃ off, c = .timeStepAdjust h off ∧ op = 0x50 ∧ -2 ^ 63 ≤ off ∧ off < 2 ^ 63 ∧ act = .time (.stepAdjust off)) ∨
          (∃ inc, c = .timeRate h inc ∧ op = 0x51 ∧ inc < 2 ^ 48 ∧ act = .time (.rate inc)) ∨
          (c = .timeUnlock h ∧ op = 0x52 ∧ act = .time .unlock) ∨
          (∃ p en r l ch, c = .portSet h p en r l ch ∧ op = 0x30 ∧ p < 2048 ∧ r ≤ 10 ∧ l < 512 ∧ (ch ≤ 7 ∨ ch = 255) ∧
            act = .portSet p en r l ch) ∨
          (∃ p u m vs, c = .queueSet h p u m vs ∧ op = 0x31 ∧ p < 2048 ∧ u < 8 ∧ m < 32 ∧ vs.length = 5 ∧
            (∀ v, v ∈ vs → v < 2 ^ 32) ∧ act = .queueSet p u m vs) ∨
          (∃ a v m, c = .regWrite h a v m ∧ op = 0x32 ∧ a < 2 ^ 32 ∧ act = .reg a v.toNat m.toNat))))) ∨
  (∃ id, c = .programActivate h id partner ∧ op = 0x11 ∧ id < 65536 ∧ act = .activate id ∧ n = 0)

/-- The host write stands on acceptance (R192, R193, R266 to R270, R297, R475, R567). -/
def Stands (s : State) (e : Nat) (partner : List Byte) : WriteAct → Prop
  | .reg a _ _ => regWritable a = true
  | .activate id => activateReason s id partner = 0
  | .table code ws =>
    ((code ≤ 5 ∨ code = 10 ∨ code = 11) ∧ ∃ k d, checkRecord s code ws = .ok (k, d) ∧ changeOf s k = none ∧
      (code = 1 → toggledFilter s k d = none)) ∨
    (code = 6 ∧ ws.getD 0 0 < 2 ^ 20) ∨ (code = 7 ∧ ws.getD 0 0 < 2 ^ 20 ∧ hostPublishOk s (ws.getD 0 0) e = true) ∨
    (code = 8 ∧ tcamRecordOk ws = true) ∨
    (code = 9 ∧ fld (ws.getD 0 0) 1 0 ≠ 3 ∧ fld (ws.getD 0 0) 15 2 = 0 ∧ fld (ws.getD 0 0) 63 32 = 0) ∨
    (code = 12 ∧ meterOk ws = true) ∨ (code = 13 ∧ encapOk ws = true) ∨
    ((code = 14 ∨ code = 15) ∧ (counterKey code (ws.getD 0 0)).isSome = true)
  | _ => True

/-- A COMMIT (R324): it is judged at the tick that the device would assign, and takes effect at its own. -/
def IsCommit (act : WriteAct) : Prop := ∃ d, act = .table 9 [d] ∧ d % 4 = 1

/-- The registers that hold what a masked write leaves in them, whatever else the write does (R11, R474); of the others, what is
written goes elsewhere or may be refused. -/
def Holds (r : Reg) : Prop := r.info.rw ≠ 0 ∧ r ∉ ([.GLOBAL_PATH_DELAY, .LANE_MODE, .LANE_CTRL, .MAC_PORT_CFG, .MAC_FC_CFG, .MAC_PORT_CTRL,
  .ADM_GOV_CFG, .TBL_AUDIT_BASE_LO, .TBL_AUDIT_BASE_HI, .TBL_ROUTE_REGION, .TBL_ROUTE_REGION6, .TCAM_COURSE, .TCAM_PROF_CFG,
  .TCAM_PROF_SEL, .BUF_POOL_CFG, .BUF_OWNER_CFG, .BUF_OWNER_HDRM, .BUF_BANK_CFG, .EGR_MIR_CFG, .TIME_TSF_CTRL] : List Reg)

/-- Register `r` holds the value written under a mask: its RW fields where mask bits are 1, clamped. -/
def Merged (s t : State) (r : Reg) (i : Nat) (v m : Word) : Prop :=
  regVal t r i = clampReg s r ((regVal s r i &&& ~~~(m &&& r.info.rw)) ||| (v &&& (m &&& r.info.rw)))

/-- What a table record does to the stations and routes (R281, R284, R290): an existing entry is rewritten, a new station takes a free way. -/
def StationDone (s t : State) (k : EntryKey) (d st : Nat) : Prop :=
  (stationAt s k.key = none → d.testBit 63 = false → st = 0 ∧ t.tbl.stations = s.tbl.stations) ∧
  (∀ i, stationAt s k.key = some i → d.testBit 63 = true → st = 0 ∧ (verOf t k).new = d) ∧
  ∀ i, stationAt s k.key = none → d.testBit 63 = true →
    ((List.range 8).map (8 * stationBucket k.key + ·)).find? (fun j => wayFree s j) = some i →
    st = 0 ∧ stationAt t k.key = some i ∧ (verOf t k).new = d

/-- What a write of a TCAM entry, or of its membership, has done (R320 to R322, Table TCAM-2). -/
def TcamDone (s t : State) (ws : List Nat) (st : Nat) : Prop :=
  ∀ i a b op stopped, i = fld (ws.getD 0 0) 16 0 → op = fld (ws.getD 0 0) 18 17 → a = s.tcam.slot → a ≤ 1 → b = 1 - a →
    stopped = (pathStopped s && decide (s.tcam.txn = .idle)) →
    (s.tcam.txn ≠ .open → stopped = false → st = 8 ∧ t.tcam = s.tcam) ∧
    (stopped = true → op = 1 ∨ op = 2 → st = 0 ∧ tcamEntry t i = {} ∧ ∀ j, j ≠ i → tcamEntry t j = tcamEntry s j) ∧
    (s.tcam.txn = .open → op = 2 → memberOf (tcamEntry s i) a = true → st = 9 ∧ t.tcam = s.tcam) ∧
    (s.tcam.txn = .open → op = 1 ∨ op = 2 ∧ memberOf (tcamEntry s i) a = false →
      st = 0 ∧ memberOf (tcamEntry t i) b = false ∧ memberOf (tcamEntry t i) a = memberOf (tcamEntry s i) a ∧
        ∀ j, j ≠ i → tcamEntry t j = tcamEntry s j) ∧
    ∀ slot course, slot = (if stopped then a else b) → op = 0 → s.tcam.txn = .open ∨ stopped = true →
      course = (List.range 16).find? (fun c => courseOn (courseVal s slot c) && onCourse (courseVal s slot c) i) →
      (course = none → st = 9 ∧ t.tcam = s.tcam) ∧
      ∀ c, course = some c →
        ((tcamEntry s i).m0 = true ∨ (tcamEntry s i).m1 = true → st = 9 ∧ t.tcam = s.tcam) ∧
        (fld (courseVal s slot c) 17 16 = fld (ws.getD 1 0) 17 16 → (tcamEntry s i).m0 = false → (tcamEntry s i).m1 = false →
          st = 0 ∧ (∀ j, j ≠ i → tcamEntry t j = tcamEntry s j) ∧ i ∉ t.tcam.suppressed ∧ i ∉ t.tcam.hardSuppressed ∧
          ∀ e, e = tcamEntry t i → e.value = wideWord ws 4 ∧ e.mask = wideWord ws 14 ∧ e.width = fld (ws.getD 1 0) 17 16 ∧
            e.prio = fld (ws.getD 1 0) 15 0 ∧ e.action = ws.getD 2 0 ∧ e.arg = ws.getD 3 0 ∧
            e.m0 = (stopped || decide (b = 0)) ∧ e.m1 = (stopped || decide (b = 1)))

/-- What OPEN, COMMIT with effect tick `e`, and ABORT have done (R320, R323 to R325). -/
def TxnDone (s t : State) (d e st : Nat) : Prop :=
  ∀ id a, id = fld d 31 16 → a = s.tcam.slot → a ≤ 1 →
    (fld d 1 0 = 0 → (s.tcam.txn ≠ .idle → st = 0x0F ∧ t.tcam = s.tcam) ∧
      (s.tcam.txn = .idle → st = 0 ∧ t.tcam.txn = .open ∧ t.tcam.txnId = id ∧ t.tcam.slot = a ∧
        (FMap.wf 0 s.tcam.courses = true → ∀ i, i < 16 → courseVal t (1 - a) i = courseVal s a i ∧ courseVal t a i = courseVal s a i) ∧
        (FMap.wf {} s.tcam.entries = true → ∀ i, memberOf (tcamEntry t i) (1 - a) = memberOf (tcamEntry s i) a))) ∧
    (fld d 1 0 = 1 ∨ fld d 1 0 = 2 → (s.tcam.txn ≠ .open → st = 8 ∧ t.tcam = s.tcam) ∧
      (s.tcam.txn = .open → s.tcam.txnId ≠ id → st = 3 ∧ t.tcam = s.tcam)) ∧
    (s.tcam.txn = .open → s.tcam.txnId = id →
      (fld d 1 0 = 2 → st = 0 ∧ t.tcam.txn = .idle ∧ t.tcam.slot = a ∧
        ∀ i, memberOf (tcamEntry t i) (1 - a) = false ∧ memberOf (tcamEntry t i) a = memberOf (tcamEntry s i) a) ∧
      (fld d 1 0 = 1 →
        (commitOk s = true → st = 0 ∧ t.tcam = { s.tcam with txn := .committed, txnE := e } ∧ regBit t .TCAM_EVENT 0 0 = true) ∧
        (commitOk s = false → st = 0x0A ∧ t.tcam = s.tcam)))

/-- The state `t` in which the host write `act` with effect tick `e` has left the state `s` that it met, and its status (R281 to R290,
R295, R297, R320 to R325, R383, R391, R441, R474, R475). -/
def WriteDone (s t : State) (act : WriteAct) (e st : Nat) : Prop :=
  match act with
  | .reg a v m => st = 0 ∧ ∀ r i, Reg.find a = some (r, i) → Holds r → Merged s t r i (BitVec.ofNat 32 v) (BitVec.ofNat 32 m)
  | .activate _ => st = 0
  | .portSet p en r l ch =>
    (portSetOk p en r l ch s = false → st = 0x0A ∧ t.lanes = s.lanes ∧ t.regs.vals = s.regs.vals) ∧
    (portSetOk p en r l ch s = true → st = 0 ∧ (ch ≤ 7 → chanOf t l ch = (p, r, en)) ∧ (ch = 255 → (laneOf t l).port = some p) ∧
      ∀ w, w = placePort p en r l ch s →
        poolBreach w (regSet .MAC_PORT_CFG p (mergeReg w .MAC_PORT_CFG p (BitVec.ofNat 32 (b2n en * 2 ^ 16)) 0x10000) w) = false →
        regBit t .MAC_PORT_CFG p 16 = en)
  | .queueSet p u m vs => st = 0 ∧ ∀ k r, queueRegs[k]? = some r →
      (m.testBit k = true → Merged s t r (8 * p + u) (BitVec.ofNat 32 (vs.getD k 0)) 0xFFFFFFFF) ∧
      (m.testBit k = false → regVal t r (8 * p + u) = regVal s r (8 * p + u))
  | .time a => (∀ x, timeJudge (jumpThresh s) a s.time.core = .error x → st = x ∧ t.time = s.time) ∧
      ∀ c, timeJudge (jumpThresh s) a s.time.core = .ok c → st = 0 ∧ t.time.core = c
  | .table code ws =>
    (∀ k d, checkRecord s code ws = .ok (k, d) →
      (code = 0 → StationDone s t k d st) ∧
      (code = 1 → ∀ i, routeAt s k.key = some i → d.testBit 59 = true → st = 0 ∧ (verOf t k).new = d) ∧
      (code ∈ [2, 3, 4, 5, 10, 11] → st = 0 ∧ (verOf t k).new = d)) ∧
    (code = 6 ∨ code = 7 → st = 0 ∧ ∃ o : LaneOp, o ∈ t.tbl.laneOps ∧ o.record = ws.getD 0 0 ∧ o.homeKey = ws.getD 1 0 ∧
      o.lane = emberLaneOf (ws.getD 1 0) ∧
      o.write = some (decide (code = 6), leBytes (if code = 6 then 24 else 32) (ws.getD 2 0))) ∧
    (code = 8 → TcamDone s t ws st) ∧ (code = 9 → TxnDone s t (ws.getD 0 0) e st) ∧
    (code = 12 → st = 0 ∧ ∀ x, x = meterOf t (ws.getD 0 0) → x.cir = fld (ws.getD 1 0) 27 0 ∧ x.mode = (ws.getD 1 0).testBit 28 ∧
      x.valid = (ws.getD 1 0).testBit 63 ∧ x.pir = fld (ws.getD 2 0) 27 0 ∧ x.cbs = fld (ws.getD 3 0) 23 0 ∧
      x.ebs = fld (ws.getD 3 0) 47 24 ∧ x.tc = fld (ws.getD 3 0) 23 0 * bu ∧ x.te = fld (ws.getD 3 0) 47 24 * bu) ∧
    (code = 13 → st = 0 ∧ (sessionOf t (ws.getD 0 0)).encap = ws.drop 1) ∧
    (code = 14 ∨ code = 15 → st = 0 ∧ ∀ c, counterKey code (ws.getD 0 0) = some c →
      pairOf t c = (ws.getD 1 0 % 2 ^ 64, ws.getD 2 0 % 2 ^ 64))

/-- The write is complete once it has taken effect: a host ticket is not, nor a station that waits for the way of an evicted one. -/
def EndsAtOnce (s : State) (act : WriteAct) : Prop :=
  ∀ code ws, act = .table code ws → code ≠ 6 ∧ code ≠ 7 ∧ (code = 0 → ∀ k d, checkRecord s code ws = .ok (k, d) →
    d.testBit 63 = false ∨ (stationAt s k.key).isSome = true ∨
    (((List.range 8).map (8 * stationBucket k.key + ·)).find? fun j => wayFree s j).isSome = true)

/-- HOST_WRITE_APPLY carries the write out; table entries with versions, and meters, follow their own rules (R265, R383). -/
def ActsAtE (act : WriteAct) : Prop := ∀ code ws, act = .table code ws → code ∈ [6, 7, 8, 9, 13, 14, 15]

end Sys2Proof.Claims

/-- R34, R269, R418, R464, R469, R470, R472, R474, R475: mailbox commands are taken in ring order. While the device takes none the
command has no effect; an unfit command is taken, gets the next mailbox sequence and is answered at once with its status and
TICK 0. A host write command that stands waits for the tick that it names, or that the device assigns, and is outstanding; one
that names too early or too late a tick, a record that its table refuses, or a register that may not be written, is answered
with its status. When HOST_WRITE_APPLY carries it out at that tick, or at once in the safe hearth state, which takes no activation and no
time command, it does what its command asks, and answers; PROGRAM_ACTIVATION makes the pending image active. The partner's host write
waits for the same tick; late, it is not applied and is reported. -/
def Obligations.HostWriteCommands : Prop :=
  (∀ (c : Instr) (h : MbxHdr) (op : Nat) (s : State), Claims.mailboxHead c = some (h, op) →
    (mbxOpen s = false → Completes c s fun t => t = s) ∧
    ∀ st, mbxOpen s = true → Claims.CplReady s → Claims.Unfit s h op st → Completes c s fun t =>
      Claims.AnsweredNow s t h op st (if op = 0x20 then leBytes 4 0xFFFFFFFF else []) ∧
      (ringOf t 0).cons = ((ringOf s 0).cons + 1) % 65536 ∧ t.host.nextSeq = (s.host.nextSeq + 1) % 2 ^ 32 ∧ SameBut [.host] s t) ∧
  ((∀ (c : Instr) (h : MbxHdr) (op : Nat) (act : WriteAct) (n : Nat) (partner : List Byte) (s : State) (e : Nat),
    Claims.WriteCommand c h op act n partner → Claims.MbxTakes s h op → isSafe s = false →
    (n = 0 ∨ h.flags.getLsbD 0 = true ∧ n ≤ h.bufLen.toNat →
      (e = (if h.tick.toNat = 0 then assignTick s else h.tick.toNat) → assignTick s ≤ e → e < s.clk.tick + 2 ^ 30 →
        Claims.Stands s e partner act → Completes c s fun t => Claims.cmdOf s h op ∈ t.host.outstanding ∧
          (∃ w : HostWrite, w ∈ t.writes ∧ w.side = s.twin.side ∧ w.seq = s.host.nextSeq ∧ w.direct = false ∧
            (¬Claims.IsCommit act → w.eff = e ∧ w.act = act) ∧
            (∀ d, act = .table 9 [d] → d % 4 = 1 → w.eff = assignTick s ∧ w.act = .table 9 [d, e])) ∧
          (∀ code ws k d, act = .table code ws → code ≤ 5 ∨ code = 10 ∨ code = 11 → checkRecord s code ws = .ok (k, d) →
            ∃ x, changeOf t k = some x ∧ x.eff = e ∧ x.done = e + retDelay s ∧ x.applied = false ∧
              ∃ o, x.parts = [⟨2, o, .write d⟩])) ∧
      (h.tick.toNat ≠ 0 → h.tick.toNat < assignTick s → Completes c s fun t =>
        Claims.AnsweredNow s t h op 0x04 (if op = 0x20 then leBytes 4 0xFFFFFFFF else []) ∧ t.writes = s.writes) ∧
      (s.clk.tick + 2 ^ 30 ≤ h.tick.toNat → assignTick s ≤ h.tick.toNat → h.tick.toNat ≠ 0 → Completes c s fun t =>
        Claims.AnsweredNow s t h op 0x05 (if op = 0x20 then leBytes 4 0xFFFFFFFF else []) ∧ t.writes = s.writes) ∧
      (∀ code ws st, act = .table code ws → code ≤ 5 ∨ code = 10 ∨ code = 11 → checkRecord s code ws = .error st →
        h.tick.toNat = 0 → Completes c s fun t =>
          Claims.AnsweredNow s t h op st (leBytes 4 0xFFFFFFFF) ∧ t.writes = s.writes) ∧
      (∀ a v m, act = .reg a v m → regWritable a = false → h.tick.toNat = 0 → Completes c s fun t =>
        Claims.AnsweredNow s t h op 0x03 [] ∧ t.writes = s.writes) ∧
      (∀ id, act = .activate id → activateReason s id partner ≠ 0 → h.tick.toNat = 0 → Completes c s fun t =>
        Claims.AnsweredNow s t h op 0x0E (leBytes 1 (activateReason s id partner)) ∧ t.writes = s.writes)) ∧
    (n ≠ 0 → h.flags.getLsbD 0 = false ∨ h.bufLen.toNat < n → Completes c s fun t =>
      Claims.AnsweredNow s t h op 0x03 (leBytes 4 0xFFFFFFFF) ∧ t.writes = s.writes)) ∧
  (∀ (c : Instr) (h : MbxHdr) (op : Nat) (act : WriteAct) (n : Nat) (partner : List Byte) (s : State) (e : Nat),
    Claims.WriteCommand c h op act n partner → Claims.MbxTakes s h op → n = 0 ∨ h.flags.getLsbD 0 = true ∧ n ≤ h.bufLen.toNat →
    (isSafe s = true → op = 0x11 ∨ op = 0x50 ∨ op = 0x51 ∨ op = 0x52 → Completes c s fun t =>
      Claims.AnsweredNow s t h op 0x10 [] ∧ t.writes = s.writes) ∧
    (isSafe s = true → op ≠ 0x11 → op ≠ 0x50 → op ≠ 0x51 → op ≠ 0x52 → inPair s = false → Claims.Quiet s →
      Claims.Stands s s.clk.tick partner act → Completes c s fun t => ∃ st, Claims.WriteDone s t act s.clk.tick st ∧
        (Claims.EndsAtOnce s act → t.writes = [] ∧ ∃ res, Claims.Answered s t (Claims.cmdOf s h op) st 0 res)) ∧
    (isSafe s = false → s.writes = [] → e = (if h.tick.toNat = 0 then assignTick s else h.tick.toNat) → assignTick s ≤ e →
      e < s.clk.tick + 2 ^ 30 → Claims.Stands s e partner act → Claims.ActsAtE act → (Claims.IsCommit act → e = assignTick s) →
      Completes c s fun t =>
        (∀ id, act = .activate id → t.prog.actAt = some (e, id) ∧ Completes .programActivation (Claims.atTick e t) fun u =>
          u.prog.active = s.prog.pendingImg ∧ u.prog.pendingImg = none ∧ u.prog.actAt = none ∧ u.prog.activeFrom = e ∧
          regBit u .STOVE_PROG_EVENT 0 2 = true) ∧
        Completes .hostWriteApply (Claims.atTick e t) fun u => ∃ st, Claims.WriteDone (Claims.atTick e s) u act e st ∧ u.writes = [] ∧
          (Claims.EndsAtOnce s act → ∃ res k, (st = 0 → k = e) ∧ Claims.Answered s u (Claims.cmdOf s h op) st k res))) ∧
  ∀ (s : State) (e seq a : Nat) (v m : Word) (side : Bool) (entry : List Byte), Claims.Near s e →
    (entryAct entry).1 = .ok (.reg a v.toNat m.toNat) → regWritable a = true →
    (s.clk.tick < e → Completes (.hostWrite (e % 2 ^ 32) side seq entry) s fun t =>
      (∃ w : HostWrite, w ∈ t.writes ∧ w.eff = e ∧ w.side = side ∧ w.seq = seq ∧ w.cmd = none ∧ w.act = .reg a v.toNat m.toNat) ∧
      SameBut [.writes, .twin] s t) ∧
    (e ≤ s.clk.tick → s.twin.st ≠ .syncing → Completes (.hostWrite (e % 2 ^ 32) side seq entry) s fun t =>
      t.writes = s.writes ∧ regBit t .TWIN_EVENT 0 11 = true ∧ (inPair s = true → t.twin.fault.isSome = true) ∧
      SameBut [.regs, .twin, .host, .out] s t))

namespace Sys2Proof.Claims

/-- The long commands (R469), with their ARGS, their input buffer and whether they need one. -/
def LongCommand (c : Instr) (h : MbxHdr) (op : Nat) (args buf : List Byte) (needs : Bool) : Prop :=
  (∃ img, c = .programLoad h img ∧ op = 0x10 ∧ args = [] ∧ buf = img ∧ needs = true) ∨
  (∃ code f n sh, c = .tableAudit h code f n sh ∧ op = 0x22 ∧ args = leBytes 2 code.val ++ [0, 0] ++ leBytes 4 f ++ leBytes 4 n ∧
    buf = [] ∧ needs = false) ∨
  (∃ slot off data, c = .imageWriteData h slot off data ∧ op = 0x60 ∧ args = leBytes 1 slot ++ [0, 0, 0] ++ leBytes 4 off ∧
    buf = data ∧ needs = true) ∨
  (∃ slot off, c = .imageWriteErase h slot off ∧ op = 0x60 ∧ args = leBytes 1 slot ++ [2, 0, 0] ++ leBytes 4 off ∧ buf = [] ∧
    needs = false) ∨
  (∃ slot, c = .imageSelect h slot ∧ op = 0x61 ∧ args = leBytes 1 slot ∧ buf = [] ∧ needs = false) ∨
  (∃ d, c = .bistRunMbist h d ∧ op = 0x70 ∧ args = 1 :: leBytes 1 d ∧ buf = [] ∧ needs = false) ∨
  (∃ d, c = .bistRunLbist h d ∧ op = 0x70 ∧ args = 2 :: leBytes 1 d ∧ buf = [] ∧ needs = false) ∨
  (∃ g, c = .bistRunSweep h g ∧ op = 0x70 ∧ args = 3 :: leBytes 1 g ∧ buf = [] ∧ needs = false)

/-- What a long command has done to state `s` once LONG_COMMAND_DONE has ended it: its status and RESULT, and its effect (R474, R503,
R508, R540, R544). -/
def LongEffect (c : Instr) (inp : LongInput) (s u : State) (A : Nat → List Byte → Prop) : Prop :=
  match c with
  | .programLoad _ img =>
    (∀ x y, (loadProgram img s).1 = some (x, y) → A 0x0E (leBytes 1 x ++ [0, 0, 0] ++ leBytes 4 y) ∧ u.prog = s.prog) ∧
    ((loadProgram img s).1 = none → ∃ im, u.prog.pendingImg = some im ∧ A 0 (leBytes 2 im.id ++ leBytes 2 im.wcyc) ∧
      u.prog.active = s.prog.active)
  | .tableAudit _ code f n _ => f < 2 ^ 32 → n < 2 ^ 32 →
    (5 < code.val ∨ (shadowLayout code.val).2.1 < f + n → A 0x03 [] ∧ u.tbl = s.tbl) ∧
    (code.val ≤ 5 → f + n ≤ (shadowLayout code.val).2.1 → ∃ k, k ≤ n ∧ A 0 (leBytes 4 k))
  | .imageWriteData _ slot off data =>
    (slot ≤ 1 → s.boot.slot = some slot → A 0x10 [] ∧ u.boot = s.boot) ∧
    (slot ≤ 1 → s.boot.slot ≠ some slot → 0 < data.length → data.length % 256 = 0 → off % 256 = 0 → off ≤ 0x07FFEF00 →
      off + data.length ≤ trailerOff → flashBlank s slot off data.length = true →
      A 0 (leBytes 4 data.length) ∧ flashRead u slot off data.length = data ∧
      ∀ a, a < slot * slotBytes + off ∨ slot * slotBytes + off + data.length ≤ a →
        FMap.get 0xFF u.boot.flash a = FMap.get 0xFF s.boot.flash a)
  | .imageWriteErase _ slot off => slot ≤ 1 → off < 2 ^ 32 →
    (s.boot.slot = some slot → A 0x10 [] ∧ u.boot = s.boot) ∧
    (s.boot.slot ≠ some slot → off ≠ 0 → A 0x03 [] ∧ u.boot = s.boot) ∧
    (s.boot.slot ≠ some slot → off = 0 → A 0 [0, 0, 0, 0] ∧
      (∀ i, i < slotBytes → FMap.get 0xFF u.boot.flash (slot * slotBytes + i) = 0xFF) ∧
      ∀ a, a / slotBytes ≠ slot → FMap.get 0xFF u.boot.flash a = FMap.get 0xFF s.boot.flash a)
  | .imageSelect _ slot => slot ≤ 1 →
    (∀ x, slotImage inp.flashOk slot s = .error x → A 0x12 [] ∧ u.boot = s.boot) ∧
    ∀ img i, slotImage inp.flashOk slot s = .ok img → i < 256 → flashBlank s slot (trailerOff + 16 * i) 16 = true →
      (∀ j, j < i → flashBlank s slot (trailerOff + 16 * j) 16 = false) →
      A 0 [] ∧ flashRead u slot (trailerOff + 16 * i) 16 = selectRecord (nextSelect s)
  | .bistRunMbist h d | .bistRunLbist h d => d < 31 → 32 + 8 * inp.failed.length ≤ bufOut h →
    (bistAllowed d s = false → A 0x10 [] ∧ u.boot = s.boot) ∧
    (bistAllowed d s = true → A 0 [] ∧ ∀ e, e ∈ inp.failed → ∃ x, x ∈ u.boot.health ∧ x.kind = e.1 ∧ x.num = e.2)
  | .bistRunSweep h g => g < 17 → 32 ≤ bufOut h →
    (s.pwr.visit.isSome = true → A 0x0F [] ∧ u.pwr = s.pwr) ∧
    (s.pwr.visit = none → (groupOf s g).powered = false → A 0x10 [] ∧ u.pwr = s.pwr) ∧
    (s.pwr.visit = none → (groupOf s g).powered = true → A 0 [] ∧
      ((inService s).length ≤ ((eligible s).filter fun i => decide (i / 4 ≠ g)).length →
        ∃ v, u.pwr.visit = some v ∧ v.group = g ∧ v.cover = none))
  | _ => False

/-- The long command at the front, `l`, is over with the status and RESULT; the others wait on. -/
def LongOver (s t : State) (l : LongCmd) (r : List LongCmd) (st : Nat) (res : List Byte) : Prop :=
  t.host.longs = r ∧ Answered s t l.cmd st 0 res

end Sys2Proof.Claims

/-- R469, R471, R474, R503, R506, R508, R540, R544: long commands. They queue, and are outstanding until they finish in order; alone, each
has its own effect at LONG_COMMAND_DONE. An image is
erased, programmed into blank flash and read back, or selected when it passes the checks; the slot in use is not written; a
program that the loader refuses is answered with its reason; a test on a domain in service is not allowed. -/
def Obligations.LongCommands : Prop :=
  (∀ (c : Instr) (h : MbxHdr) (op : Nat) (args buf : List Byte) (needs : Bool) (s : State),
    Claims.LongCommand c h op args buf needs → Claims.MbxTakes s h op →
    (needs = false ∨ h.flags.getLsbD 0 = true ∧ buf.length ≤ h.bufLen.toNat → Completes c s fun t =>
      (∃ l : LongCmd, t.host.longs = s.host.longs ++ [l] ∧ l.cmd = Claims.cmdOf s h op ∧ l.args = args ∧ l.bufIn = buf ∧
        l.tick = s.clk.tick ∧ l.bufAddr = h.bufAddr.toNat ∧
        l.bufLen = (if h.flags.getLsbD 1 then h.bufLen.toNat else 0)) ∧
      Claims.cmdOf s h op ∈ t.host.outstanding ∧ SameBut [.host] s t) ∧
    (needs = true → h.flags.getLsbD 0 = false ∨ h.bufLen.toNat < buf.length → Completes c s fun t =>
      Claims.AnsweredNow s t h op 0x03 [] ∧ t.host.longs = s.host.longs ∧ SameBut [.host] s t) ∧
    (needs = false ∨ h.flags.getLsbD 0 = true ∧ buf.length ≤ h.bufLen.toNat → s.host.longs = [] → ∀ inp, Completes c s fun t =>
      Completes (.longCommandDone inp) t fun u => u.host.longs = [] ∧
        Claims.LongEffect c inp s u fun st res => Claims.Answered s u (Claims.cmdOf s h op) st 0 res)) ∧
  (∀ (h : MbxHdr) (slot : Nat) (s : State), Claims.MbxTakes s h 0x60 →
    (h.tick.toNat = 0 ∨ h.tick.toNat = s.clk.tick → Completes (.imageWriteCommit h slot) s fun t =>
      (∃ l : LongCmd, t.host.longs = s.host.longs ++ [l] ∧ l.cmd = Claims.cmdOf s h 0x60 ∧ l.tick = s.clk.tick ∧
        l.bufIn = overlayBody s) ∧ SameBut [.host] s t) ∧
    (h.tick.toNat ≠ 0 → h.tick.toNat < s.clk.tick → Completes (.imageWriteCommit h slot) s fun t =>
      Claims.AnsweredNow s t h 0x60 0x04 [] ∧ t.host.longs = s.host.longs)) ∧
  (∀ (inp : LongInput) (s : State), (s.host.longs = [] ∨ ∃ l r, s.host.longs = l :: r ∧ s.clk.tick < l.tick) →
    Completes (.longCommandDone inp) s fun t => t = s) ∧
  ∀ (inp : LongInput) (s : State) (l : LongCmd) (r : List LongCmd) (slot off : Nat), s.host.longs = l :: r →
    l.tick ≤ s.clk.tick → l.cmd.quiet = false → Claims.CplReady s → slot = leAt l.args 0 1 → off = leAt l.args 4 4 →
    (l.cmd.opcode = 0x60 →
      (slot ≤ 1 → s.boot.slot = some slot → Completes (.longCommandDone inp) s fun t => Claims.LongOver s t l r 0x10 [] ∧
        t.boot = s.boot) ∧
      (slot ≤ 1 → s.boot.slot ≠ some slot → leAt l.args 1 1 = 2 → off = 0 → Completes (.longCommandDone inp) s fun t =>
        Claims.LongOver s t l r 0 [0, 0, 0, 0] ∧ (∀ i, i < slotBytes → FMap.get 0xFF t.boot.flash (slot * slotBytes + i) = 0xFF) ∧
        (∀ a, a / slotBytes ≠ slot → FMap.get 0xFF t.boot.flash a = FMap.get 0xFF s.boot.flash a)) ∧
      (∀ n, slot ≤ 1 → s.boot.slot ≠ some slot → leAt l.args 1 1 = 0 → n = l.bufIn.length → 0 < n → n % 256 = 0 → off % 256 = 0 →
        off ≤ 0x07FFEF00 → off + n ≤ trailerOff → flashBlank s slot off n = true → Completes (.longCommandDone inp) s fun t =>
          Claims.LongOver s t l r 0 (leBytes 4 n) ∧ flashRead t slot off n = l.bufIn ∧
          (∀ a, a < slot * slotBytes + off ∨ slot * slotBytes + off + n ≤ a →
            FMap.get 0xFF t.boot.flash a = FMap.get 0xFF s.boot.flash a))) ∧
    (l.cmd.opcode = 0x61 → slot ≤ 1 →
      (∀ x, slotImage inp.flashOk slot s = .error x → Completes (.longCommandDone inp) s fun t =>
        Claims.LongOver s t l r 0x12 [] ∧ t.boot = s.boot) ∧
      (∀ img i, slotImage inp.flashOk slot s = .ok img → i < 256 → flashBlank s slot (trailerOff + 16 * i) 16 = true →
        (∀ j, j < i → flashBlank s slot (trailerOff + 16 * j) 16 = false) → Completes (.longCommandDone inp) s fun t =>
          Claims.LongOver s t l r 0 [] ∧ flashRead t slot (trailerOff + 16 * i) 16 = selectRecord (nextSelect s))) ∧
    (l.cmd.opcode = 0x10 →
      (∀ x y, (loadProgram l.bufIn s).1 = some (x, y) → Completes (.longCommandDone inp) s fun t =>
        Claims.LongOver s t l r 0x0E (leBytes 1 x ++ [0, 0, 0] ++ leBytes 4 y) ∧ t.prog = s.prog ∧
        regBit t .STOVE_PROG_EVENT 0 1 = true) ∧
      ((loadProgram l.bufIn s).1 = none → Completes (.longCommandDone inp) s fun t => ∃ img, t.prog.pendingImg = some img ∧
        Claims.LongOver s t l r 0 (leBytes 2 img.id ++ leBytes 2 img.wcyc) ∧ t.prog.active = s.prog.active ∧
        regBit t .STOVE_PROG_EVENT 0 0 = true)) ∧
    (l.cmd.opcode = 0x22 → 5 < leAt l.args 0 2 → Completes (.longCommandDone inp) s fun t => Claims.LongOver s t l r 0x03 []) ∧
    (l.cmd.opcode = 0x70 → leAt l.args 0 1 = 1 ∨ leAt l.args 0 1 = 2 → leAt l.args 1 1 < 31 →
      32 + 8 * inp.failed.length ≤ l.bufLen →
      (bistAllowed (leAt l.args 1 1) s = false → Completes (.longCommandDone inp) s fun t => Claims.LongOver s t l r 0x10 [] ∧
        t.boot = s.boot) ∧
      (bistAllowed (leAt l.args 1 1) s = true → Completes (.longCommandDone inp) s fun t => Claims.LongOver s t l r 0 [] ∧
        ∀ e, e ∈ inp.failed → ∃ x, x ∈ t.boot.health ∧ x.kind = e.1 ∧ x.num = e.2))

/-- R425, R426, R410, R471, R472, R474, R476, R543: the commands that are answered at once. VERSION_QUERY agrees a version; a
TABLE_READ whose tick has come answers with the record, or, of a private half, waits in its lane's order, one of a later tick waits; HEALTH_READ gives the health map; a TWIN_CMD
acts in the states that it is for, is refused in others, and is not allowed in the safe hearth state. -/
def Obligations.MailboxAnswers : Prop :=
  ∀ (h : MbxHdr) (s : State),
    (∀ hi lo v, Claims.MbxTakes s h 0x01 → v = min (hi % 256) 3 →
      (v < max (lo % 256) 2 → Completes (.versionQuery h hi lo) s fun t => Claims.AnsweredNow s t h 0x01 0x02 [] ∧
        t.host.version = s.host.version) ∧
      (max (lo % 256) 2 ≤ v → h.flags.getLsbD 1 = false → Completes (.versionQuery h hi lo) s fun t => t.host.version = v ∧
        Claims.AnsweredNow s t h 0x01 0
          ([v, 2, 3, 0xA1, s.twin.feature, twinCode s.twin.st, b2n (isSafe s)].map (BitVec.ofNat 8)))) ∧
    (∀ (code : Fin 65536) rec ws, Claims.MbxTakes s h 0x21 → rec.length = keyLen code.val → keyLen code.val ≠ 0 →
      ws = recordWords (if code.val = 6 ∨ code.val = 7 then 0 else code.val) rec → readKeyOk code.val ws = true →
      readLen code.val ≤ bufOut h →
      (code.val = 6 → h.tick.toNat = 0 ∨ h.tick.toNat = s.clk.tick → Completes (.tableRead h code rec) s fun t =>
        (∃ o : LaneOp, o ∈ t.tbl.laneOps ∧ o.record = ws.getD 0 0 ∧ o.lane = emberLaneOf (ws.getD 1 0) ∧ o.write = none ∧
          o.cmd = some (Claims.cmdOf s h 0x21) ∧ o.bufAddr = h.bufAddr.toNat) ∧ SameBut [.hob, .tbl, .host] s t) ∧
      (code.val ≠ 6 → h.tick.toNat = 0 ∨ h.tick.toNat = s.clk.tick → ∀ bs, bs = readBytes s code.val ws →
        Completes (.tableRead h code rec) s fun t => Claims.Answered s t (Claims.cmdOf s h 0x21) 0 s.clk.tick (leBytes 4 bs.length) ∧
        (h.bufAddr.toNat + bs.length ≤ Claims.cplAt s ∨ Claims.cplAt s + 32 ≤ h.bufAddr.toNat →
          FMap.bytes 0 t.host.hostMem h.bufAddr.toNat bs.length = bs) ∧ SameBut [.host] s t) ∧
      (s.clk.tick < h.tick.toNat → Completes (.tableRead h code rec) s fun t =>
        (∃ r : PendingRead, t.host.reads = s.host.reads ++ [r] ∧ r.tick = h.tick.toNat ∧ r.code = code.val ∧
          r.cmd = Claims.cmdOf s h 0x21) ∧ SameBut [.host] s t) ∧
      (h.tick.toNat ≠ 0 → h.tick.toNat < s.clk.tick → Completes (.tableRead h code rec) s fun t =>
        Claims.AnsweredNow s t h 0x21 0x04 [] ∧ SameBut [.host] s t)) ∧
    (Claims.MbxTakes s h 0x71 →
      (bufOut h < (healthBytes s).length → Completes (.healthRead h) s fun t => Claims.AnsweredNow s t h 0x71 0x03 [] ∧
        SameBut [.host] s t) ∧
      ((healthBytes s).length ≤ bufOut h → Completes (.healthRead h) s fun t => Claims.AnsweredNow s t h 0x71 0 [] ∧
        (h.bufAddr.toNat + (healthBytes s).length ≤ Claims.cplAt s ∨ Claims.cplAt s + 32 ≤ h.bufAddr.toNat →
          FMap.bytes 0 t.host.hostMem h.bufAddr.toNat (healthBytes s).length = healthBytes s) ∧ SameBut [.host] s t)) ∧
    (Claims.MbxTakes s h 0x40 → h.flags.getLsbD 1 = false → Completes (.twinCmdStatus h) s fun t =>
      Claims.AnsweredNow s t h 0x40 0 [BitVec.ofNat 8 (twinCode s.twin.st)] ∧ SameBut [.host] s t) ∧
    (Claims.MbxTakes s h 0x40 → isSafe s = true → ∀ c, (c = .twinCmdSwap h ∨ c = .twinCmdResync h ∨ c = .twinCmdLeave h ∨
        ∃ n, c = .twinCmdPair h n) → Completes c s fun t => Claims.AnsweredNow s t h 0x40 0x10 [] ∧ SameBut [.host] s t) ∧
    (Claims.MbxTakes s h 0x40 → isSafe s = false →
      (s.twin.st = .standby → Completes (.twinCmdSwap h) s fun t => t.twin = { s.twin with swapAsked := true } ∧
        Claims.AnsweredNow s t h 0x40 0 [BitVec.ofNat 8 (twinCode .standby)] ∧ SameBut [.twin, .host] s t) ∧
      (s.twin.st = .active → Completes (.twinCmdSwap h) s fun t => Claims.Told s t 0x61 s.clk.tick [] ∧
        Claims.AnsweredNow s t h 0x40 0 [BitVec.ofNat 8 (twinCode .active)] ∧ SameBut [.host, .out] s t) ∧
      (s.twin.st ≠ .standby → s.twin.st ≠ .active → Completes (.twinCmdSwap h) s fun t =>
        Claims.AnsweredNow s t h 0x40 0x0E [BitVec.ofNat 8 (twinCode s.twin.st)] ∧ SameBut [.host] s t) ∧
      (s.twin.st = .diverged → Completes (.twinCmdResync h) s fun t => t.twin = { s.twin with fails := 0, resyncCmd := true } ∧
        Claims.AnsweredNow s t h 0x40 0 [BitVec.ofNat 8 (twinCode .diverged)] ∧ SameBut [.twin, .host] s t) ∧
      (s.twin.st ≠ .diverged → Completes (.twinCmdResync h) s fun t =>
        Claims.AnsweredNow s t h 0x40 0x0E [BitVec.ofNat 8 (twinCode s.twin.st)] ∧ SameBut [.host] s t) ∧
      (s.twin.st = .active → s.clk.forwarding = true → Completes (.twinCmdLeave h) s fun t => t.twin.st = .solo ∧
        t.twin.soloSince = s.clk.tick ∧ t.clk = s.clk) ∧
      (s.twin.st = .standby → Completes (.twinCmdLeave h) s fun t => t.twin.fault.isSome = true ∧
        (s.twin.fault = none → t.twin.fault = some (0x0B, s.clk.tick, s.clk.tick + 5)) ∧ Claims.AnsweredNow s t h 0x40 0 [6]) ∧
      (s.twin.st = .solo → Completes (.twinCmdLeave h) s fun t => Claims.Diverged t ∧ t.twin.lastCause = 0x0B ∧
        Claims.AnsweredNow s t h 0x40 0 [6]) ∧
      (∀ nonce, s.twin.st = .solo → mayPair s = true → s.twin.source = false → Completes (.twinCmdPair h nonce) s fun t =>
        t.twin.pair.started = some s.clk.tick ∧ t.twin.pair.sentHello = helloBody s nonce ∧
        Claims.Told s t 0x01 s.clk.tick (helloBody s nonce) ∧
        Claims.AnsweredNow s t h 0x40 0 [BitVec.ofNat 8 (twinCode .solo)] ∧ SameBut [.twin, .host, .out] s t) ∧
      (∀ nonce, mayPair s = false → Completes (.twinCmdPair h nonce) s fun t =>
        Claims.AnsweredNow s t h 0x40 0x0E [BitVec.ofNat 8 (twinCode s.twin.st)] ∧ SameBut [.host] s t))

/-! ### Reset and start-up (chapter 15; R560, R561 of chapter 17) -/

namespace Sys2Proof.Claims

/-- The device is in reset with every field at its reset value; what lies outside it (host memory, the flash), the fuses, the
waiting commands and the model's counter of free values stay. -/
def WasReset (low supply : Bool) (s t : State) : Prop :=
  t = { State.reset with
    pending := s.pending, fuses := s.fuses, host := { State.reset.host with hostMem := s.host.hostMem }
    clk := { State.reset.clk with free := s.clk.free }
    boot := { State.reset.boot with inReset := true, flash := s.boot.flash, resetLow := low, supplyLow := supply } }

/-- R513: the safe hearth state with its cause: nothing is forwarded, no start is named, every lane is disabled, the lane banks
are off, and event 0x1B03 has been raised. -/
def InSafe (t : State) (c : SafeCause) : Prop :=
  t.boot.safe = c ∧ t.clk.forwarding = false ∧ t.boot.startS = none ∧ t.boot.enables = [] ∧ regBit t .BOOT_EVENT 0 2 = true ∧
  (∀ l, l < 512 → regBit t .LANE_MODE l 4 = false) ∧ ∀ d, d < 8 → tb t.pwr.ready d = false

/-- The reads of a slot complete, as the board's inputs have it. -/
def slotReads (inp : StartInput) (slot : Nat) : Bool := if slot = 0 then inp.flashA else inp.flashB

/-- Steps 3 to 8 of Table BOOT-7, from a locked PLL: what stops the start, and which image is chosen (R500, R502, R510). -/
def StartsFrom (inp : StartInput) (s t : State) : Prop :=
  (∀ h, h ∈ s.boot.health → h.kind ≠ 4) → (∀ e, e ∈ inp.failed → e.1 ≠ 4) →
  (inp.aonFailed = true → InSafe t .sliceFailed) ∧
  (inp.aonFailed = false → inp.hbmFailed ≠ 0 → InSafe t .hbmFailed ∧ ∀ i, i < 2 →
    tb t.pwr.ready (25 + i) = !inp.hbmFailed.getLsbD i ∧ regBit t .PWR_DOMAIN_CTRL 0 (8 + i) = !inp.hbmFailed.getLsbD i) ∧
  (inp.aonFailed = false → inp.hbmFailed = 0 → inp.bootSafe = true → InSafe t .strap) ∧
  (inp.aonFailed = false → inp.hbmFailed = 0 → inp.bootSafe = false →
    (∀ c d, slotImage inp.flashA 0 s = .error c → slotImage inp.flashB 1 s = .error d →
      InSafe t .noImage ∧ t.boot.reasonA = c ∧ t.boot.reasonB = d ∧ regBit t .BOOT_EVENT 0 0 = true) ∧
    ∀ a, a = selectedSlot s →
      (∀ img, slotImage (slotReads inp a) a s = .ok img → t.boot.slot = some a ∧ t.boot.image = img) ∧
      ∀ c img, slotImage (slotReads inp a) a s = .error c → slotImage (slotReads inp (1 - a)) (1 - a) s = .ok img →
        t.boot.slot = some (1 - a) ∧ t.boot.image = img)

/-- Steps 1 and 2 of Table BOOT-7 (R510, R517): the strap is sampled, the fuses are checked; without a lock the start holds in
step 2. -/
def Starts (inp : StartInput) (s t : State) : Prop :=
  (inp.testEn = true → s.pwr.thermtrip = false → InSafe t .scan) ∧
  (inp.testEn = false → inp.fuseError = true → InSafe t .fuseError) ∧
  (inp.testEn = false → inp.fuseError = false → inp.pllLocked = false → t = { s with
    twin := { s.twin with side := inp.twinSide }
    boot := { s.boot with inReset := false, step := 2, vfuseOk := inp.vfuseOk, cwkSensed := s.fuses.cwk.isSome, holding := some inp } }) ∧
  (inp.testEn = false → inp.fuseError = false → inp.pllLocked = true → t.boot.inReset = false ∧ t.twin.side = inp.twinSide ∧
    StartsFrom inp { s with boot := { s.boot with cwkSensed := s.fuses.cwk.isSome } } t)

end Sys2Proof.Claims

/-- R509, R560, R561: resets. RESET_N low for 10 µs or a supply below its threshold resets everything but the fuses and what lies
outside the device; a low pulse below 8 µs is ignored, and one in between does either wholly. Reset holds while RESET_N or a
monitor asserts it; RESTART with its key starts again at once; the start goes through steps 1 to 8. -/
def Obligations.ResetsAndStarts : Prop :=
  ∀ s : State,
    (∀ ns, (10000 ≤ ns → Completes (.resetNLow ns) s fun t => Claims.WasReset true s.boot.supplyLow s t) ∧
      (ns < 8000 → Completes (.resetNLow ns) s fun t => t = s) ∧
      (8000 ≤ ns → ns < 10000 → Completes (.resetNLow ns) s fun t => ∀ u, u = { s with clk := { s.clk with free := s.clk.free + 1 } } →
        if Config.shortPulseResets s.clk.free = true then Claims.WasReset true s.boot.supplyLow u t else t = u)) ∧
    (Completes .supplyMonitorReset s fun t => Claims.WasReset s.boot.resetLow true s t) ∧
    (∀ inp,
      (s.boot.resetLow = false → Completes (.resetNRise inp) s fun t => t = s) ∧
      (s.boot.supplyLow = false → Completes (.supplyMonitorRelease inp) s fun t => t = s) ∧
      (s.boot.resetLow = true → s.boot.supplyLow = true →
        (Completes (.resetNRise inp) s fun t => t = { s with boot := { s.boot with resetLow := false } }) ∧
        Completes (.supplyMonitorRelease inp) s fun t => t = { s with boot := { s.boot with supplyLow := false } }) ∧
      (s.boot.resetLow = true → s.boot.supplyLow = false → Completes (.resetNRise inp) s fun t =>
        Claims.Starts inp { s with boot := { s.boot with resetLow := false } } t) ∧
      (s.boot.resetLow = false → s.boot.supplyLow = true → Completes (.supplyMonitorRelease inp) s fun t =>
        Claims.Starts inp { s with boot := { s.boot with supplyLow := false } } t)) ∧
    (∀ v inp, (hostReaches s = true → v.getLsbD 1 = true → wfld v 31 16 = 0xB007 → Completes (.restart v inp) s fun t =>
        ∃ u, Claims.WasReset false false s u ∧ Claims.Starts inp u t) ∧
      (hostReaches s = false ∨ v.getLsbD 1 = false ∨ wfld v 31 16 ≠ 0xB007 → Completes (.restart v inp) s fun t => t = s)) ∧
    (s.boot.inReset = false → s.clk.pllLocked = false →
      (s.boot.holding = none → Completes .pllLock s fun t => t = { s with clk := { s.clk with pllLocked := true, zeroNext := true } }) ∧
      ∀ inp, s.boot.holding = some inp → Completes .pllLock s fun t => t.boot.holding = none ∧ Claims.StartsFrom inp s t) ∧
    (s.boot.inReset = true ∨ s.clk.pllLocked = true → Completes .pllLock s fun t => t = s)

/-- R409, R512, R514: forwarding begins. At a SOLO device's start tick S, or at the end of the 10 s wait for a partner, it is
enabled; at S the pending image becomes active and the held ENABLE values take effect; FORWARD names S 1,024 ticks ahead for
a device in the safe hearth state with cause NO_IMAGE or STRAP, and is ignored without a pending image or with another
cause. -/
def Obligations.ForwardingBegins : Prop :=
  ∀ s : State,
    (∀ v, hostReaches s = true → v.getLsbD 0 = true → s.boot.startS = none → tb s.pwr.ready 25 = true → tb s.pwr.ready 26 = true →
      (s.prog.pendingImg ≠ none → s.boot.safe = .noImage ∨ s.boot.safe = .strap → Completes (.forward v) s fun t =>
        t.boot = { s.boot with startS := some (s.clk.tick + 1024), byHand := true } ∧ regBit t .BOOT_EVENT 0 5 = true ∧
        SameBut [.regs, .host, .boot] s t) ∧
      (s.prog.pendingImg = none ∨ (s.boot.safe ≠ .noImage ∧ s.boot.safe ≠ .strap) → Completes (.forward v) s fun t => t = s)) ∧
    (∀ e, s.boot.startS = some e → isSafe s = false → s.pwr.thermtrip = false →
      (e = s.clk.tick → s.clk.forwarding = false → s.twin.st = .solo → Completes .forwardingStart s fun t =>
        t.clk = { s.clk with forwarding := true } ∧ t.boot.startS = some e ∧ t.boot.step = 11 ∧ t.boot.enables = [] ∧
        (∀ img, s.prog.pendingImg = some img → s.prog.actAt = none → t.prog.active = some img ∧ t.prog.pendingImg = none ∧
          t.prog.activeFrom = e) ∧
        ∀ l, l ∈ s.boot.enables → l < 512 → regBit t .LANE_MODE l 4 = true) ∧
      (e ≠ s.clk.tick ∨ s.clk.forwarding = true ∨ s.twin.st ≠ .solo → Completes .forwardingStart s fun t => t = s)) ∧
    ∀ e, s.boot.pairWait = some e → isSafe s = false → s.pwr.thermtrip = false →
      (e ≤ s.clk.tick → s.clk.forwarding = false → s.twin.pair.passed = false → s.twin.st = .solo ∨ s.twin.st = .pairing →
        Completes .pairWaitExpire s fun t => t.clk = { s.clk with forwarding := true } ∧ t.boot.pairWait = none ∧
          t.twin.st = .solo) ∧
      (s.clk.tick < e ∨ s.clk.forwarding = true ∨ s.twin.pair.passed = true → Completes .pairWaitExpire s fun t => t = s)

namespace Sys2Proof.Claims

/-- The running image passed every check of Table BOOT-4 on the fuses of its start, from which the present ones have grown. -/
def ImageAccepted (s : State) : Prop :=
  ∀ k, s.boot.slot = some k → ∃ f level, FusesGrow f s.fuses ∧ headerCheck f (s.boot.image.take 256) = none ∧
    bodyCheck f level s.boot.image = none

end Sys2Proof.Claims

/-- R500, R502: whatever command runs, the image that the device was booted from is one whose header and body passed every check
of Table BOOT-4, its signature among them; and an image that passes is signed by an accepted key and not older than the
fuses allow. -/
def Obligations.OnlyAcceptedImagesRun : Prop :=
  (∀ s t : State, Claims.FuseJudged s → Claims.ImageAccepted s → step s = .next t → Claims.ImageAccepted t) ∧
  ∀ (f : Fuses) (level : Nat) (img : List Byte), headerCheck f (img.take 256) = none → bodyCheck f level img = none →
    ecdsaVerify (sha384 (img.take 160 ++ img.drop 256)) (slice img 64 96) (slice img 160 96) = true ∧
    f.svn ≤ leAt img 20 2 ∧ leAt img 0 4 = 0x444E494B ∧
    ((leAt img 23 1 = 0xFF ∧ sha384 (slice img 64 96) = f.rootHash ∧ f.rootDisable = false) ∨
      (leAt img 23 1 < 4 ∧ FMap.find? f.custHash (leAt img 23 1) = some (sha384 (slice img 64 96)) ∧
        tb f.custRevoke (leAt img 23 1) = false))

/-- Reset meets the invariants that every step keeps: the fuses grown from its own, the limits of running invocations, the
running image. -/
def Obligations.InvariantsHoldAtReset : Prop :=
  Claims.FuseInv State.reset.fuses State.reset ∧ Claims.LimitsKept State.reset ∧ Claims.ImageAccepted State.reset

/-! ### Power, temperature, self-test and JTAG (chapter 16) -/

namespace Sys2Proof.Claims

/-- Table PWR-1 for the lane banks, the HBM stacks and the flue domain: when the domain of a bit of PWR_DOMAIN_CTRL may be off. -/
def BankMayBeOff (s : State) (b : Nat) : Prop := ∀ l, l / 64 = b → regBit s .LANE_MODE l 4 = false

/-- The hottest of the die sensors, the first among equals: its number and temperature. -/
def Hottest (die : List Int) (i : Nat) (t : Int) : Prop :=
  die[i]? = some t ∧ (∀ x, x ∈ die → x ≤ t) ∧ ∀ (j : Nat) (x : Int), j < i → die[j]? = some x → x < t

/-- The device has tripped (R531): the trip is held, nothing is forwarded, every switched domain is off. -/
def Tripped (s t : State) : Prop :=
  t.pwr.thermtrip = true ∧ t.clk = { s.clk with forwarding := false } ∧ t.pwr.rampQ = [] ∧ (∀ d, d < 30 → tb t.pwr.ready d = false) ∧
  (∀ g, g < 17 → (groupOf t g).powered = false) ∧ t.boot.startS = none ∧ hostReaches t = false

/-- Group `g` is the one that R529 lowers: the highest-clocked powered group, the lowest-numbered among equals. -/
def Fastest (s : State) (g : Nat) : Prop :=
  g < 17 ∧ (groupOf s g).powered = true ∧ 0 < wantedCode s g ∧
  ∀ h, h < 17 → (groupOf s h).powered = true → wantedCode s h ≤ wantedCode s g ∧ (h < g → wantedCode s h < wantedCode s g)

end Sys2Proof.Claims

/-- R307, R522 to R525, R536: power domains. A switch-off whose condition of Table PWR-1 holds takes effect at once, with event 0x1C01, and the
upper firebricks' domain loses its TCAM entries; without the condition it is ignored with event 0x1C02; a switch-on joins the ramps in order of request; the domain at the front
is ready when its ramp and MBIST end, and stays off when MBIST found it bad. -/
def Obligations.PowerDomains : Prop :=
  ∀ s : State,
    (∀ b : Fin 13, regBit s .PWR_DOMAIN_CTRL 0 b.val = true →
      (mayBeOff (bitDomain b.val) s = true → Completes (.domainSwitchOff b) s fun t => regBit t .PWR_DOMAIN_CTRL 0 b.val = false ∧
        tb t.pwr.ready (bitDomain b.val) = false ∧ (∀ d, d ≠ bitDomain b.val → tb t.pwr.ready d = tb s.pwr.ready d) ∧
        (tb s.pwr.ready (bitDomain b.val) = true → regBit t .PWR_EVENT 0 0 = true) ∧
        (b.val = 10 → t.twin.pair.ks = [] ∧ t.twin.pair.passed = false) ∧
        t.tcam = (if b.val = 11 then { s.tcam with entries := s.tcam.entries.filter fun e => decide (e.1 / 512 < 116) } else s.tcam) ∧
        SameBut [.regs, .tcam, .twin, .host, .pwr] s t) ∧
      (mayBeOff (bitDomain b.val) s = false → Completes (.domainSwitchOff b) s fun t => regBit t .PWR_DOMAIN_CTRL 0 b.val = true ∧
        regBit t .PWR_EVENT 0 1 = true ∧ SameBut [.regs, .host] s t) ∧
      Completes (.domainSwitchOn b) s fun t => t = s) ∧
    (∀ b : Fin 13, regBit s .PWR_DOMAIN_CTRL 0 b.val = false → (Completes (.domainSwitchOff b) s fun t => t = s) ∧
      Completes (.domainSwitchOn b) s fun t => regBit t .PWR_DOMAIN_CTRL 0 b.val = true ∧ t.pwr.ready = s.pwr.ready ∧
        t.pwr.rampQ = (if tb s.pwr.ready (bitDomain b.val) = true ∨ bitDomain b.val ∈ s.pwr.rampQ then s.pwr.rampQ
          else s.pwr.rampQ ++ [bitDomain b.val]) ∧ SameBut [.regs, .pwr] s t) ∧
    (∀ b : Fin 13,
      (b.val < 8 → (mayBeOff (bitDomain b.val) s = true ↔ Claims.BankMayBeOff s b.val)) ∧
      (b.val = 8 ∨ b.val = 9 → (mayBeOff (bitDomain b.val) s = true ↔ isSafe s = true)) ∧
      (b.val = 10 → (mayBeOff (bitDomain b.val) s = true ↔ s.twin.st = .solo ∧ regBit s .TWIN_CFG 0 0 = false)) ∧
      (b.val = 11 → (mayBeOff (bitDomain b.val) s = true ↔ courseReachesHigh s = false ∧ s.tcam.txn = .idle)) ∧
      (b.val = 12 → (mayBeOff (bitDomain b.val) s = true ↔ upperRoutesUsed s = false))) ∧
    (s.pwr.rampQ = [] → ∀ l, Completes (.domainReady l) s fun t => t = s) ∧
    ∀ d r, s.pwr.rampQ = d :: r → tb s.pwr.ready d = false →
      (Completes (.domainReady []) s fun t => t.pwr.rampQ = r ∧ tb t.pwr.ready d = true ∧
        (∀ e, e ≠ d → tb t.pwr.ready e = tb s.pwr.ready e) ∧ regBit t .PWR_EVENT 0 0 = true ∧
        (∀ g, g < 17 → groupOf t g = (if d = g + 8 then { groupOf s g with powered := true } else groupOf s g)) ∧
        SameBut [.regs, .hob, .host, .pwr] s t) ∧
      (∀ l, l ≠ [] → d < 8 → Completes (.domainReady l) s fun t => t.pwr.ready = s.pwr.ready ∧ t.pwr.rampQ = r ∧
        regBit t .PWR_DOMAIN_CTRL 0 d = false ∧ regBit t .BIST_EVENT 0 0 = true ∧ ∃ h, h ∈ t.boot.health ∧ h.kind = 3 ∧ h.num = d ∧ tb h.src 3 = true) ∧
      (∀ l, l ≠ [] → d = 29 → Completes (.domainReady l) s fun t => t.pwr = { s.pwr with rampQ := r } ∧
        regBit t .PWR_DOMAIN_CTRL 0 12 = false ∧ regBit t .BIST_EVENT 0 0 = true ∧ SameBut [.regs, .host, .pwr] s t) ∧
      ∀ l, l ≠ [] → d = 25 ∨ d = 26 → Completes (.domainReady l) s fun t => Claims.InSafe t .hbmFailed ∧
        regBit t .PWR_DOMAIN_CTRL 0 (d - 17) = false

/-- R527 to R531: voltage and temperature. The setpoint is the least code from 72 to 140 that every powered domain needs; past 140
the fastest powered group's clock goes down one code; CORE_VID moves one code at a time. At WARN event 0x1C04; at THROTTLE
every powered group above FLOOR goes down one code; at 115 °C, or 105 °C in an HBM stack, the device trips. -/
def Obligations.VoltageAndTemperature : Prop :=
  ∀ s : State,
    (∀ need, s.boot.inReset = false → 4 ≤ s.boot.step → s.pwr.thermtrip = false →
      (regBit s .PWR_AVS_CFG 0 0 = false → Completes (.avsRecompute need) s fun t =>
        t.pwr = { s.pwr with vidTarget := 100, avsLimit := false } ∧ SameBut [.pwr] s t) ∧
      (regBit s .PWR_AVS_CFG 0 0 = true →
        ((∀ x, x ∈ poweredNeeds need s → x.2 ≤ 140) → Completes (.avsRecompute need) s fun t => SameBut [.pwr] s t ∧
          t.pwr = { s.pwr with vidTarget := t.pwr.vidTarget, avsLimit := false } ∧ 72 ≤ t.pwr.vidTarget ∧ t.pwr.vidTarget ≤ 140 ∧
          (∀ x, x ∈ poweredNeeds need s → x.2 ≤ t.pwr.vidTarget) ∧
          (t.pwr.vidTarget = 72 ∨ ∃ x, x ∈ poweredNeeds need s ∧ x.2 = t.pwr.vidTarget)) ∧
        ((∃ x, x ∈ poweredNeeds need s ∧ 140 < x.2) → Completes (.avsRecompute need) s fun t =>
          t.pwr.vidTarget = 140 ∧ t.pwr.avsLimit = true ∧
          ∀ g, Claims.Fastest s g → wantedCode t g = wantedCode s g - 1 ∧
            regFld t .STOVE_GROUP_CFG g 3 0 = regFld s .STOVE_GROUP_CFG g 3 0))) ∧
    (s.boot.inReset = true ∨ s.boot.step < 4 ∨ s.pwr.thermtrip = true → ∀ need, Completes (.avsRecompute need) s fun t => t = s) ∧
    (s.boot.inReset = false → Completes .vidStep s fun t => SameBut [.pwr] s t ∧ t.pwr = { s.pwr with vid := t.pwr.vid } ∧
      (s.pwr.vid < s.pwr.vidTarget → t.pwr.vid = s.pwr.vid + 1) ∧ (s.pwr.vidTarget < s.pwr.vid → t.pwr.vid + 1 = s.pwr.vid) ∧
      (s.pwr.vid = s.pwr.vidTarget → t.pwr.vid = s.pwr.vid)) ∧
    ∀ (die : List Int) (h0 h1 : Int) (i : Nat) (x : Int), Claims.Hottest die i x →
      (s.boot.inReset = false → s.pwr.thermtrip = false →
        (115 ≤ x ∨ 105 ≤ h0 ∨ 105 ≤ h1 → Completes (.thermalSample die h0 h1) s fun t => Claims.Tripped s t ∧ t.pwr.tjMax = x) ∧
        (x < 115 → h0 < 105 → h1 < 105 → Completes (.thermalSample die h0 h1) s fun t =>
          t.pwr.tjMax = x ∧ t.pwr.tjSensor = sensorCode i ∧ t.pwr.hbm0 = h0 ∧ t.pwr.hbm1 = h1 ∧ t.pwr.thermtrip = false ∧
          ((regFld s .PWR_THERM_CFG 0 7 0 : Int) ≤ x → regBit t .PWR_EVENT 0 3 = true) ∧
          ((regFld s .PWR_THERM_CFG 0 15 8 : Int) ≤ x → t.pwr.throttling = true ∧
            (s.pwr.throttling = false → regBit t .PWR_EVENT 0 4 = true) ∧
            ∀ g, g < 17 → (groupOf s g).powered = true → regFld s .PWR_THERM_CFG 0 23 20 < wantedCode s g →
              wantedCode t g = wantedCode s g - 1) ∧
          (x < (regFld s .PWR_THERM_CFG 0 15 8 : Int) → s.pwr.throttling = false → t.pwr.throttling = false ∧
            t.pwr.fEff = s.pwr.fEff))) ∧
      (s.boot.inReset = true ∨ s.pwr.thermtrip = true → Completes (.thermalSample die h0 h1) s fun t => t = s)

/-- R538, R539, R545, R546: the stove sweep and wear. A due visit takes the powered group whose last LBIST is oldest: it leaves
service when the others suffice, else a parked cover group is woken first, else event 0x1C0A ends the visit; drained, tested,
its stoves return as spares, failed ones as FAILED, with event 0x1C09. Each second every domain's wear is reported and the
life grows by AF ÷ 3,600 hours. -/
def Obligations.SweepAndWear : Prop :=
  ∀ s : State,
    (regBit s .BIST_SWEEP_CFG 0 0 = true → s.pwr.visit = none → s.pwr.nextVisit ≤ s.clk.tick → 8 < s.boot.step →
      s.boot.inReset = false → s.pwr.thermtrip = false → ∀ g, oldestGroup s = some g →
      ((inService s).length ≤ ((eligible s).filter fun i => i / 4 ≠ g).length → Completes .sweepVisit s fun t =>
        t.pwr.visit = some { group := g, cover := none, stage := 1 } ∧ t.pwr.nextVisit = s.clk.tick + sweepPeriod s ∧
        (groupOf t g).sweeping = true ∧ Claims.SetRight t ∧ ∀ i, i / 4 = g → i < 68 →
          (stoveOf t i).st = (match (stoveOf s i).st with
            | .inService => .draining
            | .spare => .sweep
            | x => x)) ∧
      (((eligible s).filter fun i => i / 4 ≠ g).length < (inService s).length →
        (∀ c, regBit s .BIST_SWEEP_CFG 0 1 = true → c < 17 → c ≠ g → isParked s c = true → (groupOf s c).parking = false →
          (∀ d, d < c → d = g ∨ isParked s d = false) → Completes .sweepVisit s fun t =>
            t.pwr.visit = some { group := g, cover := some c, stage := 0 } ∧ t.pwr.nextVisit = s.clk.tick + sweepPeriod s ∧
            (groupOf t c).wakeFrom = some (s.clk.tick + 2048)) ∧
        (regBit s .BIST_SWEEP_CFG 0 1 = false ∨ (∀ c, c < 17 → c = g ∨ isParked s c = false) → Completes .sweepVisit s fun t =>
          t.pwr = { s.pwr with nextVisit := s.clk.tick + sweepPeriod s } ∧ regBit t .BIST_EVENT 0 2 = true ∧
          SameBut [.regs, .host, .pwr] s t))) ∧
    (∀ g, oldestGroup s = some g → g < 17 ∧ (groupOf s g).powered = true ∧ ∀ h, h < 17 → (groupOf s h).powered = true →
      (groupOf s h).parking = false → FMap.get 0 s.pwr.lastLbist g ≤ FMap.get 0 s.pwr.lastLbist h) ∧
    (∀ v, s.pwr.visit = some v →
      (v.stage = 1 → (∀ i, i / 4 = v.group → stoveIdle s i = true) → Completes .sweepDrained s fun t =>
        t.pwr = { s.pwr with visit := some { v with stage := 2 } } ∧
        ∀ i, (stoveOf t i).st = if i / 4 = v.group ∧ (stoveOf s i).st ≠ .failed then .sweep else (stoveOf s i).st) ∧
      (v.stage = 2 → ∀ f : Fin 16, Completes (.sweepTestDone f) s fun t => SameBut [.pwr] s t ∧
        t.pwr = { s.pwr with visit := some { v with stage := 3, failed := f.val, at_ := s.clk.tick + 1 }
                             lastLbist := FMap.set 0 s.pwr.lastLbist v.group s.clk.tick }) ∧
      (v.stage = 3 → v.at_ ≤ s.clk.tick → v.cover ≠ some v.group → v.group < 17 → Completes .sweepReturn s fun t =>
        t.pwr.visit = none ∧ t.pwr.visits = s.pwr.visits + 1 ∧ (groupOf t v.group).sweeping = false ∧ Claims.SetRight t ∧
        (∀ n, n < 4 → tb v.failed n = true → (stoveOf t (4 * v.group + n)).st = .failed) ∧
        (∀ n, n < 4 → tb v.failed n = false → (stoveOf s (4 * v.group + n)).st = .sweep →
          (stoveOf t (4 * v.group + n)).st = .spare ∨ (stoveOf t (4 * v.group + n)).st = .inService) ∧
        regBit t .BIST_EVENT 0 1 = true)) ∧
    ∀ degrade : List Nat, s.boot.inReset = false → s.pwr.thermtrip = false → Completes (.agingReport degrade) s fun t =>
      (∀ d x, d < 31 → degrade[d]? = some x → FMap.get 0 t.pwr.aging d = Nat.min x 4095) ∧
      t.pwr.lifeAdded = s.pwr.lifeAdded + agingFactor s.pwr.tjMax * 10 ^ 12 / (3600 * 2 ^ 40) ∧
      ((∃ d x, d < 31 ∧ degrade[d]? = some x ∧ 800 ≤ lifeUsed (Nat.min x 4095)) → t.pwr.agingWarned = true ∧
        (s.pwr.agingWarned = false → regBit t .PWR_EVENT 0 5 = true)) ∧ SameBut [.regs, .host, .pwr] s t

/-- R515, R516, R541, R542: JTAG. EXTEST, INTSCAN and BISTCTL zeroise the key store, the session keys and the sensed wrap key and
leave the device in the safe hearth state with cause SCAN; IDCODE and IDREAD shift out the code and the identity record; the
others, codes not listed among them, change nothing. -/
def Obligations.JtagInstructions : Prop :=
  ∀ s : State,
    (∀ c, c ∈ [Instr.extest, .intscan, .bistctl] →
      (s.boot.inReset = false → s.pwr.thermtrip = false → Completes c s fun t => Claims.InSafe t .scan ∧ t.boot.keys = [] ∧
        t.boot.cwkSensed = false ∧ t.twin.pair.ks = [] ∧ t.twin.pair.saltA = [] ∧ t.twin.pair.saltB = [] ∧
        t.twin.pair.passed = false ∧ t.pwr.scanned = true) ∧
      (s.boot.inReset = true ∨ s.pwr.thermtrip = true → Completes c s fun t => t = s)) ∧
    (Completes .idcode s fun t => t = { s with out := { s.out with jtag := s.out.jtag ++ [0x1624098F] } }) ∧
    (Completes .idread s fun t => t = { s with out := { s.out with jtag := s.out.jtag ++ [leVal (slice s.fuses.identity 0 16)] } }) ∧
    (Completes .samplePreload s fun t => t = s) ∧
    ∀ code, Completes (.bypass code) s fun t => t = s

/-! ### The tick (chapter 01) -/

/-- R16, R17: at each tick boundary the 64-bit count increases by 1; at the first boundary after the PLL locks it is zero. In
reset, and without a lock, there is no boundary. Whatever falls to the boundary then, the count stands: no other work of the
tick moves it, and no other command does but the adoption of a partner's count, a lock or a reset. -/
def Obligations.TicksAdvanceTheCount : Prop :=
  (∀ (inp : TickInput) (s : State),
    (s.boot.inReset = true ∨ s.clk.pllLocked = false → Completes (.tick inp) s fun t => t = s) ∧
    (s.boot.inReset = false → s.clk.pllLocked = true → Completes (.tick inp) s fun t =>
      t.clk.tick = (if s.clk.zeroNext = true then 0 else (s.clk.tick + 1) % 2 ^ 64) ∧ t.clk.zeroNext = false ∧ t.clk.pllLocked = true ∧
      t.hob.threads = s.hob.threads ∧ t.fuses = s.fuses ∧ t.pending = s.pending)) ∧
  ∀ (c : Instr) (s t : State), exec c s = .next t → t.clk.tick ≠ s.clk.tick → (∃ inp, c = .tick inp) ∨ c = .tsyncPulse ∨ t.clk.tick = 0
end

