-- ==== Sys2Proof/Laws/Keep/Base.lean ====
section
/-! SUPPORT. The parts of the state that an operation keeps: how the parts combine. -/

namespace Sys2Proof.Machine

set_option linter.all false

@[simp] theorem keep_ite {kp : Area → Bool} (c : Prop) [Decidable c] (a b : State) : keep kp (if c then a else b) = if c then keep kp a else keep kp b := by
  split <;> rfl

@[simp] theorem keep_foldl {kp : Area → Bool} {α : Type} (l : List α) (g : State → α → State) (s : State)
    (h : ∀ t x, keep kp (g t x) = keep kp t) : keep kp (l.foldl g s) = keep kp s := by
  induction l generalizing s with
  | nil => rfl
  | cons x xs ih => exact (ih (g s x)).trans (h s x)

@[simp] theorem keep_ite_snd {kp : Area → Bool} {α : Type} (c : Prop) [Decidable c] (a b : α × State) :
    keep kp (if c then a else b).2 = if c then keep kp a.2 else keep kp b.2 := by
  split <;> rfl

@[simp] theorem keep_foldl_snd {kp : Area → Bool} {α β : Type} (l : List α) (g : β × State → α → β × State) (a : β × State)
    (h : ∀ b x, keep kp (g b x).2 = keep kp b.2) : keep kp (l.foldl g a).2 = keep kp a.2 := by
  induction l generalizing a with
  | nil => rfl
  | cons x xs ih => exact (ih (g a x)).trans (h a x)

@[simp] theorem keep_with_regs {kp : Area → Bool} (k_regs : kp .regs = false) (s : State) (x : Regs) : keep kp { s with regs := x } = keep kp s := by
  simp [keep, k_regs]
@[simp] theorem keep_with_writes {kp : Area → Bool} (k_writes : kp .writes = false) (s : State) (x : List HostWrite) : keep kp { s with writes := x } = keep kp s := by
  simp [keep, k_writes]
@[simp] theorem keep_with_lanes {kp : Area → Bool} (k_lanes : kp .lanes = false) (s : State) (x : FMap Lane) : keep kp { s with lanes := x } = keep kp s := by
  simp [keep, k_lanes]
@[simp] theorem keep_with_ports {kp : Area → Bool} (k_ports : kp .ports = false) (s : State) (x : FMap Port) : keep kp { s with ports := x } = keep kp s := by
  simp [keep, k_ports]
@[simp] theorem keep_with_adm {kp : Area → Bool} (k_adm : kp .adm = false) (s : State) (x : Admission) : keep kp { s with adm := x } = keep kp s := by
  simp [keep, k_adm]
@[simp] theorem keep_with_prog {kp : Area → Bool} (k_prog : kp .prog = false) (s : State) (x : Programs) : keep kp { s with prog := x } = keep kp s := by
  simp [keep, k_prog]
@[simp] theorem keep_with_tbl {kp : Area → Bool} (k_tbl : kp .tbl = false) (s : State) (x : Tables) : keep kp { s with tbl := x } = keep kp s := by
  simp [keep, k_tbl]
@[simp] theorem keep_with_tcam {kp : Area → Bool} (k_tcam : kp .tcam = false) (s : State) (x : Tcam) : keep kp { s with tcam := x } = keep kp s := by
  simp [keep, k_tcam]
@[simp] theorem keep_with_buf {kp : Area → Bool} (k_buf : kp .buf = false) (s : State) (x : Buffer) : keep kp { s with buf := x } = keep kp s := by
  simp [keep, k_buf]
@[simp] theorem keep_with_egr {kp : Area → Bool} (k_egr : kp .egr = false) (s : State) (x : Egress) : keep kp { s with egr := x } = keep kp s := by
  simp [keep, k_egr]
@[simp] theorem keep_with_twin {kp : Area → Bool} (k_twin : kp .twin = false) (s : State) (x : Twin) : keep kp { s with twin := x } = keep kp s := by
  simp [keep, k_twin]
@[simp] theorem keep_with_time {kp : Area → Bool} (k_time : kp .time = false) (s : State) (x : TimeUnit) : keep kp { s with time := x } = keep kp s := by
  simp [keep, k_time]
@[simp] theorem keep_with_host {kp : Area → Bool} (k_host : kp .host = false) (s : State) (x : HostIf) : keep kp { s with host := x } = keep kp s := by
  simp [keep, k_host]
@[simp] theorem keep_with_fuses {kp : Area → Bool} (k_fuses : kp .fuses = false) (s : State) (x : Fuses) : keep kp { s with fuses := x } = keep kp s := by
  simp [keep, k_fuses]
@[simp] theorem keep_with_pwr {kp : Area → Bool} (k_pwr : kp .pwr = false) (s : State) (x : Power) : keep kp { s with pwr := x } = keep kp s := by
  simp [keep, k_pwr]
@[simp] theorem keep_with_out {kp : Area → Bool} (k_out : kp .out = false) (s : State) (x : Outputs) : keep kp { s with out := x } = keep kp s := by
  simp [keep, k_out]
@[simp] theorem keep_with_clk {kp : Area → Bool} (k_clk : kp .clk = false) (k_tick : kp .tick = false) (s : State) (x : Clock) : keep kp { s with clk := x } = keep kp s := by
  simp [keep, k_clk, k_tick]
@[simp] theorem keep_with_hob {kp : Area → Bool} (k_hob : kp .hob = false) (k_threads : kp .threads = false) (s : State) (x : Hobs) : keep kp { s with hob := x } = keep kp s := by
  simp [keep, k_hob, k_threads]

/-! ### One area alone -/

/-- The area `a` alone. -/
def only (a : Area) : Area → Bool := fun b => decide (b = a)

@[simp] theorem only_apply (a b : Area) : only a b = decide (b = a) := Eq.trans rfl rfl

theorem pending_of_keep {s t : State} (h : keep (only .pending) t = keep (only .pending) s) : t.pending = s.pending := by
  simpa [keep] using congrArg (State.pending) h
theorem clk_of_keep {s t : State} (h : keep (only .clk) t = keep (only .clk) s) : t.clk = s.clk := by
  simpa [keep] using congrArg (State.clk) h
theorem tick_of_keep {s t : State} (h : keep (only .tick) t = keep (only .tick) s) :
    t.clk.tick = s.clk.tick ∧ t.clk.pllLocked = s.clk.pllLocked ∧ t.clk.zeroNext = s.clk.zeroNext :=
  ⟨by simpa [keep] using congrArg (fun x : State => x.clk.tick) h, by simpa [keep] using congrArg (fun x : State => x.clk.pllLocked) h,
    by simpa [keep] using congrArg (fun x : State => x.clk.zeroNext) h⟩
theorem regs_of_keep {s t : State} (h : keep (only .regs) t = keep (only .regs) s) : t.regs = s.regs := by
  simpa [keep] using congrArg (State.regs) h
theorem writes_of_keep {s t : State} (h : keep (only .writes) t = keep (only .writes) s) : t.writes = s.writes := by
  simpa [keep] using congrArg (State.writes) h
theorem lanes_of_keep {s t : State} (h : keep (only .lanes) t = keep (only .lanes) s) : t.lanes = s.lanes := by
  simpa [keep] using congrArg (State.lanes) h
theorem ports_of_keep {s t : State} (h : keep (only .ports) t = keep (only .ports) s) : t.ports = s.ports := by
  simpa [keep] using congrArg (State.ports) h
theorem adm_of_keep {s t : State} (h : keep (only .adm) t = keep (only .adm) s) : t.adm = s.adm := by
  simpa [keep] using congrArg (State.adm) h
theorem prog_of_keep {s t : State} (h : keep (only .prog) t = keep (only .prog) s) : t.prog = s.prog := by
  simpa [keep] using congrArg (State.prog) h
theorem hob_of_keep {s t : State} (h : keep (only .hob) t = keep (only .hob) s) : t.hob = s.hob := by
  simpa [keep] using congrArg (State.hob) h
theorem hobNext_of_keep {s t : State} (h : keep (only .threads) t = keep (only .threads) s) : t.hob.hobNext = s.hob.hobNext := by
  simpa [keep] using congrArg (fun x : State => x.hob.hobNext) h
theorem threads_of_keep {s t : State} (h : keep (only .threads) t = keep (only .threads) s) : t.hob.threads = s.hob.threads := by
  simpa [keep] using congrArg (fun x : State => x.hob.threads) h
theorem tbl_of_keep {s t : State} (h : keep (only .tbl) t = keep (only .tbl) s) : t.tbl = s.tbl := by
  simpa [keep] using congrArg (State.tbl) h
theorem tcam_of_keep {s t : State} (h : keep (only .tcam) t = keep (only .tcam) s) : t.tcam = s.tcam := by
  simpa [keep] using congrArg (State.tcam) h
theorem buf_of_keep {s t : State} (h : keep (only .buf) t = keep (only .buf) s) : t.buf = s.buf := by
  simpa [keep] using congrArg (State.buf) h
theorem egr_of_keep {s t : State} (h : keep (only .egr) t = keep (only .egr) s) : t.egr = s.egr := by
  simpa [keep] using congrArg (State.egr) h
theorem twin_of_keep {s t : State} (h : keep (only .twin) t = keep (only .twin) s) : t.twin = s.twin := by
  simpa [keep] using congrArg (State.twin) h
theorem time_of_keep {s t : State} (h : keep (only .time) t = keep (only .time) s) : t.time = s.time := by
  simpa [keep] using congrArg (State.time) h
theorem host_of_keep {s t : State} (h : keep (only .host) t = keep (only .host) s) : t.host = s.host := by
  simpa [keep] using congrArg (State.host) h
theorem boot_of_keep {s t : State} (h : keep (only .boot) t = keep (only .boot) s) : t.boot = s.boot := by
  simpa [keep] using congrArg (State.boot) h
theorem fuseOp_of_keep {s t : State} (h : keep (only .fuseOp) t = keep (only .fuseOp) s) : t.boot.fuseOp = s.boot.fuseOp := by
  simpa [keep] using congrArg (fun x : State => x.boot.fuseOp) h
theorem image_of_keep {s t : State} (h : keep (only .image) t = keep (only .image) s) : t.boot.slot = s.boot.slot ∧ t.boot.image = s.boot.image :=
  ⟨by simpa [keep] using congrArg (fun x : State => x.boot.slot) h, by simpa [keep] using congrArg (fun x : State => x.boot.image) h⟩
theorem fuses_of_keep {s t : State} (h : keep (only .fuses) t = keep (only .fuses) s) : t.fuses = s.fuses := by
  simpa [keep] using congrArg (State.fuses) h
theorem pwr_of_keep {s t : State} (h : keep (only .pwr) t = keep (only .pwr) s) : t.pwr = s.pwr := by
  simpa [keep] using congrArg (State.pwr) h
theorem out_of_keep {s t : State} (h : keep (only .out) t = keep (only .out) s) : t.out = s.out := by
  simpa [keep] using congrArg (State.out) h

end Sys2Proof.Machine
end

