-- ==== Sys2Proof/Laws/Keep/Ops.lean ====
section
/-! SUPPORT. Which parts of the state the operations of Machine/Ops.lean keep. -/

namespace Sys2Proof.Machine

set_option linter.all false

@[simp] theorem keep_modLane {kp : Area → Bool} (k_lanes : kp .lanes = false) (l : Nat) (f : Lane → Lane) (s : State) : keep kp (modLane l f s) = keep kp s := by
  simp [keep, modLane, k_lanes]

@[simp] theorem keep_modPort {kp : Area → Bool} (k_ports : kp .ports = false) (p : Nat) (f : Port → Port) (s : State) : keep kp (modPort p f s) = keep kp s := by
  simp [keep, modPort, k_ports]

@[simp] theorem keep_modClk {kp : Area → Bool} (k_clk : kp .clk = false) (f : Clock → Clock) (s : State) (h : ∀ c, (f c).tick = c.tick)
    (hp : ∀ c, (f c).pllLocked = c.pllLocked) (hz : ∀ c, (f c).zeroNext = c.zeroNext) : keep kp (modClk f s) = keep kp s := by
  simp [keep, modClk, k_clk, h, hp, hz]

@[simp] theorem keep_modClk_tick {kp : Area → Bool} (k_clk : kp .clk = false) (k_tick : kp .tick = false) (f : Clock → Clock) (s : State) :
    keep kp (modClk f s) = keep kp s := by
  simp [keep, modClk, k_clk, k_tick]

@[simp] theorem keep_modAdm {kp : Area → Bool} (k_adm : kp .adm = false) (f : Admission → Admission) (s : State) : keep kp (modAdm f s) = keep kp s := by
  simp [keep, modAdm, k_adm]

@[simp] theorem keep_modProg {kp : Area → Bool} (k_prog : kp .prog = false) (f : Programs → Programs) (s : State) : keep kp (modProg f s) = keep kp s := by
  simp [keep, modProg, k_prog]

@[simp] theorem keep_modHob {kp : Area → Bool} (k_hob : kp .hob = false) (f : Hobs → Hobs) (s : State) (h : ∀ b, (f b).threads = b.threads)
    (hn : ∀ b, (f b).hobNext = b.hobNext) : keep kp (modHob f s) = keep kp s := by
  simp [keep, modHob, k_hob, h, hn]

@[simp] theorem keep_modHob_threads {kp : Area → Bool} (k_hob : kp .hob = false) (k_threads : kp .threads = false) (f : Hobs → Hobs) (s : State) :
    keep kp (modHob f s) = keep kp s := by
  simp [keep, modHob, k_hob, k_threads]

@[simp] theorem keep_modTbl {kp : Area → Bool} (k_tbl : kp .tbl = false) (f : Tables → Tables) (s : State) : keep kp (modTbl f s) = keep kp s := by
  simp [keep, modTbl, k_tbl]

@[simp] theorem keep_modTcam {kp : Area → Bool} (k_tcam : kp .tcam = false) (f : Tcam → Tcam) (s : State) : keep kp (modTcam f s) = keep kp s := by
  simp [keep, modTcam, k_tcam]

@[simp] theorem keep_modBuf {kp : Area → Bool} (k_buf : kp .buf = false) (f : Buffer → Buffer) (s : State) : keep kp (modBuf f s) = keep kp s := by
  simp [keep, modBuf, k_buf]

@[simp] theorem keep_modEgr {kp : Area → Bool} (k_egr : kp .egr = false) (f : Egress → Egress) (s : State) : keep kp (modEgr f s) = keep kp s := by
  simp [keep, modEgr, k_egr]

@[simp] theorem keep_modTwin {kp : Area → Bool} (k_twin : kp .twin = false) (f : Twin → Twin) (s : State) : keep kp (modTwin f s) = keep kp s := by
  simp [keep, modTwin, k_twin]

@[simp] theorem keep_modTime {kp : Area → Bool} (k_time : kp .time = false) (f : TimeUnit → TimeUnit) (s : State) : keep kp (modTime f s) = keep kp s := by
  simp [keep, modTime, k_time]

@[simp] theorem keep_modHost {kp : Area → Bool} (k_host : kp .host = false) (f : HostIf → HostIf) (s : State) : keep kp (modHost f s) = keep kp s := by
  simp [keep, modHost, k_host]

@[simp] theorem keep_modBoot {kp : Area → Bool} (k_boot : kp .boot = false) (f : Boot → Boot) (s : State) (h : ∀ b, (f b).fuseOp = b.fuseOp)
    (hs : ∀ b, (f b).slot = b.slot) (hi : ∀ b, (f b).image = b.image) : keep kp (modBoot f s) = keep kp s := by
  simp [keep, modBoot, k_boot, h, hs, hi]

@[simp] theorem keep_modBoot_fuseOp {kp : Area → Bool} (k_boot : kp .boot = false) (k_fuseOp : kp .fuseOp = false) (f : Boot → Boot) (s : State)
    (hs : ∀ b, (f b).slot = b.slot) (hi : ∀ b, (f b).image = b.image) : keep kp (modBoot f s) = keep kp s := by
  simp [keep, modBoot, k_boot, k_fuseOp, hs, hi]

@[simp] theorem keep_modBoot_image {kp : Area → Bool} (k_boot : kp .boot = false) (k_image : kp .image = false) (f : Boot → Boot) (s : State)
    (h : ∀ b, (f b).fuseOp = b.fuseOp) : keep kp (modBoot f s) = keep kp s := by
  simp [keep, modBoot, k_boot, k_image, h]

@[simp] theorem keep_modPwr {kp : Area → Bool} (k_pwr : kp .pwr = false) (f : Power → Power) (s : State) : keep kp (modPwr f s) = keep kp s := by
  simp [keep, modPwr, k_pwr]

@[simp] theorem keep_modOut {kp : Area → Bool} (k_out : kp .out = false) (f : Outputs → Outputs) (s : State) : keep kp (modOut f s) = keep kp s := by
  simp [keep, modOut, k_out]

@[simp] theorem keep_whenB {kp : Area → Bool} (c : Bool) (f : State → State) (s : State) :
    keep kp (whenB c f s) = if c then keep kp (f s) else keep kp s := by
  unfold whenB; split <;> rfl

@[simp] theorem keep_forEach {kp : Area → Bool} {α : Type} (l : List α) (f : α → State → State) (s : State)
    (h : ∀ x t, keep kp (f x t) = keep kp t) : keep kp (forEach l f s) = keep kp s := by
  induction l generalizing s with
  | nil => rfl
  | cons x xs ih => exact (ih (f x s)).trans (h x s)

@[simp] theorem keep_regSet {kp : Area → Bool} (k_regs : kp .regs = false) (r : Reg) (i : Nat) (v : Word) (s : State) : keep kp (regSet r i v s) = keep kp s := by
  simp [keep, regSet, k_regs]

@[simp] theorem keep_regSetFld {kp : Area → Bool} (k_regs : kp .regs = false) (r : Reg) (i hi lo x : Nat) (s : State) : keep kp (regSetFld r i hi lo x s) = keep kp s := by
  unfold regSetFld
  repeat' (first | (simp [k_regs]; done) | split | dsimp only)
  all_goals first | rfl | (simp_all; done) | (simp [keep, k_regs]; done) | grind [keep_regSet]

@[simp] theorem keep_regCountN {kp : Area → Bool} (k_regs : kp .regs = false) (r : Reg) (i hi n : Nat) (s : State) : keep kp (regCountN r i hi n s) = keep kp s := by
  unfold regCountN
  repeat' (first | (simp [k_regs]; done) | split | dsimp only)
  all_goals first | rfl | (simp_all; done) | (simp [keep, k_regs]; done) | grind [keep_regSetFld]

@[simp] theorem keep_regCount {kp : Area → Bool} (k_regs : kp .regs = false) (r : Reg) (i : Nat) (s : State) : keep kp (regCount r i s) = keep kp s := by
  unfold regCount
  repeat' (first | (simp [k_regs]; done) | split | dsimp only)
  all_goals first | rfl | (simp_all; done) | (simp [keep, k_regs]; done) | grind [keep_regCountN]

@[simp] theorem keep_modRing {kp : Area → Bool} (k_host : kp .host = false) (k : Nat) (f : Ring → Ring) (s : State) : keep kp (modRing k f s) = keep kp s := by
  unfold modRing
  repeat' (first | (simp [k_host]; done) | split | dsimp only)
  all_goals first | rfl | (simp_all; done) | (simp [keep, k_host]; done) | grind [keep_modHost]

@[simp] theorem keep_vectorPend {kp : Area → Bool} (k_host : kp .host = false) (v : Nat) (s : State) : keep kp (vectorPend v s) = keep kp s := by
  unfold vectorPend
  repeat' (first | (simp [k_host]; done) | split | dsimp only)
  all_goals first | rfl | (simp_all; done) | (simp [keep, k_host]; done) | grind [keep_modHost]

@[simp] theorem keep_ringPut {kp : Area → Bool} (k_host : kp .host = false) (k ph : Nat) (rec : List Byte) (s : State) : keep kp (ringPut k ph rec s) = keep kp s := by
  unfold ringPut
  repeat' (first | (simp [k_host]; done) | split | dsimp only)
  all_goals first | rfl | (simp_all; done) | (simp [keep, k_host]; done) | grind [keep_vectorPend, keep_modRing, keep_modHost]

@[simp] theorem keep_hostErr {kp : Area → Bool} (k_regs : kp .regs = false) (k_host : kp .host = false) (b : Nat) (s : State) : keep kp (hostErr b s) = keep kp s := by
  unfold hostErr
  repeat' (first | (simp [k_regs, k_host]; done) | split | dsimp only)
  all_goals first | rfl | (simp_all; done) | (simp [keep, k_regs, k_host]; done) | grind [keep_vectorPend, keep_regSetFld]

@[simp] theorem keep_setEventBit {kp : Area → Bool} (k_regs : kp .regs = false) (code inst : Nat) (s : State) : keep kp (setEventBit code inst s) = keep kp s := by
  unfold setEventBit
  repeat' (first | (simp [k_regs]; done) | split | dsimp only)
  all_goals first | rfl | (simp_all; done) | (simp [keep, k_regs]; done) | grind [keep_regSetFld]

@[simp] theorem keep_loseEvent {kp : Area → Bool} (k_regs : kp .regs = false) (k_host : kp .host = false) (s : State) : keep kp (loseEvent s) = keep kp s := by
  unfold loseEvent
  repeat' (first | (simp [k_regs, k_host]; done) | split | dsimp only)
  all_goals first | rfl | (simp_all; done) | (simp [keep, k_regs, k_host]; done) | grind [keep_modHost, keep_regCount]

@[simp] theorem keep_putEvent {kp : Area → Bool} (k_regs : kp .regs = false) (k_host : kp .host = false) (e : Event) (s : State) : keep kp (putEvent e s) = keep kp s := by
  unfold putEvent
  repeat' (first | (simp [k_regs, k_host]; done) | split | dsimp only)
  all_goals first | rfl | (simp_all; done) | (simp [keep, k_regs, k_host]; done) | grind [keep_modHost, keep_loseEvent, keep_ringPut]

@[simp] theorem keep_raiseEv {kp : Area → Bool} (k_regs : kp .regs = false) (k_host : kp .host = false) (code inst : Nat) (data : List Byte) (s : State) : keep kp (raiseEv code inst data s) = keep kp s := by
  unfold raiseEv
  repeat' (first | (simp [k_regs, k_host]; done) | split | dsimp only)
  all_goals first | rfl | (simp_all; done) | (simp [keep, k_regs, k_host]; done) | grind [keep_putEvent, keep_setEventBit]

@[simp] theorem keep_raiseLim {kp : Area → Bool} (k_regs : kp .regs = false) (k_host : kp .host = false) (code inst key period : Nat) (data : List Byte) (s : State) : keep kp (raiseLim code inst key period data s) = keep kp s := by
  unfold raiseLim
  repeat' (first | (simp [k_regs, k_host]; done) | split | dsimp only)
  all_goals first | rfl | (simp_all; done) | (simp [keep, k_regs, k_host]; done) | grind [keep_setEventBit, keep_modHost, keep_putEvent]

@[simp] theorem keep_drainCompletions {kp : Area → Bool} (k_host : kp .host = false) (l : List (Nat × List Byte)) (s : State) :
    keep kp (drainCompletions l s) = keep kp s := by
  induction l generalizing s with
  | nil => simp [drainCompletions, k_host]
  | cons e es ih => simp only [drainCompletions]; split <;> simp [ih, k_host]

@[simp] theorem keep_complete {kp : Area → Bool} (k_host : kp .host = false) (c : MbxCmd) (status tick : Nat) (result : List Byte) (s : State) : keep kp (complete c status tick result s) = keep kp s := by
  unfold complete
  repeat' (first | (simp [k_host]; done) | split | dsimp only)
  all_goals first | rfl | (simp_all; done) | (simp [keep, k_host]; done) | grind [keep_modHost, keep_drainCompletions]

@[simp] theorem keep_completeOpt {kp : Area → Bool} (k_host : kp .host = false) (c : Option MbxCmd) (status tick : Nat) (result : List Byte) (s : State) : keep kp (completeOpt c status tick result s) = keep kp s := by
  unfold completeOpt
  repeat' (first | (simp [k_host]; done) | split | dsimp only)
  all_goals first | rfl | (simp_all; done) | (simp [keep, k_host]; done) | grind [keep_complete]

@[simp] theorem keep_hostPut {kp : Area → Bool} (k_host : kp .host = false) (a : Nat) (bs : List Byte) (s : State) : keep kp (hostPut a bs s) = keep kp s := by
  unfold hostPut
  repeat' (first | (simp [k_host]; done) | split | dsimp only)
  all_goals first | rfl | (simp_all; done) | (simp [keep, k_host]; done) | grind [keep_modHost]

@[simp] theorem keep_countAt {kp : Area → Bool} (k_egr : kp .egr = false) (e key a b : Nat) (s : State) : keep kp (countAt e key a b s) = keep kp s := by
  unfold countAt
  repeat' (first | (simp [k_egr]; done) | split | dsimp only)
  all_goals first | rfl | (simp_all; done) | (simp [keep, k_egr]; done) | grind [keep_modEgr]

@[simp] theorem keep_countPair {kp : Area → Bool} (k_egr : kp .egr = false) (key a b : Nat) (s : State) : keep kp (countPair key a b s) = keep kp s := by
  unfold countPair
  repeat' (first | (simp [k_egr]; done) | split | dsimp only)
  all_goals first | rfl | (simp_all; done) | (simp [keep, k_egr]; done) | grind [keep_countAt]

@[simp] theorem keep_countDrop {kp : Area → Bool} (k_egr : kp .egr = false) (reason bytes : Nat) (s : State) : keep kp (countDrop reason bytes s) = keep kp s := by
  unfold countDrop
  repeat' (first | (simp [k_egr]; done) | split | dsimp only)
  all_goals first | rfl | (simp_all; done) | (simp [keep, k_egr]; done) | grind [keep_countPair]

@[simp] theorem keep_addHealth {kp : Area → Bool} (k_boot : kp .boot = false) (kind num src : Nat) (s : State) : keep kp (addHealth kind num src s) = keep kp s := by
  unfold addHealth
  repeat' (first | (simp [k_boot]; done) | split | dsimp only)
  all_goals first | rfl | (simp_all; done) | (simp [keep, k_boot]; done) | grind [keep_modBoot]

@[simp] theorem keep_useFree {kp : Area → Bool} (k_clk : kp .clk = false) (s : State) : keep kp (useFree s) = keep kp s := by
  unfold useFree
  repeat' (first | (simp [k_clk]; done) | split | dsimp only)
  all_goals first | rfl | (simp_all; done) | (simp [keep, k_clk]; done) | grind [keep_modClk]

end Sys2Proof.Machine
end

