-- ==== Sys2Proof/Laws/FMap.lean ====
section
/-! SUPPORT. Sparse maps: reading after writing, and every operation keeps the canonical form. -/

namespace Sys2Proof.Machine

/-! ### Reading after writing -/

@[simp] theorem FMap.get_nil {α : Type} (d : α) (i : Nat) : FMap.get d [] i = d := rfl

theorem FMap.get_erase {α : Type} (d : α) (m : FMap α) (i j : Nat) :
    FMap.get d (FMap.erase m i) j = if j = i then d else FMap.get d m j := by
  induction m with
  | nil => simp [FMap.erase]
  | cons e m ih =>
    obtain ⟨k, v⟩ := e
    by_cases h : i = k
    · subst h
      simp only [FMap.erase, if_true, ih, FMap.get]
      by_cases hj : j = i <;> simp [hj]
    · by_cases hj : j = k
      · subst hj
        have : j ≠ i := fun e => h e.symm
        simp [FMap.erase, FMap.get, h, this]
      · simp [FMap.erase, FMap.get, h, hj, ih]

theorem FMap.get_put {α : Type} (d : α) (m : FMap α) (i j : Nat) (x : α) :
    FMap.get d (FMap.put m i x) j = if j = i then x else FMap.get d m j := by
  induction m with
  | nil => simp [FMap.put, FMap.get]
  | cons e m ih =>
    obtain ⟨k, v⟩ := e
    simp only [FMap.put]
    split
    · simp [FMap.get]
    · split
      · next h => subst h; by_cases hj : j = i <;> simp [FMap.get, hj]
      · next h =>
        by_cases hj : j = k
        · subst hj
          have : j ≠ i := fun e => h e.symm
          simp [FMap.get, this]
        · simp [FMap.get, hj, ih]

/-- A read after a write: the value written at that key, the old value at every other. -/
theorem FMap.get_set {α : Type} [DecidableEq α] (d : α) (m : FMap α) (i j : Nat) (x : α) :
    FMap.get d (FMap.set d m i x) j = if j = i then x else FMap.get d m j := by
  unfold FMap.set
  split
  · next h => rw [FMap.get_erase, h]
  · rw [FMap.get_put]

@[simp] theorem FMap.get_set_self {α : Type} [DecidableEq α] (d : α) (m : FMap α) (i : Nat) (x : α) :
    FMap.get d (FMap.set d m i x) i = x := by simp [FMap.get_set]

theorem FMap.get_set_ne {α : Type} [DecidableEq α] (d : α) (m : FMap α) {i j : Nat} (x : α) (h : j ≠ i) :
    FMap.get d (FMap.set d m i x) j = FMap.get d m j := by simp [FMap.get_set, h]

theorem FMap.get_upd {α : Type} [DecidableEq α] (d : α) (m : FMap α) (i j : Nat) (f : α → α) :
    FMap.get d (FMap.upd d m i f) j = if j = i then f (FMap.get d m i) else FMap.get d m j := FMap.get_set d m i j _

@[simp] theorem FMap.get_upd_self {α : Type} [DecidableEq α] (d : α) (m : FMap α) (i : Nat) (f : α → α) :
    FMap.get d (FMap.upd d m i f) i = f (FMap.get d m i) := by simp [FMap.get_upd]

theorem FMap.get_upd_ne {α : Type} [DecidableEq α] (d : α) (m : FMap α) {i j : Nat} (f : α → α) (h : j ≠ i) :
    FMap.get d (FMap.upd d m i f) j = FMap.get d m j := by simp [FMap.get_upd, h]

/-- A listed entry is what `get` reads. -/
theorem FMap.find?_put {α : Type} (m : FMap α) (i j : Nat) (x : α) :
    FMap.find? (FMap.put m i x) j = if j = i then some x else FMap.find? m j := by
  induction m with
  | nil => simp [FMap.put, FMap.find?]
  | cons e m ih =>
    obtain ⟨k, v⟩ := e
    simp only [FMap.put]
    split
    · simp [FMap.find?]
    · split
      · next h => subst h; by_cases hj : j = i <;> simp [FMap.find?, hj]
      · next h =>
        by_cases hj : j = k
        · subst hj
          have : j ≠ i := fun e => h e.symm
          simp [FMap.find?, this]
        · simp [FMap.find?, hj, ih]

/-- Writing `bs` at `a`: byte `j` reads as the byte written there, or as before outside the written bytes. -/
theorem FMap.get_putBytes (d : Byte) (m : FMap Byte) (a : Nat) (bs : List Byte) (j : Nat) :
    FMap.get d (FMap.putBytes d m a bs) j =
      if a ≤ j ∧ j < a + bs.length then bs.getD (j - a) d else FMap.get d m j := by
  induction bs generalizing m a with
  | nil =>
    have : ¬ (a ≤ j ∧ j < a + ([] : List Byte).length) := by simp
    rw [if_neg this]; rfl
  | cons b bs ih =>
    rw [FMap.putBytes, ih, FMap.get_set]
    simp only [List.length_cons]
    by_cases h : j = a
    · subst h
      have h1 : ¬ (j + 1 ≤ j ∧ j < j + 1 + bs.length) := by omega
      have h2 : j ≤ j ∧ j < j + (bs.length + 1) := by omega
      rw [if_neg h1, if_pos h2, if_pos rfl, Nat.sub_self]; rfl
    · by_cases h1 : a + 1 ≤ j ∧ j < a + 1 + bs.length
      · have h2 : a ≤ j ∧ j < a + (bs.length + 1) := by omega
        have h3 : j - a = j - (a + 1) + 1 := by omega
        rw [if_pos h1, if_pos h2, h3]; rfl
      · have h2 : ¬ (a ≤ j ∧ j < a + (bs.length + 1)) := by omega
        rw [if_neg h1, if_neg h2, if_neg h]

/-! ### The canonical form -/

theorem FMap.risesFrom_weaken {α : Type} {m : FMap α} {a b : Nat} (h : FMap.risesFrom (some b) m = true) (hab : a ≤ b) :
    FMap.risesFrom (some a) m = true := by
  cases m with
  | nil => rfl
  | cons e m =>
    simp only [FMap.risesFrom, Bool.and_eq_true, decide_eq_true_eq] at h ⊢
    exact ⟨by omega, h.2⟩

theorem FMap.risesFrom_none {α : Type} {m : FMap α} {b : Nat} (h : FMap.risesFrom (some b) m = true) :
    FMap.risesFrom none m = true := by
  cases m with
  | nil => rfl
  | cons e m => simp only [FMap.risesFrom, Bool.and_eq_true] at h ⊢; exact h.2

theorem FMap.risesFrom_erase {α : Type} (m : FMap α) (o : Option Nat) (i : Nat) (h : FMap.risesFrom o m = true) :
    FMap.risesFrom o (FMap.erase m i) = true := by
  induction m generalizing o with
  | nil => exact h
  | cons e m ih =>
    obtain ⟨k, v⟩ := e
    have hm : FMap.risesFrom (some k) m = true := by
      cases o <;> simp only [FMap.risesFrom, Bool.and_eq_true] at h
      · exact h
      · exact h.2
    simp only [FMap.erase]
    split
    · cases o with
      | none => exact ih none (FMap.risesFrom_none hm)
      | some b =>
        simp only [FMap.risesFrom, Bool.and_eq_true, decide_eq_true_eq] at h
        exact ih (some b) (FMap.risesFrom_weaken hm (by omega))
    · cases o with
      | none => exact ih _ hm
      | some b =>
        simp only [FMap.risesFrom, Bool.and_eq_true] at h ⊢
        exact ⟨h.1, ih _ hm⟩

theorem FMap.risesFrom_put {α : Type} (m : FMap α) (o : Option Nat) (i : Nat) (x : α) (h : FMap.risesFrom o m = true)
    (hi : ∀ b, o = some b → b < i) : FMap.risesFrom o (FMap.put m i x) = true := by
  induction m generalizing o with
  | nil => cases o <;> simp_all [FMap.put, FMap.risesFrom]
  | cons e m ih =>
    obtain ⟨k, v⟩ := e
    have hm : FMap.risesFrom (some k) m = true := by
      cases o <;> simp only [FMap.risesFrom, Bool.and_eq_true] at h
      · exact h
      · exact h.2
    simp only [FMap.put]
    split
    · cases o <;> simp_all [FMap.risesFrom]
    · split
      · next h1 => subst h1; cases o <;> simp_all [FMap.risesFrom]
      · have := ih (some k) hm (by simp; omega)
        cases o <;> simp_all [FMap.risesFrom]

theorem FMap.mem_erase {α : Type} {m : FMap α} {i : Nat} {e : Nat × α} (h : e ∈ FMap.erase m i) : e ∈ m := by
  induction m with
  | nil => exact h
  | cons x m ih =>
    obtain ⟨k, v⟩ := x
    simp only [FMap.erase] at h
    split at h
    · exact List.mem_cons_of_mem _ (ih h)
    · cases h with
      | head => exact List.mem_cons_self
      | tail _ h => exact List.mem_cons_of_mem _ (ih h)

theorem FMap.mem_put {α : Type} {m : FMap α} {i : Nat} {x : α} {e : Nat × α} (h : e ∈ FMap.put m i x) : e = (i, x) ∨ e ∈ m := by
  induction m with
  | nil => simpa [FMap.put] using h
  | cons y m ih =>
    obtain ⟨k, v⟩ := y
    simp only [FMap.put] at h
    split at h
    · simpa using h
    · split at h
      · simp only [List.mem_cons] at h ⊢; tauto
      · simp only [List.mem_cons] at h ⊢
        rcases h with h | h
        · exact .inr (.inl h)
        · rcases ih h with h | h
          · exact .inl h
          · exact .inr (.inr h)

/-- Every write keeps the canonical form: writing the value an unlisted key reads as removes the entry. -/
theorem FMap.wf_set {α : Type} [DecidableEq α] (d : α) (m : FMap α) (i : Nat) (x : α) (h : FMap.wf d m = true) :
    FMap.wf d (FMap.set d m i x) = true := by
  simp only [FMap.wf, Bool.and_eq_true, List.all_eq_true] at h ⊢
  unfold FMap.set
  split
  · exact ⟨FMap.risesFrom_erase m _ i h.1, fun e he => h.2 e (FMap.mem_erase he)⟩
  · next hx =>
    refine ⟨FMap.risesFrom_put m _ i x h.1 (by simp), fun e he => ?_⟩
    rcases FMap.mem_put he with rfl | he
    · simpa using hx
    · exact h.2 e he

theorem FMap.wf_upd {α : Type} [DecidableEq α] (d : α) (m : FMap α) (i : Nat) (f : α → α) (h : FMap.wf d m = true) :
    FMap.wf d (FMap.upd d m i f) = true := FMap.wf_set d m i _ h

theorem FMap.wf_putBytes (d : Byte) (m : FMap Byte) (a : Nat) (bs : List Byte) (h : FMap.wf d m = true) :
    FMap.wf d (FMap.putBytes d m a bs) = true := by
  induction bs generalizing m a with
  | nil => exact h
  | cons b bs ih => exact ih _ _ (FMap.wf_set d m a b h)

@[simp] theorem FMap.wf_nil {α : Type} [DecidableEq α] (d : α) : FMap.wf d ([] : FMap α) = true := rfl

end Sys2Proof.Machine
end

