-- ==== Sys2Proof/Laws/State.lean ====
section
/-! SUPPORT. One lemma per part of the state for each update of a part: the updated part is as the update says, every other
part is as before. -/

namespace Sys2Proof.Machine

@[simp] theorem modLane_pending (l : Nat) (f : Lane → Lane) (s : State) : (modLane l f s).pending = s.pending := rfl
@[simp] theorem modLane_clk (l : Nat) (f : Lane → Lane) (s : State) : (modLane l f s).clk = s.clk := rfl
@[simp] theorem modLane_regs (l : Nat) (f : Lane → Lane) (s : State) : (modLane l f s).regs = s.regs := rfl
@[simp] theorem modLane_writes (l : Nat) (f : Lane → Lane) (s : State) : (modLane l f s).writes = s.writes := rfl
@[simp] theorem modLane_ports (l : Nat) (f : Lane → Lane) (s : State) : (modLane l f s).ports = s.ports := rfl
@[simp] theorem modLane_adm (l : Nat) (f : Lane → Lane) (s : State) : (modLane l f s).adm = s.adm := rfl
@[simp] theorem modLane_prog (l : Nat) (f : Lane → Lane) (s : State) : (modLane l f s).prog = s.prog := rfl
@[simp] theorem modLane_hob (l : Nat) (f : Lane → Lane) (s : State) : (modLane l f s).hob = s.hob := rfl
@[simp] theorem modLane_tbl (l : Nat) (f : Lane → Lane) (s : State) : (modLane l f s).tbl = s.tbl := rfl
@[simp] theorem modLane_tcam (l : Nat) (f : Lane → Lane) (s : State) : (modLane l f s).tcam = s.tcam := rfl
@[simp] theorem modLane_buf (l : Nat) (f : Lane → Lane) (s : State) : (modLane l f s).buf = s.buf := rfl
@[simp] theorem modLane_egr (l : Nat) (f : Lane → Lane) (s : State) : (modLane l f s).egr = s.egr := rfl
@[simp] theorem modLane_twin (l : Nat) (f : Lane → Lane) (s : State) : (modLane l f s).twin = s.twin := rfl
@[simp] theorem modLane_time (l : Nat) (f : Lane → Lane) (s : State) : (modLane l f s).time = s.time := rfl
@[simp] theorem modLane_host (l : Nat) (f : Lane → Lane) (s : State) : (modLane l f s).host = s.host := rfl
@[simp] theorem modLane_boot (l : Nat) (f : Lane → Lane) (s : State) : (modLane l f s).boot = s.boot := rfl
@[simp] theorem modLane_fuses (l : Nat) (f : Lane → Lane) (s : State) : (modLane l f s).fuses = s.fuses := rfl
@[simp] theorem modLane_pwr (l : Nat) (f : Lane → Lane) (s : State) : (modLane l f s).pwr = s.pwr := rfl
@[simp] theorem modLane_out (l : Nat) (f : Lane → Lane) (s : State) : (modLane l f s).out = s.out := rfl

@[simp] theorem modPort_pending (p : Nat) (f : Port → Port) (s : State) : (modPort p f s).pending = s.pending := rfl
@[simp] theorem modPort_clk (p : Nat) (f : Port → Port) (s : State) : (modPort p f s).clk = s.clk := rfl
@[simp] theorem modPort_regs (p : Nat) (f : Port → Port) (s : State) : (modPort p f s).regs = s.regs := rfl
@[simp] theorem modPort_writes (p : Nat) (f : Port → Port) (s : State) : (modPort p f s).writes = s.writes := rfl
@[simp] theorem modPort_lanes (p : Nat) (f : Port → Port) (s : State) : (modPort p f s).lanes = s.lanes := rfl
@[simp] theorem modPort_adm (p : Nat) (f : Port → Port) (s : State) : (modPort p f s).adm = s.adm := rfl
@[simp] theorem modPort_prog (p : Nat) (f : Port → Port) (s : State) : (modPort p f s).prog = s.prog := rfl
@[simp] theorem modPort_hob (p : Nat) (f : Port → Port) (s : State) : (modPort p f s).hob = s.hob := rfl
@[simp] theorem modPort_tbl (p : Nat) (f : Port → Port) (s : State) : (modPort p f s).tbl = s.tbl := rfl
@[simp] theorem modPort_tcam (p : Nat) (f : Port → Port) (s : State) : (modPort p f s).tcam = s.tcam := rfl
@[simp] theorem modPort_buf (p : Nat) (f : Port → Port) (s : State) : (modPort p f s).buf = s.buf := rfl
@[simp] theorem modPort_egr (p : Nat) (f : Port → Port) (s : State) : (modPort p f s).egr = s.egr := rfl
@[simp] theorem modPort_twin (p : Nat) (f : Port → Port) (s : State) : (modPort p f s).twin = s.twin := rfl
@[simp] theorem modPort_time (p : Nat) (f : Port → Port) (s : State) : (modPort p f s).time = s.time := rfl
@[simp] theorem modPort_host (p : Nat) (f : Port → Port) (s : State) : (modPort p f s).host = s.host := rfl
@[simp] theorem modPort_boot (p : Nat) (f : Port → Port) (s : State) : (modPort p f s).boot = s.boot := rfl
@[simp] theorem modPort_fuses (p : Nat) (f : Port → Port) (s : State) : (modPort p f s).fuses = s.fuses := rfl
@[simp] theorem modPort_pwr (p : Nat) (f : Port → Port) (s : State) : (modPort p f s).pwr = s.pwr := rfl
@[simp] theorem modPort_out (p : Nat) (f : Port → Port) (s : State) : (modPort p f s).out = s.out := rfl

@[simp] theorem modClk_pending (f : Clock → Clock) (s : State) : (modClk f s).pending = s.pending := rfl
@[simp] theorem modClk_clk (f : Clock → Clock) (s : State) : (modClk f s).clk = f s.clk := rfl
@[simp] theorem modClk_regs (f : Clock → Clock) (s : State) : (modClk f s).regs = s.regs := rfl
@[simp] theorem modClk_writes (f : Clock → Clock) (s : State) : (modClk f s).writes = s.writes := rfl
@[simp] theorem modClk_lanes (f : Clock → Clock) (s : State) : (modClk f s).lanes = s.lanes := rfl
@[simp] theorem modClk_ports (f : Clock → Clock) (s : State) : (modClk f s).ports = s.ports := rfl
@[simp] theorem modClk_adm (f : Clock → Clock) (s : State) : (modClk f s).adm = s.adm := rfl
@[simp] theorem modClk_prog (f : Clock → Clock) (s : State) : (modClk f s).prog = s.prog := rfl
@[simp] theorem modClk_hob (f : Clock → Clock) (s : State) : (modClk f s).hob = s.hob := rfl
@[simp] theorem modClk_tbl (f : Clock → Clock) (s : State) : (modClk f s).tbl = s.tbl := rfl
@[simp] theorem modClk_tcam (f : Clock → Clock) (s : State) : (modClk f s).tcam = s.tcam := rfl
@[simp] theorem modClk_buf (f : Clock → Clock) (s : State) : (modClk f s).buf = s.buf := rfl
@[simp] theorem modClk_egr (f : Clock → Clock) (s : State) : (modClk f s).egr = s.egr := rfl
@[simp] theorem modClk_twin (f : Clock → Clock) (s : State) : (modClk f s).twin = s.twin := rfl
@[simp] theorem modClk_time (f : Clock → Clock) (s : State) : (modClk f s).time = s.time := rfl
@[simp] theorem modClk_host (f : Clock → Clock) (s : State) : (modClk f s).host = s.host := rfl
@[simp] theorem modClk_boot (f : Clock → Clock) (s : State) : (modClk f s).boot = s.boot := rfl
@[simp] theorem modClk_fuses (f : Clock → Clock) (s : State) : (modClk f s).fuses = s.fuses := rfl
@[simp] theorem modClk_pwr (f : Clock → Clock) (s : State) : (modClk f s).pwr = s.pwr := rfl
@[simp] theorem modClk_out (f : Clock → Clock) (s : State) : (modClk f s).out = s.out := rfl

@[simp] theorem modAdm_pending (f : Admission → Admission) (s : State) : (modAdm f s).pending = s.pending := rfl
@[simp] theorem modAdm_clk (f : Admission → Admission) (s : State) : (modAdm f s).clk = s.clk := rfl
@[simp] theorem modAdm_regs (f : Admission → Admission) (s : State) : (modAdm f s).regs = s.regs := rfl
@[simp] theorem modAdm_writes (f : Admission → Admission) (s : State) : (modAdm f s).writes = s.writes := rfl
@[simp] theorem modAdm_lanes (f : Admission → Admission) (s : State) : (modAdm f s).lanes = s.lanes := rfl
@[simp] theorem modAdm_ports (f : Admission → Admission) (s : State) : (modAdm f s).ports = s.ports := rfl
@[simp] theorem modAdm_adm (f : Admission → Admission) (s : State) : (modAdm f s).adm = f s.adm := rfl
@[simp] theorem modAdm_prog (f : Admission → Admission) (s : State) : (modAdm f s).prog = s.prog := rfl
@[simp] theorem modAdm_hob (f : Admission → Admission) (s : State) : (modAdm f s).hob = s.hob := rfl
@[simp] theorem modAdm_tbl (f : Admission → Admission) (s : State) : (modAdm f s).tbl = s.tbl := rfl
@[simp] theorem modAdm_tcam (f : Admission → Admission) (s : State) : (modAdm f s).tcam = s.tcam := rfl
@[simp] theorem modAdm_buf (f : Admission → Admission) (s : State) : (modAdm f s).buf = s.buf := rfl
@[simp] theorem modAdm_egr (f : Admission → Admission) (s : State) : (modAdm f s).egr = s.egr := rfl
@[simp] theorem modAdm_twin (f : Admission → Admission) (s : State) : (modAdm f s).twin = s.twin := rfl
@[simp] theorem modAdm_time (f : Admission → Admission) (s : State) : (modAdm f s).time = s.time := rfl
@[simp] theorem modAdm_host (f : Admission → Admission) (s : State) : (modAdm f s).host = s.host := rfl
@[simp] theorem modAdm_boot (f : Admission → Admission) (s : State) : (modAdm f s).boot = s.boot := rfl
@[simp] theorem modAdm_fuses (f : Admission → Admission) (s : State) : (modAdm f s).fuses = s.fuses := rfl
@[simp] theorem modAdm_pwr (f : Admission → Admission) (s : State) : (modAdm f s).pwr = s.pwr := rfl
@[simp] theorem modAdm_out (f : Admission → Admission) (s : State) : (modAdm f s).out = s.out := rfl

@[simp] theorem modProg_pending (f : Programs → Programs) (s : State) : (modProg f s).pending = s.pending := rfl
@[simp] theorem modProg_clk (f : Programs → Programs) (s : State) : (modProg f s).clk = s.clk := rfl
@[simp] theorem modProg_regs (f : Programs → Programs) (s : State) : (modProg f s).regs = s.regs := rfl
@[simp] theorem modProg_writes (f : Programs → Programs) (s : State) : (modProg f s).writes = s.writes := rfl
@[simp] theorem modProg_lanes (f : Programs → Programs) (s : State) : (modProg f s).lanes = s.lanes := rfl
@[simp] theorem modProg_ports (f : Programs → Programs) (s : State) : (modProg f s).ports = s.ports := rfl
@[simp] theorem modProg_adm (f : Programs → Programs) (s : State) : (modProg f s).adm = s.adm := rfl
@[simp] theorem modProg_prog (f : Programs → Programs) (s : State) : (modProg f s).prog = f s.prog := rfl
@[simp] theorem modProg_hob (f : Programs → Programs) (s : State) : (modProg f s).hob = s.hob := rfl
@[simp] theorem modProg_tbl (f : Programs → Programs) (s : State) : (modProg f s).tbl = s.tbl := rfl
@[simp] theorem modProg_tcam (f : Programs → Programs) (s : State) : (modProg f s).tcam = s.tcam := rfl
@[simp] theorem modProg_buf (f : Programs → Programs) (s : State) : (modProg f s).buf = s.buf := rfl
@[simp] theorem modProg_egr (f : Programs → Programs) (s : State) : (modProg f s).egr = s.egr := rfl
@[simp] theorem modProg_twin (f : Programs → Programs) (s : State) : (modProg f s).twin = s.twin := rfl
@[simp] theorem modProg_time (f : Programs → Programs) (s : State) : (modProg f s).time = s.time := rfl
@[simp] theorem modProg_host (f : Programs → Programs) (s : State) : (modProg f s).host = s.host := rfl
@[simp] theorem modProg_boot (f : Programs → Programs) (s : State) : (modProg f s).boot = s.boot := rfl
@[simp] theorem modProg_fuses (f : Programs → Programs) (s : State) : (modProg f s).fuses = s.fuses := rfl
@[simp] theorem modProg_pwr (f : Programs → Programs) (s : State) : (modProg f s).pwr = s.pwr := rfl
@[simp] theorem modProg_out (f : Programs → Programs) (s : State) : (modProg f s).out = s.out := rfl

@[simp] theorem modHob_pending (f : Hobs → Hobs) (s : State) : (modHob f s).pending = s.pending := rfl
@[simp] theorem modHob_clk (f : Hobs → Hobs) (s : State) : (modHob f s).clk = s.clk := rfl
@[simp] theorem modHob_regs (f : Hobs → Hobs) (s : State) : (modHob f s).regs = s.regs := rfl
@[simp] theorem modHob_writes (f : Hobs → Hobs) (s : State) : (modHob f s).writes = s.writes := rfl
@[simp] theorem modHob_lanes (f : Hobs → Hobs) (s : State) : (modHob f s).lanes = s.lanes := rfl
@[simp] theorem modHob_ports (f : Hobs → Hobs) (s : State) : (modHob f s).ports = s.ports := rfl
@[simp] theorem modHob_adm (f : Hobs → Hobs) (s : State) : (modHob f s).adm = s.adm := rfl
@[simp] theorem modHob_prog (f : Hobs → Hobs) (s : State) : (modHob f s).prog = s.prog := rfl
@[simp] theorem modHob_hob (f : Hobs → Hobs) (s : State) : (modHob f s).hob = f s.hob := rfl
@[simp] theorem modHob_tbl (f : Hobs → Hobs) (s : State) : (modHob f s).tbl = s.tbl := rfl
@[simp] theorem modHob_tcam (f : Hobs → Hobs) (s : State) : (modHob f s).tcam = s.tcam := rfl
@[simp] theorem modHob_buf (f : Hobs → Hobs) (s : State) : (modHob f s).buf = s.buf := rfl
@[simp] theorem modHob_egr (f : Hobs → Hobs) (s : State) : (modHob f s).egr = s.egr := rfl
@[simp] theorem modHob_twin (f : Hobs → Hobs) (s : State) : (modHob f s).twin = s.twin := rfl
@[simp] theorem modHob_time (f : Hobs → Hobs) (s : State) : (modHob f s).time = s.time := rfl
@[simp] theorem modHob_host (f : Hobs → Hobs) (s : State) : (modHob f s).host = s.host := rfl
@[simp] theorem modHob_boot (f : Hobs → Hobs) (s : State) : (modHob f s).boot = s.boot := rfl
@[simp] theorem modHob_fuses (f : Hobs → Hobs) (s : State) : (modHob f s).fuses = s.fuses := rfl
@[simp] theorem modHob_pwr (f : Hobs → Hobs) (s : State) : (modHob f s).pwr = s.pwr := rfl
@[simp] theorem modHob_out (f : Hobs → Hobs) (s : State) : (modHob f s).out = s.out := rfl

@[simp] theorem modTbl_pending (f : Tables → Tables) (s : State) : (modTbl f s).pending = s.pending := rfl
@[simp] theorem modTbl_clk (f : Tables → Tables) (s : State) : (modTbl f s).clk = s.clk := rfl
@[simp] theorem modTbl_regs (f : Tables → Tables) (s : State) : (modTbl f s).regs = s.regs := rfl
@[simp] theorem modTbl_writes (f : Tables → Tables) (s : State) : (modTbl f s).writes = s.writes := rfl
@[simp] theorem modTbl_lanes (f : Tables → Tables) (s : State) : (modTbl f s).lanes = s.lanes := rfl
@[simp] theorem modTbl_ports (f : Tables → Tables) (s : State) : (modTbl f s).ports = s.ports := rfl
@[simp] theorem modTbl_adm (f : Tables → Tables) (s : State) : (modTbl f s).adm = s.adm := rfl
@[simp] theorem modTbl_prog (f : Tables → Tables) (s : State) : (modTbl f s).prog = s.prog := rfl
@[simp] theorem modTbl_hob (f : Tables → Tables) (s : State) : (modTbl f s).hob = s.hob := rfl
@[simp] theorem modTbl_tbl (f : Tables → Tables) (s : State) : (modTbl f s).tbl = f s.tbl := rfl
@[simp] theorem modTbl_tcam (f : Tables → Tables) (s : State) : (modTbl f s).tcam = s.tcam := rfl
@[simp] theorem modTbl_buf (f : Tables → Tables) (s : State) : (modTbl f s).buf = s.buf := rfl
@[simp] theorem modTbl_egr (f : Tables → Tables) (s : State) : (modTbl f s).egr = s.egr := rfl
@[simp] theorem modTbl_twin (f : Tables → Tables) (s : State) : (modTbl f s).twin = s.twin := rfl
@[simp] theorem modTbl_time (f : Tables → Tables) (s : State) : (modTbl f s).time = s.time := rfl
@[simp] theorem modTbl_host (f : Tables → Tables) (s : State) : (modTbl f s).host = s.host := rfl
@[simp] theorem modTbl_boot (f : Tables → Tables) (s : State) : (modTbl f s).boot = s.boot := rfl
@[simp] theorem modTbl_fuses (f : Tables → Tables) (s : State) : (modTbl f s).fuses = s.fuses := rfl
@[simp] theorem modTbl_pwr (f : Tables → Tables) (s : State) : (modTbl f s).pwr = s.pwr := rfl
@[simp] theorem modTbl_out (f : Tables → Tables) (s : State) : (modTbl f s).out = s.out := rfl

@[simp] theorem modTcam_pending (f : Tcam → Tcam) (s : State) : (modTcam f s).pending = s.pending := rfl
@[simp] theorem modTcam_clk (f : Tcam → Tcam) (s : State) : (modTcam f s).clk = s.clk := rfl
@[simp] theorem modTcam_regs (f : Tcam → Tcam) (s : State) : (modTcam f s).regs = s.regs := rfl
@[simp] theorem modTcam_writes (f : Tcam → Tcam) (s : State) : (modTcam f s).writes = s.writes := rfl
@[simp] theorem modTcam_lanes (f : Tcam → Tcam) (s : State) : (modTcam f s).lanes = s.lanes := rfl
@[simp] theorem modTcam_ports (f : Tcam → Tcam) (s : State) : (modTcam f s).ports = s.ports := rfl
@[simp] theorem modTcam_adm (f : Tcam → Tcam) (s : State) : (modTcam f s).adm = s.adm := rfl
@[simp] theorem modTcam_prog (f : Tcam → Tcam) (s : State) : (modTcam f s).prog = s.prog := rfl
@[simp] theorem modTcam_hob (f : Tcam → Tcam) (s : State) : (modTcam f s).hob = s.hob := rfl
@[simp] theorem modTcam_tbl (f : Tcam → Tcam) (s : State) : (modTcam f s).tbl = s.tbl := rfl
@[simp] theorem modTcam_tcam (f : Tcam → Tcam) (s : State) : (modTcam f s).tcam = f s.tcam := rfl
@[simp] theorem modTcam_buf (f : Tcam → Tcam) (s : State) : (modTcam f s).buf = s.buf := rfl
@[simp] theorem modTcam_egr (f : Tcam → Tcam) (s : State) : (modTcam f s).egr = s.egr := rfl
@[simp] theorem modTcam_twin (f : Tcam → Tcam) (s : State) : (modTcam f s).twin = s.twin := rfl
@[simp] theorem modTcam_time (f : Tcam → Tcam) (s : State) : (modTcam f s).time = s.time := rfl
@[simp] theorem modTcam_host (f : Tcam → Tcam) (s : State) : (modTcam f s).host = s.host := rfl
@[simp] theorem modTcam_boot (f : Tcam → Tcam) (s : State) : (modTcam f s).boot = s.boot := rfl
@[simp] theorem modTcam_fuses (f : Tcam → Tcam) (s : State) : (modTcam f s).fuses = s.fuses := rfl
@[simp] theorem modTcam_pwr (f : Tcam → Tcam) (s : State) : (modTcam f s).pwr = s.pwr := rfl
@[simp] theorem modTcam_out (f : Tcam → Tcam) (s : State) : (modTcam f s).out = s.out := rfl

@[simp] theorem modBuf_pending (f : Buffer → Buffer) (s : State) : (modBuf f s).pending = s.pending := rfl
@[simp] theorem modBuf_clk (f : Buffer → Buffer) (s : State) : (modBuf f s).clk = s.clk := rfl
@[simp] theorem modBuf_regs (f : Buffer → Buffer) (s : State) : (modBuf f s).regs = s.regs := rfl
@[simp] theorem modBuf_writes (f : Buffer → Buffer) (s : State) : (modBuf f s).writes = s.writes := rfl
@[simp] theorem modBuf_lanes (f : Buffer → Buffer) (s : State) : (modBuf f s).lanes = s.lanes := rfl
@[simp] theorem modBuf_ports (f : Buffer → Buffer) (s : State) : (modBuf f s).ports = s.ports := rfl
@[simp] theorem modBuf_adm (f : Buffer → Buffer) (s : State) : (modBuf f s).adm = s.adm := rfl
@[simp] theorem modBuf_prog (f : Buffer → Buffer) (s : State) : (modBuf f s).prog = s.prog := rfl
@[simp] theorem modBuf_hob (f : Buffer → Buffer) (s : State) : (modBuf f s).hob = s.hob := rfl
@[simp] theorem modBuf_tbl (f : Buffer → Buffer) (s : State) : (modBuf f s).tbl = s.tbl := rfl
@[simp] theorem modBuf_tcam (f : Buffer → Buffer) (s : State) : (modBuf f s).tcam = s.tcam := rfl
@[simp] theorem modBuf_buf (f : Buffer → Buffer) (s : State) : (modBuf f s).buf = f s.buf := rfl
@[simp] theorem modBuf_egr (f : Buffer → Buffer) (s : State) : (modBuf f s).egr = s.egr := rfl
@[simp] theorem modBuf_twin (f : Buffer → Buffer) (s : State) : (modBuf f s).twin = s.twin := rfl
@[simp] theorem modBuf_time (f : Buffer → Buffer) (s : State) : (modBuf f s).time = s.time := rfl
@[simp] theorem modBuf_host (f : Buffer → Buffer) (s : State) : (modBuf f s).host = s.host := rfl
@[simp] theorem modBuf_boot (f : Buffer → Buffer) (s : State) : (modBuf f s).boot = s.boot := rfl
@[simp] theorem modBuf_fuses (f : Buffer → Buffer) (s : State) : (modBuf f s).fuses = s.fuses := rfl
@[simp] theorem modBuf_pwr (f : Buffer → Buffer) (s : State) : (modBuf f s).pwr = s.pwr := rfl
@[simp] theorem modBuf_out (f : Buffer → Buffer) (s : State) : (modBuf f s).out = s.out := rfl

@[simp] theorem modEgr_pending (f : Egress → Egress) (s : State) : (modEgr f s).pending = s.pending := rfl
@[simp] theorem modEgr_clk (f : Egress → Egress) (s : State) : (modEgr f s).clk = s.clk := rfl
@[simp] theorem modEgr_regs (f : Egress → Egress) (s : State) : (modEgr f s).regs = s.regs := rfl
@[simp] theorem modEgr_writes (f : Egress → Egress) (s : State) : (modEgr f s).writes = s.writes := rfl
@[simp] theorem modEgr_lanes (f : Egress → Egress) (s : State) : (modEgr f s).lanes = s.lanes := rfl
@[simp] theorem modEgr_ports (f : Egress → Egress) (s : State) : (modEgr f s).ports = s.ports := rfl
@[simp] theorem modEgr_adm (f : Egress → Egress) (s : State) : (modEgr f s).adm = s.adm := rfl
@[simp] theorem modEgr_prog (f : Egress → Egress) (s : State) : (modEgr f s).prog = s.prog := rfl
@[simp] theorem modEgr_hob (f : Egress → Egress) (s : State) : (modEgr f s).hob = s.hob := rfl
@[simp] theorem modEgr_tbl (f : Egress → Egress) (s : State) : (modEgr f s).tbl = s.tbl := rfl
@[simp] theorem modEgr_tcam (f : Egress → Egress) (s : State) : (modEgr f s).tcam = s.tcam := rfl
@[simp] theorem modEgr_buf (f : Egress → Egress) (s : State) : (modEgr f s).buf = s.buf := rfl
@[simp] theorem modEgr_egr (f : Egress → Egress) (s : State) : (modEgr f s).egr = f s.egr := rfl
@[simp] theorem modEgr_twin (f : Egress → Egress) (s : State) : (modEgr f s).twin = s.twin := rfl
@[simp] theorem modEgr_time (f : Egress → Egress) (s : State) : (modEgr f s).time = s.time := rfl
@[simp] theorem modEgr_host (f : Egress → Egress) (s : State) : (modEgr f s).host = s.host := rfl
@[simp] theorem modEgr_boot (f : Egress → Egress) (s : State) : (modEgr f s).boot = s.boot := rfl
@[simp] theorem modEgr_fuses (f : Egress → Egress) (s : State) : (modEgr f s).fuses = s.fuses := rfl
@[simp] theorem modEgr_pwr (f : Egress → Egress) (s : State) : (modEgr f s).pwr = s.pwr := rfl
@[simp] theorem modEgr_out (f : Egress → Egress) (s : State) : (modEgr f s).out = s.out := rfl

@[simp] theorem modTwin_pending (f : Twin → Twin) (s : State) : (modTwin f s).pending = s.pending := rfl
@[simp] theorem modTwin_clk (f : Twin → Twin) (s : State) : (modTwin f s).clk = s.clk := rfl
@[simp] theorem modTwin_regs (f : Twin → Twin) (s : State) : (modTwin f s).regs = s.regs := rfl
@[simp] theorem modTwin_writes (f : Twin → Twin) (s : State) : (modTwin f s).writes = s.writes := rfl
@[simp] theorem modTwin_lanes (f : Twin → Twin) (s : State) : (modTwin f s).lanes = s.lanes := rfl
@[simp] theorem modTwin_ports (f : Twin → Twin) (s : State) : (modTwin f s).ports = s.ports := rfl
@[simp] theorem modTwin_adm (f : Twin → Twin) (s : State) : (modTwin f s).adm = s.adm := rfl
@[simp] theorem modTwin_prog (f : Twin → Twin) (s : State) : (modTwin f s).prog = s.prog := rfl
@[simp] theorem modTwin_hob (f : Twin → Twin) (s : State) : (modTwin f s).hob = s.hob := rfl
@[simp] theorem modTwin_tbl (f : Twin → Twin) (s : State) : (modTwin f s).tbl = s.tbl := rfl
@[simp] theorem modTwin_tcam (f : Twin → Twin) (s : State) : (modTwin f s).tcam = s.tcam := rfl
@[simp] theorem modTwin_buf (f : Twin → Twin) (s : State) : (modTwin f s).buf = s.buf := rfl
@[simp] theorem modTwin_egr (f : Twin → Twin) (s : State) : (modTwin f s).egr = s.egr := rfl
@[simp] theorem modTwin_twin (f : Twin → Twin) (s : State) : (modTwin f s).twin = f s.twin := rfl
@[simp] theorem modTwin_time (f : Twin → Twin) (s : State) : (modTwin f s).time = s.time := rfl
@[simp] theorem modTwin_host (f : Twin → Twin) (s : State) : (modTwin f s).host = s.host := rfl
@[simp] theorem modTwin_boot (f : Twin → Twin) (s : State) : (modTwin f s).boot = s.boot := rfl
@[simp] theorem modTwin_fuses (f : Twin → Twin) (s : State) : (modTwin f s).fuses = s.fuses := rfl
@[simp] theorem modTwin_pwr (f : Twin → Twin) (s : State) : (modTwin f s).pwr = s.pwr := rfl
@[simp] theorem modTwin_out (f : Twin → Twin) (s : State) : (modTwin f s).out = s.out := rfl

@[simp] theorem modTime_pending (f : TimeUnit → TimeUnit) (s : State) : (modTime f s).pending = s.pending := rfl
@[simp] theorem modTime_clk (f : TimeUnit → TimeUnit) (s : State) : (modTime f s).clk = s.clk := rfl
@[simp] theorem modTime_regs (f : TimeUnit → TimeUnit) (s : State) : (modTime f s).regs = s.regs := rfl
@[simp] theorem modTime_writes (f : TimeUnit → TimeUnit) (s : State) : (modTime f s).writes = s.writes := rfl
@[simp] theorem modTime_lanes (f : TimeUnit → TimeUnit) (s : State) : (modTime f s).lanes = s.lanes := rfl
@[simp] theorem modTime_ports (f : TimeUnit → TimeUnit) (s : State) : (modTime f s).ports = s.ports := rfl
@[simp] theorem modTime_adm (f : TimeUnit → TimeUnit) (s : State) : (modTime f s).adm = s.adm := rfl
@[simp] theorem modTime_prog (f : TimeUnit → TimeUnit) (s : State) : (modTime f s).prog = s.prog := rfl
@[simp] theorem modTime_hob (f : TimeUnit → TimeUnit) (s : State) : (modTime f s).hob = s.hob := rfl
@[simp] theorem modTime_tbl (f : TimeUnit → TimeUnit) (s : State) : (modTime f s).tbl = s.tbl := rfl
@[simp] theorem modTime_tcam (f : TimeUnit → TimeUnit) (s : State) : (modTime f s).tcam = s.tcam := rfl
@[simp] theorem modTime_buf (f : TimeUnit → TimeUnit) (s : State) : (modTime f s).buf = s.buf := rfl
@[simp] theorem modTime_egr (f : TimeUnit → TimeUnit) (s : State) : (modTime f s).egr = s.egr := rfl
@[simp] theorem modTime_twin (f : TimeUnit → TimeUnit) (s : State) : (modTime f s).twin = s.twin := rfl
@[simp] theorem modTime_time (f : TimeUnit → TimeUnit) (s : State) : (modTime f s).time = f s.time := rfl
@[simp] theorem modTime_host (f : TimeUnit → TimeUnit) (s : State) : (modTime f s).host = s.host := rfl
@[simp] theorem modTime_boot (f : TimeUnit → TimeUnit) (s : State) : (modTime f s).boot = s.boot := rfl
@[simp] theorem modTime_fuses (f : TimeUnit → TimeUnit) (s : State) : (modTime f s).fuses = s.fuses := rfl
@[simp] theorem modTime_pwr (f : TimeUnit → TimeUnit) (s : State) : (modTime f s).pwr = s.pwr := rfl
@[simp] theorem modTime_out (f : TimeUnit → TimeUnit) (s : State) : (modTime f s).out = s.out := rfl

@[simp] theorem modHost_pending (f : HostIf → HostIf) (s : State) : (modHost f s).pending = s.pending := rfl
@[simp] theorem modHost_clk (f : HostIf → HostIf) (s : State) : (modHost f s).clk = s.clk := rfl
@[simp] theorem modHost_regs (f : HostIf → HostIf) (s : State) : (modHost f s).regs = s.regs := rfl
@[simp] theorem modHost_writes (f : HostIf → HostIf) (s : State) : (modHost f s).writes = s.writes := rfl
@[simp] theorem modHost_lanes (f : HostIf → HostIf) (s : State) : (modHost f s).lanes = s.lanes := rfl
@[simp] theorem modHost_ports (f : HostIf → HostIf) (s : State) : (modHost f s).ports = s.ports := rfl
@[simp] theorem modHost_adm (f : HostIf → HostIf) (s : State) : (modHost f s).adm = s.adm := rfl
@[simp] theorem modHost_prog (f : HostIf → HostIf) (s : State) : (modHost f s).prog = s.prog := rfl
@[simp] theorem modHost_hob (f : HostIf → HostIf) (s : State) : (modHost f s).hob = s.hob := rfl
@[simp] theorem modHost_tbl (f : HostIf → HostIf) (s : State) : (modHost f s).tbl = s.tbl := rfl
@[simp] theorem modHost_tcam (f : HostIf → HostIf) (s : State) : (modHost f s).tcam = s.tcam := rfl
@[simp] theorem modHost_buf (f : HostIf → HostIf) (s : State) : (modHost f s).buf = s.buf := rfl
@[simp] theorem modHost_egr (f : HostIf → HostIf) (s : State) : (modHost f s).egr = s.egr := rfl
@[simp] theorem modHost_twin (f : HostIf → HostIf) (s : State) : (modHost f s).twin = s.twin := rfl
@[simp] theorem modHost_time (f : HostIf → HostIf) (s : State) : (modHost f s).time = s.time := rfl
@[simp] theorem modHost_host (f : HostIf → HostIf) (s : State) : (modHost f s).host = f s.host := rfl
@[simp] theorem modHost_boot (f : HostIf → HostIf) (s : State) : (modHost f s).boot = s.boot := rfl
@[simp] theorem modHost_fuses (f : HostIf → HostIf) (s : State) : (modHost f s).fuses = s.fuses := rfl
@[simp] theorem modHost_pwr (f : HostIf → HostIf) (s : State) : (modHost f s).pwr = s.pwr := rfl
@[simp] theorem modHost_out (f : HostIf → HostIf) (s : State) : (modHost f s).out = s.out := rfl

@[simp] theorem modBoot_pending (f : Boot → Boot) (s : State) : (modBoot f s).pending = s.pending := rfl
@[simp] theorem modBoot_clk (f : Boot → Boot) (s : State) : (modBoot f s).clk = s.clk := rfl
@[simp] theorem modBoot_regs (f : Boot → Boot) (s : State) : (modBoot f s).regs = s.regs := rfl
@[simp] theorem modBoot_writes (f : Boot → Boot) (s : State) : (modBoot f s).writes = s.writes := rfl
@[simp] theorem modBoot_lanes (f : Boot → Boot) (s : State) : (modBoot f s).lanes = s.lanes := rfl
@[simp] theorem modBoot_ports (f : Boot → Boot) (s : State) : (modBoot f s).ports = s.ports := rfl
@[simp] theorem modBoot_adm (f : Boot → Boot) (s : State) : (modBoot f s).adm = s.adm := rfl
@[simp] theorem modBoot_prog (f : Boot → Boot) (s : State) : (modBoot f s).prog = s.prog := rfl
@[simp] theorem modBoot_hob (f : Boot → Boot) (s : State) : (modBoot f s).hob = s.hob := rfl
@[simp] theorem modBoot_tbl (f : Boot → Boot) (s : State) : (modBoot f s).tbl = s.tbl := rfl
@[simp] theorem modBoot_tcam (f : Boot → Boot) (s : State) : (modBoot f s).tcam = s.tcam := rfl
@[simp] theorem modBoot_buf (f : Boot → Boot) (s : State) : (modBoot f s).buf = s.buf := rfl
@[simp] theorem modBoot_egr (f : Boot → Boot) (s : State) : (modBoot f s).egr = s.egr := rfl
@[simp] theorem modBoot_twin (f : Boot → Boot) (s : State) : (modBoot f s).twin = s.twin := rfl
@[simp] theorem modBoot_time (f : Boot → Boot) (s : State) : (modBoot f s).time = s.time := rfl
@[simp] theorem modBoot_host (f : Boot → Boot) (s : State) : (modBoot f s).host = s.host := rfl
@[simp] theorem modBoot_boot (f : Boot → Boot) (s : State) : (modBoot f s).boot = f s.boot := rfl
@[simp] theorem modBoot_fuses (f : Boot → Boot) (s : State) : (modBoot f s).fuses = s.fuses := rfl
@[simp] theorem modBoot_pwr (f : Boot → Boot) (s : State) : (modBoot f s).pwr = s.pwr := rfl
@[simp] theorem modBoot_out (f : Boot → Boot) (s : State) : (modBoot f s).out = s.out := rfl

@[simp] theorem modPwr_pending (f : Power → Power) (s : State) : (modPwr f s).pending = s.pending := rfl
@[simp] theorem modPwr_clk (f : Power → Power) (s : State) : (modPwr f s).clk = s.clk := rfl
@[simp] theorem modPwr_regs (f : Power → Power) (s : State) : (modPwr f s).regs = s.regs := rfl
@[simp] theorem modPwr_writes (f : Power → Power) (s : State) : (modPwr f s).writes = s.writes := rfl
@[simp] theorem modPwr_lanes (f : Power → Power) (s : State) : (modPwr f s).lanes = s.lanes := rfl
@[simp] theorem modPwr_ports (f : Power → Power) (s : State) : (modPwr f s).ports = s.ports := rfl
@[simp] theorem modPwr_adm (f : Power → Power) (s : State) : (modPwr f s).adm = s.adm := rfl
@[simp] theorem modPwr_prog (f : Power → Power) (s : State) : (modPwr f s).prog = s.prog := rfl
@[simp] theorem modPwr_hob (f : Power → Power) (s : State) : (modPwr f s).hob = s.hob := rfl
@[simp] theorem modPwr_tbl (f : Power → Power) (s : State) : (modPwr f s).tbl = s.tbl := rfl
@[simp] theorem modPwr_tcam (f : Power → Power) (s : State) : (modPwr f s).tcam = s.tcam := rfl
@[simp] theorem modPwr_buf (f : Power → Power) (s : State) : (modPwr f s).buf = s.buf := rfl
@[simp] theorem modPwr_egr (f : Power → Power) (s : State) : (modPwr f s).egr = s.egr := rfl
@[simp] theorem modPwr_twin (f : Power → Power) (s : State) : (modPwr f s).twin = s.twin := rfl
@[simp] theorem modPwr_time (f : Power → Power) (s : State) : (modPwr f s).time = s.time := rfl
@[simp] theorem modPwr_host (f : Power → Power) (s : State) : (modPwr f s).host = s.host := rfl
@[simp] theorem modPwr_boot (f : Power → Power) (s : State) : (modPwr f s).boot = s.boot := rfl
@[simp] theorem modPwr_fuses (f : Power → Power) (s : State) : (modPwr f s).fuses = s.fuses := rfl
@[simp] theorem modPwr_pwr (f : Power → Power) (s : State) : (modPwr f s).pwr = f s.pwr := rfl
@[simp] theorem modPwr_out (f : Power → Power) (s : State) : (modPwr f s).out = s.out := rfl

@[simp] theorem modOut_pending (f : Outputs → Outputs) (s : State) : (modOut f s).pending = s.pending := rfl
@[simp] theorem modOut_clk (f : Outputs → Outputs) (s : State) : (modOut f s).clk = s.clk := rfl
@[simp] theorem modOut_regs (f : Outputs → Outputs) (s : State) : (modOut f s).regs = s.regs := rfl
@[simp] theorem modOut_writes (f : Outputs → Outputs) (s : State) : (modOut f s).writes = s.writes := rfl
@[simp] theorem modOut_lanes (f : Outputs → Outputs) (s : State) : (modOut f s).lanes = s.lanes := rfl
@[simp] theorem modOut_ports (f : Outputs → Outputs) (s : State) : (modOut f s).ports = s.ports := rfl
@[simp] theorem modOut_adm (f : Outputs → Outputs) (s : State) : (modOut f s).adm = s.adm := rfl
@[simp] theorem modOut_prog (f : Outputs → Outputs) (s : State) : (modOut f s).prog = s.prog := rfl
@[simp] theorem modOut_hob (f : Outputs → Outputs) (s : State) : (modOut f s).hob = s.hob := rfl
@[simp] theorem modOut_tbl (f : Outputs → Outputs) (s : State) : (modOut f s).tbl = s.tbl := rfl
@[simp] theorem modOut_tcam (f : Outputs → Outputs) (s : State) : (modOut f s).tcam = s.tcam := rfl
@[simp] theorem modOut_buf (f : Outputs → Outputs) (s : State) : (modOut f s).buf = s.buf := rfl
@[simp] theorem modOut_egr (f : Outputs → Outputs) (s : State) : (modOut f s).egr = s.egr := rfl
@[simp] theorem modOut_twin (f : Outputs → Outputs) (s : State) : (modOut f s).twin = s.twin := rfl
@[simp] theorem modOut_time (f : Outputs → Outputs) (s : State) : (modOut f s).time = s.time := rfl
@[simp] theorem modOut_host (f : Outputs → Outputs) (s : State) : (modOut f s).host = s.host := rfl
@[simp] theorem modOut_boot (f : Outputs → Outputs) (s : State) : (modOut f s).boot = s.boot := rfl
@[simp] theorem modOut_fuses (f : Outputs → Outputs) (s : State) : (modOut f s).fuses = s.fuses := rfl
@[simp] theorem modOut_pwr (f : Outputs → Outputs) (s : State) : (modOut f s).pwr = s.pwr := rfl
@[simp] theorem modOut_out (f : Outputs → Outputs) (s : State) : (modOut f s).out = f s.out := rfl

@[simp] theorem regSet_pending (r : Reg) (i : Nat) (v : Word) (s : State) : (regSet r i v s).pending = s.pending := rfl
@[simp] theorem regSet_clk (r : Reg) (i : Nat) (v : Word) (s : State) : (regSet r i v s).clk = s.clk := rfl
@[simp] theorem regSet_writes (r : Reg) (i : Nat) (v : Word) (s : State) : (regSet r i v s).writes = s.writes := rfl
@[simp] theorem regSet_lanes (r : Reg) (i : Nat) (v : Word) (s : State) : (regSet r i v s).lanes = s.lanes := rfl
@[simp] theorem regSet_ports (r : Reg) (i : Nat) (v : Word) (s : State) : (regSet r i v s).ports = s.ports := rfl
@[simp] theorem regSet_adm (r : Reg) (i : Nat) (v : Word) (s : State) : (regSet r i v s).adm = s.adm := rfl
@[simp] theorem regSet_prog (r : Reg) (i : Nat) (v : Word) (s : State) : (regSet r i v s).prog = s.prog := rfl
@[simp] theorem regSet_hob (r : Reg) (i : Nat) (v : Word) (s : State) : (regSet r i v s).hob = s.hob := rfl
@[simp] theorem regSet_tbl (r : Reg) (i : Nat) (v : Word) (s : State) : (regSet r i v s).tbl = s.tbl := rfl
@[simp] theorem regSet_tcam (r : Reg) (i : Nat) (v : Word) (s : State) : (regSet r i v s).tcam = s.tcam := rfl
@[simp] theorem regSet_buf (r : Reg) (i : Nat) (v : Word) (s : State) : (regSet r i v s).buf = s.buf := rfl
@[simp] theorem regSet_egr (r : Reg) (i : Nat) (v : Word) (s : State) : (regSet r i v s).egr = s.egr := rfl
@[simp] theorem regSet_twin (r : Reg) (i : Nat) (v : Word) (s : State) : (regSet r i v s).twin = s.twin := rfl
@[simp] theorem regSet_time (r : Reg) (i : Nat) (v : Word) (s : State) : (regSet r i v s).time = s.time := rfl
@[simp] theorem regSet_host (r : Reg) (i : Nat) (v : Word) (s : State) : (regSet r i v s).host = s.host := rfl
@[simp] theorem regSet_boot (r : Reg) (i : Nat) (v : Word) (s : State) : (regSet r i v s).boot = s.boot := rfl
@[simp] theorem regSet_fuses (r : Reg) (i : Nat) (v : Word) (s : State) : (regSet r i v s).fuses = s.fuses := rfl
@[simp] theorem regSet_pwr (r : Reg) (i : Nat) (v : Word) (s : State) : (regSet r i v s).pwr = s.pwr := rfl
@[simp] theorem regSet_out (r : Reg) (i : Nat) (v : Word) (s : State) : (regSet r i v s).out = s.out := rfl

/-! ### Lanes and ports by number -/

theorem laneOf_modLane (l m : Nat) (f : Lane → Lane) (s : State) :
    laneOf (modLane l f s) m = if m = l then f (laneOf s l) else laneOf s m := by
  unfold laneOf modLane; exact FMap.get_upd _ s.lanes l m f

@[simp] theorem laneOf_modLane_self (l : Nat) (f : Lane → Lane) (s : State) : laneOf (modLane l f s) l = f (laneOf s l) := by
  simp [laneOf_modLane]

theorem laneOf_modLane_ne {l m : Nat} (f : Lane → Lane) (s : State) (h : m ≠ l) : laneOf (modLane l f s) m = laneOf s m := by
  simp [laneOf_modLane, h]

theorem portOf_modPort (p q : Nat) (f : Port → Port) (s : State) :
    portOf (modPort p f s) q = if q = p then f (portOf s p) else portOf s q := by
  unfold portOf modPort; exact FMap.get_upd _ s.ports p q f

@[simp] theorem portOf_modPort_self (p : Nat) (f : Port → Port) (s : State) : portOf (modPort p f s) p = f (portOf s p) := by
  simp [portOf_modPort]

theorem portOf_modPort_ne {p q : Nat} (f : Port → Port) (s : State) (h : q ≠ p) : portOf (modPort p f s) q = portOf s q := by
  simp [portOf_modPort, h]

/-! ### The canonical form of the lanes and the ports -/

theorem wf_modLane (l : Nat) (f : Lane → Lane) (s : State) (h : FMap.wf {} s.lanes = true) :
    FMap.wf {} (modLane l f s).lanes = true := FMap.wf_upd {} s.lanes l f h

theorem wf_modPort (p : Nat) (f : Port → Port) (s : State) (h : FMap.wf {} s.ports = true) :
    FMap.wf {} (modPort p f s).ports = true := FMap.wf_upd {} s.ports p f h

/-- Host memory of the state after reset is canonical, and writing bytes to it keeps it so. -/
theorem wf_hostMem_reset : FMap.wf 0 State.reset.host.hostMem = true := rfl

theorem wf_hostPut (a : Nat) (bs : List Byte) (s : State) (h : FMap.wf 0 s.host.hostMem = true) :
    FMap.wf 0 (hostPut a bs s).host.hostMem = true := FMap.wf_putBytes 0 s.host.hostMem a bs h

end Sys2Proof.Machine
end

