-- ==== Sys2Proof/Laws/Ops.lean ====
section
/-! SUPPORT. What the shared operations can do: registers read as they were written; counters, events, ring records and
completions touch the registers and the host interface alone; drop counts touch the egress part alone. -/

namespace Sys2Proof.Machine

set_option linter.all false

/-! ### Registers -/

/-- A register reads as it was written. -/
@[simp] theorem regVal_regSet_self (r : Reg) (i : Nat) (v : Word) (s : State) : regVal (regSet r i v s) r i = v := by
  unfold regVal regSet
  simp only [FMap.get_set_self]
  split <;> simp_all

/-- A write of one register leaves a register at another offset as it was. -/
theorem regVal_regSet_ne {r q : Reg} {i j : Nat} (v : Word) (s : State) (h : q.addr j ≠ r.addr i) :
    regVal (regSet r i v s) q j = regVal s q j := by
  unfold regVal regSet
  simp only [FMap.get_set_ne _ _ _ h]

/-- The registers keep their canonical form. -/
theorem wf_regSet (r : Reg) (i : Nat) (v : Word) (s : State) (h : FMap.wf none s.regs.vals = true) :
    FMap.wf none (regSet r i v s).regs.vals = true := FMap.wf_set none s.regs.vals _ _ h

/-! ### What only registers and the host interface change under -/

/-- Everything but the registers and the host interface. -/
def offHost (s : State) : State := { s with regs := {}, host := {} }

@[simp] theorem offHost_ite (c : Prop) [Decidable c] (a b : State) :
    offHost (if c then a else b) = if c then offHost a else offHost b := by
  split <;> rfl

@[simp] theorem offHost_modHost (f : HostIf → HostIf) (s : State) : offHost (modHost f s) = offHost s := Eq.trans rfl rfl

@[simp] theorem offHost_regSet (r : Reg) (i : Nat) (v : Word) (s : State) : offHost (regSet r i v s) = offHost s := Eq.trans rfl rfl

@[simp] theorem offHost_regSetFld (r : Reg) (i hi lo x : Nat) (s : State) : offHost (regSetFld r i hi lo x s) = offHost s := by
  unfold regSetFld
  repeat' (first | (simp; done) | split | dsimp only)

@[simp] theorem offHost_regCountN (r : Reg) (i hi n : Nat) (s : State) : offHost (regCountN r i hi n s) = offHost s := by
  unfold regCountN
  repeat' (first | (simp; done) | split | dsimp only)

@[simp] theorem offHost_regCount (r : Reg) (i : Nat) (s : State) : offHost (regCount r i s) = offHost s := by
  unfold regCount
  repeat' (first | (simp; done) | split | dsimp only)

@[simp] theorem offHost_modRing (k : Nat) (f : Ring → Ring) (s : State) : offHost (modRing k f s) = offHost s := by
  unfold modRing
  repeat' (first | (simp; done) | split | dsimp only)

@[simp] theorem offHost_vectorPend (v : Nat) (s : State) : offHost (vectorPend v s) = offHost s := by
  unfold vectorPend
  repeat' (first | (simp; done) | split | dsimp only)

@[simp] theorem offHost_ringPut (k ph : Nat) (rec : List Byte) (s : State) : offHost (ringPut k ph rec s) = offHost s := by
  unfold ringPut
  repeat' (first | (simp; done) | split | dsimp only)

@[simp] theorem offHost_hostPut (a : Nat) (bs : List Byte) (s : State) : offHost (hostPut a bs s) = offHost s := by
  unfold hostPut
  repeat' (first | (simp; done) | split | dsimp only)

@[simp] theorem offHost_drainCompletions (l : List (Nat × List Byte)) (s : State) :
    offHost (drainCompletions l s) = offHost s := by
  induction l generalizing s with
  | nil => simp [drainCompletions]
  | cons e es ih => simp only [drainCompletions]; split <;> simp [ih]

@[simp] theorem offHost_hostErr (b : Nat) (s : State) : offHost (hostErr b s) = offHost s := by
  unfold hostErr
  repeat' (first | (simp; done) | split | dsimp only)

@[simp] theorem offHost_setEventBit (code inst : Nat) (s : State) : offHost (setEventBit code inst s) = offHost s := by
  unfold setEventBit
  repeat' (first | (simp; done) | split | dsimp only)

@[simp] theorem offHost_loseEvent (s : State) : offHost (loseEvent s) = offHost s := by
  unfold loseEvent
  repeat' (first | (simp; done) | split | dsimp only)

@[simp] theorem offHost_putEvent (e : Event) (s : State) : offHost (putEvent e s) = offHost s := by
  unfold putEvent
  repeat' (first | (simp; done) | split | dsimp only)

@[simp] theorem offHost_raiseEv (code inst : Nat) (data : List Byte) (s : State) : offHost (raiseEv code inst data s) = offHost s := by
  unfold raiseEv
  repeat' (first | (simp; done) | split | dsimp only)

@[simp] theorem offHost_raiseLim (code inst key period : Nat) (data : List Byte) (s : State) : offHost (raiseLim code inst key period data s) = offHost s := by
  unfold raiseLim
  repeat' (first | (simp; done) | split | dsimp only)

@[simp] theorem offHost_complete (c : MbxCmd) (status tick : Nat) (result : List Byte) (s : State) : offHost (complete c status tick result s) = offHost s := by
  unfold complete
  repeat' (first | (simp; done) | split | dsimp only)

@[simp] theorem offHost_completeOpt (c : Option MbxCmd) (status tick : Nat) (result : List Byte) (s : State) : offHost (completeOpt c status tick result s) = offHost s := by
  unfold completeOpt
  repeat' (first | (simp; done) | split | dsimp only)

@[simp] theorem regSetFld_pending (r : Reg) (i hi lo x : Nat) (s : State) : (regSetFld r i hi lo x s).pending = s.pending := (congrArg State.pending (offHost_regSetFld r i hi lo x s) :)
@[simp] theorem regSetFld_clk (r : Reg) (i hi lo x : Nat) (s : State) : (regSetFld r i hi lo x s).clk = s.clk := (congrArg State.clk (offHost_regSetFld r i hi lo x s) :)
@[simp] theorem regSetFld_writes (r : Reg) (i hi lo x : Nat) (s : State) : (regSetFld r i hi lo x s).writes = s.writes := (congrArg State.writes (offHost_regSetFld r i hi lo x s) :)
@[simp] theorem regSetFld_lanes (r : Reg) (i hi lo x : Nat) (s : State) : (regSetFld r i hi lo x s).lanes = s.lanes := (congrArg State.lanes (offHost_regSetFld r i hi lo x s) :)
@[simp] theorem regSetFld_ports (r : Reg) (i hi lo x : Nat) (s : State) : (regSetFld r i hi lo x s).ports = s.ports := (congrArg State.ports (offHost_regSetFld r i hi lo x s) :)
@[simp] theorem regSetFld_adm (r : Reg) (i hi lo x : Nat) (s : State) : (regSetFld r i hi lo x s).adm = s.adm := (congrArg State.adm (offHost_regSetFld r i hi lo x s) :)
@[simp] theorem regSetFld_prog (r : Reg) (i hi lo x : Nat) (s : State) : (regSetFld r i hi lo x s).prog = s.prog := (congrArg State.prog (offHost_regSetFld r i hi lo x s) :)
@[simp] theorem regSetFld_hob (r : Reg) (i hi lo x : Nat) (s : State) : (regSetFld r i hi lo x s).hob = s.hob := (congrArg State.hob (offHost_regSetFld r i hi lo x s) :)
@[simp] theorem regSetFld_tbl (r : Reg) (i hi lo x : Nat) (s : State) : (regSetFld r i hi lo x s).tbl = s.tbl := (congrArg State.tbl (offHost_regSetFld r i hi lo x s) :)
@[simp] theorem regSetFld_tcam (r : Reg) (i hi lo x : Nat) (s : State) : (regSetFld r i hi lo x s).tcam = s.tcam := (congrArg State.tcam (offHost_regSetFld r i hi lo x s) :)
@[simp] theorem regSetFld_buf (r : Reg) (i hi lo x : Nat) (s : State) : (regSetFld r i hi lo x s).buf = s.buf := (congrArg State.buf (offHost_regSetFld r i hi lo x s) :)
@[simp] theorem regSetFld_egr (r : Reg) (i hi lo x : Nat) (s : State) : (regSetFld r i hi lo x s).egr = s.egr := (congrArg State.egr (offHost_regSetFld r i hi lo x s) :)
@[simp] theorem regSetFld_twin (r : Reg) (i hi lo x : Nat) (s : State) : (regSetFld r i hi lo x s).twin = s.twin := (congrArg State.twin (offHost_regSetFld r i hi lo x s) :)
@[simp] theorem regSetFld_time (r : Reg) (i hi lo x : Nat) (s : State) : (regSetFld r i hi lo x s).time = s.time := (congrArg State.time (offHost_regSetFld r i hi lo x s) :)
@[simp] theorem regSetFld_boot (r : Reg) (i hi lo x : Nat) (s : State) : (regSetFld r i hi lo x s).boot = s.boot := (congrArg State.boot (offHost_regSetFld r i hi lo x s) :)
@[simp] theorem regSetFld_fuses (r : Reg) (i hi lo x : Nat) (s : State) : (regSetFld r i hi lo x s).fuses = s.fuses := (congrArg State.fuses (offHost_regSetFld r i hi lo x s) :)
@[simp] theorem regSetFld_pwr (r : Reg) (i hi lo x : Nat) (s : State) : (regSetFld r i hi lo x s).pwr = s.pwr := (congrArg State.pwr (offHost_regSetFld r i hi lo x s) :)
@[simp] theorem regSetFld_out (r : Reg) (i hi lo x : Nat) (s : State) : (regSetFld r i hi lo x s).out = s.out := (congrArg State.out (offHost_regSetFld r i hi lo x s) :)

@[simp] theorem regCountN_pending (r : Reg) (i hi n : Nat) (s : State) : (regCountN r i hi n s).pending = s.pending := (congrArg State.pending (offHost_regCountN r i hi n s) :)
@[simp] theorem regCountN_clk (r : Reg) (i hi n : Nat) (s : State) : (regCountN r i hi n s).clk = s.clk := (congrArg State.clk (offHost_regCountN r i hi n s) :)
@[simp] theorem regCountN_writes (r : Reg) (i hi n : Nat) (s : State) : (regCountN r i hi n s).writes = s.writes := (congrArg State.writes (offHost_regCountN r i hi n s) :)
@[simp] theorem regCountN_lanes (r : Reg) (i hi n : Nat) (s : State) : (regCountN r i hi n s).lanes = s.lanes := (congrArg State.lanes (offHost_regCountN r i hi n s) :)
@[simp] theorem regCountN_ports (r : Reg) (i hi n : Nat) (s : State) : (regCountN r i hi n s).ports = s.ports := (congrArg State.ports (offHost_regCountN r i hi n s) :)
@[simp] theorem regCountN_adm (r : Reg) (i hi n : Nat) (s : State) : (regCountN r i hi n s).adm = s.adm := (congrArg State.adm (offHost_regCountN r i hi n s) :)
@[simp] theorem regCountN_prog (r : Reg) (i hi n : Nat) (s : State) : (regCountN r i hi n s).prog = s.prog := (congrArg State.prog (offHost_regCountN r i hi n s) :)
@[simp] theorem regCountN_hob (r : Reg) (i hi n : Nat) (s : State) : (regCountN r i hi n s).hob = s.hob := (congrArg State.hob (offHost_regCountN r i hi n s) :)
@[simp] theorem regCountN_tbl (r : Reg) (i hi n : Nat) (s : State) : (regCountN r i hi n s).tbl = s.tbl := (congrArg State.tbl (offHost_regCountN r i hi n s) :)
@[simp] theorem regCountN_tcam (r : Reg) (i hi n : Nat) (s : State) : (regCountN r i hi n s).tcam = s.tcam := (congrArg State.tcam (offHost_regCountN r i hi n s) :)
@[simp] theorem regCountN_buf (r : Reg) (i hi n : Nat) (s : State) : (regCountN r i hi n s).buf = s.buf := (congrArg State.buf (offHost_regCountN r i hi n s) :)
@[simp] theorem regCountN_egr (r : Reg) (i hi n : Nat) (s : State) : (regCountN r i hi n s).egr = s.egr := (congrArg State.egr (offHost_regCountN r i hi n s) :)
@[simp] theorem regCountN_twin (r : Reg) (i hi n : Nat) (s : State) : (regCountN r i hi n s).twin = s.twin := (congrArg State.twin (offHost_regCountN r i hi n s) :)
@[simp] theorem regCountN_time (r : Reg) (i hi n : Nat) (s : State) : (regCountN r i hi n s).time = s.time := (congrArg State.time (offHost_regCountN r i hi n s) :)
@[simp] theorem regCountN_boot (r : Reg) (i hi n : Nat) (s : State) : (regCountN r i hi n s).boot = s.boot := (congrArg State.boot (offHost_regCountN r i hi n s) :)
@[simp] theorem regCountN_fuses (r : Reg) (i hi n : Nat) (s : State) : (regCountN r i hi n s).fuses = s.fuses := (congrArg State.fuses (offHost_regCountN r i hi n s) :)
@[simp] theorem regCountN_pwr (r : Reg) (i hi n : Nat) (s : State) : (regCountN r i hi n s).pwr = s.pwr := (congrArg State.pwr (offHost_regCountN r i hi n s) :)
@[simp] theorem regCountN_out (r : Reg) (i hi n : Nat) (s : State) : (regCountN r i hi n s).out = s.out := (congrArg State.out (offHost_regCountN r i hi n s) :)

@[simp] theorem regCount_pending (r : Reg) (i : Nat) (s : State) : (regCount r i s).pending = s.pending := (congrArg State.pending (offHost_regCount r i s) :)
@[simp] theorem regCount_clk (r : Reg) (i : Nat) (s : State) : (regCount r i s).clk = s.clk := (congrArg State.clk (offHost_regCount r i s) :)
@[simp] theorem regCount_writes (r : Reg) (i : Nat) (s : State) : (regCount r i s).writes = s.writes := (congrArg State.writes (offHost_regCount r i s) :)
@[simp] theorem regCount_lanes (r : Reg) (i : Nat) (s : State) : (regCount r i s).lanes = s.lanes := (congrArg State.lanes (offHost_regCount r i s) :)
@[simp] theorem regCount_ports (r : Reg) (i : Nat) (s : State) : (regCount r i s).ports = s.ports := (congrArg State.ports (offHost_regCount r i s) :)
@[simp] theorem regCount_adm (r : Reg) (i : Nat) (s : State) : (regCount r i s).adm = s.adm := (congrArg State.adm (offHost_regCount r i s) :)
@[simp] theorem regCount_prog (r : Reg) (i : Nat) (s : State) : (regCount r i s).prog = s.prog := (congrArg State.prog (offHost_regCount r i s) :)
@[simp] theorem regCount_hob (r : Reg) (i : Nat) (s : State) : (regCount r i s).hob = s.hob := (congrArg State.hob (offHost_regCount r i s) :)
@[simp] theorem regCount_tbl (r : Reg) (i : Nat) (s : State) : (regCount r i s).tbl = s.tbl := (congrArg State.tbl (offHost_regCount r i s) :)
@[simp] theorem regCount_tcam (r : Reg) (i : Nat) (s : State) : (regCount r i s).tcam = s.tcam := (congrArg State.tcam (offHost_regCount r i s) :)
@[simp] theorem regCount_buf (r : Reg) (i : Nat) (s : State) : (regCount r i s).buf = s.buf := (congrArg State.buf (offHost_regCount r i s) :)
@[simp] theorem regCount_egr (r : Reg) (i : Nat) (s : State) : (regCount r i s).egr = s.egr := (congrArg State.egr (offHost_regCount r i s) :)
@[simp] theorem regCount_twin (r : Reg) (i : Nat) (s : State) : (regCount r i s).twin = s.twin := (congrArg State.twin (offHost_regCount r i s) :)
@[simp] theorem regCount_time (r : Reg) (i : Nat) (s : State) : (regCount r i s).time = s.time := (congrArg State.time (offHost_regCount r i s) :)
@[simp] theorem regCount_boot (r : Reg) (i : Nat) (s : State) : (regCount r i s).boot = s.boot := (congrArg State.boot (offHost_regCount r i s) :)
@[simp] theorem regCount_fuses (r : Reg) (i : Nat) (s : State) : (regCount r i s).fuses = s.fuses := (congrArg State.fuses (offHost_regCount r i s) :)
@[simp] theorem regCount_pwr (r : Reg) (i : Nat) (s : State) : (regCount r i s).pwr = s.pwr := (congrArg State.pwr (offHost_regCount r i s) :)
@[simp] theorem regCount_out (r : Reg) (i : Nat) (s : State) : (regCount r i s).out = s.out := (congrArg State.out (offHost_regCount r i s) :)

@[simp] theorem vectorPend_pending (v : Nat) (s : State) : (vectorPend v s).pending = s.pending := (congrArg State.pending (offHost_vectorPend v s) :)
@[simp] theorem vectorPend_clk (v : Nat) (s : State) : (vectorPend v s).clk = s.clk := (congrArg State.clk (offHost_vectorPend v s) :)
@[simp] theorem vectorPend_writes (v : Nat) (s : State) : (vectorPend v s).writes = s.writes := (congrArg State.writes (offHost_vectorPend v s) :)
@[simp] theorem vectorPend_lanes (v : Nat) (s : State) : (vectorPend v s).lanes = s.lanes := (congrArg State.lanes (offHost_vectorPend v s) :)
@[simp] theorem vectorPend_ports (v : Nat) (s : State) : (vectorPend v s).ports = s.ports := (congrArg State.ports (offHost_vectorPend v s) :)
@[simp] theorem vectorPend_adm (v : Nat) (s : State) : (vectorPend v s).adm = s.adm := (congrArg State.adm (offHost_vectorPend v s) :)
@[simp] theorem vectorPend_prog (v : Nat) (s : State) : (vectorPend v s).prog = s.prog := (congrArg State.prog (offHost_vectorPend v s) :)
@[simp] theorem vectorPend_hob (v : Nat) (s : State) : (vectorPend v s).hob = s.hob := (congrArg State.hob (offHost_vectorPend v s) :)
@[simp] theorem vectorPend_tbl (v : Nat) (s : State) : (vectorPend v s).tbl = s.tbl := (congrArg State.tbl (offHost_vectorPend v s) :)
@[simp] theorem vectorPend_tcam (v : Nat) (s : State) : (vectorPend v s).tcam = s.tcam := (congrArg State.tcam (offHost_vectorPend v s) :)
@[simp] theorem vectorPend_buf (v : Nat) (s : State) : (vectorPend v s).buf = s.buf := (congrArg State.buf (offHost_vectorPend v s) :)
@[simp] theorem vectorPend_egr (v : Nat) (s : State) : (vectorPend v s).egr = s.egr := (congrArg State.egr (offHost_vectorPend v s) :)
@[simp] theorem vectorPend_twin (v : Nat) (s : State) : (vectorPend v s).twin = s.twin := (congrArg State.twin (offHost_vectorPend v s) :)
@[simp] theorem vectorPend_time (v : Nat) (s : State) : (vectorPend v s).time = s.time := (congrArg State.time (offHost_vectorPend v s) :)
@[simp] theorem vectorPend_boot (v : Nat) (s : State) : (vectorPend v s).boot = s.boot := (congrArg State.boot (offHost_vectorPend v s) :)
@[simp] theorem vectorPend_fuses (v : Nat) (s : State) : (vectorPend v s).fuses = s.fuses := (congrArg State.fuses (offHost_vectorPend v s) :)
@[simp] theorem vectorPend_pwr (v : Nat) (s : State) : (vectorPend v s).pwr = s.pwr := (congrArg State.pwr (offHost_vectorPend v s) :)
@[simp] theorem vectorPend_out (v : Nat) (s : State) : (vectorPend v s).out = s.out := (congrArg State.out (offHost_vectorPend v s) :)

@[simp] theorem ringPut_pending (k ph : Nat) (rec : List Byte) (s : State) : (ringPut k ph rec s).pending = s.pending := (congrArg State.pending (offHost_ringPut k ph rec s) :)
@[simp] theorem ringPut_clk (k ph : Nat) (rec : List Byte) (s : State) : (ringPut k ph rec s).clk = s.clk := (congrArg State.clk (offHost_ringPut k ph rec s) :)
@[simp] theorem ringPut_writes (k ph : Nat) (rec : List Byte) (s : State) : (ringPut k ph rec s).writes = s.writes := (congrArg State.writes (offHost_ringPut k ph rec s) :)
@[simp] theorem ringPut_lanes (k ph : Nat) (rec : List Byte) (s : State) : (ringPut k ph rec s).lanes = s.lanes := (congrArg State.lanes (offHost_ringPut k ph rec s) :)
@[simp] theorem ringPut_ports (k ph : Nat) (rec : List Byte) (s : State) : (ringPut k ph rec s).ports = s.ports := (congrArg State.ports (offHost_ringPut k ph rec s) :)
@[simp] theorem ringPut_adm (k ph : Nat) (rec : List Byte) (s : State) : (ringPut k ph rec s).adm = s.adm := (congrArg State.adm (offHost_ringPut k ph rec s) :)
@[simp] theorem ringPut_prog (k ph : Nat) (rec : List Byte) (s : State) : (ringPut k ph rec s).prog = s.prog := (congrArg State.prog (offHost_ringPut k ph rec s) :)
@[simp] theorem ringPut_hob (k ph : Nat) (rec : List Byte) (s : State) : (ringPut k ph rec s).hob = s.hob := (congrArg State.hob (offHost_ringPut k ph rec s) :)
@[simp] theorem ringPut_tbl (k ph : Nat) (rec : List Byte) (s : State) : (ringPut k ph rec s).tbl = s.tbl := (congrArg State.tbl (offHost_ringPut k ph rec s) :)
@[simp] theorem ringPut_tcam (k ph : Nat) (rec : List Byte) (s : State) : (ringPut k ph rec s).tcam = s.tcam := (congrArg State.tcam (offHost_ringPut k ph rec s) :)
@[simp] theorem ringPut_buf (k ph : Nat) (rec : List Byte) (s : State) : (ringPut k ph rec s).buf = s.buf := (congrArg State.buf (offHost_ringPut k ph rec s) :)
@[simp] theorem ringPut_egr (k ph : Nat) (rec : List Byte) (s : State) : (ringPut k ph rec s).egr = s.egr := (congrArg State.egr (offHost_ringPut k ph rec s) :)
@[simp] theorem ringPut_twin (k ph : Nat) (rec : List Byte) (s : State) : (ringPut k ph rec s).twin = s.twin := (congrArg State.twin (offHost_ringPut k ph rec s) :)
@[simp] theorem ringPut_time (k ph : Nat) (rec : List Byte) (s : State) : (ringPut k ph rec s).time = s.time := (congrArg State.time (offHost_ringPut k ph rec s) :)
@[simp] theorem ringPut_boot (k ph : Nat) (rec : List Byte) (s : State) : (ringPut k ph rec s).boot = s.boot := (congrArg State.boot (offHost_ringPut k ph rec s) :)
@[simp] theorem ringPut_fuses (k ph : Nat) (rec : List Byte) (s : State) : (ringPut k ph rec s).fuses = s.fuses := (congrArg State.fuses (offHost_ringPut k ph rec s) :)
@[simp] theorem ringPut_pwr (k ph : Nat) (rec : List Byte) (s : State) : (ringPut k ph rec s).pwr = s.pwr := (congrArg State.pwr (offHost_ringPut k ph rec s) :)
@[simp] theorem ringPut_out (k ph : Nat) (rec : List Byte) (s : State) : (ringPut k ph rec s).out = s.out := (congrArg State.out (offHost_ringPut k ph rec s) :)

@[simp] theorem hostPut_pending (a : Nat) (bs : List Byte) (s : State) : (hostPut a bs s).pending = s.pending := (congrArg State.pending (offHost_hostPut a bs s) :)
@[simp] theorem hostPut_clk (a : Nat) (bs : List Byte) (s : State) : (hostPut a bs s).clk = s.clk := (congrArg State.clk (offHost_hostPut a bs s) :)
@[simp] theorem hostPut_writes (a : Nat) (bs : List Byte) (s : State) : (hostPut a bs s).writes = s.writes := (congrArg State.writes (offHost_hostPut a bs s) :)
@[simp] theorem hostPut_lanes (a : Nat) (bs : List Byte) (s : State) : (hostPut a bs s).lanes = s.lanes := (congrArg State.lanes (offHost_hostPut a bs s) :)
@[simp] theorem hostPut_ports (a : Nat) (bs : List Byte) (s : State) : (hostPut a bs s).ports = s.ports := (congrArg State.ports (offHost_hostPut a bs s) :)
@[simp] theorem hostPut_adm (a : Nat) (bs : List Byte) (s : State) : (hostPut a bs s).adm = s.adm := (congrArg State.adm (offHost_hostPut a bs s) :)
@[simp] theorem hostPut_prog (a : Nat) (bs : List Byte) (s : State) : (hostPut a bs s).prog = s.prog := (congrArg State.prog (offHost_hostPut a bs s) :)
@[simp] theorem hostPut_hob (a : Nat) (bs : List Byte) (s : State) : (hostPut a bs s).hob = s.hob := (congrArg State.hob (offHost_hostPut a bs s) :)
@[simp] theorem hostPut_tbl (a : Nat) (bs : List Byte) (s : State) : (hostPut a bs s).tbl = s.tbl := (congrArg State.tbl (offHost_hostPut a bs s) :)
@[simp] theorem hostPut_tcam (a : Nat) (bs : List Byte) (s : State) : (hostPut a bs s).tcam = s.tcam := (congrArg State.tcam (offHost_hostPut a bs s) :)
@[simp] theorem hostPut_buf (a : Nat) (bs : List Byte) (s : State) : (hostPut a bs s).buf = s.buf := (congrArg State.buf (offHost_hostPut a bs s) :)
@[simp] theorem hostPut_egr (a : Nat) (bs : List Byte) (s : State) : (hostPut a bs s).egr = s.egr := (congrArg State.egr (offHost_hostPut a bs s) :)
@[simp] theorem hostPut_twin (a : Nat) (bs : List Byte) (s : State) : (hostPut a bs s).twin = s.twin := (congrArg State.twin (offHost_hostPut a bs s) :)
@[simp] theorem hostPut_time (a : Nat) (bs : List Byte) (s : State) : (hostPut a bs s).time = s.time := (congrArg State.time (offHost_hostPut a bs s) :)
@[simp] theorem hostPut_boot (a : Nat) (bs : List Byte) (s : State) : (hostPut a bs s).boot = s.boot := (congrArg State.boot (offHost_hostPut a bs s) :)
@[simp] theorem hostPut_fuses (a : Nat) (bs : List Byte) (s : State) : (hostPut a bs s).fuses = s.fuses := (congrArg State.fuses (offHost_hostPut a bs s) :)
@[simp] theorem hostPut_pwr (a : Nat) (bs : List Byte) (s : State) : (hostPut a bs s).pwr = s.pwr := (congrArg State.pwr (offHost_hostPut a bs s) :)
@[simp] theorem hostPut_out (a : Nat) (bs : List Byte) (s : State) : (hostPut a bs s).out = s.out := (congrArg State.out (offHost_hostPut a bs s) :)

@[simp] theorem hostErr_pending (b : Nat) (s : State) : (hostErr b s).pending = s.pending := (congrArg State.pending (offHost_hostErr b s) :)
@[simp] theorem hostErr_clk (b : Nat) (s : State) : (hostErr b s).clk = s.clk := (congrArg State.clk (offHost_hostErr b s) :)
@[simp] theorem hostErr_writes (b : Nat) (s : State) : (hostErr b s).writes = s.writes := (congrArg State.writes (offHost_hostErr b s) :)
@[simp] theorem hostErr_lanes (b : Nat) (s : State) : (hostErr b s).lanes = s.lanes := (congrArg State.lanes (offHost_hostErr b s) :)
@[simp] theorem hostErr_ports (b : Nat) (s : State) : (hostErr b s).ports = s.ports := (congrArg State.ports (offHost_hostErr b s) :)
@[simp] theorem hostErr_adm (b : Nat) (s : State) : (hostErr b s).adm = s.adm := (congrArg State.adm (offHost_hostErr b s) :)
@[simp] theorem hostErr_prog (b : Nat) (s : State) : (hostErr b s).prog = s.prog := (congrArg State.prog (offHost_hostErr b s) :)
@[simp] theorem hostErr_hob (b : Nat) (s : State) : (hostErr b s).hob = s.hob := (congrArg State.hob (offHost_hostErr b s) :)
@[simp] theorem hostErr_tbl (b : Nat) (s : State) : (hostErr b s).tbl = s.tbl := (congrArg State.tbl (offHost_hostErr b s) :)
@[simp] theorem hostErr_tcam (b : Nat) (s : State) : (hostErr b s).tcam = s.tcam := (congrArg State.tcam (offHost_hostErr b s) :)
@[simp] theorem hostErr_buf (b : Nat) (s : State) : (hostErr b s).buf = s.buf := (congrArg State.buf (offHost_hostErr b s) :)
@[simp] theorem hostErr_egr (b : Nat) (s : State) : (hostErr b s).egr = s.egr := (congrArg State.egr (offHost_hostErr b s) :)
@[simp] theorem hostErr_twin (b : Nat) (s : State) : (hostErr b s).twin = s.twin := (congrArg State.twin (offHost_hostErr b s) :)
@[simp] theorem hostErr_time (b : Nat) (s : State) : (hostErr b s).time = s.time := (congrArg State.time (offHost_hostErr b s) :)
@[simp] theorem hostErr_boot (b : Nat) (s : State) : (hostErr b s).boot = s.boot := (congrArg State.boot (offHost_hostErr b s) :)
@[simp] theorem hostErr_fuses (b : Nat) (s : State) : (hostErr b s).fuses = s.fuses := (congrArg State.fuses (offHost_hostErr b s) :)
@[simp] theorem hostErr_pwr (b : Nat) (s : State) : (hostErr b s).pwr = s.pwr := (congrArg State.pwr (offHost_hostErr b s) :)
@[simp] theorem hostErr_out (b : Nat) (s : State) : (hostErr b s).out = s.out := (congrArg State.out (offHost_hostErr b s) :)

@[simp] theorem raiseEv_pending (code inst : Nat) (data : List Byte) (s : State) : (raiseEv code inst data s).pending = s.pending := (congrArg State.pending (offHost_raiseEv code inst data s) :)
@[simp] theorem raiseEv_clk (code inst : Nat) (data : List Byte) (s : State) : (raiseEv code inst data s).clk = s.clk := (congrArg State.clk (offHost_raiseEv code inst data s) :)
@[simp] theorem raiseEv_writes (code inst : Nat) (data : List Byte) (s : State) : (raiseEv code inst data s).writes = s.writes := (congrArg State.writes (offHost_raiseEv code inst data s) :)
@[simp] theorem raiseEv_lanes (code inst : Nat) (data : List Byte) (s : State) : (raiseEv code inst data s).lanes = s.lanes := (congrArg State.lanes (offHost_raiseEv code inst data s) :)
@[simp] theorem raiseEv_ports (code inst : Nat) (data : List Byte) (s : State) : (raiseEv code inst data s).ports = s.ports := (congrArg State.ports (offHost_raiseEv code inst data s) :)
@[simp] theorem raiseEv_adm (code inst : Nat) (data : List Byte) (s : State) : (raiseEv code inst data s).adm = s.adm := (congrArg State.adm (offHost_raiseEv code inst data s) :)
@[simp] theorem raiseEv_prog (code inst : Nat) (data : List Byte) (s : State) : (raiseEv code inst data s).prog = s.prog := (congrArg State.prog (offHost_raiseEv code inst data s) :)
@[simp] theorem raiseEv_hob (code inst : Nat) (data : List Byte) (s : State) : (raiseEv code inst data s).hob = s.hob := (congrArg State.hob (offHost_raiseEv code inst data s) :)
@[simp] theorem raiseEv_tbl (code inst : Nat) (data : List Byte) (s : State) : (raiseEv code inst data s).tbl = s.tbl := (congrArg State.tbl (offHost_raiseEv code inst data s) :)
@[simp] theorem raiseEv_tcam (code inst : Nat) (data : List Byte) (s : State) : (raiseEv code inst data s).tcam = s.tcam := (congrArg State.tcam (offHost_raiseEv code inst data s) :)
@[simp] theorem raiseEv_buf (code inst : Nat) (data : List Byte) (s : State) : (raiseEv code inst data s).buf = s.buf := (congrArg State.buf (offHost_raiseEv code inst data s) :)
@[simp] theorem raiseEv_egr (code inst : Nat) (data : List Byte) (s : State) : (raiseEv code inst data s).egr = s.egr := (congrArg State.egr (offHost_raiseEv code inst data s) :)
@[simp] theorem raiseEv_twin (code inst : Nat) (data : List Byte) (s : State) : (raiseEv code inst data s).twin = s.twin := (congrArg State.twin (offHost_raiseEv code inst data s) :)
@[simp] theorem raiseEv_time (code inst : Nat) (data : List Byte) (s : State) : (raiseEv code inst data s).time = s.time := (congrArg State.time (offHost_raiseEv code inst data s) :)
@[simp] theorem raiseEv_boot (code inst : Nat) (data : List Byte) (s : State) : (raiseEv code inst data s).boot = s.boot := (congrArg State.boot (offHost_raiseEv code inst data s) :)
@[simp] theorem raiseEv_fuses (code inst : Nat) (data : List Byte) (s : State) : (raiseEv code inst data s).fuses = s.fuses := (congrArg State.fuses (offHost_raiseEv code inst data s) :)
@[simp] theorem raiseEv_pwr (code inst : Nat) (data : List Byte) (s : State) : (raiseEv code inst data s).pwr = s.pwr := (congrArg State.pwr (offHost_raiseEv code inst data s) :)
@[simp] theorem raiseEv_out (code inst : Nat) (data : List Byte) (s : State) : (raiseEv code inst data s).out = s.out := (congrArg State.out (offHost_raiseEv code inst data s) :)

@[simp] theorem raiseLim_pending (code inst key period : Nat) (data : List Byte) (s : State) : (raiseLim code inst key period data s).pending = s.pending := (congrArg State.pending (offHost_raiseLim code inst key period data s) :)
@[simp] theorem raiseLim_clk (code inst key period : Nat) (data : List Byte) (s : State) : (raiseLim code inst key period data s).clk = s.clk := (congrArg State.clk (offHost_raiseLim code inst key period data s) :)
@[simp] theorem raiseLim_writes (code inst key period : Nat) (data : List Byte) (s : State) : (raiseLim code inst key period data s).writes = s.writes := (congrArg State.writes (offHost_raiseLim code inst key period data s) :)
@[simp] theorem raiseLim_lanes (code inst key period : Nat) (data : List Byte) (s : State) : (raiseLim code inst key period data s).lanes = s.lanes := (congrArg State.lanes (offHost_raiseLim code inst key period data s) :)
@[simp] theorem raiseLim_ports (code inst key period : Nat) (data : List Byte) (s : State) : (raiseLim code inst key period data s).ports = s.ports := (congrArg State.ports (offHost_raiseLim code inst key period data s) :)
@[simp] theorem raiseLim_adm (code inst key period : Nat) (data : List Byte) (s : State) : (raiseLim code inst key period data s).adm = s.adm := (congrArg State.adm (offHost_raiseLim code inst key period data s) :)
@[simp] theorem raiseLim_prog (code inst key period : Nat) (data : List Byte) (s : State) : (raiseLim code inst key period data s).prog = s.prog := (congrArg State.prog (offHost_raiseLim code inst key period data s) :)
@[simp] theorem raiseLim_hob (code inst key period : Nat) (data : List Byte) (s : State) : (raiseLim code inst key period data s).hob = s.hob := (congrArg State.hob (offHost_raiseLim code inst key period data s) :)
@[simp] theorem raiseLim_tbl (code inst key period : Nat) (data : List Byte) (s : State) : (raiseLim code inst key period data s).tbl = s.tbl := (congrArg State.tbl (offHost_raiseLim code inst key period data s) :)
@[simp] theorem raiseLim_tcam (code inst key period : Nat) (data : List Byte) (s : State) : (raiseLim code inst key period data s).tcam = s.tcam := (congrArg State.tcam (offHost_raiseLim code inst key period data s) :)
@[simp] theorem raiseLim_buf (code inst key period : Nat) (data : List Byte) (s : State) : (raiseLim code inst key period data s).buf = s.buf := (congrArg State.buf (offHost_raiseLim code inst key period data s) :)
@[simp] theorem raiseLim_egr (code inst key period : Nat) (data : List Byte) (s : State) : (raiseLim code inst key period data s).egr = s.egr := (congrArg State.egr (offHost_raiseLim code inst key period data s) :)
@[simp] theorem raiseLim_twin (code inst key period : Nat) (data : List Byte) (s : State) : (raiseLim code inst key period data s).twin = s.twin := (congrArg State.twin (offHost_raiseLim code inst key period data s) :)
@[simp] theorem raiseLim_time (code inst key period : Nat) (data : List Byte) (s : State) : (raiseLim code inst key period data s).time = s.time := (congrArg State.time (offHost_raiseLim code inst key period data s) :)
@[simp] theorem raiseLim_boot (code inst key period : Nat) (data : List Byte) (s : State) : (raiseLim code inst key period data s).boot = s.boot := (congrArg State.boot (offHost_raiseLim code inst key period data s) :)
@[simp] theorem raiseLim_fuses (code inst key period : Nat) (data : List Byte) (s : State) : (raiseLim code inst key period data s).fuses = s.fuses := (congrArg State.fuses (offHost_raiseLim code inst key period data s) :)
@[simp] theorem raiseLim_pwr (code inst key period : Nat) (data : List Byte) (s : State) : (raiseLim code inst key period data s).pwr = s.pwr := (congrArg State.pwr (offHost_raiseLim code inst key period data s) :)
@[simp] theorem raiseLim_out (code inst key period : Nat) (data : List Byte) (s : State) : (raiseLim code inst key period data s).out = s.out := (congrArg State.out (offHost_raiseLim code inst key period data s) :)

@[simp] theorem complete_pending (c : MbxCmd) (status tick : Nat) (result : List Byte) (s : State) : (complete c status tick result s).pending = s.pending := (congrArg State.pending (offHost_complete c status tick result s) :)
@[simp] theorem complete_clk (c : MbxCmd) (status tick : Nat) (result : List Byte) (s : State) : (complete c status tick result s).clk = s.clk := (congrArg State.clk (offHost_complete c status tick result s) :)
@[simp] theorem complete_writes (c : MbxCmd) (status tick : Nat) (result : List Byte) (s : State) : (complete c status tick result s).writes = s.writes := (congrArg State.writes (offHost_complete c status tick result s) :)
@[simp] theorem complete_lanes (c : MbxCmd) (status tick : Nat) (result : List Byte) (s : State) : (complete c status tick result s).lanes = s.lanes := (congrArg State.lanes (offHost_complete c status tick result s) :)
@[simp] theorem complete_ports (c : MbxCmd) (status tick : Nat) (result : List Byte) (s : State) : (complete c status tick result s).ports = s.ports := (congrArg State.ports (offHost_complete c status tick result s) :)
@[simp] theorem complete_adm (c : MbxCmd) (status tick : Nat) (result : List Byte) (s : State) : (complete c status tick result s).adm = s.adm := (congrArg State.adm (offHost_complete c status tick result s) :)
@[simp] theorem complete_prog (c : MbxCmd) (status tick : Nat) (result : List Byte) (s : State) : (complete c status tick result s).prog = s.prog := (congrArg State.prog (offHost_complete c status tick result s) :)
@[simp] theorem complete_hob (c : MbxCmd) (status tick : Nat) (result : List Byte) (s : State) : (complete c status tick result s).hob = s.hob := (congrArg State.hob (offHost_complete c status tick result s) :)
@[simp] theorem complete_tbl (c : MbxCmd) (status tick : Nat) (result : List Byte) (s : State) : (complete c status tick result s).tbl = s.tbl := (congrArg State.tbl (offHost_complete c status tick result s) :)
@[simp] theorem complete_tcam (c : MbxCmd) (status tick : Nat) (result : List Byte) (s : State) : (complete c status tick result s).tcam = s.tcam := (congrArg State.tcam (offHost_complete c status tick result s) :)
@[simp] theorem complete_buf (c : MbxCmd) (status tick : Nat) (result : List Byte) (s : State) : (complete c status tick result s).buf = s.buf := (congrArg State.buf (offHost_complete c status tick result s) :)
@[simp] theorem complete_egr (c : MbxCmd) (status tick : Nat) (result : List Byte) (s : State) : (complete c status tick result s).egr = s.egr := (congrArg State.egr (offHost_complete c status tick result s) :)
@[simp] theorem complete_twin (c : MbxCmd) (status tick : Nat) (result : List Byte) (s : State) : (complete c status tick result s).twin = s.twin := (congrArg State.twin (offHost_complete c status tick result s) :)
@[simp] theorem complete_time (c : MbxCmd) (status tick : Nat) (result : List Byte) (s : State) : (complete c status tick result s).time = s.time := (congrArg State.time (offHost_complete c status tick result s) :)
@[simp] theorem complete_boot (c : MbxCmd) (status tick : Nat) (result : List Byte) (s : State) : (complete c status tick result s).boot = s.boot := (congrArg State.boot (offHost_complete c status tick result s) :)
@[simp] theorem complete_fuses (c : MbxCmd) (status tick : Nat) (result : List Byte) (s : State) : (complete c status tick result s).fuses = s.fuses := (congrArg State.fuses (offHost_complete c status tick result s) :)
@[simp] theorem complete_pwr (c : MbxCmd) (status tick : Nat) (result : List Byte) (s : State) : (complete c status tick result s).pwr = s.pwr := (congrArg State.pwr (offHost_complete c status tick result s) :)
@[simp] theorem complete_out (c : MbxCmd) (status tick : Nat) (result : List Byte) (s : State) : (complete c status tick result s).out = s.out := (congrArg State.out (offHost_complete c status tick result s) :)

@[simp] theorem completeOpt_pending (c : Option MbxCmd) (status tick : Nat) (result : List Byte) (s : State) : (completeOpt c status tick result s).pending = s.pending := (congrArg State.pending (offHost_completeOpt c status tick result s) :)
@[simp] theorem completeOpt_clk (c : Option MbxCmd) (status tick : Nat) (result : List Byte) (s : State) : (completeOpt c status tick result s).clk = s.clk := (congrArg State.clk (offHost_completeOpt c status tick result s) :)
@[simp] theorem completeOpt_writes (c : Option MbxCmd) (status tick : Nat) (result : List Byte) (s : State) : (completeOpt c status tick result s).writes = s.writes := (congrArg State.writes (offHost_completeOpt c status tick result s) :)
@[simp] theorem completeOpt_lanes (c : Option MbxCmd) (status tick : Nat) (result : List Byte) (s : State) : (completeOpt c status tick result s).lanes = s.lanes := (congrArg State.lanes (offHost_completeOpt c status tick result s) :)
@[simp] theorem completeOpt_ports (c : Option MbxCmd) (status tick : Nat) (result : List Byte) (s : State) : (completeOpt c status tick result s).ports = s.ports := (congrArg State.ports (offHost_completeOpt c status tick result s) :)
@[simp] theorem completeOpt_adm (c : Option MbxCmd) (status tick : Nat) (result : List Byte) (s : State) : (completeOpt c status tick result s).adm = s.adm := (congrArg State.adm (offHost_completeOpt c status tick result s) :)
@[simp] theorem completeOpt_prog (c : Option MbxCmd) (status tick : Nat) (result : List Byte) (s : State) : (completeOpt c status tick result s).prog = s.prog := (congrArg State.prog (offHost_completeOpt c status tick result s) :)
@[simp] theorem completeOpt_hob (c : Option MbxCmd) (status tick : Nat) (result : List Byte) (s : State) : (completeOpt c status tick result s).hob = s.hob := (congrArg State.hob (offHost_completeOpt c status tick result s) :)
@[simp] theorem completeOpt_tbl (c : Option MbxCmd) (status tick : Nat) (result : List Byte) (s : State) : (completeOpt c status tick result s).tbl = s.tbl := (congrArg State.tbl (offHost_completeOpt c status tick result s) :)
@[simp] theorem completeOpt_tcam (c : Option MbxCmd) (status tick : Nat) (result : List Byte) (s : State) : (completeOpt c status tick result s).tcam = s.tcam := (congrArg State.tcam (offHost_completeOpt c status tick result s) :)
@[simp] theorem completeOpt_buf (c : Option MbxCmd) (status tick : Nat) (result : List Byte) (s : State) : (completeOpt c status tick result s).buf = s.buf := (congrArg State.buf (offHost_completeOpt c status tick result s) :)
@[simp] theorem completeOpt_egr (c : Option MbxCmd) (status tick : Nat) (result : List Byte) (s : State) : (completeOpt c status tick result s).egr = s.egr := (congrArg State.egr (offHost_completeOpt c status tick result s) :)
@[simp] theorem completeOpt_twin (c : Option MbxCmd) (status tick : Nat) (result : List Byte) (s : State) : (completeOpt c status tick result s).twin = s.twin := (congrArg State.twin (offHost_completeOpt c status tick result s) :)
@[simp] theorem completeOpt_time (c : Option MbxCmd) (status tick : Nat) (result : List Byte) (s : State) : (completeOpt c status tick result s).time = s.time := (congrArg State.time (offHost_completeOpt c status tick result s) :)
@[simp] theorem completeOpt_boot (c : Option MbxCmd) (status tick : Nat) (result : List Byte) (s : State) : (completeOpt c status tick result s).boot = s.boot := (congrArg State.boot (offHost_completeOpt c status tick result s) :)
@[simp] theorem completeOpt_fuses (c : Option MbxCmd) (status tick : Nat) (result : List Byte) (s : State) : (completeOpt c status tick result s).fuses = s.fuses := (congrArg State.fuses (offHost_completeOpt c status tick result s) :)
@[simp] theorem completeOpt_pwr (c : Option MbxCmd) (status tick : Nat) (result : List Byte) (s : State) : (completeOpt c status tick result s).pwr = s.pwr := (congrArg State.pwr (offHost_completeOpt c status tick result s) :)
@[simp] theorem completeOpt_out (c : Option MbxCmd) (status tick : Nat) (result : List Byte) (s : State) : (completeOpt c status tick result s).out = s.out := (congrArg State.out (offHost_completeOpt c status tick result s) :)

@[simp] theorem regSetFld_host (r : Reg) (i hi lo x : Nat) (s : State) : (regSetFld r i hi lo x s).host = s.host := by
  unfold regSetFld
  repeat' (first | rfl | (simp; done) | split | dsimp only)

@[simp] theorem regCountN_host (r : Reg) (i hi n : Nat) (s : State) : (regCountN r i hi n s).host = s.host := by
  unfold regCountN
  repeat' (first | rfl | (simp; done) | split | dsimp only)

@[simp] theorem regCount_host (r : Reg) (i : Nat) (s : State) : (regCount r i s).host = s.host := by
  unfold regCount
  repeat' (first | rfl | (simp; done) | split | dsimp only)

@[simp] theorem setEventBit_host (code inst : Nat) (s : State) : (setEventBit code inst s).host = s.host := by
  unfold setEventBit
  repeat' (first | rfl | (simp; done) | split | dsimp only)

/-! ### Drop counts -/

@[simp] theorem countDrop_pending (reason bytes : Nat) (s : State) : (countDrop reason bytes s).pending = s.pending := rfl
@[simp] theorem countDrop_clk (reason bytes : Nat) (s : State) : (countDrop reason bytes s).clk = s.clk := rfl
@[simp] theorem countDrop_regs (reason bytes : Nat) (s : State) : (countDrop reason bytes s).regs = s.regs := rfl
@[simp] theorem countDrop_writes (reason bytes : Nat) (s : State) : (countDrop reason bytes s).writes = s.writes := rfl
@[simp] theorem countDrop_lanes (reason bytes : Nat) (s : State) : (countDrop reason bytes s).lanes = s.lanes := rfl
@[simp] theorem countDrop_ports (reason bytes : Nat) (s : State) : (countDrop reason bytes s).ports = s.ports := rfl
@[simp] theorem countDrop_adm (reason bytes : Nat) (s : State) : (countDrop reason bytes s).adm = s.adm := rfl
@[simp] theorem countDrop_prog (reason bytes : Nat) (s : State) : (countDrop reason bytes s).prog = s.prog := rfl
@[simp] theorem countDrop_hob (reason bytes : Nat) (s : State) : (countDrop reason bytes s).hob = s.hob := rfl
@[simp] theorem countDrop_tbl (reason bytes : Nat) (s : State) : (countDrop reason bytes s).tbl = s.tbl := rfl
@[simp] theorem countDrop_tcam (reason bytes : Nat) (s : State) : (countDrop reason bytes s).tcam = s.tcam := rfl
@[simp] theorem countDrop_buf (reason bytes : Nat) (s : State) : (countDrop reason bytes s).buf = s.buf := rfl
@[simp] theorem countDrop_twin (reason bytes : Nat) (s : State) : (countDrop reason bytes s).twin = s.twin := rfl
@[simp] theorem countDrop_time (reason bytes : Nat) (s : State) : (countDrop reason bytes s).time = s.time := rfl
@[simp] theorem countDrop_host (reason bytes : Nat) (s : State) : (countDrop reason bytes s).host = s.host := rfl
@[simp] theorem countDrop_boot (reason bytes : Nat) (s : State) : (countDrop reason bytes s).boot = s.boot := rfl
@[simp] theorem countDrop_fuses (reason bytes : Nat) (s : State) : (countDrop reason bytes s).fuses = s.fuses := rfl
@[simp] theorem countDrop_pwr (reason bytes : Nat) (s : State) : (countDrop reason bytes s).pwr = s.pwr := rfl
@[simp] theorem countDrop_out (reason bytes : Nat) (s : State) : (countDrop reason bytes s).out = s.out := rfl

/-- A drop is counted in class 2 at its reason, one frame and its bytes, from the next tick on (R37, R390). -/
theorem countDrop_egr (reason bytes : Nat) (s : State) : (countDrop reason bytes s).egr =
    { s.egr with ctrPend := s.egr.ctrPend ++ [(s.clk.tick + 1, fixedKey 2 reason, 1, bytes)] } := rfl

/-! ### Applying an operation for each element -/

@[simp] theorem forEach_nil {α : Type} (f : α → State → State) (s : State) : forEach [] f s = s := rfl

@[simp] theorem forEach_cons {α : Type} (x : α) (l : List α) (f : α → State → State) (s : State) :
    forEach (x :: l) f s = forEach l f (f x s) := rfl

/-- What each application keeps, all of them keep. -/
theorem forEach_keeps {α β : Type} (l : List α) (f : α → State → State) (g : State → β) (s : State)
    (h : ∀ x t, g (f x t) = g t) : g (forEach l f s) = g s := by
  induction l generalizing s with
  | nil => rfl
  | cons x xs ih => exact (ih (f x s)).trans (h x s)

end Sys2Proof.Machine
end

