-- ==== Sys2Proof/Laws/Events.lean ====
section
/-! SUPPORT. What raising an event does: its register bit is set, no other register but the count of lost events changes
(R486, R487, R521). -/

namespace Sys2Proof.Machine

set_option linter.all false

theorem setFld_bit (v : Word) {b : Nat} (h : b < 32) : (setFld v b b 1).getLsbD b = true := by
  have e : b + 1 - b = 1 := by omega
  have m : (BitVec.ofNat 32 (1 * 2 ^ b)).getLsbD b = true := by
    rw [BitVec.getLsbD_ofNat, Nat.one_mul, Nat.testBit_two_pow_self, decide_eq_true h]; rfl
  unfold setFld
  rw [e, Nat.pow_one]
  simp only [BitVec.getLsbD_or, BitVec.getLsbD_and, m, Bool.and_self, Bool.or_true]

/-! ### Register frames -/

theorem regsBut_refl (l : List Nat) (s : State) : RegsBut l s s := ⟨rfl, fun _ _ => rfl⟩

theorem regsBut_of_eq (l : List Nat) {s t : State} (h : t.regs = s.regs) : RegsBut l s t := by
  unfold RegsBut; rw [h]; exact ⟨rfl, fun _ _ => rfl⟩

theorem RegsBut.trans {l : List Nat} {s t u : State} (h : RegsBut l s t) (k : RegsBut l t u) : RegsBut l s u := by
  refine ⟨?_, fun a ha => (k.2 a ha).trans (h.2 a ha)⟩
  rw [k.1, h.1]

theorem RegsBut.mono {l m : List Nat} {s t : State} (h : RegsBut l s t) (hl : ∀ a, a ∈ l → a ∈ m) : RegsBut m s t :=
  ⟨h.1, fun a ha => h.2 a fun x => ha (hl a x)⟩

theorem regsBut_regSet {l : List Nat} (r : Reg) (i : Nat) (v : Word) (s : State) (h : r.addr i ∈ l) : RegsBut l s (regSet r i v s) :=
  ⟨rfl, fun a ha => FMap.get_set_ne _ _ _ fun e => ha (by rw [e]; exact h)⟩

/-- A register outside the frame's list reads as before. -/
theorem RegsBut.regVal {l : List Nat} {s t : State} (h : RegsBut l s t) {r : Reg} {i : Nat} (hr : r.addr i ∉ l) :
    regVal t r i = regVal s r i := by
  unfold Machine.regVal; rw [h.2 _ hr]

theorem regVal_eq_of_get {s t : State} {r : Reg} {i : Nat}
    (h : FMap.get none t.regs.vals (r.addr i) = FMap.get none s.regs.vals (r.addr i)) : regVal t r i = regVal s r i := by
  simp [regVal, h]

theorem regBit_regSetFld_self (r : Reg) (i : Nat) {b : Nat} (s : State) (h : b < 32) : regBit (regSetFld r i b b 1 s) r i b = true := by
  unfold regBit regSetFld
  rw [regVal_regSet_self]
  exact setFld_bit _ h

theorem regVal_regCount_ne {r q : Reg} {i j : Nat} (s : State) (h : q.addr j ≠ r.addr i) : regVal (regCount r i s) q j = regVal s q j :=
  regVal_regSet_ne _ _ h

@[simp] theorem regs_modHost (f : HostIf → HostIf) (s : State) : (modHost f s).regs = s.regs := rfl

theorem regVal_of_regs {s t : State} (h : t.regs = s.regs) (r : Reg) (i : Nat) : regVal t r i = regVal s r i := by
  unfold regVal; rw [h]

/-- Putting an event into the ring changes no register but the count of lost events. -/
theorem regVal_putEvent (e : Event) (s : State) (q : Reg) (j : Nat) (h : q.addr j ≠ Reg.HOST_EVENT_LOST_CNT.addr 0) :
    regVal (putEvent e s) q j = regVal s q j := by
  have c : regVal (loseEvent s) q j = regVal s q j := by
    unfold loseEvent
    rw [regVal_of_regs (regs_modHost _ _), regVal_regCount_ne _ h]
  unfold putEvent
  repeat' split
  · rfl
  · exact regVal_of_regs (regs_modHost _ _) q j
  · exact c
  · exact c
  · exact regVal_of_regs (regs_of_keep (by simp)) q j

theorem regsBut_putEvent (e : Event) (s : State) : RegsBut [Reg.HOST_EVENT_LOST_CNT.addr 0] s (putEvent e s) := by
  have c : RegsBut [Reg.HOST_EVENT_LOST_CNT.addr 0] s (loseEvent s) := regsBut_regSet .HOST_EVENT_LOST_CNT 0 _ s List.mem_cons_self
  unfold putEvent
  repeat' split
  · exact regsBut_refl _ _
  · exact regsBut_of_eq _ rfl
  · exact c
  · exact c
  · exact regsBut_of_eq _ (regs_of_keep (by simp))

/-- Raising an event changes the register with its bit and the count of lost events. -/
theorem regsBut_raiseEv {code inst : Nat} {r : Reg} {i b : Nat} (data : List Byte) (s : State)
    (hs : ∀ u, setEventBit code inst u = regSetFld r i b b 1 u) :
    RegsBut [r.addr i, Reg.HOST_EVENT_LOST_CNT.addr 0] s (raiseEv code inst data s) := by
  unfold raiseEv
  rw [hs]
  refine RegsBut.trans (regsBut_regSet r i _ s List.mem_cons_self) ((regsBut_putEvent _ _).mono ?_)
  intro a ha
  exact List.mem_cons_of_mem _ ha

/-- An event without a register bit changes the count of lost events at most. -/
theorem regsBut_raiseEv_bitless {code inst : Nat} (data : List Byte) (s : State) (hs : ∀ u, setEventBit code inst u = u) :
    RegsBut [Reg.HOST_EVENT_LOST_CNT.addr 0] s (raiseEv code inst data s) := by
  unfold raiseEv
  rw [hs]
  exact regsBut_putEvent _ _

/-- Raising an event sets its bit. -/
theorem regBit_raiseEv {code inst : Nat} {r : Reg} {i b : Nat} (data : List Byte) (s : State)
    (hs : ∀ u, setEventBit code inst u = regSetFld r i b b 1 u) (hb : b < 32) (hr : r.addr i ≠ Reg.HOST_EVENT_LOST_CNT.addr 0) :
    regBit (raiseEv code inst data s) r i b = true := by
  unfold raiseEv regBit
  rw [regVal_putEvent _ _ _ _ hr, hs]
  exact regBit_regSetFld_self r i s hb

/-- Raising an event changes no register but the one with its bit and the count of lost events. -/
theorem regVal_raiseEv {code inst : Nat} {r : Reg} {i b : Nat} (data : List Byte) (s : State)
    (hs : ∀ u, setEventBit code inst u = regSetFld r i b b 1 u) (q : Reg) (j : Nat) (hq : q.addr j ≠ r.addr i)
    (hl : q.addr j ≠ Reg.HOST_EVENT_LOST_CNT.addr 0) : regVal (raiseEv code inst data s) q j = regVal s q j := by
  unfold raiseEv
  rw [regVal_putEvent _ _ _ _ hl, hs]
  exact regVal_regSet_ne _ _ hq

end Sys2Proof.Machine
end

