-- ==== Sys2Proof/Laws/Keep/Counter.lean ====
section
/-! SUPPORT. Which parts of the state the operations of Machine/Counter.lean keep. -/

namespace Sys2Proof.Machine

set_option linter.all false

@[simp] theorem keep_pairAdd {kp : Area → Bool} (k_egr : kp .egr = false) (key a b : Nat) (s : State) : keep kp (pairAdd key a b s) = keep kp s := by
  unfold pairAdd
  repeat' (first | (simp [k_egr]; done) | split | dsimp only)
  all_goals first | rfl | (simp_all; done) | (simp [keep, k_egr]; done) | grind [keep_modEgr]

@[simp] theorem keep_pairSet {kp : Area → Bool} (k_egr : kp .egr = false) (key a b : Nat) (s : State) : keep kp (pairSet key a b s) = keep kp s := by
  unfold pairSet
  repeat' (first | (simp [k_egr]; done) | split | dsimp only)
  all_goals first | rfl | (simp_all; done) | (simp [keep, k_egr]; done) | grind [keep_modEgr]

@[simp] theorem keep_applyCounts {kp : Area → Bool} (k_egr : kp .egr = false) (s : State) : keep kp (applyCounts s) = keep kp s := by
  unfold applyCounts
  repeat' (first | (simp [k_egr]; done) | split | dsimp only)
  all_goals first | rfl | (simp_all; done) | (simp [keep, k_egr]; done) | grind [keep_forEach, keep_pairAdd, keep_modEgr]

@[simp] theorem keep_imagePair {kp : Area → Bool} (k_egr : kp .egr = false) (key : Nat) (s : State) : keep kp (imagePair key s) = keep kp s := by
  unfold imagePair
  repeat' (first | (simp [k_egr]; done) | split | dsimp only)
  all_goals first | rfl | (simp_all; done) | (simp [keep, k_egr]; done) | grind [keep_modEgr]

@[simp] theorem keep_imageStep {kp : Area → Bool} (k_clk : kp .clk = false) (k_egr : kp .egr = false) (s : State) : keep kp (imageStep s) = keep kp s := by
  unfold imageStep
  repeat' (first | (simp [k_clk, k_egr]; done) | split | dsimp only)
  all_goals first | rfl | (simp_all; done) | (simp [keep, k_clk, k_egr]; done) | grind [keep_forEach, keep_imagePair, keep_useFree]

@[simp] theorem keep_rollProgramCounters {kp : Area → Bool} (k_egr : kp .egr = false) (s : State) : keep kp (rollProgramCounters s) = keep kp s := by
  unfold rollProgramCounters
  repeat' (first | (simp [k_egr]; done) | split | dsimp only)
  all_goals first | rfl | (simp_all; done) | (simp [keep, k_egr]; done) | grind [keep_pairSet, keep_forEach]

@[simp] theorem keep_statAdd {kp : Area → Bool} (k_egr : kp .egr = false) (p i n : Nat) (s : State) : keep kp (statAdd p i n s) = keep kp s := by
  unfold statAdd
  repeat' (first | (simp [k_egr]; done) | split | dsimp only)
  all_goals first | rfl | (simp_all; done) | (simp [keep, k_egr]; done) | grind [keep_modEgr]

@[simp] theorem keep_movedBytes {kp : Area → Bool} (k_egr : kp .egr = false) (p n : Nat) (s : State) : keep kp (movedBytes p n s) = keep kp s := by
  unfold movedBytes
  repeat' (first | (simp [k_egr]; done) | split | dsimp only)
  all_goals first | rfl | (simp_all; done) | (simp [keep, k_egr]; done) | grind [keep_modEgr]

end Sys2Proof.Machine
end

