-- ==== Sys2Proof/Laws/Keep/TwinOps.lean ====
section
/-! SUPPORT. Which parts of the state the operations of Machine/TwinOps.lean keep. -/

namespace Sys2Proof.Machine

set_option linter.all false

@[simp] theorem keep_failAttempt {kp : Area → Bool} (k_twin : kp .twin = false) (reason : Nat) (s : State) : keep kp (failAttempt reason s) = keep kp s := by
  unfold failAttempt
  repeat' (first | (simp [k_twin]; done) | split | dsimp only)
  all_goals first | rfl | (simp_all; done) | (simp [keep, k_twin]; done) | grind [keep_modTwin]

@[simp] theorem keep_flueSend {kp : Area → Bool} (k_out : kp .out = false) (type flags tick : Nat) (body : List Byte) (s : State) : keep kp (flueSend type flags tick body s) = keep kp s := by
  unfold flueSend
  repeat' (first | (simp [k_out]; done) | split | dsimp only)
  all_goals first | rfl | (simp_all; done) | (simp [keep, k_out]; done) | grind [keep_modOut]

@[simp] theorem keep_hear {kp : Area → Bool} (k_twin : kp .twin = false) (k : Nat) (s : State) : keep kp (hear k s) = keep kp s := by
  unfold hear
  repeat' (first | (simp [k_twin]; done) | split | dsimp only)
  all_goals first | rfl | (simp_all; done) | (simp [keep, k_twin]; done) | grind [keep_modTwin]

@[simp] theorem keep_hearNow {kp : Area → Bool} (k_twin : kp .twin = false) (s : State) : keep kp (hearNow s) = keep kp s := by
  unfold hearNow
  repeat' (first | (simp [k_twin]; done) | split | dsimp only)
  all_goals first | rfl | (simp_all; done) | (simp [keep, k_twin]; done) | grind [keep_hear]

@[simp] theorem keep_selfFault {kp : Area → Bool} (k_regs : kp .regs = false) (k_twin : kp .twin = false) (k_host : kp .host = false) (k_out : kp .out = false) (cause : Nat) (detail : Nat) (s : State) : keep kp (selfFault cause detail s) = keep kp s := by
  unfold selfFault
  repeat' (first | (simp [k_regs, k_twin, k_host, k_out]; done) | split | dsimp only)
  all_goals first | rfl | (simp_all; done) | (simp [keep, k_regs, k_twin, k_host, k_out]; done) | grind [keep_raiseEv, keep_flueSend, keep_modTwin]

@[simp] theorem keep_recAdmit {kp : Area → Bool} (k_twin : kp .twin = false) (w0 w1 : Nat) (s : State) : keep kp (recAdmit w0 w1 s) = keep kp s := by
  unfold recAdmit
  repeat' (first | (simp [k_twin]; done) | split | dsimp only)
  all_goals first | rfl | (simp_all; done) | (simp [keep, k_twin]; done) | grind [keep_whenB, keep_modTwin]

@[simp] theorem keep_recRetire {kp : Area → Bool} (k_twin : kp .twin = false) (w0 w1 : Nat) (s : State) : keep kp (recRetire w0 w1 s) = keep kp s := by
  unfold recRetire
  repeat' (first | (simp [k_twin]; done) | split | dsimp only)
  all_goals first | rfl | (simp_all; done) | (simp [keep, k_twin]; done) | grind [keep_whenB, keep_modTwin]

@[simp] theorem keep_recGrant {kp : Area → Bool} (k_twin : kp .twin = false) (w0 w1 : Nat) (s : State) : keep kp (recGrant w0 w1 s) = keep kp s := by
  unfold recGrant
  repeat' (first | (simp [k_twin]; done) | split | dsimp only)
  all_goals first | rfl | (simp_all; done) | (simp [keep, k_twin]; done) | grind [keep_whenB, keep_modTwin]

@[simp] theorem keep_recWrite {kp : Area → Bool} (k_twin : kp .twin = false) (w0 w1 : Nat) (s : State) : keep kp (recWrite w0 w1 s) = keep kp s := by
  unfold recWrite
  repeat' (first | (simp [k_twin]; done) | split | dsimp only)
  all_goals first | rfl | (simp_all; done) | (simp [keep, k_twin]; done) | grind [keep_whenB, keep_modTwin]

end Sys2Proof.Machine
end

