-- ==== Sys2Proof/Laws/Keep/PortMap.lean ====
section
/-! SUPPORT. Which parts of the state the operations of Machine/PortMap.lean keep. -/

namespace Sys2Proof.Machine

set_option linter.all false

@[simp] theorem keep_sendLane {kp : Area → Bool} (k_out : kp .out = false) (x : LaneOut) (s : State) : keep kp (sendLane x s) = keep kp s := by
  unfold sendLane
  repeat' (first | (simp [k_out]; done) | split | dsimp only)
  all_goals first | rfl | (simp_all; done) | (simp [keep, k_out]; done) | grind [keep_modOut]

end Sys2Proof.Machine
end

