-- ==== Sys2Proof/Laws/Keep/Buffer.lean ====
section
/-! SUPPORT. Which parts of the state the operations of Machine/Buffer.lean keep. -/

namespace Sys2Proof.Machine

set_option linter.all false

@[simp] theorem keep_modSlice {kp : Area → Bool} (k_buf : kp .buf = false) (i : Nat) (f : Slice → Slice) (s : State) : keep kp (modSlice i f s) = keep kp s := by
  unfold modSlice
  repeat' (first | (simp [k_buf]; done) | split | dsimp only)
  all_goals first | rfl | (simp_all; done) | (simp [keep, k_buf]; done) | grind [keep_modBuf]

@[simp] theorem keep_setAlloc {kp : Area → Bool} (k_buf : kp .buf = false) (c : Nat) (v : Bool) (s : State) : keep kp (setAlloc c v s) = keep kp s := by
  unfold setAlloc
  repeat' (first | (simp [k_buf]; done) | split | dsimp only)
  all_goals first | rfl | (simp_all; done) | (simp [keep, k_buf]; done) | grind [keep_modBuf]

@[simp] theorem keep_takeCell {kp : Area → Bool} (k_regs : kp .regs = false) (k_buf : kp .buf = false) (k_twin : kp .twin = false) (k_host : kp .host = false) (k_out : kp .out = false)  (v0 : Nat) (v1 : Nat) (s : State) : keep kp (takeCell v0 v1 s).2 = keep kp s := by
  induction v0 generalizing v1 s with
  | zero => first | rfl | simp [takeCell, k_regs, k_buf, k_twin, k_host, k_out]
  | succ v0 ih =>
    unfold takeCell
    repeat' (first | (simp [ih, k_regs, k_buf, k_twin, k_host, k_out]; done) | split | dsimp only)
    all_goals first | rfl | (simp_all; done) | grind [keep_modSlice, keep_selfFault, keep_raiseEv, keep_regSetFld, keep_setAlloc]

@[simp] theorem keep_takeFrom {kp : Area → Bool} (k_regs : kp .regs = false) (k_buf : kp .buf = false) (k_twin : kp .twin = false) (k_host : kp .host = false) (k_out : kp .out = false)  (v0 : List Nat) (s : State) : keep kp (takeFrom v0 s).2 = keep kp s := by
  induction v0 generalizing s with
  | nil => first | rfl | simp [takeFrom, k_regs, k_buf, k_twin, k_host, k_out]
  | cons x v0 ih =>
    unfold takeFrom
    repeat' (first | (simp [ih, k_regs, k_buf, k_twin, k_host, k_out]; done) | split | dsimp only)
    all_goals first | rfl | (simp_all; done) | grind [keep_takeCell, keep_modBuf]

@[simp] theorem keep_takeCells {kp : Area → Bool} (k_regs : kp .regs = false) (k_buf : kp .buf = false) (k_twin : kp .twin = false) (k_host : kp .host = false) (k_out : kp .out = false)  (v0 : Nat) (s : State) : keep kp (takeCells v0 s).2 = keep kp s := by
  induction v0 generalizing s with
  | zero => first | rfl | simp [takeCells, k_regs, k_buf, k_twin, k_host, k_out]
  | succ v0 ih =>
    unfold takeCells
    repeat' (first | (simp [ih, k_regs, k_buf, k_twin, k_host, k_out]; done) | split | dsimp only)
    all_goals first | rfl | (simp_all; done) | grind [keep_takeFrom]

@[simp] theorem keep_sizeReserves {kp : Area → Bool} (k_buf : kp .buf = false) (s : State) : keep kp (sizeReserves s) = keep kp s := by
  unfold sizeReserves
  repeat' (first | (simp [k_buf]; done) | split | dsimp only)
  all_goals first | rfl | (simp_all; done) | (simp [keep, k_buf]; done) | grind [keep_modBuf]

@[simp] theorem keep_resizeReserves {kp : Area → Bool} (k_buf : kp .buf = false) (s : State) : keep kp (resizeReserves s) = keep kp s := by
  unfold resizeReserves
  repeat' (first | (simp [k_buf]; done) | split | dsimp only)
  all_goals first | rfl | (simp_all; done) | (simp [keep, k_buf]; done) | grind [keep_sizeReserves]

@[simp] theorem keep_retireCell {kp : Area → Bool} (k_regs : kp .regs = false) (k_buf : kp .buf = false) (k_twin : kp .twin = false) (k_host : kp .host = false) (k_boot : kp .boot = false) (k_out : kp .out = false) (c : Nat) (s : State) : keep kp (retireCell c s) = keep kp s := by
  unfold retireCell
  repeat' (first | (simp [k_regs, k_buf, k_twin, k_host, k_boot, k_out]; done) | split | dsimp only)
  all_goals first | rfl | (simp_all; done) | (simp [keep, k_regs, k_buf, k_twin, k_host, k_boot, k_out]; done) | grind [keep_modSlice, keep_setAlloc, keep_addHealth, keep_resizeReserves, keep_raiseEv, keep_selfFault]

@[simp] theorem keep_doubleFree {kp : Area → Bool} (k_regs : kp .regs = false) (k_twin : kp .twin = false) (k_host : kp .host = false) (k_out : kp .out = false) (c : Nat) (s : State) : keep kp (doubleFree c s) = keep kp s := by
  unfold doubleFree
  repeat' (first | (simp [k_regs, k_twin, k_host, k_out]; done) | split | dsimp only)
  all_goals first | rfl | (simp_all; done) | (simp [keep, k_regs, k_twin, k_host, k_out]; done) | grind [keep_selfFault, keep_raiseEv, keep_regSetFld]

@[simp] theorem keep_ashSpillOp {kp : Area → Bool} (k_buf : kp .buf = false) (i : Nat) (s : State) : keep kp (ashSpillOp i s) = keep kp s := by
  unfold ashSpillOp
  repeat' (first | (simp [k_buf]; done) | split | dsimp only)
  all_goals first | rfl | (simp_all; done) | (simp [keep, k_buf]; done) | grind [keep_modSlice]

@[simp] theorem keep_cachePut {kp : Area → Bool} (k_buf : kp .buf = false) (c : Nat) (s : State) : keep kp (cachePut c s) = keep kp s := by
  unfold cachePut
  repeat' (first | (simp [k_buf]; done) | split | dsimp only)
  all_goals first | rfl | (simp_all; done) | (simp [keep, k_buf]; done) | grind [keep_modSlice, keep_ashSpillOp]

@[simp] theorem keep_returnCell {kp : Area → Bool} (k_regs : kp .regs = false) (k_buf : kp .buf = false) (k_twin : kp .twin = false) (k_host : kp .host = false) (k_boot : kp .boot = false) (k_out : kp .out = false) (c : Nat) (eccBad : Bool) (s : State) : keep kp (returnCell c eccBad s) = keep kp s := by
  unfold returnCell
  repeat' (first | (simp [k_regs, k_buf, k_twin, k_host, k_boot, k_out]; done) | split | dsimp only)
  all_goals first | rfl | (simp_all; done) | (simp [keep, k_regs, k_buf, k_twin, k_host, k_boot, k_out]; done) | grind [keep_modBuf, keep_retireCell, keep_doubleFree, keep_cachePut, keep_setAlloc]

@[simp] theorem keep_returnCells {kp : Area → Bool} (k_regs : kp .regs = false) (k_buf : kp .buf = false) (k_twin : kp .twin = false) (k_host : kp .host = false) (k_boot : kp .boot = false) (k_out : kp .out = false) (cs : List Nat) (s : State) : keep kp (returnCells cs s) = keep kp s := by
  unfold returnCells
  repeat' (first | (simp [k_regs, k_buf, k_twin, k_host, k_boot, k_out]; done) | split | dsimp only)
  all_goals first | rfl | (simp_all; done) | (simp [keep, k_regs, k_buf, k_twin, k_host, k_boot, k_out]; done) | grind [keep_forEach, keep_returnCell]

@[simp] theorem keep_awaitRead {kp : Area → Bool} (k_buf : kp .buf = false) (cs : List Nat) (s : State) : keep kp (awaitRead cs s) = keep kp s := by
  unfold awaitRead
  repeat' (first | (simp [k_buf]; done) | split | dsimp only)
  all_goals first | rfl | (simp_all; done) | (simp [keep, k_buf]; done) | grind [keep_modBuf]

@[simp] theorem keep_ashRefillOp {kp : Area → Bool} (k_buf : kp .buf = false) (i : Nat) (s : State) : keep kp (ashRefillOp i s) = keep kp s := by
  unfold ashRefillOp
  repeat' (first | (simp [k_buf]; done) | split | dsimp only)
  all_goals first | rfl | (simp_all; done) | (simp [keep, k_buf]; done) | grind [keep_modSlice]

@[simp] theorem keep_modOwner {kp : Area → Bool} (k_buf : kp .buf = false) (o : Nat) (f : Owner → Owner) (s : State) : keep kp (modOwner o f s) = keep kp s := by
  unfold modOwner
  repeat' (first | (simp [k_buf]; done) | split | dsimp only)
  all_goals first | rfl | (simp_all; done) | (simp [keep, k_buf]; done) | grind [keep_modBuf]

@[simp] theorem keep_chargeOwner {kp : Area → Bool} (k_buf : kp .buf = false) (o m x h : Nat) (s : State) : keep kp (chargeOwner o m x h s) = keep kp s := by
  unfold chargeOwner
  repeat' (first | (simp [k_buf]; done) | split | dsimp only)
  all_goals first | rfl | (simp_all; done) | (simp [keep, k_buf]; done) | grind [keep_modOwner, keep_modBuf]

@[simp] theorem keep_refuseCharge {kp : Area → Bool} (k_regs : kp .regs = false) (k_host : kp .host = false) (o : Nat) (s : State) : keep kp (refuseCharge o s) = keep kp s := by
  unfold refuseCharge
  repeat' (first | (simp [k_regs, k_host]; done) | split | dsimp only)
  all_goals first | rfl | (simp_all; done) | (simp [keep, k_regs, k_host]; done) | grind [keep_raiseLim, keep_regCount]

@[simp] theorem keep_release {kp : Area → Bool} (k_buf : kp .buf = false) (r : Release) (s : State) : keep kp (release r s) = keep kp s := by
  unfold release
  repeat' (first | (simp [k_buf]; done) | split | dsimp only)
  all_goals first | rfl | (simp_all; done) | (simp [keep, k_buf]; done) | grind [keep_modBuf]

@[simp] theorem keep_modStored {kp : Area → Bool} (k_buf : kp .buf = false) (f : Nat) (g : Stored → Stored) (s : State) : keep kp (modStored f g s) = keep kp s := by
  unfold modStored
  repeat' (first | (simp [k_buf]; done) | split | dsimp only)
  all_goals first | rfl | (simp_all; done) | (simp [keep, k_buf]; done) | grind [keep_modBuf]

@[simp] theorem keep_putStored {kp : Area → Bool} (k_buf : kp .buf = false) (f : Nat) (x : Stored) (s : State) : keep kp (putStored f x s) = keep kp s := by
  unfold putStored
  repeat' (first | (simp [k_buf]; done) | split | dsimp only)
  all_goals first | rfl | (simp_all; done) | (simp [keep, k_buf]; done) | grind [keep_modBuf]

@[simp] theorem keep_forgetStored {kp : Area → Bool} (k_buf : kp .buf = false) (f : Nat) (s : State) : keep kp (forgetStored f s) = keep kp s := by
  unfold forgetStored
  repeat' (first | (simp [k_buf]; done) | split | dsimp only)
  all_goals first | rfl | (simp_all; done) | (simp [keep, k_buf]; done) | grind [keep_modBuf]

@[simp] theorem keep_unrefFrame {kp : Area → Bool} (k_regs : kp .regs = false) (k_buf : kp .buf = false) (k_twin : kp .twin = false) (k_host : kp .host = false) (k_boot : kp .boot = false) (k_out : kp .out = false) (f : Nat) (read needsBytes : Bool) (s : State) : keep kp (unrefFrame f read needsBytes s) = keep kp s := by
  unfold unrefFrame
  repeat' (first | (simp [k_regs, k_buf, k_twin, k_host, k_boot, k_out]; done) | split | dsimp only)
  all_goals first | rfl | (simp_all; done) | (simp [keep, k_regs, k_buf, k_twin, k_host, k_boot, k_out]; done) | grind [keep_modStored, keep_release, keep_awaitRead, keep_returnCells, keep_forgetStored]

@[simp] theorem keep_refFrame {kp : Area → Bool} (k_buf : kp .buf = false) (f : Nat) (s : State) : keep kp (refFrame f s) = keep kp s := by
  unfold refFrame
  repeat' (first | (simp [k_buf]; done) | split | dsimp only)
  all_goals first | rfl | (simp_all; done) | (simp [keep, k_buf]; done) | grind [keep_modStored]

@[simp] theorem keep_applyRelease {kp : Area → Bool} (k_regs : kp .regs = false) (k_buf : kp .buf = false) (k_twin : kp .twin = false) (k_host : kp .host = false) (k_boot : kp .boot = false) (k_out : kp .out = false) (r : Release) (s : State) : keep kp (applyRelease r s) = keep kp s := by
  unfold applyRelease
  repeat' (first | (simp [k_regs, k_buf, k_twin, k_host, k_boot, k_out]; done) | split | dsimp only)
  all_goals first | rfl | (simp_all; done) | (simp [keep, k_regs, k_buf, k_twin, k_host, k_boot, k_out]; done) | grind [keep_modOwner, keep_modBuf, keep_raiseLim, keep_unrefFrame]

@[simp] theorem keep_applyReleases {kp : Area → Bool} (k_regs : kp .regs = false) (k_buf : kp .buf = false) (k_twin : kp .twin = false) (k_host : kp .host = false) (k_boot : kp .boot = false) (k_out : kp .out = false) (s : State) : keep kp (applyReleases s) = keep kp s := by
  unfold applyReleases
  repeat' (first | (simp [k_regs, k_buf, k_twin, k_host, k_boot, k_out]; done) | split | dsimp only)
  all_goals first | rfl | (simp_all; done) | (simp [keep, k_regs, k_buf, k_twin, k_host, k_boot, k_out]; done) | grind [keep_forEach, keep_applyRelease, keep_modBuf]

@[simp] theorem keep_storeFrame {kp : Area → Bool} (k_regs : kp .regs = false) (k_buf : kp .buf = false) (k_twin : kp .twin = false) (k_host : kp .host = false) (k_boot : kp .boot = false) (k_out : kp .out = false) (f : Nat) (rx : Rx) (md : List Byte) (adm ret : Nat) (s : State) : keep kp (storeFrame f rx md adm ret s).2 = keep kp s := by
  unfold storeFrame
  repeat' (first | (simp [k_regs, k_buf, k_twin, k_host, k_boot, k_out]; done) | split | dsimp only)
  all_goals first | rfl | (simp_all; done) | (simp [keep, k_regs, k_buf, k_twin, k_host, k_boot, k_out]; done) | grind [keep_refuseCharge, keep_returnCells, keep_putStored, keep_chargeOwner]

@[simp] theorem keep_modQueue {kp : Area → Bool} (k_buf : kp .buf = false) (q : Nat) (f : Queue → Queue) (s : State) : keep kp (modQueue q f s) = keep kp s := by
  unfold modQueue
  repeat' (first | (simp [k_buf]; done) | split | dsimp only)
  all_goals first | rfl | (simp_all; done) | (simp [keep, k_buf]; done) | grind [keep_modBuf]

@[simp] theorem keep_wakePort {kp : Area → Bool} (k_ports : kp .ports = false) (k_out : kp .out = false) (p : Nat) (s : State) : keep kp (wakePort p s) = keep kp s := by
  unfold wakePort
  repeat' (first | (simp [k_ports, k_out]; done) | split | dsimp only)
  all_goals first | rfl | (simp_all; done) | (simp [keep, k_ports, k_out]; done) | grind [keep_modPort, keep_sendLane]

@[simp] theorem keep_queueFilled {kp : Area → Bool} (k_ports : kp .ports = false) (k_out : kp .out = false) (q : Nat) (s : State) : keep kp (queueFilled q s) = keep kp s := by
  unfold queueFilled
  repeat' (first | (simp [k_ports, k_out]; done) | split | dsimp only)
  all_goals first | rfl | (simp_all; done) | (simp [keep, k_ports, k_out]; done) | grind [keep_wakePort, keep_modPort]

@[simp] theorem keep_linkCopy {kp : Area → Bool} (k_ports : kp .ports = false) (k_buf : kp .buf = false) (k_out : kp .out = false) (q : Nat) (c : Copy) (s : State) : keep kp (linkCopy q c s) = keep kp s := by
  unfold linkCopy
  repeat' (first | (simp [k_ports, k_buf, k_out]; done) | split | dsimp only)
  all_goals first | rfl | (simp_all; done) | (simp [keep, k_ports, k_buf, k_out]; done) | grind [keep_queueFilled, keep_modQueue]

@[simp] theorem keep_countQueueDrop {kp : Area → Bool} (k_egr : kp .egr = false) (q reason bytes : Nat) (s : State) : keep kp (countQueueDrop q reason bytes s) = keep kp s := by
  unfold countQueueDrop
  repeat' (first | (simp [k_egr]; done) | split | dsimp only)
  all_goals first | rfl | (simp_all; done) | (simp [keep, k_egr]; done) | grind [keep_countPair, keep_countDrop]

@[simp] theorem keep_dropBanked {kp : Area → Bool} (k_buf : kp .buf = false) (f : Nat) (s : State) : keep kp (dropBanked f s) = keep kp s := by
  unfold dropBanked
  repeat' (first | (simp [k_buf]; done) | split | dsimp only)
  all_goals first | rfl | (simp_all; done) | (simp [keep, k_buf]; done) | grind [keep_forgetStored, keep_modStored]

@[simp] theorem keep_releaseCopy {kp : Area → Bool} (k_regs : kp .regs = false) (k_buf : kp .buf = false) (k_twin : kp .twin = false) (k_host : kp .host = false) (k_boot : kp .boot = false) (k_out : kp .out = false) (q : Nat) (c : Copy) (read : Bool) (s : State) : keep kp (releaseCopy q c read s) = keep kp s := by
  unfold releaseCopy
  repeat' (first | (simp [k_regs, k_buf, k_twin, k_host, k_boot, k_out]; done) | split | dsimp only)
  all_goals first | rfl | (simp_all; done) | (simp [keep, k_regs, k_buf, k_twin, k_host, k_boot, k_out]; done) | grind [keep_release, keep_awaitRead, keep_returnCells, keep_dropBanked, keep_unrefFrame]

@[simp] theorem keep_dropMirrors {kp : Area → Bool} (k_regs : kp .regs = false) (k_buf : kp .buf = false) (k_twin : kp .twin = false) (k_host : kp .host = false) (k_boot : kp .boot = false) (k_out : kp .out = false) (c : Copy) (s : State) : keep kp (dropMirrors c s) = keep kp s := by
  unfold dropMirrors
  repeat' (first | (simp [k_regs, k_buf, k_twin, k_host, k_boot, k_out]; done) | split | dsimp only)
  all_goals first | rfl | (simp_all; done) | (simp [keep, k_regs, k_buf, k_twin, k_host, k_boot, k_out]; done) | grind [keep_forEach, keep_unrefFrame, keep_modStored]

@[simp] theorem keep_dropCopy {kp : Area → Bool} (k_regs : kp .regs = false) (k_buf : kp .buf = false) (k_egr : kp .egr = false) (k_twin : kp .twin = false) (k_host : kp .host = false) (k_boot : kp .boot = false) (k_out : kp .out = false) (q : Nat) (c : Copy) (reason : Nat) (s : State) : keep kp (dropCopy q c reason s) = keep kp s := by
  unfold dropCopy
  repeat' (first | (simp [k_regs, k_buf, k_egr, k_twin, k_host, k_boot, k_out]; done) | split | dsimp only)
  all_goals first | rfl | (simp_all; done) | (simp [keep, k_regs, k_buf, k_egr, k_twin, k_host, k_boot, k_out]; done) | grind [keep_unrefFrame, keep_dropMirrors, keep_countQueueDrop]

@[simp] theorem keep_dropLinked {kp : Area → Bool} (k_regs : kp .regs = false) (k_buf : kp .buf = false) (k_egr : kp .egr = false) (k_twin : kp .twin = false) (k_host : kp .host = false) (k_boot : kp .boot = false) (k_out : kp .out = false) (q : Nat) (c : Copy) (reason : Nat) (s : State) : keep kp (dropLinked q c reason s) = keep kp s := by
  unfold dropLinked
  repeat' (first | (simp [k_regs, k_buf, k_egr, k_twin, k_host, k_boot, k_out]; done) | split | dsimp only)
  all_goals first | rfl | (simp_all; done) | (simp [keep, k_regs, k_buf, k_egr, k_twin, k_host, k_boot, k_out]; done) | grind [keep_releaseCopy, keep_dropMirrors, keep_countQueueDrop]

@[simp] theorem keep_flushMirrors {kp : Area → Bool} (k_buf : kp .buf = false) (c : Copy) (s : State) : keep kp (flushMirrors c s) = keep kp s := by
  unfold flushMirrors
  repeat' (first | (simp [k_buf]; done) | split | dsimp only)
  all_goals first | rfl | (simp_all; done) | (simp [keep, k_buf]; done) | grind [keep_forEach, keep_release, keep_modStored]

@[simp] theorem keep_flushLinked {kp : Area → Bool} (k_regs : kp .regs = false) (k_buf : kp .buf = false) (k_egr : kp .egr = false) (k_twin : kp .twin = false) (k_host : kp .host = false) (k_boot : kp .boot = false) (k_out : kp .out = false) (q : Nat) (c : Copy) (s : State) : keep kp (flushLinked q c s) = keep kp s := by
  unfold flushLinked
  repeat' (first | (simp [k_regs, k_buf, k_egr, k_twin, k_host, k_boot, k_out]; done) | split | dsimp only)
  all_goals first | rfl | (simp_all; done) | (simp [keep, k_regs, k_buf, k_egr, k_twin, k_host, k_boot, k_out]; done) | grind [keep_flushMirrors, keep_release, keep_countQueueDrop, keep_dropLinked]

@[simp] theorem keep_bankCopy {kp : Area → Bool} (k_regs : kp .regs = false) (k_ports : kp .ports = false) (k_buf : kp .buf = false) (k_twin : kp .twin = false) (k_host : kp .host = false) (k_boot : kp .boot = false) (k_out : kp .out = false) (q : Nat) (c : Copy) (s : State) : keep kp (bankCopy q c s) = keep kp s := by
  unfold bankCopy
  repeat' (first | (simp [k_regs, k_ports, k_buf, k_twin, k_host, k_boot, k_out]; done) | split | dsimp only)
  all_goals first | rfl | (simp_all; done) | (simp [keep, k_regs, k_ports, k_buf, k_twin, k_host, k_boot, k_out]; done) | grind [keep_modQueue, keep_modBuf, keep_raiseEv, keep_queueFilled, keep_unrefFrame]

@[simp] theorem keep_placeUnicast {kp : Area → Bool} (k_regs : kp .regs = false) (k_ports : kp .ports = false) (k_buf : kp .buf = false) (k_egr : kp .egr = false) (k_twin : kp .twin = false) (k_host : kp .host = false) (k_boot : kp .boot = false) (k_out : kp .out = false) (q : Nat) (c : Copy) (s : State) : keep kp (placeUnicast q c s) = keep kp s := by
  unfold placeUnicast
  repeat' (first | (simp [k_regs, k_ports, k_buf, k_egr, k_twin, k_host, k_boot, k_out]; done) | split | dsimp only)
  all_goals first | rfl | (simp_all; done) | (simp [keep, k_regs, k_ports, k_buf, k_egr, k_twin, k_host, k_boot, k_out]; done) | grind [keep_dropCopy, keep_linkCopy, keep_bankCopy, keep_raiseLim]

@[simp] theorem keep_placeOther {kp : Area → Bool} (k_regs : kp .regs = false) (k_ports : kp .ports = false) (k_buf : kp .buf = false) (k_egr : kp .egr = false) (k_twin : kp .twin = false) (k_host : kp .host = false) (k_boot : kp .boot = false) (k_out : kp .out = false) (q : Nat) (c : Copy) (reason : Nat) (s : State) : keep kp (placeOther q c reason s) = keep kp s := by
  unfold placeOther
  repeat' (first | (simp [k_regs, k_ports, k_buf, k_egr, k_twin, k_host, k_boot, k_out]; done) | split | dsimp only)
  all_goals first | rfl | (simp_all; done) | (simp [keep, k_regs, k_ports, k_buf, k_egr, k_twin, k_host, k_boot, k_out]; done) | grind [keep_dropCopy, keep_linkCopy]

@[simp] theorem keep_fetchQueue {kp : Area → Bool} (k_regs : kp .regs = false) (k_buf : kp .buf = false) (k_twin : kp .twin = false) (k_host : kp .host = false) (k_out : kp .out = false)  (v0 : Nat) (v1 : Nat) (v2 : Nat) (s : State) : keep kp (fetchQueue v0 v1 v2 s).2 = keep kp s := by
  induction v0 generalizing v1 v2 s with
  | zero => first | rfl | simp [fetchQueue, k_regs, k_buf, k_twin, k_host, k_out]
  | succ v0 ih =>
    unfold fetchQueue
    repeat' (first | (simp [ih, k_regs, k_buf, k_twin, k_host, k_out]; done) | split | dsimp only)
    all_goals first | rfl | (simp_all; done) | grind [keep_takeCells, keep_modBuf, keep_modQueue]

@[simp] theorem keep_fetchStep {kp : Area → Bool} (k_regs : kp .regs = false) (k_buf : kp .buf = false) (k_twin : kp .twin = false) (k_host : kp .host = false) (k_out : kp .out = false) (s : State) : keep kp (fetchStep s) = keep kp s := by
  unfold fetchStep
  repeat' (first | (simp [k_regs, k_buf, k_twin, k_host, k_out]; done) | split | dsimp only)
  all_goals first | rfl | (simp_all; done) | (simp [keep, k_regs, k_buf, k_twin, k_host, k_out]; done) | grind [keep_fetchQueue, keep_modBuf]

@[simp] theorem keep_fetchArrive {kp : Area → Bool} (k_ports : kp .ports = false) (k_buf : kp .buf = false) (q : Nat) (s : State) : keep kp (fetchArrive q s) = keep kp s := by
  unfold fetchArrive
  repeat' (first | (simp [k_ports, k_buf]; done) | split | dsimp only)
  all_goals first | rfl | (simp_all; done) | (simp [keep, k_ports, k_buf]; done) | grind [keep_modPort, keep_modQueue]

@[simp] theorem keep_linkMulticast {kp : Area → Bool} (k_ports : kp .ports = false) (k_buf : kp .buf = false) (k_egr : kp .egr = false) (k_out : kp .out = false) (q f cells g : Nat) (s : State) : keep kp (linkMulticast q f cells g s) = keep kp s := by
  unfold linkMulticast
  repeat' (first | (simp [k_ports, k_buf, k_egr, k_out]; done) | split | dsimp only)
  all_goals first | rfl | (simp_all; done) | (simp [keep, k_ports, k_buf, k_egr, k_out]; done) | grind [keep_countPair, keep_linkCopy, keep_modBuf]

@[simp] theorem keep_dropResidue {kp : Area → Bool} (k_regs : kp .regs = false) (k_buf : kp .buf = false) (k_egr : kp .egr = false) (k_twin : kp .twin = false) (k_host : kp .host = false) (k_boot : kp .boot = false) (k_out : kp .out = false) (r : Residue) (reason : Nat) (s : State) : keep kp (dropResidue r reason s) = keep kp s := by
  unfold dropResidue
  repeat' (first | (simp [k_regs, k_buf, k_egr, k_twin, k_host, k_boot, k_out]; done) | split | dsimp only)
  all_goals first | rfl | (simp_all; done) | (simp [keep, k_regs, k_buf, k_egr, k_twin, k_host, k_boot, k_out]; done) | grind [keep_countQueueDrop, keep_countPair, keep_unrefFrame, keep_raiseLim]

@[simp] theorem keep_residueErase {kp : Area → Bool} (k_buf : kp .buf = false) (r : Residue) (s : State) : keep kp (residueErase r s) = keep kp s := by
  unfold residueErase
  repeat' (first | (simp [k_buf]; done) | split | dsimp only)
  all_goals first | rfl | (simp_all; done) | (simp [keep, k_buf]; done) | grind [keep_modBuf]

@[simp] theorem keep_replicate {kp : Area → Bool} (k_regs : kp .regs = false) (k_ports : kp .ports = false) (k_buf : kp .buf = false) (k_egr : kp .egr = false) (k_twin : kp .twin = false) (k_host : kp .host = false) (k_boot : kp .boot = false) (k_out : kp .out = false) (f cells g q : Nat) (s : State) : keep kp (replicate f cells g q s) = keep kp s := by
  unfold replicate
  repeat' (first | (simp [k_regs, k_ports, k_buf, k_egr, k_twin, k_host, k_boot, k_out]; done) | split | dsimp only)
  all_goals first | rfl | (simp_all; done) | (simp [keep, k_regs, k_ports, k_buf, k_egr, k_twin, k_host, k_boot, k_out]; done) | grind [keep_unrefFrame, keep_countQueueDrop, keep_linkMulticast, keep_raiseLim, keep_modBuf]

@[simp] theorem keep_residueEnds {kp : Area → Bool} (k_regs : kp .regs = false) (k_buf : kp .buf = false) (k_egr : kp .egr = false) (k_twin : kp .twin = false) (k_host : kp .host = false) (k_boot : kp .boot = false) (k_out : kp .out = false) (s : State) : keep kp (residueEnds s) = keep kp s := by
  unfold residueEnds
  repeat' (first | (simp [k_regs, k_buf, k_egr, k_twin, k_host, k_boot, k_out]; done) | split | dsimp only)
  all_goals first | rfl | (simp_all; done) | (simp [keep, k_regs, k_buf, k_egr, k_twin, k_host, k_boot, k_out]; done) | grind [keep_forEach, keep_dropResidue, keep_residueErase]

@[simp] theorem keep_residueRetries {kp : Area → Bool} (k_regs : kp .regs = false) (k_ports : kp .ports = false) (k_buf : kp .buf = false) (k_egr : kp .egr = false) (k_twin : kp .twin = false) (k_host : kp .host = false) (k_boot : kp .boot = false) (k_out : kp .out = false) (s : State) : keep kp (residueRetries s) = keep kp s := by
  unfold residueRetries
  repeat' (first | (simp [k_regs, k_ports, k_buf, k_egr, k_twin, k_host, k_boot, k_out]; done) | split | dsimp only)
  all_goals first | rfl | (simp_all; done) | (simp [keep, k_regs, k_ports, k_buf, k_egr, k_twin, k_host, k_boot, k_out]; done) | grind [keep_dropResidue, keep_residueErase, keep_linkMulticast, keep_forEach]

@[simp] theorem keep_evalOwnerFc {kp : Area → Bool} (k_buf : kp .buf = false) (o : Nat) (s : State) : keep kp (evalOwnerFc o s) = keep kp s := by
  unfold evalOwnerFc
  repeat' (first | (simp [k_buf]; done) | split | dsimp only)
  all_goals first | rfl | (simp_all; done) | (simp [keep, k_buf]; done) | grind [keep_release]

@[simp] theorem keep_flowControlStep {kp : Area → Bool} (k_ports : kp .ports = false) (k_buf : kp .buf = false) (s : State) : keep kp (flowControlStep s) = keep kp s := by
  unfold flowControlStep
  repeat' (first | (simp [k_ports, k_buf]; done) | split | dsimp only)
  all_goals first | rfl | (simp_all; done) | (simp [keep, k_ports, k_buf]; done) | grind [keep_forEach, keep_modPort, keep_evalOwnerFc]

@[simp] theorem keep_flushBegin {kp : Area → Bool} (k_buf : kp .buf = false) (p : Nat) (s : State) : keep kp (flushBegin p s) = keep kp s := by
  unfold flushBegin
  repeat' (first | (simp [k_buf]; done) | split | dsimp only)
  all_goals first | rfl | (simp_all; done) | (simp [keep, k_buf]; done) | grind [keep_modBuf]

theorem keep_flushHead {kp : Area → Bool} (k_regs : kp .regs = false) (k_buf : kp .buf = false) (k_egr : kp .egr = false) (k_twin : kp .twin = false) (k_host : kp .host = false) (k_boot : kp .boot = false) (k_out : kp .out = false) (q : Nat) (s : State) {u : State} (h : flushHead q s = some u) : keep kp u = keep kp s := by
  simp only [flushHead] at h
  (repeat' split at h) <;> simp_all
  all_goals (cases h; simp [k_regs, k_buf, k_egr, k_twin, k_host, k_boot, k_out])

@[simp] theorem keep_flushPort {kp : Area → Bool} (k_regs : kp .regs = false) (k_buf : kp .buf = false) (k_egr : kp .egr = false) (k_twin : kp .twin = false) (k_host : kp .host = false) (k_boot : kp .boot = false) (k_out : kp .out = false)  (v0 : Nat) (v1 : Nat) (v2 : Nat) (v3 : List Nat) (s : State) : keep kp (flushPort v0 v1 v2 v3 s).2.2 = keep kp s := by
  induction v0 generalizing v1 v2 v3 s with
  | zero => first | rfl | simp [flushPort, k_regs, k_buf, k_egr, k_twin, k_host, k_boot, k_out]
  | succ v0 ih =>
    unfold flushPort
    repeat' (first | (simp [ih, k_regs, k_buf, k_egr, k_twin, k_host, k_boot, k_out]; done) | split | dsimp only)
    all_goals first | rfl | (simp_all; done) | grind [keep_flushHead]

@[simp] theorem keep_flushStep {kp : Area → Bool} (k_regs : kp .regs = false) (k_buf : kp .buf = false) (k_egr : kp .egr = false) (k_twin : kp .twin = false) (k_host : kp .host = false) (k_boot : kp .boot = false) (k_out : kp .out = false) (s : State) : keep kp (flushStep s) = keep kp s := by
  unfold flushStep
  repeat' (first | (simp [k_regs, k_buf, k_egr, k_twin, k_host, k_boot, k_out]; done) | split | dsimp only)
  all_goals first | rfl | (simp_all; done) | (simp [keep, k_regs, k_buf, k_egr, k_twin, k_host, k_boot, k_out]; done) | grind [keep_flushPort, keep_modBuf]

end Sys2Proof.Machine
end

