-- ==== Sys2Proof/Laws/Keep/TimeUnit.lean ====
section
/-! SUPPORT. Which parts of the state the operations of Machine/TimeUnit.lean keep. -/

namespace Sys2Proof.Machine

set_option linter.all false

@[simp] theorem keep_timeApply {kp : Area → Bool} (k_regs : kp .regs = false) (k_time : kp .time = false) (k_host : kp .host = false) (a : TimeAct) (s : State) : keep kp (timeApply a s).2 = keep kp s := by
  unfold timeApply
  repeat' (first | (simp [k_regs, k_time, k_host]; done) | split | dsimp only)
  all_goals first | rfl | (simp_all; done) | (simp [keep, k_regs, k_time, k_host]; done) | grind [keep_raiseEv, keep_modTime]

@[simp] theorem keep_timeAdvance {kp : Area → Bool} (k_time : kp .time = false) (s : State) : keep kp (timeAdvance s) = keep kp s := by
  unfold timeAdvance
  repeat' (first | (simp [k_time]; done) | split | dsimp only)
  all_goals first | rfl | (simp_all; done) | (simp [keep, k_time]; done) | grind [keep_modTime]

@[simp] theorem keep_tsOutcome {kp : Area → Bool} (k_host : kp .host = false) (desc tsid seq t : Nat) (valid : Bool) (s : State) : keep kp (tsOutcome desc tsid seq t valid s) = keep kp s := by
  unfold tsOutcome
  repeat' (first | (simp [k_host]; done) | split | dsimp only)
  all_goals first | rfl | (simp_all; done) | (simp [keep, k_host]; done) | grind [keep_modHost]

@[simp] theorem keep_tsTake {kp : Area → Bool} (k_time : kp .time = false) (tsid : Nat) (s : State) : keep kp (tsTake tsid s) = keep kp s := by
  unfold tsTake
  repeat' (first | (simp [k_time]; done) | split | dsimp only)
  all_goals first | rfl | (simp_all; done) | (simp [keep, k_time]; done) | grind [keep_modTime]

@[simp] theorem keep_tsAppend {kp : Area → Bool} (k_regs : kp .regs = false) (k_time : kp .time = false) (k_host : kp .host = false) (p : TsPending) (w1 t frac : Nat) (s : State) : keep kp (tsAppend p w1 t frac s) = keep kp s := by
  unfold tsAppend
  repeat' (first | (simp [k_regs, k_time, k_host]; done) | split | dsimp only)
  all_goals first | rfl | (simp_all; done) | (simp [keep, k_regs, k_time, k_host]; done) | grind [keep_tsTake, keep_modTime, keep_tsOutcome, keep_vectorPend, keep_raiseLim, keep_regCount]

@[simp] theorem keep_tsDepart {kp : Area → Bool} (k_regs : kp .regs = false) (k_ports : kp .ports = false) (k_buf : kp .buf = false) (k_egr : kp .egr = false) (k_twin : kp .twin = false) (k_time : kp .time = false) (k_host : kp .host = false) (k_boot : kp .boot = false) (k_out : kp .out = false) (p : TsPending) (plain : Bool) (dep time : Nat) (s : State) : keep kp (tsDepart p plain dep time s) = keep kp s := by
  unfold tsDepart
  repeat' (first | (simp [k_regs, k_ports, k_buf, k_egr, k_twin, k_time, k_host, k_boot, k_out]; done) | split | dsimp only)
  all_goals first | rfl | (simp_all; done) | (simp [keep, k_regs, k_ports, k_buf, k_egr, k_twin, k_time, k_host, k_boot, k_out]; done) | grind [keep_flueSend, keep_replicate, keep_tsAppend]

@[simp] theorem keep_tsMiss {kp : Area → Bool} (k_regs : kp .regs = false) (k_host : kp .host = false) (tsid port : Nat) (s : State) : keep kp (tsMiss tsid port s) = keep kp s := by
  unfold tsMiss
  repeat' (first | (simp [k_regs, k_host]; done) | split | dsimp only)
  all_goals first | rfl | (simp_all; done) | (simp [keep, k_regs, k_host]; done) | grind [keep_raiseLim, keep_regCount]

@[simp] theorem keep_tsTimeout {kp : Area → Bool} (k_regs : kp .regs = false) (k_time : kp .time = false) (k_host : kp .host = false) (tsid : Nat) (s : State) : keep kp (tsTimeout tsid s) = keep kp s := by
  unfold tsTimeout
  repeat' (first | (simp [k_regs, k_time, k_host]; done) | split | dsimp only)
  all_goals first | rfl | (simp_all; done) | (simp [keep, k_regs, k_time, k_host]; done) | grind [keep_tsOutcome, keep_tsMiss, keep_tsTake, keep_modTime]

@[simp] theorem keep_tsReport {kp : Area → Bool} (k_regs : kp .regs = false) (k_ports : kp .ports = false) (k_buf : kp .buf = false) (k_egr : kp .egr = false) (k_twin : kp .twin = false) (k_time : kp .time = false) (k_host : kp .host = false) (k_boot : kp .boot = false) (k_out : kp .out = false) (tsid low sub : Nat) (s : State) : keep kp (tsReport tsid low sub s) = keep kp s := by
  unfold tsReport
  repeat' (first | (simp [k_regs, k_ports, k_buf, k_egr, k_twin, k_time, k_host, k_boot, k_out]; done) | split | dsimp only)
  all_goals first | rfl | (simp_all; done) | (simp [keep, k_regs, k_ports, k_buf, k_egr, k_twin, k_time, k_host, k_boot, k_out]; done) | grind [keep_regCount, keep_tsDepart]

@[simp] theorem keep_tsGrant {kp : Area → Bool} (k_time : kp .time = false) (port qp desc : Nat) (s : State) : keep kp (tsGrant port qp desc s).2 = keep kp s := by
  unfold tsGrant
  repeat' (first | (simp [k_time]; done) | split | dsimp only)
  all_goals first | rfl | (simp_all; done) | (simp [keep, k_time]; done) | grind [keep_modTime]

@[simp] theorem keep_triggerFire {kp : Area → Bool} (k_regs : kp .regs = false) (k_time : kp .time = false) (k_host : kp .host = false) (k j : Nat) (s : State) : keep kp (triggerFire k j s) = keep kp s := by
  unfold triggerFire
  repeat' (first | (simp [k_regs, k_time, k_host]; done) | split | dsimp only)
  all_goals first | rfl | (simp_all; done) | (simp [keep, k_regs, k_time, k_host]; done) | grind [keep_regSet, keep_modTime, keep_whenB, keep_raiseEv]

@[simp] theorem keep_pulseEnd {kp : Area → Bool} (k_time : kp .time = false) (k j : Nat) (s : State) : keep kp (pulseEnd k j s) = keep kp s := by
  unfold pulseEnd
  repeat' (first | (simp [k_time]; done) | split | dsimp only)
  all_goals first | rfl | (simp_all; done) | (simp [keep, k_time]; done) | grind [keep_modTime]

@[simp] theorem keep_ppsCapture {kp : Area → Bool} (k_regs : kp .regs = false) (k_time : kp .time = false) (k_host : kp .host = false) (j : Nat) (s : State) : keep kp (ppsCapture j s) = keep kp s := by
  unfold ppsCapture
  repeat' (first | (simp [k_regs, k_time, k_host]; done) | split | dsimp only)
  all_goals first | rfl | (simp_all; done) | (simp [keep, k_regs, k_time, k_host]; done) | grind [keep_raiseEv, keep_modTime]

@[simp] theorem keep_ppsRise {kp : Area → Bool} (k_time : kp .time = false) (j : Nat) (s : State) : keep kp (ppsRise j s) = keep kp s := by
  unfold ppsRise
  repeat' (first | (simp [k_time]; done) | split | dsimp only)
  all_goals first | rfl | (simp_all; done) | (simp [keep, k_time]; done) | grind [keep_modTime]

@[simp] theorem keep_ppsFallOp {kp : Area → Bool} (k_time : kp .time = false) (j : Nat) (s : State) : keep kp (ppsFallOp j s) = keep kp s := by
  unfold ppsFallOp
  repeat' (first | (simp [k_time]; done) | split | dsimp only)
  all_goals first | rfl | (simp_all; done) | (simp [keep, k_time]; done) | grind [keep_modTime]

@[simp] theorem keep_timeReceive {kp : Area → Bool} (k_clk : kp .clk = false) (k_regs : kp .regs = false) (k_time : kp .time = false) (k_host : kp .host = false) (b : List Byte) (s : State) : keep kp (timeReceive b s) = keep kp s := by
  unfold timeReceive
  repeat' (first | (simp [k_clk, k_regs, k_time, k_host]; done) | split | dsimp only)
  all_goals first | rfl | (simp_all; done) | (simp [keep, k_clk, k_regs, k_time, k_host]; done) | grind [keep_useFree, keep_modTime, keep_raiseEv, keep_regCount, keep_tsAppend]

@[simp] theorem keep_adoptDue {kp : Area → Bool} (k_time : kp .time = false) (s : State) : keep kp (adoptDue s) = keep kp s := by
  unfold adoptDue
  repeat' (first | (simp [k_time]; done) | split | dsimp only)
  all_goals first | rfl | (simp_all; done) | (simp [keep, k_time]; done) | grind [keep_forEach, keep_modTime]

@[simp] theorem keep_timeSend {kp : Area → Bool} (k_out : kp .out = false) (s : State) : keep kp (timeSend s) = keep kp s := by
  unfold timeSend
  repeat' (first | (simp [k_out]; done) | split | dsimp only)
  all_goals first | rfl | (simp_all; done) | (simp [keep, k_out]; done) | grind [keep_flueSend]

end Sys2Proof.Machine
end

