-- ==== Sys2Proof/Laws/Keep/Port.lean ====
section
/-! SUPPORT. Which parts of the state the operations of Machine/Port.lean keep. -/

namespace Sys2Proof.Machine

set_option linter.all false

@[simp] theorem keep_linkJudge {kp : Area → Bool} (k_ports : kp .ports = false) (k_out : kp .out = false) (p : Nat) (s : State) : keep kp (linkJudge p s) = keep kp s := by
  unfold linkJudge
  repeat' (first | (simp [k_ports, k_out]; done) | split | dsimp only)
  all_goals first | rfl | (simp_all; done) | (simp [keep, k_ports, k_out]; done) | grind [keep_modPort, keep_flueSend]

@[simp] theorem keep_linkJudgeLane {kp : Area → Bool} (k_ports : kp .ports = false) (k_out : kp .out = false) (l : Nat) (s : State) : keep kp (linkJudgeLane l s) = keep kp s := by
  unfold linkJudgeLane
  repeat' (first | (simp [k_ports, k_out]; done) | split | dsimp only)
  all_goals first | rfl | (simp_all; done) | (simp [keep, k_ports, k_out]; done) | grind [keep_forEach, keep_linkJudge]

@[simp] theorem keep_portDown {kp : Area → Bool} (k_ports : kp .ports = false) (k_tbl : kp .tbl = false) (p : Nat) (s : State) : keep kp (portDown p s) = keep kp s := by
  unfold portDown
  repeat' (first | (simp [k_ports, k_tbl]; done) | split | dsimp only)
  all_goals first | rfl | (simp_all; done) | (simp [keep, k_ports, k_tbl]; done) | grind [keep_modPort, keep_modTbl]

@[simp] theorem keep_portUp {kp : Area → Bool} (k_ports : kp .ports = false) (k_tbl : kp .tbl = false) (p : Nat) (s : State) : keep kp (portUp p s) = keep kp s := by
  unfold portUp
  repeat' (first | (simp [k_ports, k_tbl]; done) | split | dsimp only)
  all_goals first | rfl | (simp_all; done) | (simp [keep, k_ports, k_tbl]; done) | grind [keep_modTbl, keep_modPort]

@[simp] theorem keep_flap {kp : Area → Bool} (k_regs : kp .regs = false) (k_ports : kp .ports = false) (k_host : kp .host = false) (p : Nat) (s : State) : keep kp (flap p s) = keep kp s := by
  unfold flap
  repeat' (first | (simp [k_regs, k_ports, k_host]; done) | split | dsimp only)
  all_goals first | rfl | (simp_all; done) | (simp [keep, k_regs, k_ports, k_host]; done) | grind [keep_modPort, keep_raiseEv]

@[simp] theorem keep_linkSettle {kp : Area → Bool} (k_regs : kp .regs = false) (k_ports : kp .ports = false) (k_tbl : kp .tbl = false) (k_host : kp .host = false) (p : Nat) (was : Bool) (s : State) : keep kp (linkSettle p was s) = keep kp s := by
  unfold linkSettle
  repeat' (first | (simp [k_regs, k_ports, k_tbl, k_host]; done) | split | dsimp only)
  all_goals first | rfl | (simp_all; done) | (simp [keep, k_regs, k_ports, k_tbl, k_host]; done) | grind [keep_raiseEv, keep_flap, keep_portUp, keep_portDown]

@[simp] theorem keep_linkTransitions {kp : Area → Bool} (k_regs : kp .regs = false) (k_ports : kp .ports = false) (k_tbl : kp .tbl = false) (k_host : kp .host = false) (p : Nat) (es : List (Nat × Bool × Bool)) (s : State) : keep kp (linkTransitions p es s) = keep kp s := by
  unfold linkTransitions
  repeat' (first | (simp [k_regs, k_ports, k_tbl, k_host]; done) | split | dsimp only)
  all_goals first | rfl | (simp_all; done) | (simp [keep, k_regs, k_ports, k_tbl, k_host]; done) | grind [keep_linkSettle, keep_forEach, keep_modPort]

@[simp] theorem keep_linkEffects {kp : Area → Bool} (k_regs : kp .regs = false) (k_ports : kp .ports = false) (k_tbl : kp .tbl = false) (k_host : kp .host = false) (p : Nat) (s : State) : keep kp (linkEffects p s) = keep kp s := by
  unfold linkEffects
  repeat' (first | (simp [k_regs, k_ports, k_tbl, k_host]; done) | split | dsimp only)
  all_goals first | rfl | (simp_all; done) | (simp [keep, k_regs, k_ports, k_tbl, k_host]; done) | grind [keep_modPort, keep_forEach, keep_linkTransitions, keep_linkSettle]

@[simp] theorem keep_holdExpiry {kp : Area → Bool} (k_regs : kp .regs = false) (k_ports : kp .ports = false) (k_buf : kp .buf = false) (k_host : kp .host = false) (p : Nat) (s : State) : keep kp (holdExpiry p s) = keep kp s := by
  unfold holdExpiry
  repeat' (first | (simp [k_regs, k_ports, k_buf, k_host]; done) | split | dsimp only)
  all_goals first | rfl | (simp_all; done) | (simp [keep, k_regs, k_ports, k_buf, k_host]; done) | grind [keep_raiseEv, keep_flushBegin, keep_modPort]

@[simp] theorem keep_endSuppression {kp : Area → Bool} (k_regs : kp .regs = false) (k_ports : kp .ports = false) (k_host : kp .host = false) (p : Nat) (s : State) : keep kp (endSuppression p s) = keep kp s := by
  unfold endSuppression
  repeat' (first | (simp [k_regs, k_ports, k_host]; done) | split | dsimp only)
  all_goals first | rfl | (simp_all; done) | (simp [keep, k_regs, k_ports, k_host]; done) | grind [keep_raiseEv, keep_modPort]

@[simp] theorem keep_flapQuiet {kp : Area → Bool} (k_regs : kp .regs = false) (k_ports : kp .ports = false) (k_host : kp .host = false) (p : Nat) (s : State) : keep kp (flapQuiet p s) = keep kp s := by
  unfold flapQuiet
  repeat' (first | (simp [k_regs, k_ports, k_host]; done) | split | dsimp only)
  all_goals first | rfl | (simp_all; done) | (simp [keep, k_regs, k_ports, k_host]; done) | grind [keep_endSuppression]

@[simp] theorem keep_flapClear {kp : Area → Bool} (k_regs : kp .regs = false) (k_ports : kp .ports = false) (k_host : kp .host = false) (p : Nat) (s : State) : keep kp (flapClear p s) = keep kp s := by
  unfold flapClear
  repeat' (first | (simp [k_regs, k_ports, k_host]; done) | split | dsimp only)
  all_goals first | rfl | (simp_all; done) | (simp [keep, k_regs, k_ports, k_host]; done) | grind [keep_modPort, keep_endSuppression]

@[simp] theorem keep_applyPause {kp : Area → Bool} (k_ports : kp .ports = false) (p k q : Nat) (s : State) : keep kp (applyPause p k q s) = keep kp s := by
  unfold applyPause
  repeat' (first | (simp [k_ports]; done) | split | dsimp only)
  all_goals first | rfl | (simp_all; done) | (simp [keep, k_ports]; done) | grind [keep_modPort]

@[simp] theorem keep_notePause {kp : Area → Bool} (k_ports : kp .ports = false) (p k q : Nat) (s : State) : keep kp (notePause p k q s) = keep kp s := by
  unfold notePause
  repeat' (first | (simp [k_ports]; done) | split | dsimp only)
  all_goals first | rfl | (simp_all; done) | (simp [keep, k_ports]; done) | grind [keep_modPort]

@[simp] theorem keep_consumeControl {kp : Area → Bool} (k_ports : kp .ports = false) (k_egr : kp .egr = false) (p : Nat) (bs : List Byte) (s : State) : keep kp (consumeControl p bs s) = keep kp s := by
  unfold consumeControl
  repeat' (first | (simp [k_ports, k_egr]; done) | split | dsimp only)
  all_goals first | rfl | (simp_all; done) | (simp [keep, k_ports, k_egr]; done) | grind [keep_statAdd, keep_notePause, keep_applyPause, keep_forEach]

@[simp] theorem keep_pauseExpiry {kp : Area → Bool} (k_ports : kp .ports = false) (p : Nat) (s : State) : keep kp (pauseExpiry p s) = keep kp s := by
  unfold pauseExpiry
  repeat' (first | (simp [k_ports]; done) | split | dsimp only)
  all_goals first | rfl | (simp_all; done) | (simp [keep, k_ports]; done) | grind [keep_modPort]

@[simp] theorem keep_pauseWatch {kp : Area → Bool} (k_regs : kp .regs = false) (k_ports : kp .ports = false) (k_host : kp .host = false) (p : Nat) (s : State) : keep kp (pauseWatch p s) = keep kp s := by
  unfold pauseWatch
  repeat' (first | (simp [k_regs, k_ports, k_host]; done) | split | dsimp only)
  all_goals first | rfl | (simp_all; done) | (simp [keep, k_regs, k_ports, k_host]; done) | grind [keep_forEach, keep_raiseEv, keep_modPort]

@[simp] theorem keep_endStorm {kp : Area → Bool} (k_regs : kp .regs = false) (k_ports : kp .ports = false) (k_host : kp .host = false) (p k : Nat) (s : State) : keep kp (endStorm p k s) = keep kp s := by
  unfold endStorm
  repeat' (first | (simp [k_regs, k_ports, k_host]; done) | split | dsimp only)
  all_goals first | rfl | (simp_all; done) | (simp [keep, k_regs, k_ports, k_host]; done) | grind [keep_raiseEv, keep_modPort]

@[simp] theorem keep_stormQuiet {kp : Area → Bool} (k_regs : kp .regs = false) (k_ports : kp .ports = false) (k_host : kp .host = false) (p : Nat) (s : State) : keep kp (stormQuiet p s) = keep kp s := by
  unfold stormQuiet
  repeat' (first | (simp [k_regs, k_ports, k_host]; done) | split | dsimp only)
  all_goals first | rfl | (simp_all; done) | (simp [keep, k_regs, k_ports, k_host]; done) | grind [keep_forEach, keep_endStorm]

@[simp] theorem keep_stormClear {kp : Area → Bool} (k_regs : kp .regs = false) (k_ports : kp .ports = false) (k_host : kp .host = false) (p : Nat) (s : State) : keep kp (stormClear p s) = keep kp s := by
  unfold stormClear
  repeat' (first | (simp [k_regs, k_ports, k_host]; done) | split | dsimp only)
  all_goals first | rfl | (simp_all; done) | (simp [keep, k_regs, k_ports, k_host]; done) | grind [keep_forEach, keep_endStorm]

@[simp] theorem keep_takeEseq {kp : Area → Bool} (k_lanes : kp .lanes = false) (l c : Nat) (s : State) : keep kp (takeEseq l c s).2 = keep kp s := by
  unfold takeEseq
  repeat' (first | (simp [k_lanes]; done) | split | dsimp only)
  all_goals first | rfl | (simp_all; done) | (simp [keep, k_lanes]; done) | grind [keep_modLane]

@[simp] theorem keep_putOnWire {kp : Area → Bool} (k_egr : kp .egr = false) (k_out : kp .out = false) (p : Nat) (f : TxFrame) (inverted : Bool) (s : State) : keep kp (putOnWire p f inverted s) = keep kp s := by
  unfold putOnWire
  repeat' (first | (simp [k_egr, k_out]; done) | split | dsimp only)
  all_goals first | rfl | (simp_all; done) | (simp [keep, k_egr, k_out]; done) | grind [keep_movedBytes, keep_sendLane]

@[simp] theorem keep_txStart {kp : Area → Bool} (k_regs : kp .regs = false) (k_ports : kp .ports = false) (k_buf : kp .buf = false) (k_egr : kp .egr = false) (k_twin : kp .twin = false) (k_time : kp .time = false) (k_host : kp .host = false) (k_boot : kp .boot = false) (k_out : kp .out = false) (p j : Nat) (s : State) : keep kp (txStart p j s) = keep kp s := by
  unfold txStart
  repeat' (first | (simp [k_regs, k_ports, k_buf, k_egr, k_twin, k_time, k_host, k_boot, k_out]; done) | split | dsimp only)
  all_goals first | rfl | (simp_all; done) | (simp [keep, k_regs, k_ports, k_buf, k_egr, k_twin, k_time, k_host, k_boot, k_out]; done) | grind [keep_modPort, keep_tsDepart]

@[simp] theorem keep_txDrop {kp : Area → Bool} (k_ports : kp .ports = false) (p : Nat) (s : State) : keep kp (txDrop p s) = keep kp s := by
  unfold txDrop
  repeat' (first | (simp [k_ports]; done) | split | dsimp only)
  all_goals first | rfl | (simp_all; done) | (simp [keep, k_ports]; done) | grind [keep_modPort]

@[simp] theorem keep_ctRaise {kp : Area → Bool} (k_regs : kp .regs = false) (k_ports : kp .ports = false) (k_host : kp .host = false) (p : Nat) (s : State) : keep kp (ctRaise p s) = keep kp s := by
  unfold ctRaise
  repeat' (first | (simp [k_regs, k_ports, k_host]; done) | split | dsimp only)
  all_goals first | rfl | (simp_all; done) | (simp [keep, k_regs, k_ports, k_host]; done) | grind [keep_modPort, keep_raiseEv]

@[simp] theorem keep_linkLossAbort {kp : Area → Bool} (k_ports : kp .ports = false) (k_egr : kp .egr = false) (k_out : kp .out = false) (p : Nat) (s : State) : keep kp (linkLossAbort p s) = keep kp s := by
  unfold linkLossAbort
  repeat' (first | (simp [k_ports, k_egr, k_out]; done) | split | dsimp only)
  all_goals first | rfl | (simp_all; done) | (simp [keep, k_ports, k_egr, k_out]; done) | grind [keep_countDrop, keep_statAdd, keep_putOnWire, keep_txDrop]

@[simp] theorem keep_underrun {kp : Area → Bool} (k_regs : kp .regs = false) (k_ports : kp .ports = false) (k_egr : kp .egr = false) (k_host : kp .host = false) (k_out : kp .out = false) (p : Nat) (lost : Bool) (s : State) : keep kp (underrun p lost s) = keep kp s := by
  unfold underrun
  repeat' (first | (simp [k_regs, k_ports, k_egr, k_host, k_out]; done) | split | dsimp only)
  all_goals first | rfl | (simp_all; done) | (simp [keep, k_regs, k_ports, k_egr, k_host, k_out]; done) | grind [keep_linkLossAbort, keep_raiseLim, keep_countDrop, keep_statAdd, keep_putOnWire, keep_txDrop, keep_flueSend, keep_modPort, keep_ctRaise]

@[simp] theorem keep_ctRaisesDue {kp : Area → Bool} (k_regs : kp .regs = false) (k_ports : kp .ports = false) (k_host : kp .host = false) (p : Nat) (s : State) : keep kp (ctRaisesDue p s) = keep kp s := by
  unfold ctRaisesDue
  repeat' (first | (simp [k_regs, k_ports, k_host]; done) | split | dsimp only)
  all_goals first | rfl | (simp_all; done) | (simp [keep, k_regs, k_ports, k_host]; done) | grind [keep_forEach, keep_ctRaise, keep_modPort]

@[simp] theorem keep_ctDecay {kp : Area → Bool} (k_ports : kp .ports = false) (p : Nat) (s : State) : keep kp (ctDecay p s) = keep kp s := by
  unfold ctDecay
  repeat' (first | (simp [k_ports]; done) | split | dsimp only)
  all_goals first | rfl | (simp_all; done) | (simp [keep, k_ports]; done) | grind [keep_modPort]

@[simp] theorem keep_countSent {kp : Area → Bool} (k_egr : kp .egr = false) (p : Nat) (bs : List Byte) (s : State) : keep kp (countSent p bs s) = keep kp s := by
  unfold countSent
  repeat' (first | (simp [k_egr]; done) | split | dsimp only)
  all_goals first | rfl | (simp_all; done) | (simp [keep, k_egr]; done) | grind [keep_statAdd]

@[simp] theorem keep_countDecay {kp : Area → Bool} (k_ports : kp .ports = false) (p : Nat) (s : State) : keep kp (countDecay p s) = keep kp s := by
  unfold countDecay
  repeat' (first | (simp [k_ports]; done) | split | dsimp only)
  all_goals first | rfl | (simp_all; done) | (simp [keep, k_ports]; done) | grind [keep_modPort]

@[simp] theorem keep_txEnd {kp : Area → Bool} (k_ports : kp .ports = false) (k_egr : kp .egr = false) (k_out : kp .out = false) (p : Nat) (s : State) : keep kp (txEnd p s) = keep kp s := by
  unfold txEnd
  repeat' (first | (simp [k_ports, k_egr, k_out]; done) | split | dsimp only)
  all_goals first | rfl | (simp_all; done) | (simp [keep, k_ports, k_egr, k_out]; done) | grind [keep_countSent, keep_putOnWire, keep_txDrop, keep_countDecay]

@[simp] theorem keep_stageStep {kp : Area → Bool} (k_ports : kp .ports = false) (s : State) : keep kp (stageStep s) = keep kp s := by
  unfold stageStep
  repeat' (first | (simp [k_ports]; done) | split | dsimp only)
  all_goals first | rfl | (simp_all; done) | (simp [keep, k_ports]; done) | grind [keep_modPort]

@[simp] theorem keep_sendPause {kp : Area → Bool} (k_lanes : kp .lanes = false) (k_ports : kp .ports = false) (k_egr : kp .egr = false) (k_out : kp .out = false) (p : Nat) (s : State) : keep kp (sendPause p s) = keep kp s := by
  unfold sendPause
  repeat' (first | (simp [k_lanes, k_ports, k_egr, k_out]; done) | split | dsimp only)
  all_goals first | rfl | (simp_all; done) | (simp [keep, k_lanes, k_ports, k_egr, k_out]; done) | grind [keep_modPort, keep_movedBytes, keep_countSent, keep_statAdd, keep_takeEseq, keep_sendLane]

@[simp] theorem keep_pauseSend {kp : Area → Bool} (k_lanes : kp .lanes = false) (k_ports : kp .ports = false) (k_egr : kp .egr = false) (k_out : kp .out = false) (p : Nat) (s : State) : keep kp (pauseSend p s) = keep kp s := by
  unfold pauseSend
  repeat' (first | (simp [k_lanes, k_ports, k_egr, k_out]; done) | split | dsimp only)
  all_goals first | rfl | (simp_all; done) | (simp [keep, k_lanes, k_ports, k_egr, k_out]; done) | grind [keep_sendPause]

@[simp] theorem keep_pauseAgain {kp : Area → Bool} (k_lanes : kp .lanes = false) (k_ports : kp .ports = false) (k_egr : kp .egr = false) (k_out : kp .out = false) (p : Nat) (s : State) : keep kp (pauseAgain p s) = keep kp s := by
  unfold pauseAgain
  repeat' (first | (simp [k_lanes, k_ports, k_egr, k_out]; done) | split | dsimp only)
  all_goals first | rfl | (simp_all; done) | (simp [keep, k_lanes, k_ports, k_egr, k_out]; done) | grind [keep_sendPause]

@[simp] theorem keep_noteEmpty {kp : Area → Bool} (k_ports : kp .ports = false) (p : Nat) (s : State) : keep kp (noteEmpty p s) = keep kp s := by
  unfold noteEmpty
  repeat' (first | (simp [k_ports]; done) | split | dsimp only)
  all_goals first | rfl | (simp_all; done) | (simp [keep, k_ports]; done) | grind [keep_modPort]

@[simp] theorem keep_lpiEnter {kp : Area → Bool} (k_ports : kp .ports = false) (k_out : kp .out = false) (p : Nat) (s : State) : keep kp (lpiEnter p s) = keep kp s := by
  unfold lpiEnter
  repeat' (first | (simp [k_ports, k_out]; done) | split | dsimp only)
  all_goals first | rfl | (simp_all; done) | (simp [keep, k_ports, k_out]; done) | grind [keep_modPort, keep_sendLane]

@[simp] theorem keep_countLpi {kp : Area → Bool} (k_egr : kp .egr = false) (p : Nat) (s : State) : keep kp (countLpi p s) = keep kp s := by
  unfold countLpi
  repeat' (first | (simp [k_egr]; done) | split | dsimp only)
  all_goals first | rfl | (simp_all; done) | (simp [keep, k_egr]; done) | grind [keep_statAdd, keep_modEgr]

end Sys2Proof.Machine
end

