-- ==== Sys2Proof/Laws/Keep/Lane.lean ====
section
/-! SUPPORT. Which parts of the state the operations of Machine/Lane.lean keep. -/

namespace Sys2Proof.Machine

set_option linter.all false

@[simp] theorem keep_wireCount {kp : Area → Bool} (k_regs : kp .regs = false) (k_host : kp .host = false) (l : Nat) (s : State) : keep kp (wireCount l s) = keep kp s := by
  unfold wireCount
  repeat' (first | (simp [k_regs, k_host]; done) | split | dsimp only)
  all_goals first | rfl | (simp_all; done) | (simp [keep, k_regs, k_host]; done) | grind [keep_raiseLim, keep_regCount]

@[simp] theorem keep_addUnclean {kp : Area → Bool} (k_lanes : kp .lanes = false) (l a b : Nat) (s : State) : keep kp (addUnclean l a b s) = keep kp s := by
  unfold addUnclean
  repeat' (first | (simp [k_lanes]; done) | split | dsimp only)
  all_goals first | rfl | (simp_all; done) | (simp [keep, k_lanes]; done) | grind [keep_modLane]

@[simp] theorem keep_wireErr {kp : Area → Bool} (k_regs : kp .regs = false) (k_lanes : kp .lanes = false) (k_host : kp .host = false) (l : Nat) (s : State) : keep kp (wireErr l s) = keep kp s := by
  unfold wireErr
  repeat' (first | (simp [k_regs, k_lanes, k_host]; done) | split | dsimp only)
  all_goals first | rfl | (simp_all; done) | (simp [keep, k_regs, k_lanes, k_host]; done) | grind [keep_wireCount, keep_modLane]

@[simp] theorem keep_wireErrAt {kp : Area → Bool} (k_regs : kp .regs = false) (k_lanes : kp .lanes = false) (k_host : kp .host = false) (l a b : Nat) (s : State) : keep kp (wireErrAt l a b s) = keep kp s := by
  unfold wireErrAt
  repeat' (first | (simp [k_regs, k_lanes, k_host]; done) | split | dsimp only)
  all_goals first | rfl | (simp_all; done) | (simp [keep, k_regs, k_lanes, k_host]; done) | grind [keep_wireCount, keep_addUnclean]

@[simp] theorem keep_goodStamp {kp : Area → Bool} (k_lanes : kp .lanes = false) (l g : Nat) (s : State) : keep kp (goodStamp l g s) = keep kp s := by
  unfold goodStamp
  repeat' (first | (simp [k_lanes]; done) | split | dsimp only)
  all_goals first | rfl | (simp_all; done) | (simp [keep, k_lanes]; done) | grind [keep_modLane]

@[simp] theorem keep_takeStamp {kp : Area → Bool} (k_regs : kp .regs = false) (k_lanes : kp .lanes = false) (k_host : kp .host = false) (l g : Nat) (s : State) : keep kp (takeStamp l g s) = keep kp s := by
  unfold takeStamp
  repeat' (first | (simp [k_regs, k_lanes, k_host]; done) | split | dsimp only)
  all_goals first | rfl | (simp_all; done) | (simp [keep, k_regs, k_lanes, k_host]; done) | grind [keep_raiseEv, keep_addUnclean, keep_goodStamp]

@[simp] theorem keep_laneEnter {kp : Area → Bool} (k_regs : kp .regs = false) (k_lanes : kp .lanes = false) (k_ports : kp .ports = false) (k_host : kp .host = false) (k_out : kp .out = false) (l : Nat) (st : LaneState) (s : State) : keep kp (laneEnter l st s) = keep kp s := by
  unfold laneEnter
  repeat' (first | (simp [k_regs, k_lanes, k_ports, k_host, k_out]; done) | split | dsimp only)
  all_goals first | rfl | (simp_all; done) | (simp [keep, k_regs, k_lanes, k_ports, k_host, k_out]; done) | grind [keep_modLane, keep_raiseEv, keep_linkJudgeLane]

@[simp] theorem keep_plainUp {kp : Area → Bool} (k_regs : kp .regs = false) (k_lanes : kp .lanes = false) (k_ports : kp .ports = false) (k_host : kp .host = false) (k_out : kp .out = false) (l : Nat) (s : State) : keep kp (plainUp l s) = keep kp s := by
  unfold plainUp
  repeat' (first | (simp [k_regs, k_lanes, k_ports, k_host, k_out]; done) | split | dsimp only)
  all_goals first | rfl | (simp_all; done) | (simp [keep, k_regs, k_lanes, k_ports, k_host, k_out]; done) | grind [keep_linkJudgeLane, keep_raiseEv, keep_modLane]

@[simp] theorem keep_plainDown {kp : Area → Bool} (k_regs : kp .regs = false) (k_lanes : kp .lanes = false) (k_ports : kp .ports = false) (k_egr : kp .egr = false) (k_host : kp .host = false) (k_out : kp .out = false) (l : Nat) (s : State) : keep kp (plainDown l s) = keep kp s := by
  unfold plainDown
  repeat' (first | (simp [k_regs, k_lanes, k_ports, k_egr, k_host, k_out]; done) | split | dsimp only)
  all_goals first | rfl | (simp_all; done) | (simp [keep, k_regs, k_lanes, k_ports, k_egr, k_host, k_out]; done) | grind [keep_modLane, keep_linkLossAbort, keep_modPort, keep_linkJudgeLane, keep_raiseEv]

@[simp] theorem keep_blockLocked {kp : Area → Bool} (k_regs : kp .regs = false) (k_lanes : kp .lanes = false) (k_ports : kp .ports = false) (k_host : kp .host = false) (k_out : kp .out = false) (l : Nat) (s : State) : keep kp (blockLocked l s) = keep kp s := by
  unfold blockLocked
  repeat' (first | (simp [k_regs, k_lanes, k_ports, k_host, k_out]; done) | split | dsimp only)
  all_goals first | rfl | (simp_all; done) | (simp [keep, k_regs, k_lanes, k_ports, k_host, k_out]; done) | grind [keep_plainUp, keep_modLane, keep_laneEnter]

@[simp] theorem keep_laneRefuse {kp : Area → Bool} (k_regs : kp .regs = false) (k_lanes : kp .lanes = false) (k_host : kp .host = false) (l : Nat) (s : State) : keep kp (laneRefuse l s) = keep kp s := by
  unfold laneRefuse
  repeat' (first | (simp [k_regs, k_lanes, k_host]; done) | split | dsimp only)
  all_goals first | rfl | (simp_all; done) | (simp [keep, k_regs, k_lanes, k_host]; done) | grind [keep_raiseEv, keep_modLane]

@[simp] theorem keep_trainingSet {kp : Area → Bool} (k_regs : kp .regs = false) (k_lanes : kp .lanes = false) (k_host : kp .host = false) (l : Nat) (o : OSet) (s : State) : keep kp (trainingSet l o s) = keep kp s := by
  unfold trainingSet
  repeat' (first | (simp [k_regs, k_lanes, k_host]; done) | split | dsimp only)
  all_goals first | rfl | (simp_all; done) | (simp [keep, k_regs, k_lanes, k_host]; done) | grind [keep_modLane, keep_raiseEv, keep_laneRefuse]

@[simp] theorem keep_alignEnter {kp : Area → Bool} (k_regs : kp .regs = false) (k_lanes : kp .lanes = false) (k_ports : kp .ports = false) (k_host : kp .host = false) (k_out : kp .out = false) (l : Nat) (s : State) : keep kp (alignEnter l s) = keep kp s := by
  unfold alignEnter
  repeat' (first | (simp [k_regs, k_lanes, k_ports, k_host, k_out]; done) | split | dsimp only)
  all_goals first | rfl | (simp_all; done) | (simp [keep, k_regs, k_lanes, k_ports, k_host, k_out]; done) | grind [keep_laneEnter, keep_laneRefuse]

@[simp] theorem keep_serviceEnter {kp : Area → Bool} (k_regs : kp .regs = false) (k_lanes : kp .lanes = false) (k_ports : kp .ports = false) (k_host : kp .host = false) (k_out : kp .out = false) (l : Nat) (s : State) : keep kp (serviceEnter l s) = keep kp s := by
  unfold serviceEnter
  repeat' (first | (simp [k_regs, k_lanes, k_ports, k_host, k_out]; done) | split | dsimp only)
  all_goals first | rfl | (simp_all; done) | (simp [keep, k_regs, k_lanes, k_ports, k_host, k_out]; done) | grind [keep_laneEnter, keep_laneRefuse]

@[simp] theorem keep_trainTimeoutOp {kp : Area → Bool} (k_regs : kp .regs = false) (k_lanes : kp .lanes = false) (k_ports : kp .ports = false) (k_host : kp .host = false) (k_out : kp .out = false) (l : Nat) (s : State) : keep kp (trainTimeoutOp l s) = keep kp s := by
  unfold trainTimeoutOp
  repeat' (first | (simp [k_regs, k_lanes, k_ports, k_host, k_out]; done) | split | dsimp only)
  all_goals first | rfl | (simp_all; done) | (simp [keep, k_regs, k_lanes, k_ports, k_host, k_out]; done) | grind [keep_laneEnter, keep_raiseEv]

@[simp] theorem keep_markerReceive {kp : Area → Bool} (k_regs : kp .regs = false) (k_lanes : kp .lanes = false) (k_ports : kp .ports = false) (k_host : kp .host = false) (k_out : kp .out = false) (l : Nat) (o : OSet) (s : State) : keep kp (markerReceive l o s) = keep kp s := by
  unfold markerReceive
  repeat' (first | (simp [k_regs, k_lanes, k_ports, k_host, k_out]; done) | split | dsimp only)
  all_goals first | rfl | (simp_all; done) | (simp [keep, k_regs, k_lanes, k_ports, k_host, k_out]; done) | grind [keep_takeStamp, keep_modLane, keep_laneEnter]

@[simp] theorem keep_outOfStepCheck {kp : Area → Bool} (k_regs : kp .regs = false) (k_lanes : kp .lanes = false) (k_ports : kp .ports = false) (k_host : kp .host = false) (k_out : kp .out = false) (l : Nat) (s : State) : keep kp (outOfStepCheck l s) = keep kp s := by
  unfold outOfStepCheck
  repeat' (first | (simp [k_regs, k_lanes, k_ports, k_host, k_out]; done) | split | dsimp only)
  all_goals first | rfl | (simp_all; done) | (simp [keep, k_regs, k_lanes, k_ports, k_host, k_out]; done) | grind [keep_laneEnter]

@[simp] theorem keep_lockLossCheck {kp : Area → Bool} (k_regs : kp .regs = false) (k_lanes : kp .lanes = false) (k_ports : kp .ports = false) (k_host : kp .host = false) (k_out : kp .out = false) (l : Nat) (s : State) : keep kp (lockLossCheck l s) = keep kp s := by
  unfold lockLossCheck
  repeat' (first | (simp [k_regs, k_lanes, k_ports, k_host, k_out]; done) | split | dsimp only)
  all_goals first | rfl | (simp_all; done) | (simp [keep, k_regs, k_lanes, k_ports, k_host, k_out]; done) | grind [keep_laneEnter]

@[simp] theorem keep_realign {kp : Area → Bool} (k_regs : kp .regs = false) (k_lanes : kp .lanes = false) (k_ports : kp .ports = false) (k_host : kp .host = false) (k_out : kp .out = false) (l : Nat) (s : State) : keep kp (realign l s) = keep kp s := by
  unfold realign
  repeat' (first | (simp [k_regs, k_lanes, k_ports, k_host, k_out]; done) | split | dsimp only)
  all_goals first | rfl | (simp_all; done) | (simp [keep, k_regs, k_lanes, k_ports, k_host, k_out]; done) | grind [keep_laneEnter]

@[simp] theorem keep_channelStatus {kp : Area → Bool} (k_lanes : kp .lanes = false) (k_ports : kp .ports = false) (k_out : kp .out = false) (l : Nat) (o : OSet) (s : State) : keep kp (channelStatus l o s) = keep kp s := by
  unfold channelStatus
  repeat' (first | (simp [k_lanes, k_ports, k_out]; done) | split | dsimp only)
  all_goals first | rfl | (simp_all; done) | (simp [keep, k_lanes, k_ports, k_out]; done) | grind [keep_modLane, keep_forEach, keep_modPort, keep_linkJudgeLane]

@[simp] theorem keep_osetReceive {kp : Area → Bool} (k_regs : kp .regs = false) (k_lanes : kp .lanes = false) (k_host : kp .host = false) (l : Nat) (o : OSet) (f : State → State) (s : State) (h_f : ∀ x0, keep kp (f x0) = keep kp x0) : keep kp (osetReceive l o f s) = keep kp s := by
  unfold osetReceive
  repeat' (first | (simp [h_f, k_regs, k_lanes, k_host]; done) | split | dsimp only)
  all_goals first | rfl | (simp_all; done) | (simp [keep, k_regs, k_lanes, k_host]; done) | grind [keep_wireErr, keep_modLane]

@[simp] theorem keep_laneSends {kp : Area → Bool} (k_lanes : kp .lanes = false) (k_out : kp .out = false) (l : Nat) (s : State) : keep kp (laneSends l s) = keep kp s := by
  unfold laneSends
  repeat' (first | (simp [k_lanes, k_out]; done) | split | dsimp only)
  all_goals first | rfl | (simp_all; done) | (simp [keep, k_lanes, k_out]; done) | grind [keep_modLane, keep_sendLane]

@[simp] theorem keep_laneTick {kp : Area → Bool} (k_regs : kp .regs = false) (k_lanes : kp .lanes = false) (k_ports : kp .ports = false) (k_host : kp .host = false) (k_out : kp .out = false) (l : Nat) (s : State) : keep kp (laneTick l s) = keep kp s := by
  unfold laneTick
  repeat' (first | (simp [k_regs, k_lanes, k_ports, k_host, k_out]; done) | split | dsimp only)
  all_goals first | rfl | (simp_all; done) | (simp [keep, k_regs, k_lanes, k_ports, k_host, k_out]; done) | grind [keep_laneSends, keep_realign, keep_lockLossCheck, keep_outOfStepCheck]

@[simp] theorem keep_countUnclean {kp : Area → Bool} (k_regs : kp .regs = false) (k_lanes : kp .lanes = false) (k : Nat) (s : State) : keep kp (countUnclean k s) = keep kp s := by
  unfold countUnclean
  repeat' (first | (simp [k_regs, k_lanes]; done) | split | dsimp only)
  all_goals first | rfl | (simp_all; done) | (simp [keep, k_regs, k_lanes]; done) | grind [keep_forEach, keep_regCount, keep_modLane]

@[simp] theorem keep_laneStart {kp : Area → Bool} (k_regs : kp .regs = false) (k_lanes : kp .lanes = false) (k_ports : kp .ports = false) (k_host : kp .host = false) (k_out : kp .out = false) (l : Nat) (s : State) : keep kp (laneStart l s) = keep kp s := by
  unfold laneStart
  repeat' (first | (simp [k_regs, k_lanes, k_ports, k_host, k_out]; done) | split | dsimp only)
  all_goals first | rfl | (simp_all; done) | (simp [keep, k_regs, k_lanes, k_ports, k_host, k_out]; done) | grind [keep_raiseEv, keep_laneEnter]

@[simp] theorem keep_laneStop {kp : Area → Bool} (k_regs : kp .regs = false) (k_lanes : kp .lanes = false) (k_ports : kp .ports = false) (k_host : kp .host = false) (k_out : kp .out = false) (l : Nat) (s : State) : keep kp (laneStop l s) = keep kp s := by
  unfold laneStop
  repeat' (first | (simp [k_regs, k_lanes, k_ports, k_host, k_out]; done) | split | dsimp only)
  all_goals first | rfl | (simp_all; done) | (simp [keep, k_regs, k_lanes, k_ports, k_host, k_out]; done) | grind [keep_modLane, keep_raiseEv, keep_linkJudgeLane, keep_laneEnter]

@[simp] theorem keep_holdEnable {kp : Area → Bool} (k_boot : kp .boot = false) (l : Nat) (on : Bool) (s : State) : keep kp (holdEnable l on s) = keep kp s := by
  unfold holdEnable
  repeat' (first | (simp [k_boot]; done) | split | dsimp only)
  all_goals first | rfl | (simp_all; done) | (simp [keep, k_boot]; done) | grind [keep_modBoot]

@[simp] theorem keep_laneRejudge {kp : Area → Bool} (k_regs : kp .regs = false) (k_lanes : kp .lanes = false) (k_ports : kp .ports = false) (k_egr : kp .egr = false) (k_host : kp .host = false) (k_out : kp .out = false) (l : Nat) (s : State) : keep kp (laneRejudge l s) = keep kp s := by
  unfold laneRejudge
  repeat' (first | (simp [k_regs, k_lanes, k_ports, k_egr, k_host, k_out]; done) | split | dsimp only)
  all_goals first | rfl | (simp_all; done) | (simp [keep, k_regs, k_lanes, k_ports, k_egr, k_host, k_out]; done) | grind [keep_linkJudgeLane, keep_plainDown]

@[simp] theorem keep_laneModeEffect {kp : Area → Bool} (k_regs : kp .regs = false) (k_lanes : kp .lanes = false) (k_ports : kp .ports = false) (k_egr : kp .egr = false) (k_host : kp .host = false) (k_boot : kp .boot = false) (k_out : kp .out = false) (l : Nat) (v : Word) (s : State) : keep kp (laneModeEffect l v s) = keep kp s := by
  unfold laneModeEffect
  repeat' (first | (simp [k_regs, k_lanes, k_ports, k_egr, k_host, k_boot, k_out]; done) | split | dsimp only)
  all_goals first | rfl | (simp_all; done) | (simp [keep, k_regs, k_lanes, k_ports, k_egr, k_host, k_boot, k_out]; done) | grind [keep_regSet, keep_holdEnable, keep_laneStart, keep_laneStop, keep_forEach, keep_laneRejudge]

@[simp] theorem keep_retrainLane {kp : Area → Bool} (k_regs : kp .regs = false) (k_lanes : kp .lanes = false) (k_ports : kp .ports = false) (k_host : kp .host = false) (k_out : kp .out = false) (l : Nat) (s : State) : keep kp (retrainLane l s) = keep kp s := by
  unfold retrainLane
  repeat' (first | (simp [k_regs, k_lanes, k_ports, k_host, k_out]; done) | split | dsimp only)
  all_goals first | rfl | (simp_all; done) | (simp [keep, k_regs, k_lanes, k_ports, k_host, k_out]; done) | grind [keep_laneEnter]

@[simp] theorem keep_arrive {kp : Area → Bool} (k_regs : kp .regs = false) (k_adm : kp .adm = false) (k_buf : kp .buf = false) (k_egr : kp .egr = false) (k_twin : kp .twin = false) (k_host : kp .host = false) (k_boot : kp .boot = false) (k_out : kp .out = false) (r : Rx) (s : State) : keep kp (arrive r s) = keep kp s := by
  unfold arrive
  repeat' (first | (simp [k_regs, k_adm, k_buf, k_egr, k_twin, k_host, k_boot, k_out]; done) | split | dsimp only)
  all_goals first | rfl | (simp_all; done) | (simp [keep, k_regs, k_adm, k_buf, k_egr, k_twin, k_host, k_boot, k_out]; done) | grind [keep_countDrop, keep_returnCells, keep_modAdm]

@[simp] theorem keep_noCell {kp : Area → Bool} (k_regs : kp .regs = false) (k_lanes : kp .lanes = false) (k_egr : kp .egr = false) (k_host : kp .host = false) (r : Rx) (s : State) : keep kp (noCell r s) = keep kp s := by
  unfold noCell
  repeat' (first | (simp [k_regs, k_lanes, k_egr, k_host]; done) | split | dsimp only)
  all_goals first | rfl | (simp_all; done) | (simp [keep, k_regs, k_lanes, k_egr, k_host]; done) | grind [keep_raiseLim, keep_countDrop, keep_regCount, keep_addUnclean]

@[simp] theorem keep_relayPut {kp : Area → Bool} (k_regs : kp .regs = false) (k_adm : kp .adm = false) (k_host : kp .host = false) (k_out : kp .out = false) (m : FlueMsg) (lane k : Nat) (s : State) : keep kp (relayPut m lane k s) = keep kp s := by
  unfold relayPut
  repeat' (first | (simp [k_regs, k_adm, k_host, k_out]; done) | split | dsimp only)
  all_goals first | rfl | (simp_all; done) | (simp [keep, k_regs, k_adm, k_host, k_out]; done) | grind [keep_modOut, keep_modAdm, keep_raiseLim, keep_regCount]

@[simp] theorem keep_relaySend {kp : Area → Bool} (k_regs : kp .regs = false) (k_adm : kp .adm = false) (k_host : kp .host = false) (k_out : kp .out = false) (r : Rx) (s : State) : keep kp (relaySend r s) = keep kp s := by
  unfold relaySend
  repeat' (first | (simp [k_regs, k_adm, k_host, k_out]; done) | split | dsimp only)
  all_goals first | rfl | (simp_all; done) | (simp [keep, k_regs, k_adm, k_host, k_out]; done) | grind [keep_modAdm, keep_forEach, keep_relayPut]

@[simp] theorem keep_receiveStore {kp : Area → Bool} (k_regs : kp .regs = false) (k_lanes : kp .lanes = false) (k_adm : kp .adm = false) (k_buf : kp .buf = false) (k_egr : kp .egr = false) (k_twin : kp .twin = false) (k_host : kp .host = false) (k_boot : kp .boot = false) (k_out : kp .out = false) (r : Rx) (relay : Bool) (s : State) : keep kp (receiveStore r relay s) = keep kp s := by
  unfold receiveStore
  repeat' (first | (simp [k_regs, k_lanes, k_adm, k_buf, k_egr, k_twin, k_host, k_boot, k_out]; done) | split | dsimp only)
  all_goals first | rfl | (simp_all; done) | (simp [keep, k_regs, k_lanes, k_adm, k_buf, k_egr, k_twin, k_host, k_boot, k_out]; done) | grind [keep_takeCells, keep_noCell, keep_returnCells, keep_statAdd, keep_arrive, keep_relaySend]

@[simp] theorem keep_macReceive {kp : Area → Bool} (k_regs : kp .regs = false) (k_lanes : kp .lanes = false) (k_adm : kp .adm = false) (k_buf : kp .buf = false) (k_egr : kp .egr = false) (k_twin : kp .twin = false) (k_host : kp .host = false) (k_boot : kp .boot = false) (k_out : kp .out = false) (r : Rx) (s : State) : keep kp (macReceive r s) = keep kp s := by
  unfold macReceive
  repeat' (first | (simp [k_regs, k_lanes, k_adm, k_buf, k_egr, k_twin, k_host, k_boot, k_out]; done) | split | dsimp only)
  all_goals first | rfl | (simp_all; done) | (simp [keep, k_regs, k_lanes, k_adm, k_buf, k_egr, k_twin, k_host, k_boot, k_out]; done) | grind [keep_statAdd, keep_movedBytes, keep_countDrop, keep_receiveStore]

@[simp] theorem keep_trackPseq {kp : Area → Bool} (k_regs : kp .regs = false) (k_lanes : kp .lanes = false) (k_host : kp .host = false) (l c q from_ g : Nat) (s : State) : keep kp (trackPseq l c q from_ g s) = keep kp s := by
  unfold trackPseq
  repeat' (first | (simp [k_regs, k_lanes, k_host]; done) | split | dsimp only)
  all_goals first | rfl | (simp_all; done) | (simp [keep, k_regs, k_lanes, k_host]; done) | grind [keep_modLane, keep_wireErrAt]

@[simp] theorem keep_hearthReceive {kp : Area → Bool} (k_regs : kp .regs = false) (k_lanes : kp .lanes = false) (k_adm : kp .adm = false) (k_buf : kp .buf = false) (k_egr : kp .egr = false) (k_twin : kp .twin = false) (k_host : kp .host = false) (k_boot : kp .boot = false) (k_out : kp .out = false) (l : Nat) (f : HFrame) (s : State) : keep kp (hearthReceive l f s) = keep kp s := by
  unfold hearthReceive
  repeat' (first | (simp [k_regs, k_lanes, k_adm, k_buf, k_egr, k_twin, k_host, k_boot, k_out]; done) | split | dsimp only)
  all_goals first | rfl | (simp_all; done) | (simp [keep, k_regs, k_lanes, k_adm, k_buf, k_egr, k_twin, k_host, k_boot, k_out]; done) | grind [keep_countDrop, keep_wireErr, keep_modLane, keep_takeStamp, keep_trackPseq, keep_wireErrAt, keep_macReceive]

@[simp] theorem keep_plainReceive {kp : Area → Bool} (k_regs : kp .regs = false) (k_lanes : kp .lanes = false) (k_adm : kp .adm = false) (k_buf : kp .buf = false) (k_egr : kp .egr = false) (k_twin : kp .twin = false) (k_host : kp .host = false) (k_boot : kp .boot = false) (k_out : kp .out = false) (l : Nat) (f : PFrame) (s : State) : keep kp (plainReceive l f s) = keep kp s := by
  unfold plainReceive
  repeat' (first | (simp [k_regs, k_lanes, k_adm, k_buf, k_egr, k_twin, k_host, k_boot, k_out]; done) | split | dsimp only)
  all_goals first | rfl | (simp_all; done) | (simp [keep, k_regs, k_lanes, k_adm, k_buf, k_egr, k_twin, k_host, k_boot, k_out]; done) | grind [keep_countDrop, keep_macReceive]

@[simp] theorem keep_blockError {kp : Area → Bool} (k_regs : kp .regs = false) (k_lanes : kp .lanes = false) (k_ports : kp .ports = false) (k_egr : kp .egr = false) (k_host : kp .host = false) (k_out : kp .out = false) (l : Nat) (lost : Bool) (s : State) : keep kp (blockError l lost s) = keep kp s := by
  unfold blockError
  repeat' (first | (simp [k_regs, k_lanes, k_ports, k_egr, k_host, k_out]; done) | split | dsimp only)
  all_goals first | rfl | (simp_all; done) | (simp [keep, k_regs, k_lanes, k_ports, k_egr, k_host, k_out]; done) | grind [keep_wireErr, keep_modLane, keep_wireErrAt, keep_plainDown]

@[simp] theorem keep_receiveLpiOp {kp : Area → Bool} (k_ports : kp .ports = false) (l : Nat) (on : Bool) (s : State) : keep kp (receiveLpiOp l on s) = keep kp s := by
  unfold receiveLpiOp
  repeat' (first | (simp [k_ports]; done) | split | dsimp only)
  all_goals first | rfl | (simp_all; done) | (simp [keep, k_ports]; done) | grind [keep_modPort]

@[simp] theorem keep_linkDetected {kp : Area → Bool} (k_regs : kp .regs = false) (k_lanes : kp .lanes = false) (k_ports : kp .ports = false) (k_egr : kp .egr = false) (k_host : kp .host = false) (k_out : kp .out = false) (p : Nat) (up : Bool) (s : State) : keep kp (linkDetected p up s) = keep kp s := by
  unfold linkDetected
  repeat' (first | (simp [k_regs, k_lanes, k_ports, k_egr, k_host, k_out]; done) | split | dsimp only)
  all_goals first | rfl | (simp_all; done) | (simp [keep, k_regs, k_lanes, k_ports, k_egr, k_host, k_out]; done) | grind [keep_plainUp, keep_plainDown, keep_linkJudge]

end Sys2Proof.Machine
end

