-- ==== Sys2Proof/Laws/Keep/Tables.lean ====
section
/-! SUPPORT. Which parts of the state the operations of Machine/Tables.lean keep. -/

namespace Sys2Proof.Machine

set_option linter.all false

@[simp] theorem keep_modStation {kp : Area → Bool} (k_tbl : kp .tbl = false) (i : Nat) (f : Station → Station) (s : State) : keep kp (modStation i f s) = keep kp s := by
  unfold modStation
  repeat' (first | (simp [k_tbl]; done) | split | dsimp only)
  all_goals first | rfl | (simp_all; done) | (simp [keep, k_tbl]; done) | grind [keep_modTbl]

@[simp] theorem keep_modRoute {kp : Area → Bool} (k_tbl : kp .tbl = false) (i : Nat) (f : Route → Route) (s : State) : keep kp (modRoute i f s) = keep kp s := by
  unfold modRoute
  repeat' (first | (simp [k_tbl]; done) | split | dsimp only)
  all_goals first | rfl | (simp_all; done) | (simp [keep, k_tbl]; done) | grind [keep_modTbl]

@[simp] theorem keep_setVer {kp : Area → Bool} (k_tbl : kp .tbl = false) (k_buf : kp .buf = false) (k : EntryKey) (v : Ver) (s : State) : keep kp (setVer k v s) = keep kp s := by
  unfold setVer
  repeat' (first | (simp [k_tbl, k_buf]; done) | split | dsimp only)
  all_goals first | rfl | (simp_all; done) | (simp [keep, k_tbl, k_buf]; done) | grind [keep_modStation, keep_modRoute, keep_modTbl, keep_modBuf]

@[simp] theorem keep_markEcc {kp : Area → Bool} (k_tbl : kp .tbl = false) (tbl i : Nat) (bad : Bool) (s : State) : keep kp (markEcc tbl i bad s) = keep kp s := by
  unfold markEcc
  repeat' (first | (simp [k_tbl]; done) | split | dsimp only)
  all_goals first | rfl | (simp_all; done) | (simp [keep, k_tbl]; done) | grind [keep_modStation, keep_modRoute, keep_modTbl]

@[simp] theorem keep_setNew {kp : Area → Bool} (k_tbl : kp .tbl = false) (k_buf : kp .buf = false) (k : EntryKey) (data t : Nat) (s : State) : keep kp (setNew k data t s) = keep kp s := by
  unfold setNew
  repeat' (first | (simp [k_tbl, k_buf]; done) | split | dsimp only)
  all_goals first | rfl | (simp_all; done) | (simp [keep, k_tbl, k_buf]; done) | grind [keep_setVer]

@[simp] theorem keep_putChange {kp : Area → Bool} (k_tbl : kp .tbl = false) (c : Change) (s : State) : keep kp (putChange c s) = keep kp s := by
  unfold putChange
  repeat' (first | (simp [k_tbl]; done) | split | dsimp only)
  all_goals first | rfl | (simp_all; done) | (simp [keep, k_tbl]; done) | grind [keep_modTbl]

@[simp] theorem keep_dropChange {kp : Area → Bool} (k_tbl : kp .tbl = false) (k : EntryKey) (s : State) : keep kp (dropChange k s) = keep kp s := by
  unfold dropChange
  repeat' (first | (simp [k_tbl]; done) | split | dsimp only)
  all_goals first | rfl | (simp_all; done) | (simp [keep, k_tbl]; done) | grind [keep_modTbl]

@[simp] theorem keep_queueFullEvent {kp : Area → Bool} (k_regs : kp .regs = false) (k_host : kp .host = false) (k : EntryKey) (s : State) : keep kp (queueFullEvent k s) = keep kp s := by
  unfold queueFullEvent
  repeat' (first | (simp [k_regs, k_host]; done) | split | dsimp only)
  all_goals first | rfl | (simp_all; done) | (simp [keep, k_regs, k_host]; done) | grind [keep_raiseLim]

@[simp] theorem keep_syncWord {kp : Area → Bool} (k_tbl : kp .tbl = false) (w : Nat) (s : State) : keep kp (syncWord w s) = keep kp s := by
  unfold syncWord
  repeat' (first | (simp [k_tbl]; done) | split | dsimp only)
  all_goals first | rfl | (simp_all; done) | (simp [keep, k_tbl]; done) | grind [keep_modTbl]

@[simp] theorem keep_syncKey {kp : Area → Bool} (k_tbl : kp .tbl = false) (k : EntryKey) (s : State) : keep kp (syncKey k s) = keep kp s := by
  unfold syncKey
  repeat' (first | (simp [k_tbl]; done) | split | dsimp only)
  all_goals first | rfl | (simp_all; done) | (simp [keep, k_tbl]; done) | grind [keep_syncWord]

@[simp] theorem keep_reach {kp : Area → Bool} (k_tbl : kp .tbl = false) (k : EntryKey) (eff : Nat) (ps : List Part) (s : State) : keep kp (reach k eff ps s) = keep kp s := by
  unfold reach
  repeat' (first | (simp [k_tbl]; done) | split | dsimp only)
  all_goals first | rfl | (simp_all; done) | (simp [keep, k_tbl]; done) | grind [keep_putChange, keep_syncKey]

@[simp] theorem keep_enqueue {kp : Area → Bool} (k_tbl : kp .tbl = false) (k : EntryKey) (eff : Nat) (ps : List Part) (linked : Bool) (s : State) : keep kp (enqueue k eff ps linked s) = keep kp s := by
  unfold enqueue
  repeat' (first | (simp [k_tbl]; done) | split | dsimp only)
  all_goals first | rfl | (simp_all; done) | (simp [keep, k_tbl]; done) | grind [keep_putChange]

@[simp] theorem keep_promote {kp : Area → Bool} (k_tbl : kp .tbl = false) (c : Change) (least : Nat) (s : State) : keep kp (promote c least s) = keep kp s := by
  unfold promote
  repeat' (first | (simp [k_tbl]; done) | split | dsimp only)
  all_goals first | rfl | (simp_all; done) | (simp [keep, k_tbl]; done) | grind [keep_dropChange, keep_syncKey, keep_putChange]

@[simp] theorem keep_delayInsertion {kp : Area → Bool} (k_tbl : kp .tbl = false) (i least : Nat) (s : State) : keep kp (delayInsertion i least s) = keep kp s := by
  unfold delayInsertion
  repeat' (first | (simp [k_tbl]; done) | split | dsimp only)
  all_goals first | rfl | (simp_all; done) | (simp [keep, k_tbl]; done) | grind [keep_modTbl]

@[simp] theorem keep_completeOp {kp : Area → Bool} (k_regs : kp .regs = false) (k_tbl : kp .tbl = false) (k_buf : kp .buf = false) (k_twin : kp .twin = false) (k_host : kp .host = false) (k_out : kp .out = false) (c : Change) (t : Nat) (s : State) : keep kp (completeOp c t s) = keep kp s := by
  unfold completeOp
  repeat' (first | (simp [k_regs, k_tbl, k_buf, k_twin, k_host, k_out]; done) | split | dsimp only)
  all_goals first | rfl | (simp_all; done) | (simp [keep, k_regs, k_tbl, k_buf, k_twin, k_host, k_out]; done) | grind [keep_selfFault, keep_raiseEv, keep_modTbl, keep_delayInsertion, keep_setVer, keep_promote]

@[simp] theorem keep_completeDue {kp : Area → Bool} (k_regs : kp .regs = false) (k_tbl : kp .tbl = false) (k_buf : kp .buf = false) (k_twin : kp .twin = false) (k_host : kp .host = false) (k_out : kp .out = false) (s : State) : keep kp (completeDue s) = keep kp s := by
  unfold completeDue
  repeat' (first | (simp [k_regs, k_tbl, k_buf, k_twin, k_host, k_out]; done) | split | dsimp only)
  all_goals first | rfl | (simp_all; done) | (simp [keep, k_regs, k_tbl, k_buf, k_twin, k_host, k_out]; done) | grind [keep_forEach, keep_completeOp]

@[simp] theorem keep_freeVersions {kp : Area → Bool} (k_tbl : kp .tbl = false) (s : State) : keep kp (freeVersions s) = keep kp s := by
  unfold freeVersions
  repeat' (first | (simp [k_tbl]; done) | split | dsimp only)
  all_goals first | rfl | (simp_all; done) | (simp [keep, k_tbl]; done) | grind [keep_modTbl]

@[simp] theorem keep_endWrite {kp : Area → Bool} (k_writes : kp .writes = false) (k_twin : kp .twin = false) (k_host : kp .host = false) (w : HostWrite) (status idx t : Nat) (result : List Byte) (s : State) : keep kp (endWrite w status idx t result s) = keep kp s := by
  unfold endWrite
  repeat' (first | (simp [k_writes, k_twin, k_host]; done) | split | dsimp only)
  all_goals first | rfl | (simp_all; done) | (simp [keep, k_writes, k_twin, k_host]; done) | grind [keep_modTwin, keep_recWrite, keep_completeOpt]

@[simp] theorem keep_finishWrite {kp : Area → Bool} (k_writes : kp .writes = false) (k_twin : kp .twin = false) (k_host : kp .host = false) (ord status idx t : Nat) (s : State) : keep kp (finishWrite ord status idx t s) = keep kp s := by
  unfold finishWrite
  repeat' (first | (simp [k_writes, k_twin, k_host]; done) | split | dsimp only)
  all_goals first | rfl | (simp_all; done) | (simp [keep, k_writes, k_twin, k_host]; done) | grind [keep_endWrite]

@[simp] theorem keep_victimWay {kp : Area → Bool} (k_tbl : kp .tbl = false) (ways : List Nat) (t : Nat) (s : State) : keep kp (victimWay ways t s).2 = keep kp s := by
  unfold victimWay
  repeat' (first | (simp [k_tbl]; done) | split | dsimp only)
  all_goals first | rfl | (simp_all; done) | (simp [keep, k_tbl]; done) | grind [keep_modTbl]

@[simp] theorem keep_insertAt {kp : Area → Bool} (k_tbl : kp .tbl = false) (i key data t : Nat) (s : State) : keep kp (insertAt i key data t s) = keep kp s := by
  unfold insertAt
  repeat' (first | (simp [k_tbl]; done) | split | dsimp only)
  all_goals first | rfl | (simp_all; done) | (simp [keep, k_tbl]; done) | grind [keep_modStation]

@[simp] theorem keep_evictFor {kp : Area → Bool} (k_regs : kp .regs = false) (k_tbl : kp .tbl = false) (k_buf : kp .buf = false) (i t : Nat) (k : EntryKey) (p : Part) (s : State) : keep kp (evictFor i t k p s) = keep kp s := by
  unfold evictFor
  repeat' (first | (simp [k_regs, k_tbl, k_buf]; done) | split | dsimp only)
  all_goals first | rfl | (simp_all; done) | (simp [keep, k_regs, k_tbl, k_buf]; done) | grind [keep_setNew, keep_regCount, keep_putChange]

@[simp] theorem keep_failPart {kp : Area → Bool} (k_regs : kp .regs = false) (k_writes : kp .writes = false) (k_twin : kp .twin = false) (k_host : kp .host = false) (k : EntryKey) (p : Part) (status t : Nat) (s : State) : keep kp (failPart k p status t s) = keep kp s := by
  unfold failPart
  repeat' (first | (simp [k_regs, k_writes, k_twin, k_host]; done) | split | dsimp only)
  all_goals first | rfl | (simp_all; done) | (simp [keep, k_regs, k_writes, k_twin, k_host]; done) | grind [keep_regCount, keep_raiseLim, keep_queueFullEvent, keep_finishWrite]

@[simp] theorem keep_insertStation {kp : Area → Bool} (k_regs : kp .regs = false) (k_writes : kp .writes = false) (k_tbl : kp .tbl = false) (k_buf : kp .buf = false) (k_twin : kp .twin = false) (k_host : kp .host = false) (k : EntryKey) (data t : Nat) (p : Part) (s : State) : keep kp (insertStation k data t p s) = keep kp s := by
  unfold insertStation
  repeat' (first | (simp [k_regs, k_writes, k_tbl, k_buf, k_twin, k_host]; done) | split | dsimp only)
  all_goals first | rfl | (simp_all; done) | (simp [keep, k_regs, k_writes, k_tbl, k_buf, k_twin, k_host]; done) | grind [keep_insertAt, keep_finishWrite, keep_failPart, keep_victimWay, keep_evictFor]

@[simp] theorem keep_moveStation {kp : Area → Bool} (k_regs : kp .regs = false) (k_tbl : kp .tbl = false) (k_buf : kp .buf = false) (k_host : kp .host = false) (i port t : Nat) (k : EntryKey) (s : State) : keep kp (moveStation i port t k s) = keep kp s := by
  unfold moveStation
  repeat' (first | (simp [k_regs, k_tbl, k_buf, k_host]; done) | split | dsimp only)
  all_goals first | rfl | (simp_all; done) | (simp [keep, k_regs, k_tbl, k_buf, k_host]; done) | grind [keep_setNew, keep_modStation, keep_raiseEv, keep_regCount]

@[simp] theorem keep_learnStation {kp : Area → Bool} (k_regs : kp .regs = false) (k_writes : kp .writes = false) (k_tbl : kp .tbl = false) (k_buf : kp .buf = false) (k_twin : kp .twin = false) (k_host : kp .host = false) (k : EntryKey) (port t : Nat) (p : Part) (s : State) : keep kp (learnStation k port t p s) = keep kp s := by
  unfold learnStation
  repeat' (first | (simp [k_regs, k_writes, k_tbl, k_buf, k_twin, k_host]; done) | split | dsimp only)
  all_goals first | rfl | (simp_all; done) | (simp [keep, k_regs, k_writes, k_tbl, k_buf, k_twin, k_host]; done) | grind [keep_insertStation, keep_raiseLim, keep_regCount, keep_moveStation]

@[simp] theorem keep_writeStation {kp : Area → Bool} (k_regs : kp .regs = false) (k_writes : kp .writes = false) (k_tbl : kp .tbl = false) (k_buf : kp .buf = false) (k_twin : kp .twin = false) (k_host : kp .host = false) (k : EntryKey) (data t : Nat) (p : Part) (s : State) : keep kp (writeStation k data t p s) = keep kp s := by
  unfold writeStation
  repeat' (first | (simp [k_regs, k_writes, k_tbl, k_buf, k_twin, k_host]; done) | split | dsimp only)
  all_goals first | rfl | (simp_all; done) | (simp [keep, k_regs, k_writes, k_tbl, k_buf, k_twin, k_host]; done) | grind [keep_insertStation, keep_finishWrite, keep_setNew, keep_modStation]

@[simp] theorem keep_countRoute {kp : Area → Bool} (k_tbl : kp .tbl = false) (k_buf : kp .buf = false) (v6 : Bool) (len addr : Nat) (add : Bool) (t : Nat) (s : State) : keep kp (countRoute v6 len addr add t s) = keep kp s := by
  unfold countRoute
  repeat' (first | (simp [k_tbl, k_buf]; done) | split | dsimp only)
  all_goals first | rfl | (simp_all; done) | (simp [keep, k_tbl, k_buf]; done) | grind [keep_modTbl, keep_markEcc, keep_setNew]

@[simp] theorem keep_writeRoute {kp : Area → Bool} (k_writes : kp .writes = false) (k_tbl : kp .tbl = false) (k_buf : kp .buf = false) (k_twin : kp .twin = false) (k_host : kp .host = false) (k : EntryKey) (data t : Nat) (p : Part) (s : State) : keep kp (writeRoute k data t p s) = keep kp s := by
  unfold writeRoute
  repeat' (first | (simp [k_writes, k_tbl, k_buf, k_twin, k_host]; done) | split | dsimp only)
  all_goals first | rfl | (simp_all; done) | (simp [keep, k_writes, k_tbl, k_buf, k_twin, k_host]; done) | grind [keep_finishWrite, keep_countRoute, keep_setNew, keep_modRoute]

@[simp] theorem keep_applyPart {kp : Area → Bool} (k_regs : kp .regs = false) (k_writes : kp .writes = false) (k_tbl : kp .tbl = false) (k_buf : kp .buf = false) (k_twin : kp .twin = false) (k_host : kp .host = false) (k : EntryKey) (p : Part) (t : Nat) (s : State) : keep kp (applyPart k p t s) = keep kp s := by
  unfold applyPart
  repeat' (first | (simp [k_regs, k_writes, k_tbl, k_buf, k_twin, k_host]; done) | split | dsimp only)
  all_goals first | rfl | (simp_all; done) | (simp [keep, k_regs, k_writes, k_tbl, k_buf, k_twin, k_host]; done) | grind [keep_putChange, keep_setNew, keep_raiseEv, keep_modStation, keep_learnStation, keep_markEcc, keep_writeStation, keep_writeRoute, keep_finishWrite]

@[simp] theorem keep_settleChange {kp : Area → Bool} (k_tbl : kp .tbl = false) (k : EntryKey) (t : Nat) (s : State) : keep kp (settleChange k t s) = keep kp s := by
  unfold settleChange
  repeat' (first | (simp [k_tbl]; done) | split | dsimp only)
  all_goals first | rfl | (simp_all; done) | (simp [keep, k_tbl]; done) | grind [keep_putChange, keep_promote]

@[simp] theorem keep_effectsDue {kp : Area → Bool} (k_regs : kp .regs = false) (k_writes : kp .writes = false) (k_tbl : kp .tbl = false) (k_buf : kp .buf = false) (k_twin : kp .twin = false) (k_host : kp .host = false) (s : State) : keep kp (effectsDue s) = keep kp s := by
  unfold effectsDue
  repeat' (first | (simp [k_regs, k_writes, k_tbl, k_buf, k_twin, k_host]; done) | split | dsimp only)
  all_goals first | rfl | (simp_all; done) | (simp [keep, k_regs, k_writes, k_tbl, k_buf, k_twin, k_host]; done) | grind [keep_forEach, keep_applyPart, keep_settleChange]

@[simp] theorem keep_applyHit {kp : Area → Bool} (k_tbl : kp .tbl = false) (t key a : Nat) (s : State) : keep kp (applyHit t key a s) = keep kp s := by
  unfold applyHit
  repeat' (first | (simp [k_tbl]; done) | split | dsimp only)
  all_goals first | rfl | (simp_all; done) | (simp [keep, k_tbl]; done) | grind [keep_modStation, keep_promote]

@[simp] theorem keep_hitsDue {kp : Area → Bool} (k_tbl : kp .tbl = false) (s : State) : keep kp (hitsDue s) = keep kp s := by
  unfold hitsDue
  repeat' (first | (simp [k_tbl]; done) | split | dsimp only)
  all_goals first | rfl | (simp_all; done) | (simp [keep, k_tbl]; done) | grind [keep_forEach, keep_applyHit, keep_modTbl]

@[simp] theorem keep_scanEntry {kp : Area → Bool} (k_regs : kp .regs = false) (k_tbl : kp .tbl = false) (k_host : kp .host = false) (i : Nat) (s : State) : keep kp (scanEntry i s) = keep kp s := by
  unfold scanEntry
  repeat' (first | (simp [k_regs, k_tbl, k_host]; done) | split | dsimp only)
  all_goals first | rfl | (simp_all; done) | (simp [keep, k_regs, k_tbl, k_host]; done) | grind [keep_queueFullEvent, keep_putChange, keep_reach]

@[simp] theorem keep_scanStep {kp : Area → Bool} (k_regs : kp .regs = false) (k_tbl : kp .tbl = false) (k_host : kp .host = false) (s : State) : keep kp (scanStep s) = keep kp s := by
  unfold scanStep
  repeat' (first | (simp [k_regs, k_tbl, k_host]; done) | split | dsimp only)
  all_goals first | rfl | (simp_all; done) | (simp [keep, k_regs, k_tbl, k_host]; done) | grind [keep_scanEntry, keep_forEach]

@[simp] theorem keep_eccFault {kp : Area → Bool} (k_regs : kp .regs = false) (k_tbl : kp .tbl = false) (k_twin : kp .twin = false) (k_host : kp .host = false) (k_out : kp .out = false) (tbl idx : Nat) (s : State) : keep kp (eccFault tbl idx s) = keep kp s := by
  unfold eccFault
  repeat' (first | (simp [k_regs, k_tbl, k_twin, k_host, k_out]; done) | split | dsimp only)
  all_goals first | rfl | (simp_all; done) | (simp [keep, k_regs, k_tbl, k_twin, k_host, k_out]; done) | grind [keep_markEcc, keep_selfFault, keep_raiseEv, keep_regSetFld]

@[simp] theorem keep_reachWrite {kp : Area → Bool} (k_regs : kp .regs = false) (k_tbl : kp .tbl = false) (k_host : kp .host = false) (k : EntryKey) (d eff ord : Nat) (s : State) : keep kp (reachWrite k d eff ord s).2 = keep kp s := by
  unfold reachWrite
  repeat' (first | (simp [k_regs, k_tbl, k_host]; done) | split | dsimp only)
  all_goals first | rfl | (simp_all; done) | (simp [keep, k_regs, k_tbl, k_host]; done) | grind [keep_queueFullEvent, keep_reach, keep_syncWord, keep_enqueue]

@[simp] theorem keep_requestLearn {kp : Area → Bool} (k_regs : kp .regs = false) (k_tbl : kp .tbl = false) (k_host : kp .host = false) (key port ord : Nat) (s : State) : keep kp (requestLearn key port ord s) = keep kp s := by
  unfold requestLearn
  repeat' (first | (simp [k_regs, k_tbl, k_host]; done) | split | dsimp only)
  all_goals first | rfl | (simp_all; done) | (simp [keep, k_regs, k_tbl, k_host]; done) | grind [keep_queueFullEvent, keep_regCount, keep_reach]

@[simp] theorem keep_writeRegion {kp : Area → Bool} (k_regs : kp .regs = false) (k_host : kp .host = false) (v6 : Bool) (len : Nat) (v : Word) (s : State) : keep kp (writeRegion v6 len v s) = keep kp s := by
  unfold writeRegion
  repeat' (first | (simp [k_regs, k_host]; done) | split | dsimp only)
  all_goals first | rfl | (simp_all; done) | (simp [keep, k_regs, k_host]; done) | grind [keep_regSet, keep_raiseEv]

@[simp] theorem keep_completeKey {kp : Area → Bool} (k_regs : kp .regs = false) (k_tbl : kp .tbl = false) (k_buf : kp .buf = false) (k_twin : kp .twin = false) (k_host : kp .host = false) (k_out : kp .out = false) (tbl key : Nat) (s : State) : keep kp (completeKey tbl key s) = keep kp s := by
  unfold completeKey
  repeat' (first | (simp [k_regs, k_tbl, k_buf, k_twin, k_host, k_out]; done) | split | dsimp only)
  all_goals first | rfl | (simp_all; done) | (simp [keep, k_regs, k_tbl, k_buf, k_twin, k_host, k_out]; done) | grind [keep_completeOp]

end Sys2Proof.Machine
end

