-- ==== Sys2Proof/Laws/Keep/Embers.lean ====
section
/-! SUPPORT. Which parts of the state the operations of Machine/Embers.lean keep. -/

namespace Sys2Proof.Machine

set_option linter.all false

@[simp] theorem keep_modTickets {kp : Area → Bool} (k_hob : kp .hob = false) (lane : Nat) (f : Tickets → Tickets) (s : State) : keep kp (modTickets lane f s) = keep kp s := by
  unfold modTickets
  repeat' (first | (simp [k_hob]; done) | split | dsimp only)
  all_goals first | rfl | (simp_all; done) | (simp [keep, k_hob]; done) | grind [keep_modHob]

@[simp] theorem keep_takeTurn {kp : Area → Bool} (k_hob : kp .hob = false) (lane : Nat) (s : State) : keep kp (takeTurn lane s).2 = keep kp s := by
  unfold takeTurn
  repeat' (first | (simp [k_hob]; done) | split | dsimp only)
  all_goals first | rfl | (simp_all; done) | (simp [keep, k_hob]; done) | grind [keep_modTickets]

@[simp] theorem keep_passTurn {kp : Area → Bool} (k_hob : kp .hob = false) (lane n : Nat) (s : State) : keep kp (passTurn lane n s) = keep kp s := by
  unfold passTurn
  repeat' (first | (simp [k_hob]; done) | split | dsimp only)
  all_goals first | rfl | (simp_all; done) | (simp [keep, k_hob]; done) | grind [keep_modTickets]

@[simp] theorem keep_modEmber {kp : Area → Bool} (k_tbl : kp .tbl = false) (r : Nat) (f : Ember → Ember) (s : State) : keep kp (modEmber r f s) = keep kp s := by
  unfold modEmber
  repeat' (first | (simp [k_tbl]; done) | split | dsimp only)
  all_goals first | rfl | (simp_all; done) | (simp [keep, k_tbl]; done) | grind [keep_modTbl]

@[simp] theorem keep_writeHe {kp : Area → Bool} (k_tbl : kp .tbl = false) (r off : Nat) (bs : List Byte) (s : State) : keep kp (writeHe r off bs s) = keep kp s := by
  unfold writeHe
  repeat' (first | (simp [k_tbl]; done) | split | dsimp only)
  all_goals first | rfl | (simp_all; done) | (simp [keep, k_tbl]; done) | grind [keep_modEmber]

@[simp] theorem keep_applyPub {kp : Area → Bool} (k_regs : kp .regs = false) (k_tbl : kp .tbl = false) (k_twin : kp .twin = false) (k_host : kp .host = false) (k_out : kp .out = false) (r e : Nat) (v : List Byte) (s : State) : keep kp (applyPub r e v s) = keep kp s := by
  unfold applyPub
  repeat' (first | (simp [k_regs, k_tbl, k_twin, k_host, k_out]; done) | split | dsimp only)
  all_goals first | rfl | (simp_all; done) | (simp [keep, k_regs, k_tbl, k_twin, k_host, k_out]; done) | grind [keep_modEmber, keep_modTbl, keep_selfFault, keep_raiseEv]

@[simp] theorem keep_prunePubs {kp : Area → Bool} (k_tbl : kp .tbl = false) (s : State) : keep kp (prunePubs s) = keep kp s := by
  unfold prunePubs
  repeat' (first | (simp [k_tbl]; done) | split | dsimp only)
  all_goals first | rfl | (simp_all; done) | (simp [keep, k_tbl]; done) | grind [keep_modTbl]

@[simp] theorem keep_publishDue {kp : Area → Bool} (k_regs : kp .regs = false) (k_tbl : kp .tbl = false) (k_twin : kp .twin = false) (k_host : kp .host = false) (k_out : kp .out = false) (r : Nat) (s : State) : keep kp (publishDue r s) = keep kp s := by
  unfold publishDue
  repeat' (first | (simp [k_regs, k_tbl, k_twin, k_host, k_out]; done) | split | dsimp only)
  all_goals first | rfl | (simp_all; done) | (simp [keep, k_regs, k_tbl, k_twin, k_host, k_out]; done) | grind [keep_applyPub, keep_modEmber, keep_forEach, keep_completeOpt]

@[simp] theorem keep_publishesDue {kp : Area → Bool} (k_regs : kp .regs = false) (k_tbl : kp .tbl = false) (k_twin : kp .twin = false) (k_host : kp .host = false) (k_out : kp .out = false) (s : State) : keep kp (publishesDue s) = keep kp s := by
  unfold publishesDue
  repeat' (first | (simp [k_regs, k_tbl, k_twin, k_host, k_out]; done) | split | dsimp only)
  all_goals first | rfl | (simp_all; done) | (simp [keep, k_regs, k_tbl, k_twin, k_host, k_out]; done) | grind [keep_forEach, keep_publishDue]

@[simp] theorem keep_publishRetire {kp : Area → Bool} (k_tbl : kp .tbl = false) (r a t : Nat) (v : List Byte) (s : State) : keep kp (publishRetire r a t v s) = keep kp s := by
  unfold publishRetire
  repeat' (first | (simp [k_tbl]; done) | split | dsimp only)
  all_goals first | rfl | (simp_all; done) | (simp [keep, k_tbl]; done) | grind [keep_modEmber]

@[simp] theorem keep_hostPublish {kp : Area → Bool} (k_tbl : kp .tbl = false) (r e : Nat) (v : List Byte) (cmd : Option MbxCmd) (s : State) : keep kp (hostPublish r e v cmd s) = keep kp s := by
  unfold hostPublish
  repeat' (first | (simp [k_tbl]; done) | split | dsimp only)
  all_goals first | rfl | (simp_all; done) | (simp [keep, k_tbl]; done) | grind [keep_modEmber]

@[simp] theorem keep_placeLaneOp {kp : Area → Bool} (k_hob : kp .hob = false) (k_tbl : kp .tbl = false) (op : LaneOp) (s : State) : keep kp (placeLaneOp op s) = keep kp s := by
  unfold placeLaneOp
  repeat' (first | (simp [k_hob, k_tbl]; done) | split | dsimp only)
  all_goals first | rfl | (simp_all; done) | (simp [keep, k_hob, k_tbl]; done) | grind [keep_takeTurn, keep_modTbl, keep_modHob]

@[simp] theorem keep_cacheEvict {kp : Area → Bool} (k_tbl : kp .tbl = false) (stove need : Nat) (v0 : Nat) (s : State) : keep kp (cacheEvict stove need v0 s) = keep kp s := by
  induction v0 generalizing s with
  | zero => first | rfl | simp [cacheEvict, k_tbl]
  | succ v0 ih =>
    unfold cacheEvict
    repeat' (first | (simp [ih, k_tbl]; done) | split | dsimp only)
    all_goals first | rfl | (simp_all; done) | grind [keep_modTbl]

@[simp] theorem keep_cacheTouch {kp : Area → Bool} (k_regs : kp .regs = false) (k_tbl : kp .tbl = false) (stove rec lane : Nat) (s : State) : keep kp (cacheTouch stove rec lane s) = keep kp s := by
  unfold cacheTouch
  repeat' (first | (simp [k_regs, k_tbl]; done) | split | dsimp only)
  all_goals first | rfl | (simp_all; done) | (simp [keep, k_regs, k_tbl]; done) | grind [keep_regCount, keep_modTbl, keep_cacheEvict]

@[simp] theorem keep_cacheReleaseMoved {kp : Area → Bool} (k_tbl : kp .tbl = false) (s : State) : keep kp (cacheReleaseMoved s) = keep kp s := by
  unfold cacheReleaseMoved
  repeat' (first | (simp [k_tbl]; done) | split | dsimp only)
  all_goals first | rfl | (simp_all; done) | (simp [keep, k_tbl]; done) | grind [keep_modTbl]

@[simp] theorem keep_cacheFlush {kp : Area → Bool} (k_tbl : kp .tbl = false) (stove : Nat) (s : State) : keep kp (cacheFlush stove s) = keep kp s := by
  unfold cacheFlush
  repeat' (first | (simp [k_tbl]; done) | split | dsimp only)
  all_goals first | rfl | (simp_all; done) | (simp [keep, k_tbl]; done) | grind [keep_modTbl]

@[simp] theorem keep_dropLaneOp {kp : Area → Bool} (k_hob : kp .hob = false) (k_tbl : kp .tbl = false) (o : LaneOp) (s : State) : keep kp (dropLaneOp o s) = keep kp s := by
  unfold dropLaneOp
  repeat' (first | (simp [k_hob, k_tbl]; done) | split | dsimp only)
  all_goals first | rfl | (simp_all; done) | (simp [keep, k_hob, k_tbl]; done) | grind [keep_passTurn, keep_modTbl]

@[simp] theorem keep_emberWriteStep {kp : Area → Bool} (k_regs : kp .regs = false) (k_hob : kp .hob = false) (k_tbl : kp .tbl = false) (k_host : kp .host = false) (lane : Nat) (s : State) : keep kp (emberWriteStep lane s) = keep kp s := by
  unfold emberWriteStep
  repeat' (first | (simp [k_regs, k_hob, k_tbl, k_host]; done) | split | dsimp only)
  all_goals first | rfl | (simp_all; done) | (simp [keep, k_regs, k_hob, k_tbl, k_host]; done) | grind [keep_modEmber, keep_cacheTouch, keep_completeOpt, keep_dropLaneOp]

@[simp] theorem keep_emberReadStep {kp : Area → Bool} (k_regs : kp .regs = false) (k_hob : kp .hob = false) (k_tbl : kp .tbl = false) (k_host : kp .host = false) (lane : Nat) (s : State) : keep kp (emberReadStep lane s) = keep kp s := by
  unfold emberReadStep
  repeat' (first | (simp [k_regs, k_hob, k_tbl, k_host]; done) | split | dsimp only)
  all_goals first | rfl | (simp_all; done) | (simp [keep, k_regs, k_hob, k_tbl, k_host]; done) | grind [keep_completeOpt, keep_hostPut, keep_dropLaneOp, keep_cacheTouch]

end Sys2Proof.Machine
end

