-- ==== Sys2Proof/Laws/Keep/Tcam.lean ====
section
/-! SUPPORT. Which parts of the state the operations of Machine/Tcam.lean keep. -/

namespace Sys2Proof.Machine

set_option linter.all false

@[simp] theorem keep_setMember {kp : Area → Bool} (k_tcam : kp .tcam = false) (i slot : Nat) (v : Bool) (s : State) : keep kp (setMember i slot v s) = keep kp s := by
  unfold setMember
  repeat' (first | (simp [k_tcam]; done) | split | dsimp only)
  all_goals first | rfl | (simp_all; done) | (simp [keep, k_tcam]; done) | grind [keep_modTcam]

@[simp] theorem keep_suppressEntry {kp : Area → Bool} (k_tcam : kp .tcam = false) (i : Nat) (hard : Bool) (s : State) : keep kp (suppressEntry i hard s) = keep kp s := by
  unfold suppressEntry
  repeat' (first | (simp [k_tcam]; done) | split | dsimp only)
  all_goals first | rfl | (simp_all; done) | (simp [keep, k_tcam]; done) | grind [keep_modTcam]

@[simp] theorem keep_liftEntry {kp : Area → Bool} (k_tcam : kp .tcam = false) (i : Nat) (s : State) : keep kp (liftEntry i s) = keep kp s := by
  unfold liftEntry
  repeat' (first | (simp [k_tcam]; done) | split | dsimp only)
  all_goals first | rfl | (simp_all; done) | (simp [keep, k_tcam]; done) | grind [keep_modTcam]

@[simp] theorem keep_noteSpares {kp : Area → Bool} (k_regs : kp .regs = false) (k_host : kp .host = false) (before : List Nat) (s : State) : keep kp (noteSpares before s) = keep kp s := by
  unfold noteSpares
  repeat' (first | (simp [k_regs, k_host]; done) | split | dsimp only)
  all_goals first | rfl | (simp_all; done) | (simp [keep, k_regs, k_host]; done) | grind [keep_raiseEv]

@[simp] theorem keep_failBrick {kp : Area → Bool} (k_regs : kp .regs = false) (k_tcam : kp .tcam = false) (k_host : kp .host = false) (k_boot : kp .boot = false) (fb : Nat) (s : State) : keep kp (failBrick fb s) = keep kp s := by
  unfold failBrick
  repeat' (first | (simp [k_regs, k_tcam, k_host, k_boot]; done) | split | dsimp only)
  all_goals first | rfl | (simp_all; done) | (simp [keep, k_regs, k_tcam, k_host, k_boot]; done) | grind [keep_addHealth, keep_modTcam, keep_noteSpares, keep_raiseEv]

@[simp] theorem keep_moveBrick {kp : Area → Bool} (k_tcam : kp .tcam = false) (p : Nat) (s : State) : keep kp (moveBrick p s) = keep kp s := by
  unfold moveBrick
  repeat' (first | (simp [k_tcam]; done) | split | dsimp only)
  all_goals first | rfl | (simp_all; done) | (simp [keep, k_tcam]; done) | grind [keep_modTcam]

@[simp] theorem keep_movesDue {kp : Area → Bool} (k_tcam : kp .tcam = false) (s : State) : keep kp (movesDue s) = keep kp s := by
  unfold movesDue
  repeat' (first | (simp [k_tcam]; done) | split | dsimp only)
  all_goals first | rfl | (simp_all; done) | (simp [keep, k_tcam]; done) | grind [keep_forEach, keep_moveBrick]

@[simp] theorem keep_countTcamEcc {kp : Area → Bool} (k_regs : kp .regs = false) (s : State) : keep kp (countTcamEcc s) = keep kp s := by
  unfold countTcamEcc
  repeat' (first | (simp [k_regs]; done) | split | dsimp only)
  all_goals first | rfl | (simp_all; done) | (simp [keep, k_regs]; done) | grind [keep_regSetFld]

@[simp] theorem keep_suppressRow {kp : Area → Bool} (k_regs : kp .regs = false) (k_tcam : kp .tcam = false) (k_twin : kp .twin = false) (k_host : kp .host = false) (k_out : kp .out = false) (fb r : Nat) (i : Option Nat) (bad : Bool) (s : State) : keep kp (suppressRow fb r i bad s) = keep kp s := by
  unfold suppressRow
  repeat' (first | (simp [k_regs, k_tcam, k_twin, k_host, k_out]; done) | split | dsimp only)
  all_goals first | rfl | (simp_all; done) | (simp [keep, k_regs, k_tcam, k_twin, k_host, k_out]; done) | grind [keep_suppressEntry, keep_modTcam, keep_selfFault, keep_raiseEv, keep_regCount]

@[simp] theorem keep_rowMismatch {kp : Area → Bool} (k_regs : kp .regs = false) (k_tcam : kp .tcam = false) (k_twin : kp .twin = false) (k_host : kp .host = false) (k_boot : kp .boot = false) (k_out : kp .out = false) (fb r : Nat) (shadowBad : Bool) (s : State) : keep kp (rowMismatch fb r shadowBad s) = keep kp s := by
  unfold rowMismatch
  repeat' (first | (simp [k_regs, k_tcam, k_twin, k_host, k_boot, k_out]; done) | split | dsimp only)
  all_goals first | rfl | (simp_all; done) | (simp [keep, k_regs, k_tcam, k_twin, k_host, k_boot, k_out]; done) | grind [keep_suppressRow, keep_countTcamEcc, keep_modTcam, keep_failBrick]

@[simp] theorem keep_scrubStep {kp : Area → Bool} (k_regs : kp .regs = false) (k_tcam : kp .tcam = false) (k_twin : kp .twin = false) (k_host : kp .host = false) (k_boot : kp .boot = false) (k_out : kp .out = false) (before : State) (rowBad shadowBad : Bool) (s : State) : keep kp (scrubStep before rowBad shadowBad s) = keep kp s := by
  unfold scrubStep
  repeat' (first | (simp [k_regs, k_tcam, k_twin, k_host, k_boot, k_out]; done) | split | dsimp only)
  all_goals first | rfl | (simp_all; done) | (simp [keep, k_regs, k_tcam, k_twin, k_host, k_boot, k_out]; done) | grind [keep_rowMismatch, keep_modTcam]

@[simp] theorem keep_scrubRepair {kp : Area → Bool} (k_tcam : kp .tcam = false) (good : Bool) (s : State) : keep kp (scrubRepair good s) = keep kp s := by
  unfold scrubRepair
  repeat' (first | (simp [k_tcam]; done) | split | dsimp only)
  all_goals first | rfl | (simp_all; done) | (simp [keep, k_tcam]; done) | grind [keep_modTcam]

@[simp] theorem keep_actionFault {kp : Area → Bool} (k_regs : kp .regs = false) (k_tcam : kp .tcam = false) (k_twin : kp .twin = false) (k_host : kp .host = false) (k_out : kp .out = false) (i : Nat) (s : State) : keep kp (actionFault i s) = keep kp s := by
  unfold actionFault
  repeat' (first | (simp [k_regs, k_tcam, k_twin, k_host, k_out]; done) | split | dsimp only)
  all_goals first | rfl | (simp_all; done) | (simp [keep, k_regs, k_tcam, k_twin, k_host, k_out]; done) | grind [keep_suppressRow, keep_countTcamEcc]

@[simp] theorem keep_clearMembers {kp : Area → Bool} (k_tcam : kp .tcam = false) (slot : Nat) (s : State) : keep kp (clearMembers slot s) = keep kp s := by
  unfold clearMembers
  repeat' (first | (simp [k_tcam]; done) | split | dsimp only)
  all_goals first | rfl | (simp_all; done) | (simp [keep, k_tcam]; done) | grind [keep_forEach, keep_setMember]

@[simp] theorem keep_txnOpen {kp : Area → Bool} (k_tcam : kp .tcam = false) (id : Nat) (s : State) : keep kp (txnOpen id s).2 = keep kp s := by
  unfold txnOpen
  repeat' (first | (simp [k_tcam]; done) | split | dsimp only)
  all_goals first | rfl | (simp_all; done) | (simp [keep, k_tcam]; done) | grind [keep_forEach, keep_setMember, keep_modTcam]

@[simp] theorem keep_txnCommit {kp : Area → Bool} (k_regs : kp .regs = false) (k_tcam : kp .tcam = false) (k_host : kp .host = false) (id e : Nat) (s : State) : keep kp (txnCommit id e s).2 = keep kp s := by
  unfold txnCommit
  repeat' (first | (simp [k_regs, k_tcam, k_host]; done) | split | dsimp only)
  all_goals first | rfl | (simp_all; done) | (simp [keep, k_regs, k_tcam, k_host]; done) | grind [keep_raiseEv, keep_modTcam]

@[simp] theorem keep_txnAbort {kp : Area → Bool} (k_tcam : kp .tcam = false) (id : Nat) (s : State) : keep kp (txnAbort id s).2 = keep kp s := by
  unfold txnAbort
  repeat' (first | (simp [k_tcam]; done) | split | dsimp only)
  all_goals first | rfl | (simp_all; done) | (simp [keep, k_tcam]; done) | grind [keep_modTcam, keep_clearMembers]

@[simp] theorem keep_txnApply {kp : Area → Bool} (k_regs : kp .regs = false) (k_tcam : kp .tcam = false) (k_host : kp .host = false) (s : State) : keep kp (txnApply s) = keep kp s := by
  unfold txnApply
  repeat' (first | (simp [k_regs, k_tcam, k_host]; done) | split | dsimp only)
  all_goals first | rfl | (simp_all; done) | (simp [keep, k_regs, k_tcam, k_host]; done) | grind [keep_raiseEv, keep_modTcam]

@[simp] theorem keep_txnIdle {kp : Area → Bool} (k_regs : kp .regs = false) (k_tcam : kp .tcam = false) (k_host : kp .host = false) (s : State) : keep kp (txnIdle s) = keep kp s := by
  unfold txnIdle
  repeat' (first | (simp [k_regs, k_tcam, k_host]; done) | split | dsimp only)
  all_goals first | rfl | (simp_all; done) | (simp [keep, k_regs, k_tcam, k_host]; done) | grind [keep_raiseEv, keep_modTcam, keep_clearMembers]

@[simp] theorem keep_tcamEntryOp {kp : Area → Bool} (k_tcam : kp .tcam = false) (ws : List Nat) (s : State) : keep kp (tcamEntryOp ws s).2 = keep kp s := by
  unfold tcamEntryOp
  repeat' (first | (simp [k_tcam]; done) | split | dsimp only)
  all_goals first | rfl | (simp_all; done) | (simp [keep, k_tcam]; done) | grind [keep_liftEntry, keep_modTcam, keep_setMember]

@[simp] theorem keep_tcamRegWrite {kp : Area → Bool} (k_regs : kp .regs = false) (k_tcam : kp .tcam = false) (k_host : kp .host = false) (r : Reg) (i : Nat) (v : Word) (s : State) : keep kp (tcamRegWrite r i v s) = keep kp s := by
  unfold tcamRegWrite
  repeat' (first | (simp [k_regs, k_tcam, k_host]; done) | split | dsimp only)
  all_goals first | rfl | (simp_all; done) | (simp [keep, k_regs, k_tcam, k_host]; done) | grind [keep_modTcam, keep_raiseEv]

end Sys2Proof.Machine
end

