-- ==== Sys2Proof/Laws/Keep/Loader.lean ====
section
/-! SUPPORT. Which parts of the state the operations of Machine/Loader.lean keep. -/

namespace Sys2Proof.Machine

set_option linter.all false

@[simp] theorem keep_loadProgram {kp : Area → Bool} (k_regs : kp .regs = false) (k_prog : kp .prog = false) (k_host : kp .host = false) (bs : List Byte) (s : State) : keep kp (loadProgram bs s).2 = keep kp s := by
  unfold loadProgram
  repeat' (first | (simp [k_regs, k_prog, k_host]; done) | split | dsimp only)
  all_goals first | rfl | (simp_all; done) | (simp [keep, k_regs, k_prog, k_host]; done) | grind [keep_raiseEv, keep_modProg]

end Sys2Proof.Machine
end

