-- ==== Sys2Proof/Laws/Keep/Hob.lean ====
section
/-! SUPPORT. Which parts of the state the operations of Machine/Hob.lean keep. -/

namespace Sys2Proof.Machine

set_option linter.all false

@[simp] theorem keep_putThread {kp : Area → Bool} (k_hob : kp .hob = false) (k_threads : kp .threads = false) (k : Nat) (th : Thread) (s : State) : keep kp (putThread k th s) = keep kp s := by
  unfold putThread
  repeat' (first | (simp [k_hob, k_threads]; done) | split | dsimp only)
  all_goals first | rfl | (simp_all; done) | (simp [keep, k_hob, k_threads]; done) | grind [keep_modHob]

@[simp] theorem keep_freeThread {kp : Area → Bool} (k_hob : kp .hob = false) (k_threads : kp .threads = false) (k : Nat) (s : State) : keep kp (freeThread k s) = keep kp s := by
  unfold freeThread
  repeat' (first | (simp [k_hob, k_threads]; done) | split | dsimp only)
  all_goals first | rfl | (simp_all; done) | (simp [keep, k_hob, k_threads]; done) | grind [keep_modHob]

@[simp] theorem keep_modFlight {kp : Area → Bool} (k_hob : kp .hob = false) (f : Nat) (g : Inflight → Inflight) (s : State) : keep kp (modFlight f g s) = keep kp s := by
  unfold modFlight
  repeat' (first | (simp [k_hob]; done) | split | dsimp only)
  all_goals first | rfl | (simp_all; done) | (simp [keep, k_hob]; done) | grind [keep_modHob]

@[simp] theorem keep_settleFlight {kp : Area → Bool} (k_hob : kp .hob = false) (f : Nat) (s : State) : keep kp (settleFlight f s) = keep kp s := by
  unfold settleFlight
  repeat' (first | (simp [k_hob]; done) | split | dsimp only)
  all_goals first | rfl | (simp_all; done) | (simp [keep, k_hob]; done) | grind [keep_modHob]

@[simp] theorem keep_countProgram {kp : Area → Bool} (k_egr : kp .egr = false) (fr : Inflight) (r : Result) (s : State) : keep kp (countProgram fr r s) = keep kp s := by
  unfold countProgram
  repeat' (first | (simp [k_egr]; done) | split | dsimp only)
  all_goals first | rfl | (simp_all; done) | (simp [keep, k_egr]; done) | grind [keep_countPair]

@[simp] theorem keep_endInvocation {kp : Area → Bool} (k_hob : kp .hob = false) (k_threads : kp .threads = false) (k_egr : kp .egr = false) (k : Nat) (fr : Inflight) (th : Thread) (r : Result) (s : State) : keep kp (endInvocation k fr th r s) = keep kp s := by
  unfold endInvocation
  repeat' (first | (simp [k_hob, k_threads, k_egr]; done) | split | dsimp only)
  all_goals first | rfl | (simp_all; done) | (simp [keep, k_hob, k_threads, k_egr]; done) | grind [keep_settleFlight, keep_modFlight, keep_passTurn, keep_freeThread, keep_whenB, keep_countProgram]

@[simp] theorem keep_faultInvocation {kp : Area → Bool} (k_regs : kp .regs = false) (k_prog : kp .prog = false) (k_hob : kp .hob = false) (k_threads : kp .threads = false) (k_egr : kp .egr = false) (k_host : kp .host = false) (k cause : Nat) (fr : Inflight) (th : Thread) (s : State) : keep kp (faultInvocation k cause fr th s) = keep kp s := by
  unfold faultInvocation
  repeat' (first | (simp [k_regs, k_prog, k_hob, k_threads, k_egr, k_host]; done) | split | dsimp only)
  all_goals first | rfl | (simp_all; done) | (simp [keep, k_regs, k_prog, k_hob, k_threads, k_egr, k_host]; done) | grind [keep_modProg, keep_regCount, keep_raiseLim, keep_endInvocation]

@[simp] theorem keep_settle {kp : Area → Bool} (k_regs : kp .regs = false) (k_prog : kp .prog = false) (k_hob : kp .hob = false) (k_threads : kp .threads = false) (k_egr : kp .egr = false) (k_host : kp .host = false) (key : Nat) (fr : Inflight) (r : State × Thread × Flow) : keep kp (settle key fr r) = keep kp r.1 := by
  unfold settle
  split <;> simp [k_regs, k_prog, k_hob, k_threads, k_egr, k_host]

@[simp] theorem keep_chargeCycles {kp : Area → Bool} (k_egr : kp .egr = false) (k w : Nat) (img : Image) (th : Thread) (s : State) : keep kp (chargeCycles k w img th s).1 = keep kp s := by
  unfold chargeCycles
  repeat' (first | (simp [k_egr]; done) | split | dsimp only)
  all_goals first | rfl | (simp_all; done) | (simp [keep, k_egr]; done) | grind [keep_modEgr]

@[simp] theorem keep_serveThread {kp : Area → Bool} (k_hob : kp .hob = false) (k_threads : kp .threads = false) (t : ThreadRef) (s : State) : keep kp (serveThread t s) = keep kp s := by
  unfold serveThread
  repeat' (first | (simp [k_hob, k_threads]; done) | split | dsimp only)
  all_goals first | rfl | (simp_all; done) | (simp [keep, k_hob, k_threads]; done) | grind [keep_modHob]

theorem keep_issue {kp : Area → Bool} (k_regs : kp .regs = false) (k_prog : kp .prog = false) (k_hob : kp .hob = false) (k_threads : kp .threads = false) (k_egr : kp .egr = false) (k_host : kp .host = false) (t : ThreadRef) (w : Nat) (gd : Guard) (other : Thread → Flow) (f : Eff) (s : State)
    (h : ∀ u img fr th, keep kp (f u img fr th).1 = keep kp u) : keep kp (issue t w gd other f s) = keep kp s := by
  unfold issue chargeCycles
  repeat' (first | (simp [h, k_regs, k_prog, k_hob, k_threads, k_egr, k_host]; done) | split | dsimp only)

theorem keep_issueN {kp : Area → Bool} (k_regs : kp .regs = false) (k_prog : kp .prog = false) (k_hob : kp .hob = false) (k_threads : kp .threads = false) (k_egr : kp .egr = false) (k_host : kp .host = false) (t : ThreadRef) (w : Nat) (gd : Guard) (f : Eff) (s : State)
    (h : ∀ u img fr th, keep kp (f u img fr th).1 = keep kp u) : keep kp (issueN t w gd f s) = keep kp s := by
  unfold issueN; apply keep_issue <;> assumption

@[simp] theorem keep_thrEff {kp : Area → Bool} (f : Inflight → Thread → Thread × Flow) (s : State) (img : Image) (fr : Inflight) (th : Thread) :
    keep kp (thrEff f s img fr th).1 = keep kp s := rfl

@[simp] theorem keep_regEff {kp : Area → Bool}  (dst : GReg) (v : Thread → DWord) (s : State) (img : Image) (fr : Inflight) (th : Thread) :
    keep kp (regEff dst v s img fr th).1 = keep kp s := by
  unfold regEff
  repeat' (first | rfl | (simp; done) | split | dsimp only)
  all_goals first | (simp_all; done) | grind [keep_thrEff]

@[simp] theorem keep_predEff {kp : Area → Bool}  (pd : PReg) (v : Thread → Bool) (s : State) (img : Image) (fr : Inflight) (th : Thread) :
    keep kp (predEff pd v s img fr th).1 = keep kp s := by
  unfold predEff
  repeat' (first | rfl | (simp; done) | split | dsimp only)
  all_goals first | (simp_all; done) | grind [keep_thrEff]

@[simp] theorem keep_issueA {kp : Area → Bool} (k_regs : kp .regs = false) (k_prog : kp .prog = false) (k_hob : kp .hob = false) (k_threads : kp .threads = false) (k_egr : kp .egr = false) (k_host : kp .host = false) (op : Nat) (t : ThreadRef) (gd : Guard) (dst a b : GReg) (f : DWord → DWord → DWord) (s : State) :
    keep kp (issueA op t gd dst a b f s) = keep kp s := by
  unfold issueA; apply keep_issueN <;> first | assumption | exact fun _ _ _ _ => rfl

@[simp] theorem keep_issueA1 {kp : Area → Bool} (k_regs : kp .regs = false) (k_prog : kp .prog = false) (k_hob : kp .hob = false) (k_threads : kp .threads = false) (k_egr : kp .egr = false) (k_host : kp .host = false) (op : Nat) (t : ThreadRef) (gd : Guard) (dst a : GReg) (f : DWord → DWord) (s : State) :
    keep kp (issueA1 op t gd dst a f s) = keep kp s := by
  unfold issueA1; apply keep_issueN <;> first | assumption | exact fun _ _ _ _ => rfl

@[simp] theorem keep_issueC {kp : Area → Bool} (k_regs : kp .regs = false) (k_prog : kp .prog = false) (k_hob : kp .hob = false) (k_threads : kp .threads = false) (k_egr : kp .egr = false) (k_host : kp .host = false) (op : Nat) (t : ThreadRef) (gd : Guard) (pd : PReg) (a b : GReg) (f : DWord → DWord → Bool) (s : State) :
    keep kp (issueC op t gd pd a b f s) = keep kp s := by
  unfold issueC; apply keep_issueN <;> first | assumption | exact fun _ _ _ _ => rfl

@[simp] theorem keep_issueP {kp : Area → Bool} (k_regs : kp .regs = false) (k_prog : kp .prog = false) (k_hob : kp .hob = false) (k_threads : kp .threads = false) (k_egr : kp .egr = false) (k_host : kp .host = false) (op : Nat) (t : ThreadRef) (gd : Guard) (pd pa pb : PReg) (f : Bool → Bool → Bool) (s : State) :
    keep kp (issueP op t gd pd pa pb f s) = keep kp s := by
  unfold issueP; apply keep_issueN <;> first | assumption | exact fun _ _ _ _ => rfl

@[simp] theorem keep_issueI {kp : Area → Bool} (k_regs : kp .regs = false) (k_prog : kp .prog = false) (k_hob : kp .hob = false) (k_threads : kp .threads = false) (k_egr : kp .egr = false) (k_host : kp .host = false) (op : Nat) (t : ThreadRef) (gd : Guard) (dst a : GReg) (imm : Word) (f : DWord → DWord) (s : State) :
    keep kp (issueI op t gd dst a imm f s) = keep kp s := by
  unfold issueI; apply keep_issueN <;> first | assumption | exact fun _ _ _ _ => rfl

@[simp] theorem keep_issueCI {kp : Area → Bool} (k_regs : kp .regs = false) (k_prog : kp .prog = false) (k_hob : kp .hob = false) (k_threads : kp .threads = false) (k_egr : kp .egr = false) (k_host : kp .host = false) (op : Nat) (t : ThreadRef) (gd : Guard) (pd : PReg) (a : GReg) (imm : Word) (f : DWord → Bool) (s : State) :
    keep kp (issueCI op t gd pd a imm f s) = keep kp s := by
  unfold issueCI; apply keep_issueN <;> first | assumption | exact fun _ _ _ _ => rfl

@[simp] theorem keep_loadEff {kp : Area → Bool}  (dst a : GReg) (sp : Space) (size : Fin 4) (off : Fin 65536) (s : State) (img : Image) (fr : Inflight) (th : Thread) :
    keep kp (loadEff dst a sp size off s img fr th).1 = keep kp s := by
  unfold loadEff
  repeat' (first | rfl | (simp; done) | split | dsimp only)
  all_goals first | (simp_all; done) | grind []

@[simp] theorem keep_storeEff {kp : Area → Bool} (k_regs : kp .regs = false) (k_tbl : kp .tbl = false) (a b : GReg) (sp : Space) (size : Fin 4) (off : Fin 65536) (s : State) (img : Image) (fr : Inflight) (th : Thread) :
    keep kp (storeEff a b sp size off s img fr th).1 = keep kp s := by
  unfold storeEff
  repeat' (first | rfl | (simp [k_regs, k_tbl]; done) | split | dsimp only)
  all_goals first | (simp_all; done) | grind [keep_writeHe, keep_cacheTouch]

@[simp] theorem keep_fextEff {kp : Area → Bool}  (dst a : GReg) (pos : Fin 8) (len : Fin 65) (boff : Fin 128) (s : State) (img : Image) (fr : Inflight) (th : Thread) :
    keep kp (fextEff dst a pos len boff s img fr th).1 = keep kp s := by
  unfold fextEff
  repeat' (first | rfl | (simp; done) | split | dsimp only)
  all_goals first | (simp_all; done) | grind [keep_thrEff]

@[simp] theorem keep_finsEff {kp : Area → Bool}  (a b : GReg) (pos : Fin 8) (len : Fin 65) (boff : Fin 128) (s : State) (img : Image) (fr : Inflight) (th : Thread) :
    keep kp (finsEff a b pos len boff s img fr th).1 = keep kp s := by
  unfold finsEff
  repeat' (first | rfl | (simp; done) | split | dsimp only)
  all_goals first | (simp_all; done) | grind [keep_thrEff]

@[simp] theorem keep_eccCorrected {kp : Area → Bool} (k_regs : kp .regs = false) (tbl : Nat) (s : State) : keep kp (eccCorrected tbl s) = keep kp s := by
  unfold eccCorrected
  repeat' (first | (simp [k_regs]; done) | split | dsimp only)
  all_goals first | rfl | (simp_all; done) | (simp [keep, k_regs]; done) | grind [keep_regCountN]

@[simp] theorem keep_lookupEcc {kp : Area → Bool} (k_regs : kp .regs = false) (k_tbl : kp .tbl = false) (k_tcam : kp .tcam = false) (k_twin : kp .twin = false) (k_host : kp .host = false) (k_out : kp .out = false) (entry : Option (Nat × Nat)) (ecc : EccResult) (s : State) : keep kp (lookupEcc entry ecc s) = keep kp s := by
  unfold lookupEcc
  repeat' (first | (simp [k_regs, k_tbl, k_tcam, k_twin, k_host, k_out]; done) | split | dsimp only)
  all_goals first | rfl | (simp_all; done) | (simp [keep, k_regs, k_tbl, k_tcam, k_twin, k_host, k_out]; done) | grind [keep_eccCorrected, keep_actionFault, keep_eccFault]

theorem keep_answerThread {kp : Area → Bool} (k_hob : kp .hob = false) (k_threads : kp .threads = false) (t : ThreadRef) (f : State → Image → Inflight → Thread → Option (State × Thread)) (s : State)
    (h : ∀ u img fr th r, f u img fr th = some r → keep kp r.1 = keep kp u) : keep kp (answerThread t f s) = keep kp s := by
  unfold answerThread
  repeat' (first | (simp [k_hob, k_threads]; done) | split | dsimp only)
  all_goals (simp [k_hob, k_threads]; exact h _ _ _ _ _ (by assumption))

@[simp] theorem keep_lookupEff {kp : Area → Bool}  (table keysel param : Nat) (dst a b : GReg) (pd : PReg) (s : State) (img : Image) (fr : Inflight) (th : Thread) :
    keep kp (lookupEff table keysel param dst a b pd s img fr th).1 = keep kp s := by
  unfold lookupEff
  repeat' (first | rfl | (simp; done) | split | dsimp only)
  all_goals first | (simp_all; done) | grind []

@[simp] theorem keep_discardRequest {kp : Area → Bool} (k_regs : kp .regs = false) (k_host : kp .host = false) (th : Thread) (s : State) : keep kp (discardRequest th s) = keep kp s := by
  unfold discardRequest
  repeat' (first | (simp [k_regs, k_host]; done) | split | dsimp only)
  all_goals first | rfl | (simp_all; done) | (simp [keep, k_regs, k_host]; done) | grind [keep_raiseLim, keep_regCount]

@[simp] theorem keep_pushEff {kp : Area → Bool}  (n : Nat) (a b : GReg) (o : Fin 128) (s : State) (img : Image) (fr : Inflight) (th : Thread) :
    keep kp (pushEff n a b o s img fr th).1 = keep kp s := by
  unfold pushEff
  repeat' (first | rfl | (simp; done) | split | dsimp only)
  all_goals first | (simp_all; done) | grind [keep_thrEff]

@[simp] theorem keep_popEff {kp : Area → Bool}  (n : Nat) (a : GReg) (o : Fin 128) (s : State) (img : Image) (fr : Inflight) (th : Thread) :
    keep kp (popEff n a o s img fr th).1 = keep kp s := by
  unfold popEff
  repeat' (first | rfl | (simp; done) | split | dsimp only)
  all_goals first | (simp_all; done) | grind [keep_thrEff]

@[simp] theorem keep_replaceEff {kp : Area → Bool}  (n : Nat) (a b : GReg) (o : Fin 128) (s : State) (img : Image) (fr : Inflight) (th : Thread) :
    keep kp (replaceEff n a b o s img fr th).1 = keep kp s := by
  unfold replaceEff
  repeat' (first | rfl | (simp; done) | split | dsimp only)
  all_goals first | (simp_all; done) | grind [keep_thrEff]

end Sys2Proof.Machine
end

