-- ==== Sys2Proof/Laws/Keep/Stove.lean ====
section
/-! SUPPORT. Which parts of the state the operations of Machine/Stove.lean keep. -/

namespace Sys2Proof.Machine

set_option linter.all false

@[simp] theorem keep_modStove {kp : Area → Bool} (k_hob : kp .hob = false) (i : Nat) (f : Stove → Stove) (s : State) : keep kp (modStove i f s) = keep kp s := by
  unfold modStove
  repeat' (first | (simp [k_hob]; done) | split | dsimp only)
  all_goals first | rfl | (simp_all; done) | (simp [keep, k_hob]; done) | grind [keep_modHob]

@[simp] theorem keep_modGroup {kp : Area → Bool} (k_hob : kp .hob = false) (g : Nat) (f : Group → Group) (s : State) : keep kp (modGroup g f s) = keep kp s := by
  unfold modGroup
  repeat' (first | (simp [k_hob]; done) | split | dsimp only)
  all_goals first | rfl | (simp_all; done) | (simp [keep, k_hob]; done) | grind [keep_modHob]

@[simp] theorem keep_putStove {kp : Area → Bool} (k_hob : kp .hob = false) (i : Nat) (st : StoveState) (s : State) : keep kp (putStove i st s) = keep kp s := by
  unfold putStove
  repeat' (first | (simp [k_hob]; done) | split | dsimp only)
  all_goals first | rfl | (simp_all; done) | (simp [keep, k_hob]; done) | grind [keep_modStove]

@[simp] theorem keep_noteStove {kp : Area → Bool} (k_regs : kp .regs = false) (k_host : kp .host = false) (i : Nat) (old : StoveState) (s : State) : keep kp (noteStove i old s) = keep kp s := by
  unfold noteStove
  repeat' (first | (simp [k_regs, k_host]; done) | split | dsimp only)
  all_goals first | rfl | (simp_all; done) | (simp [keep, k_regs, k_host]; done) | grind [keep_raiseEv]

@[simp] theorem keep_setStove {kp : Area → Bool} (k_regs : kp .regs = false) (k_hob : kp .hob = false) (k_host : kp .host = false) (i : Nat) (st : StoveState) (s : State) : keep kp (setStove i st s) = keep kp s := by
  unfold setStove
  repeat' (first | (simp [k_regs, k_hob, k_host]; done) | split | dsimp only)
  all_goals first | rfl | (simp_all; done) | (simp [keep, k_regs, k_hob, k_host]; done) | grind [keep_noteStove, keep_putStove]

@[simp] theorem keep_announceCapacity {kp : Area → Bool} (k_adm : kp .adm = false) (k_out : kp .out = false) (c : Nat × Nat) (e : Nat) (s : State) : keep kp (announceCapacity c e s) = keep kp s := by
  unfold announceCapacity
  repeat' (first | (simp [k_adm, k_out]; done) | split | dsimp only)
  all_goals first | rfl | (simp_all; done) | (simp [keep, k_adm, k_out]; done) | grind [keep_modAdm, keep_flueSend]

@[simp] theorem keep_noteCapacity {kp : Area → Bool} (k_adm : kp .adm = false) (k_out : kp .out = false) (s : State) : keep kp (noteCapacity s) = keep kp s := by
  unfold noteCapacity
  repeat' (first | (simp [k_adm, k_out]; done) | split | dsimp only)
  all_goals first | rfl | (simp_all; done) | (simp [keep, k_adm, k_out]; done) | grind [keep_announceCapacity]

@[simp] theorem setHome_threads (l t : Nat) (h : Hobs) : (setHome l t h).threads = h.threads := Eq.trans rfl rfl

@[simp] theorem setHome_hobNext (l t : Nat) (h : Hobs) : (setHome l t h).hobNext = h.hobNext := Eq.trans rfl rfl

@[simp] theorem rehomeLeaving_threads (l : List Nat) (cs : List (Nat × Nat)) (h : Hobs) : (rehomeLeaving l cs h).threads = h.threads := by
  induction l generalizing cs h with
  | nil => rfl
  | cons x xs ih => simp only [rehomeLeaving]; split <;> simp [ih]

@[simp] theorem rehomeLeaving_hobNext (l : List Nat) (cs : List (Nat × Nat)) (h : Hobs) : (rehomeLeaving l cs h).hobNext = h.hobNext := by
  induction l generalizing cs h with
  | nil => rfl
  | cons x xs ih => simp only [rehomeLeaving]; split <;> simp [ih]

@[simp] theorem rehomeEntering_threads (i n : Nat) (ls : List (Nat × List Nat)) (h : Hobs) : (rehomeEntering i n ls h).threads = h.threads := by
  induction n generalizing ls h with
  | zero => rfl
  | succ n ih => simp only [rehomeEntering]; split <;> simp [ih]

@[simp] theorem rehomeEntering_hobNext (i n : Nat) (ls : List (Nat × List Nat)) (h : Hobs) : (rehomeEntering i n ls h).hobNext = h.hobNext := by
  induction n generalizing ls h with
  | zero => rfl
  | succ n ih => simp only [rehomeEntering]; split <;> simp [ih]

@[simp] theorem keep_leaveHome {kp : Area → Bool} (k_hob : kp .hob = false) (cs : List Nat) (i : Nat) (s : State) : keep kp (leaveHome cs i s) = keep kp s := by
  unfold leaveHome
  repeat' (first | (simp [k_hob]; done) | split | dsimp only)
  all_goals first | rfl | (simp_all; done) | (simp [keep, k_hob]; done) | grind [keep_modHob, keep_rehomeLeaving]

@[simp] theorem keep_enterHome {kp : Area → Bool} (k_hob : kp .hob = false) (cs : List Nat) (i : Nat) (s : State) : keep kp (enterHome cs i s) = keep kp s := by
  unfold enterHome
  repeat' (first | (simp [k_hob]; done) | split | dsimp only)
  all_goals first | rfl | (simp_all; done) | (simp [keep, k_hob]; done) | grind [keep_modHob, keep_rehomeEntering]

@[simp] theorem keep_rehome {kp : Area → Bool} (k_hob : kp .hob = false) (k_tbl : kp .tbl = false) (before leave enter : List Nat) (s : State) : keep kp (rehome before leave enter s) = keep kp s := by
  unfold rehome
  repeat' (first | (simp [k_hob, k_tbl]; done) | split | dsimp only)
  all_goals first | rfl | (simp_all; done) | (simp [keep, k_hob, k_tbl]; done) | grind [keep_cacheReleaseMoved, keep_modHob, keep_forEach, keep_enterHome, keep_leaveHome]

@[simp] theorem keep_applySet {kp : Area → Bool} (k_regs : kp .regs = false) (k_adm : kp .adm = false) (k_hob : kp .hob = false) (k_tbl : kp .tbl = false) (k_host : kp .host = false) (k_out : kp .out = false) (marks : List (Nat × StoveState)) (s : State) : keep kp (applySet marks s) = keep kp s := by
  unfold applySet
  repeat' (first | (simp [k_regs, k_adm, k_hob, k_tbl, k_host, k_out]; done) | split | dsimp only)
  all_goals first | rfl | (simp_all; done) | (simp [keep, k_regs, k_adm, k_hob, k_tbl, k_host, k_out]; done) | grind [keep_forEach, keep_putStove, keep_noteStove, keep_rehome, keep_raiseEv, keep_noteCapacity]

@[simp] theorem keep_stoveDrainedStep {kp : Area → Bool} (k_regs : kp .regs = false) (k_adm : kp .adm = false) (k_hob : kp .hob = false) (k_tbl : kp .tbl = false) (k_host : kp .host = false) (k_out : kp .out = false) (i : Nat) (s : State) : keep kp (stoveDrainedStep i s) = keep kp s := by
  unfold stoveDrainedStep
  repeat' (first | (simp [k_regs, k_adm, k_hob, k_tbl, k_host, k_out]; done) | split | dsimp only)
  all_goals first | rfl | (simp_all; done) | (simp [keep, k_regs, k_adm, k_hob, k_tbl, k_host, k_out]; done) | grind [keep_setStove, keep_applySet]

@[simp] theorem keep_enterStove {kp : Area → Bool} (k_hob : kp .hob = false) (i f : Nat) (timer : Bool) (s : State) : keep kp (enterStove i f timer s) = keep kp s := by
  unfold enterStove
  repeat' (first | (simp [k_hob]; done) | split | dsimp only)
  all_goals first | rfl | (simp_all; done) | (simp [keep, k_hob]; done) | grind [keep_modStove]

@[simp] theorem keep_dispatchOne {kp : Area → Bool} (k_hob : kp .hob = false) (fr : Inflight) (s : State) : keep kp (dispatchOne fr s) = keep kp s := by
  unfold dispatchOne
  repeat' (first | (simp [k_hob]; done) | split | dsimp only)
  all_goals first | rfl | (simp_all; done) | (simp [keep, k_hob]; done) | grind [keep_modFlight, keep_enterStove, keep_modHob]

@[simp] theorem keep_dispatchDue {kp : Area → Bool} (k_hob : kp .hob = false) (s : State) : keep kp (dispatchDue s) = keep kp s := by
  unfold dispatchDue
  repeat' (first | (simp [k_hob]; done) | split | dsimp only)
  all_goals first | rfl | (simp_all; done) | (simp [keep, k_hob]; done) | grind [keep_forEach, keep_dispatchOne]

@[simp] theorem keep_dispatchWaiting {kp : Area → Bool} (k_hob : kp .hob = false) (s : State) : keep kp (dispatchWaiting s) = keep kp s := by
  unfold dispatchWaiting
  repeat' (first | (simp [k_hob]; done) | split | dsimp only)
  all_goals first | rfl | (simp_all; done) | (simp [keep, k_hob]; done) | grind [keep_enterStove, keep_modHob]

@[simp] theorem keep_startOn {kp : Area → Bool} (k_regs : kp .regs = false) (k_ports : kp .ports = false) (k_hob : kp .hob = false) (k_threads : kp .threads = false) (k_buf : kp .buf = false) (k_egr : kp .egr = false) (k_twin : kp .twin = false) (k_host : kp .host = false) (k_boot : kp .boot = false) (k_out : kp .out = false) (k f : Nat) (s : State) : keep kp (startOn k f s) = keep kp s := by
  unfold startOn
  repeat' (first | (simp [k_regs, k_ports, k_hob, k_threads, k_buf, k_egr, k_twin, k_host, k_boot, k_out]; done) | split | dsimp only)
  all_goals first | rfl | (simp_all; done) | (simp [keep, k_regs, k_ports, k_hob, k_threads, k_buf, k_egr, k_twin, k_host, k_boot, k_out]; done) | grind [keep_endInvocation, keep_putThread, keep_replicate]

@[simp] theorem keep_startNext {kp : Area → Bool} (k_regs : kp .regs = false) (k_ports : kp .ports = false) (k_hob : kp .hob = false) (k_threads : kp .threads = false) (k_buf : kp .buf = false) (k_egr : kp .egr = false) (k_twin : kp .twin = false) (k_host : kp .host = false) (k_boot : kp .boot = false) (k_out : kp .out = false) (t : ThreadRef) (s : State) : keep kp (startNext t s) = keep kp s := by
  unfold startNext
  repeat' (first | (simp [k_regs, k_ports, k_hob, k_threads, k_buf, k_egr, k_twin, k_host, k_boot, k_out]; done) | split | dsimp only)
  all_goals first | rfl | (simp_all; done) | (simp [keep, k_regs, k_ports, k_hob, k_threads, k_buf, k_egr, k_twin, k_host, k_boot, k_out]; done) | grind [keep_startOn, keep_modStove]

@[simp] theorem keep_stealNext {kp : Area → Bool} (k_regs : kp .regs = false) (k_ports : kp .ports = false) (k_hob : kp .hob = false) (k_threads : kp .threads = false) (k_buf : kp .buf = false) (k_egr : kp .egr = false) (k_twin : kp .twin = false) (k_host : kp .host = false) (k_boot : kp .boot = false) (k_out : kp .out = false) (t : ThreadRef) (s : State) : keep kp (stealNext t s) = keep kp s := by
  unfold stealNext
  repeat' (first | (simp [k_regs, k_ports, k_hob, k_threads, k_buf, k_egr, k_twin, k_host, k_boot, k_out]; done) | split | dsimp only)
  all_goals first | rfl | (simp_all; done) | (simp [keep, k_regs, k_ports, k_hob, k_threads, k_buf, k_egr, k_twin, k_host, k_boot, k_out]; done) | grind [keep_startOn, keep_regCount, keep_modStove]

@[simp] theorem keep_loseInvocation {kp : Area → Bool} (k_hob : kp .hob = false) (f : Nat) (s : State) : keep kp (loseInvocation f s) = keep kp s := by
  unfold loseInvocation
  repeat' (first | (simp [k_hob]; done) | split | dsimp only)
  all_goals first | rfl | (simp_all; done) | (simp [keep, k_hob]; done) | grind [keep_settleFlight, keep_modFlight, keep_passTurn]

@[simp] theorem keep_stoveFailure {kp : Area → Bool} (k_regs : kp .regs = false) (k_adm : kp .adm = false) (k_hob : kp .hob = false) (k_threads : kp .threads = false) (k_tbl : kp .tbl = false) (k_twin : kp .twin = false) (k_host : kp .host = false) (k_boot : kp .boot = false) (k_out : kp .out = false) (i : Nat) (s : State) : keep kp (stoveFailure i s) = keep kp s := by
  unfold stoveFailure
  repeat' (first | (simp [k_regs, k_adm, k_hob, k_threads, k_tbl, k_twin, k_host, k_boot, k_out]; done) | split | dsimp only)
  all_goals first | rfl | (simp_all; done) | (simp [keep, k_regs, k_adm, k_hob, k_threads, k_tbl, k_twin, k_host, k_boot, k_out]; done) | grind [keep_modHob, keep_modStove, keep_applySet, keep_addHealth, keep_cacheFlush, keep_forEach, keep_loseInvocation, keep_selfFault, keep_raiseEv]

@[simp] theorem keep_domainOff {kp : Area → Bool} (k_regs : kp .regs = false) (k_host : kp .host = false) (k_pwr : kp .pwr = false) (d : Nat) (s : State) : keep kp (domainOff d s) = keep kp s := by
  unfold domainOff
  repeat' (first | (simp [k_regs, k_host, k_pwr]; done) | split | dsimp only)
  all_goals first | rfl | (simp_all; done) | (simp [keep, k_regs, k_host, k_pwr]; done) | grind [keep_raiseEv, keep_modPwr]

@[simp] theorem keep_domainRequest {kp : Area → Bool} (k_pwr : kp .pwr = false) (d : Nat) (s : State) : keep kp (domainRequest d s) = keep kp s := by
  unfold domainRequest
  repeat' (first | (simp [k_pwr]; done) | split | dsimp only)
  all_goals first | rfl | (simp_all; done) | (simp [keep, k_pwr]; done) | grind [keep_modPwr]

@[simp] theorem keep_changeClock {kp : Area → Bool} (k_adm : kp .adm = false) (k_hob : kp .hob = false) (k_out : kp .out = false) (g : Nat) (s : State) : keep kp (changeClock g s) = keep kp s := by
  unfold changeClock
  repeat' (first | (simp [k_adm, k_hob, k_out]; done) | split | dsimp only)
  all_goals first | rfl | (simp_all; done) | (simp [keep, k_adm, k_hob, k_out]; done) | grind [keep_noteCapacity, keep_modGroup]

@[simp] theorem keep_clockSwitched {kp : Area → Bool} (k_regs : kp .regs = false) (k_adm : kp .adm = false) (k_hob : kp .hob = false) (k_host : kp .host = false) (k_out : kp .out = false) (g : Nat) (s : State) : keep kp (clockSwitched g s) = keep kp s := by
  unfold clockSwitched
  repeat' (first | (simp [k_regs, k_adm, k_hob, k_host, k_out]; done) | split | dsimp only)
  all_goals first | rfl | (simp_all; done) | (simp [keep, k_regs, k_adm, k_hob, k_host, k_out]; done) | grind [keep_noteCapacity, keep_raiseEv, keep_modGroup]

@[simp] theorem keep_parkBase {kp : Area → Bool} (k_regs : kp .regs = false) (k_adm : kp .adm = false) (k_hob : kp .hob = false) (k_tbl : kp .tbl = false) (k_host : kp .host = false) (k_pwr : kp .pwr = false) (k_out : kp .out = false) (g : Nat) (s : State) : keep kp (parkBase g s) = keep kp s := by
  unfold parkBase
  repeat' (first | (simp [k_regs, k_adm, k_hob, k_tbl, k_host, k_pwr, k_out]; done) | split | dsimp only)
  all_goals first | rfl | (simp_all; done) | (simp [keep, k_regs, k_adm, k_hob, k_tbl, k_host, k_pwr, k_out]; done) | grind [keep_applySet, keep_modGroup, keep_domainOff]

@[simp] theorem keep_parkGroup {kp : Area → Bool} (k_regs : kp .regs = false) (k_adm : kp .adm = false) (k_hob : kp .hob = false) (k_tbl : kp .tbl = false) (k_host : kp .host = false) (k_pwr : kp .pwr = false) (k_out : kp .out = false) (g : Nat) (s : State) : keep kp (parkGroup g s) = keep kp s := by
  unfold parkGroup
  repeat' (first | (simp [k_regs, k_adm, k_hob, k_tbl, k_host, k_pwr, k_out]; done) | split | dsimp only)
  all_goals first | rfl | (simp_all; done) | (simp [keep, k_regs, k_adm, k_hob, k_tbl, k_host, k_pwr, k_out]; done) | grind [keep_parkBase, keep_modPwr]

@[simp] theorem keep_groupOff {kp : Area → Bool} (k_regs : kp .regs = false) (k_hob : kp .hob = false) (k_tbl : kp .tbl = false) (k_host : kp .host = false) (k_pwr : kp .pwr = false) (g : Nat) (s : State) : keep kp (groupOff g s) = keep kp s := by
  unfold groupOff
  repeat' (first | (simp [k_regs, k_hob, k_tbl, k_host, k_pwr]; done) | split | dsimp only)
  all_goals first | rfl | (simp_all; done) | (simp [keep, k_regs, k_hob, k_tbl, k_host, k_pwr]; done) | grind [keep_forEach, keep_setStove, keep_cacheFlush, keep_domainOff, keep_modGroup]

@[simp] theorem keep_unparkGroup {kp : Area → Bool} (k_regs : kp .regs = false) (k_hob : kp .hob = false) (k_host : kp .host = false) (k_pwr : kp .pwr = false) (g : Nat) (s : State) : keep kp (unparkGroup g s) = keep kp s := by
  unfold unparkGroup
  repeat' (first | (simp [k_regs, k_hob, k_host, k_pwr]; done) | split | dsimp only)
  all_goals first | rfl | (simp_all; done) | (simp [keep, k_regs, k_hob, k_host, k_pwr]; done) | grind [keep_forEach, keep_setStove, keep_modGroup, keep_domainRequest]

@[simp] theorem keep_sweepLeave {kp : Area → Bool} (k_hob : kp .hob = false) (k_pwr : kp .pwr = false) (v : Option Visit) (s : State) : keep kp (sweepLeave v s).2 = keep kp s := by
  unfold sweepLeave
  repeat' (first | (simp [k_hob, k_pwr]; done) | split | dsimp only)
  all_goals first | rfl | (simp_all; done) | (simp [keep, k_hob, k_pwr]; done) | grind [keep_modPwr, keep_modGroup]

@[simp] theorem keep_groupEnters {kp : Area → Bool} (k_regs : kp .regs = false) (k_adm : kp .adm = false) (k_hob : kp .hob = false) (k_tbl : kp .tbl = false) (k_host : kp .host = false) (k_pwr : kp .pwr = false) (k_out : kp .out = false) (g : Nat) (s : State) : keep kp (groupEnters g s) = keep kp s := by
  unfold groupEnters
  repeat' (first | (simp [k_regs, k_adm, k_hob, k_tbl, k_host, k_pwr, k_out]; done) | split | dsimp only)
  all_goals first | rfl | (simp_all; done) | (simp [keep, k_regs, k_adm, k_hob, k_tbl, k_host, k_pwr, k_out]; done) | grind [keep_sweepLeave, keep_applySet, keep_modGroup]

@[simp] theorem keep_groupJoin {kp : Area → Bool} (k_regs : kp .regs = false) (k_adm : kp .adm = false) (k_hob : kp .hob = false) (k_tbl : kp .tbl = false) (k_host : kp .host = false) (k_pwr : kp .pwr = false) (k_out : kp .out = false) (g : Nat) (s : State) : keep kp (groupJoin g s) = keep kp s := by
  unfold groupJoin
  repeat' (first | (simp [k_regs, k_adm, k_hob, k_tbl, k_host, k_pwr, k_out]; done) | split | dsimp only)
  all_goals first | rfl | (simp_all; done) | (simp [keep, k_regs, k_adm, k_hob, k_tbl, k_host, k_pwr, k_out]; done) | grind [keep_groupEnters, keep_announceCapacity, keep_modGroup]

@[simp] theorem keep_groupCfgEffect {kp : Area → Bool} (k_regs : kp .regs = false) (k_adm : kp .adm = false) (k_hob : kp .hob = false) (k_tbl : kp .tbl = false) (k_host : kp .host = false) (k_pwr : kp .pwr = false) (k_out : kp .out = false) (g : Nat) (old : Word) (s : State) : keep kp (groupCfgEffect g old s) = keep kp s := by
  unfold groupCfgEffect
  repeat' (first | (simp [k_regs, k_adm, k_hob, k_tbl, k_host, k_pwr, k_out]; done) | split | dsimp only)
  all_goals first | rfl | (simp_all; done) | (simp [keep, k_regs, k_adm, k_hob, k_tbl, k_host, k_pwr, k_out]; done) | grind [keep_changeClock, keep_parkGroup, keep_unparkGroup]

@[simp] theorem keep_fireSlot {kp : Area → Bool} (k_regs : kp .regs = false) (k_adm : kp .adm = false) (k_hob : kp .hob = false) (k_buf : kp .buf = false) (k_egr : kp .egr = false) (k_twin : kp .twin = false) (k_host : kp .host = false) (k_boot : kp .boot = false) (k_out : kp .out = false) (n : Nat) (s : State) : keep kp (fireSlot n s) = keep kp s := by
  unfold fireSlot
  repeat' (first | (simp [k_regs, k_adm, k_hob, k_buf, k_egr, k_twin, k_host, k_boot, k_out]; done) | split | dsimp only)
  all_goals first | rfl | (simp_all; done) | (simp [keep, k_regs, k_adm, k_hob, k_buf, k_egr, k_twin, k_host, k_boot, k_out]; done) | grind [keep_takeCells, keep_modAdm, keep_returnCells, keep_storeFrame, keep_takeTurn, keep_modHob, keep_countDrop]

@[simp] theorem keep_fireSlots {kp : Area → Bool} (k_regs : kp .regs = false) (k_adm : kp .adm = false) (k_hob : kp .hob = false) (k_buf : kp .buf = false) (k_egr : kp .egr = false) (k_twin : kp .twin = false) (k_host : kp .host = false) (k_boot : kp .boot = false) (k_out : kp .out = false) (s : State) : keep kp (fireSlots s) = keep kp s := by
  unfold fireSlots
  repeat' (first | (simp [k_regs, k_adm, k_hob, k_buf, k_egr, k_twin, k_host, k_boot, k_out]; done) | split | dsimp only)
  all_goals first | rfl | (simp_all; done) | (simp [keep, k_regs, k_adm, k_hob, k_buf, k_egr, k_twin, k_host, k_boot, k_out]; done) | grind [keep_forEach, keep_fireSlot]

@[simp] theorem keep_activateImage {kp : Area → Bool} (k_regs : kp .regs = false) (k_adm : kp .adm = false) (k_prog : kp .prog = false) (k_egr : kp .egr = false) (k_host : kp .host = false) (img : Image) (s : State) : keep kp (activateImage img s) = keep kp s := by
  unfold activateImage
  repeat' (first | (simp [k_regs, k_adm, k_prog, k_egr, k_host]; done) | split | dsimp only)
  all_goals first | rfl | (simp_all; done) | (simp [keep, k_regs, k_adm, k_prog, k_egr, k_host]; done) | grind [keep_modProg, keep_modEgr, keep_raiseEv, keep_regSet, keep_rollProgramCounters, keep_modAdm]

@[simp] theorem keep_activationDue {kp : Area → Bool} (k_regs : kp .regs = false) (k_adm : kp .adm = false) (k_prog : kp .prog = false) (k_egr : kp .egr = false) (k_host : kp .host = false) (s : State) : keep kp (activationDue s) = keep kp s := by
  unfold activationDue
  repeat' (first | (simp [k_regs, k_adm, k_prog, k_egr, k_host]; done) | split | dsimp only)
  all_goals first | rfl | (simp_all; done) | (simp [keep, k_regs, k_adm, k_prog, k_egr, k_host]; done) | grind [keep_activateImage]

@[simp] theorem keep_freeOldImages {kp : Area → Bool} (k_prog : kp .prog = false) (s : State) : keep kp (freeOldImages s) = keep kp s := by
  unfold freeOldImages
  repeat' (first | (simp [k_prog]; done) | split | dsimp only)
  all_goals first | rfl | (simp_all; done) | (simp [keep, k_prog]; done) | grind [keep_modProg]

end Sys2Proof.Machine
end

