-- ==== Sys2Proof/Laws/Keep/Admission.lean ====
section
/-! SUPPORT. Which parts of the state the operations of Machine/Admission.lean keep. -/

namespace Sys2Proof.Machine

set_option linter.all false

@[simp] theorem keep_decideClean {kp : Area → Bool} (k_regs : kp .regs = false) (k_lanes : kp .lanes = false) (k_adm : kp .adm = false) (k_out : kp .out = false) (s : State) : keep kp (decideClean s) = keep kp s := by
  unfold decideClean
  repeat' (first | (simp [k_regs, k_lanes, k_adm, k_out]; done) | split | dsimp only)
  all_goals first | rfl | (simp_all; done) | (simp [keep, k_regs, k_lanes, k_adm, k_out]; done) | grind [keep_countUnclean, keep_modAdm, keep_flueSend]

@[simp] theorem keep_noteMissing {kp : Area → Bool} (k_regs : kp .regs = false) (k_adm : kp .adm = false) (k_host : kp .host = false) (k : Nat) (s : State) : keep kp (noteMissing k s) = keep kp s := by
  unfold noteMissing
  repeat' (first | (simp [k_regs, k_adm, k_host]; done) | split | dsimp only)
  all_goals first | rfl | (simp_all; done) | (simp [keep, k_regs, k_adm, k_host]; done) | grind [keep_raiseEv, keep_regCount, keep_modAdm]

@[simp] theorem keep_joinerLane {kp : Area → Bool} (k_twin : kp .twin = false) (k : Nat) (s : State) : keep kp (joinerLane k s) = keep kp s := by
  unfold joinerLane
  repeat' (first | (simp [k_twin]; done) | split | dsimp only)
  all_goals first | rfl | (simp_all; done) | (simp [keep, k_twin]; done) | grind [keep_failAttempt]

@[simp] theorem keep_holdBitmap {kp : Area → Bool} (k_adm : kp .adm = false) (k : Nat) (m : BitVec 512) (s : State) : keep kp (holdBitmap k m s) = keep kp s := by
  unfold holdBitmap
  repeat' (first | (simp [k_adm]; done) | split | dsimp only)
  all_goals first | rfl | (simp_all; done) | (simp [keep, k_adm]; done) | grind [keep_modAdm]

@[simp] theorem keep_relayFlush {kp : Area → Bool} (k_adm : kp .adm = false) (k_out : kp .out = false) (s : State) : keep kp (relayFlush s) = keep kp s := by
  unfold relayFlush
  repeat' (first | (simp [k_adm, k_out]; done) | split | dsimp only)
  all_goals first | rfl | (simp_all; done) | (simp [keep, k_adm, k_out]; done) | grind [keep_modAdm, keep_modOut]

@[simp] theorem keep_relayEndsSend {kp : Area → Bool} (k_regs : kp .regs = false) (k_adm : kp .adm = false) (k_host : kp .host = false) (k_out : kp .out = false) (s : State) : keep kp (relayEndsSend s) = keep kp s := by
  unfold relayEndsSend
  repeat' (first | (simp [k_regs, k_adm, k_host, k_out]; done) | split | dsimp only)
  all_goals first | rfl | (simp_all; done) | (simp [keep, k_regs, k_adm, k_host, k_out]; done) | grind [keep_forEach, keep_relayPut]

@[simp] theorem keep_relayForget {kp : Area → Bool} (k_adm : kp .adm = false) (key : Nat) (s : State) : keep kp (relayForget key s) = keep kp s := by
  unfold relayForget
  repeat' (first | (simp [k_adm]; done) | split | dsimp only)
  all_goals first | rfl | (simp_all; done) | (simp [keep, k_adm]; done) | grind [keep_modAdm]

@[simp] theorem keep_relayLeft {kp : Area → Bool} (k_adm : kp .adm = false) (p l key : Nat) (s : State) : keep kp (relayLeft p l key s) = keep kp s := by
  unfold relayLeft
  repeat' (first | (simp [k_adm]; done) | split | dsimp only)
  all_goals first | rfl | (simp_all; done) | (simp [keep, k_adm]; done) | grind [keep_modAdm]

@[simp] theorem keep_relayGap {kp : Area → Bool} (k_lanes : kp .lanes = false) (k_adm : kp .adm = false) (l key : Nat) (f : RelayFrame) (s : State) : keep kp (relayGap l key f s) = keep kp s := by
  unfold relayGap
  repeat' (first | (simp [k_lanes, k_adm]; done) | split | dsimp only)
  all_goals first | rfl | (simp_all; done) | (simp [keep, k_lanes, k_adm]; done) | grind [keep_relayForget, keep_addUnclean, keep_modAdm]

@[simp] theorem keep_relayReceive {kp : Area → Bool} (k_regs : kp .regs = false) (k_lanes : kp .lanes = false) (k_adm : kp .adm = false) (k_buf : kp .buf = false) (k_egr : kp .egr = false) (k_twin : kp .twin = false) (k_host : kp .host = false) (k_boot : kp .boot = false) (k_out : kp .out = false) (f : RelayFrame) (s0 : State) : keep kp (relayReceive f s0) = keep kp s0 := by
  unfold relayReceive
  repeat' (first | (simp [k_regs, k_lanes, k_adm, k_buf, k_egr, k_twin, k_host, k_boot, k_out]; done) | split | dsimp only)
  all_goals first | rfl | (simp_all; done) | (simp [keep, k_regs, k_lanes, k_adm, k_buf, k_egr, k_twin, k_host, k_boot, k_out]; done) | grind [keep_relayLeft, keep_relayGap, keep_relayForget, keep_takeCells, keep_noCell, keep_returnCells, keep_arrive, keep_modAdm]

@[simp] theorem keep_relayEnded {kp : Area → Bool} (k_adm : kp .adm = false) (l k : Nat) (s : State) : keep kp (relayEnded l k s) = keep kp s := by
  unfold relayEnded
  repeat' (first | (simp [k_adm]; done) | split | dsimp only)
  all_goals first | rfl | (simp_all; done) | (simp [keep, k_adm]; done) | grind [keep_modAdm]

@[simp] theorem keep_capacityStep {kp : Area → Bool} (k_regs : kp .regs = false) (k_adm : kp .adm = false) (k_host : kp .host = false) (s : State) : keep kp (capacityStep s) = keep kp s := by
  unfold capacityStep
  repeat' (first | (simp [k_regs, k_adm, k_host]; done) | split | dsimp only)
  all_goals first | rfl | (simp_all; done) | (simp [keep, k_regs, k_adm, k_host]; done) | grind [keep_modAdm, keep_forEach, keep_raiseEv]

@[simp] theorem keep_parseEvents {kp : Area → Bool} (k_regs : kp .regs = false) (k_host : kp .host = false) (p : Parse) (port : Nat) (s : State) : keep kp (parseEvents p port s) = keep kp s := by
  unfold parseEvents
  repeat' (first | (simp [k_regs, k_host]; done) | split | dsimp only)
  all_goals first | rfl | (simp_all; done) | (simp [keep, k_regs, k_host]; done) | grind [keep_raiseLim, keep_regSetFld]

@[simp] theorem keep_digestSeq {kp : Area → Bool} (k_twin : kp .twin = false) (r : Rx) (s : State) : keep kp (digestSeq r s).2 = keep kp s := by
  unfold digestSeq
  repeat' (first | (simp [k_twin]; done) | split | dsimp only)
  all_goals first | rfl | (simp_all; done) | (simp [keep, k_twin]; done) | grind [keep_modTwin]

@[simp] theorem keep_recordAdmit {kp : Area → Bool} (k_twin : kp .twin = false) (kind : Nat) (r : Rx) (s : State) : keep kp (recordAdmit kind r s) = keep kp s := by
  unfold recordAdmit
  repeat' (first | (simp [k_twin]; done) | split | dsimp only)
  all_goals first | rfl | (simp_all; done) | (simp [keep, k_twin]; done) | grind [keep_digestSeq, keep_recAdmit]

@[simp] theorem keep_dropArrived {kp : Area → Bool} (k_regs : kp .regs = false) (k_buf : kp .buf = false) (k_egr : kp .egr = false) (k_twin : kp .twin = false) (k_host : kp .host = false) (k_boot : kp .boot = false) (k_out : kp .out = false) (reason : Nat) (r : Rx) (s : State) : keep kp (dropArrived reason r s) = keep kp s := by
  unfold dropArrived
  repeat' (first | (simp [k_regs, k_buf, k_egr, k_twin, k_host, k_boot, k_out]; done) | split | dsimp only)
  all_goals first | rfl | (simp_all; done) | (simp [keep, k_regs, k_buf, k_egr, k_twin, k_host, k_boot, k_out]; done) | grind [keep_countDrop, keep_returnCells]

@[simp] theorem keep_noteInjDrop {kp : Area → Bool} (k_host : kp .host = false) (r : Rx) (reason : Nat) (s : State) : keep kp (noteInjDrop r reason s) = keep kp s := by
  unfold noteInjDrop
  repeat' (first | (simp [k_host]; done) | split | dsimp only)
  all_goals first | rfl | (simp_all; done) | (simp [keep, k_host]; done) | grind [keep_modHost]

@[simp] theorem keep_addFlight {kp : Area → Bool} (k_hob : kp .hob = false) (x : Inflight) (s : State) : keep kp (addFlight x s) = keep kp s := by
  unfold addFlight
  repeat' (first | (simp [k_hob]; done) | split | dsimp only)
  all_goals first | rfl | (simp_all; done) | (simp [keep, k_hob]; done) | grind [keep_modHob]

@[simp] theorem keep_keepAdmitted {kp : Area → Bool} (k_regs : kp .regs = false) (k_adm : kp .adm = false) (k_hob : kp .hob = false) (k_buf : kp .buf = false) (k_egr : kp .egr = false) (k_twin : kp .twin = false) (k_host : kp .host = false) (k_boot : kp .boot = false) (k_out : kp .out = false) (x : Inflight) (reason : Nat) (s : State) : keep kp (keepAdmitted x reason s) = keep kp s := by
  unfold keepAdmitted
  repeat' (first | (simp [k_regs, k_adm, k_hob, k_buf, k_egr, k_twin, k_host, k_boot, k_out]; done) | split | dsimp only)
  all_goals first | rfl | (simp_all; done) | (simp [keep, k_regs, k_adm, k_hob, k_buf, k_egr, k_twin, k_host, k_boot, k_out]; done) | grind [keep_modAdm, keep_storeFrame, keep_takeTurn, keep_addFlight, keep_modHob, keep_noteInjDrop, keep_countDrop]

@[simp] theorem keep_admitOne {kp : Area → Bool} (k_regs : kp .regs = false) (k_ports : kp .ports = false) (k_adm : kp .adm = false) (k_hob : kp .hob = false) (k_buf : kp .buf = false) (k_egr : kp .egr = false) (k_twin : kp .twin = false) (k_host : kp .host = false) (k_boot : kp .boot = false) (k_out : kp .out = false) (r0 : Rx) (s : State) : keep kp (admitOne r0 s) = keep kp s := by
  unfold admitOne
  repeat' (first | (simp [k_regs, k_ports, k_adm, k_hob, k_buf, k_egr, k_twin, k_host, k_boot, k_out]; done) | split | dsimp only)
  all_goals first | rfl | (simp_all; done) | (simp [keep, k_regs, k_ports, k_adm, k_hob, k_buf, k_egr, k_twin, k_host, k_boot, k_out]; done) | grind [keep_recordAdmit, keep_modAdm, keep_consumeControl, keep_returnCells, keep_keepAdmitted, keep_parseEvents]

@[simp] theorem keep_governorEvent {kp : Area → Bool} (k_regs : kp .regs = false) (k_adm : kp .adm = false) (k_host : kp .host = false) (n : Nat) (s : State) : keep kp (governorEvent n s) = keep kp s := by
  unfold governorEvent
  repeat' (first | (simp [k_regs, k_adm, k_host]; done) | split | dsimp only)
  all_goals first | rfl | (simp_all; done) | (simp [keep, k_regs, k_adm, k_host]; done) | grind [keep_modAdm, keep_modHost, keep_raiseLim, keep_regCount]

@[simp] theorem keep_noSlot {kp : Area → Bool} (k_regs : kp .regs = false) (k_twin : kp .twin = false) (k_host : kp .host = false) (k_out : kp .out = false) (n : Nat) (s : State) : keep kp (noSlot n s) = keep kp s := by
  unfold noSlot
  repeat' (first | (simp [k_regs, k_twin, k_host, k_out]; done) | split | dsimp only)
  all_goals first | rfl | (simp_all; done) | (simp [keep, k_regs, k_twin, k_host, k_out]; done) | grind [keep_selfFault, keep_raiseEv]

@[simp] theorem keep_governorDrop {kp : Area → Bool} (k_regs : kp .regs = false) (k_buf : kp .buf = false) (k_egr : kp .egr = false) (k_twin : kp .twin = false) (k_host : kp .host = false) (k_boot : kp .boot = false) (k_out : kp .out = false) (r : Rx) (s : State) : keep kp (governorDrop r s) = keep kp s := by
  unfold governorDrop
  repeat' (first | (simp [k_regs, k_buf, k_egr, k_twin, k_host, k_boot, k_out]; done) | split | dsimp only)
  all_goals first | rfl | (simp_all; done) | (simp [keep, k_regs, k_buf, k_egr, k_twin, k_host, k_boot, k_out]; done) | grind [keep_noteInjDrop, keep_dropArrived, keep_recordAdmit]

@[simp] theorem keep_admitStep {kp : Area → Bool} (k_regs : kp .regs = false) (k_ports : kp .ports = false) (k_adm : kp .adm = false) (k_hob : kp .hob = false) (k_buf : kp .buf = false) (k_egr : kp .egr = false) (k_twin : kp .twin = false) (k_host : kp .host = false) (k_boot : kp .boot = false) (k_out : kp .out = false) (s : State) : keep kp (admitStep s) = keep kp s := by
  unfold admitStep
  repeat' (first | (simp [k_regs, k_ports, k_adm, k_hob, k_buf, k_egr, k_twin, k_host, k_boot, k_out]; done) | split | dsimp only)
  all_goals first | rfl | (simp_all; done) | (simp [keep, k_regs, k_ports, k_adm, k_hob, k_buf, k_egr, k_twin, k_host, k_boot, k_out]; done) | grind [keep_modAdm, keep_forEach, keep_noteInjDrop, keep_dropArrived, keep_joinerLane, keep_noteMissing, keep_noSlot, keep_governorEvent, keep_governorDrop, keep_admitOne]

@[simp] theorem keep_conflictStep {kp : Area → Bool} (k_regs : kp .regs = false) (k_hob : kp .hob = false) (k_buf : kp .buf = false) (k_egr : kp .egr = false) (k_twin : kp .twin = false) (k_host : kp .host = false) (k_boot : kp .boot = false) (k_out : kp .out = false) (s : State) : keep kp (conflictStep s) = keep kp s := by
  unfold conflictStep
  repeat' (first | (simp [k_regs, k_hob, k_buf, k_egr, k_twin, k_host, k_boot, k_out]; done) | split | dsimp only)
  all_goals first | rfl | (simp_all; done) | (simp [keep, k_regs, k_hob, k_buf, k_egr, k_twin, k_host, k_boot, k_out]; done) | grind [keep_forEach, keep_settleFlight, keep_modFlight, keep_unrefFrame, keep_noteInjDrop, keep_countDrop]

end Sys2Proof.Machine
end

