-- ==== Sys2Proof/Laws/Keep/Egress.lean ====
section
/-! SUPPORT. Which parts of the state the operations of Machine/Egress.lean keep. -/

namespace Sys2Proof.Machine

set_option linter.all false

@[simp] theorem keep_modMeter {kp : Area → Bool} (k_egr : kp .egr = false) (m : Nat) (f : Meter → Meter) (s : State) : keep kp (modMeter m f s) = keep kp s := by
  unfold modMeter
  repeat' (first | (simp [k_egr]; done) | split | dsimp only)
  all_goals first | rfl | (simp_all; done) | (simp [keep, k_egr]; done) | grind [keep_modEgr]

@[simp] theorem keep_meterComplete {kp : Area → Bool} (k_writes : kp .writes = false) (k_egr : kp .egr = false) (k_twin : kp .twin = false) (k_host : kp .host = false) (m : Nat) (s : State) : keep kp (meterComplete m s) = keep kp s := by
  unfold meterComplete
  repeat' (first | (simp [k_writes, k_egr, k_twin, k_host]; done) | split | dsimp only)
  all_goals first | rfl | (simp_all; done) | (simp [keep, k_writes, k_egr, k_twin, k_host]; done) | grind [keep_forEach, keep_finishWrite, keep_modMeter]

@[simp] theorem keep_meterWrites {kp : Area → Bool} (k_writes : kp .writes = false) (k_egr : kp .egr = false) (k_twin : kp .twin = false) (k_host : kp .host = false) (m : Nat) (s : State) : keep kp (meterWrites m s) = keep kp s := by
  unfold meterWrites
  repeat' (first | (simp [k_writes, k_egr, k_twin, k_host]; done) | split | dsimp only)
  all_goals first | rfl | (simp_all; done) | (simp [keep, k_writes, k_egr, k_twin, k_host]; done) | grind [keep_meterComplete]

@[simp] theorem keep_meterWritesDue {kp : Area → Bool} (k_writes : kp .writes = false) (k_egr : kp .egr = false) (k_twin : kp .twin = false) (k_host : kp .host = false) (s : State) : keep kp (meterWritesDue s) = keep kp s := by
  unfold meterWritesDue
  repeat' (first | (simp [k_writes, k_egr, k_twin, k_host]; done) | split | dsimp only)
  all_goals first | rfl | (simp_all; done) | (simp [keep, k_writes, k_egr, k_twin, k_host]; done) | grind [keep_forEach, keep_meterWrites]

@[simp] theorem keep_meterReach {kp : Area → Bool} (k_egr : kp .egr = false) (m e ord d0 d1 d2 : Nat) (s : State) : keep kp (meterReach m e ord d0 d1 d2 s) = keep kp s := by
  unfold meterReach
  repeat' (first | (simp [k_egr]; done) | split | dsimp only)
  all_goals first | rfl | (simp_all; done) | (simp [keep, k_egr]; done) | grind [keep_modMeter]

@[simp] theorem keep_meterRequest {kp : Area → Bool} (k_writes : kp .writes = false) (k_egr : kp .egr = false) (k_twin : kp .twin = false) (k_host : kp .host = false) (adm len : Nat) (q : Nat × Nat) (s : State) : keep kp (meterRequest adm len q s).2 = keep kp s := by
  unfold meterRequest
  repeat' (first | (simp [k_writes, k_egr, k_twin, k_host]; done) | split | dsimp only)
  all_goals first | rfl | (simp_all; done) | (simp [keep, k_writes, k_egr, k_twin, k_host]; done) | grind [keep_meterComplete, keep_countPair, keep_modMeter]

@[simp] theorem keep_colourFrame {kp : Area → Bool} (k_writes : kp .writes = false) (k_egr : kp .egr = false) (k_twin : kp .twin = false) (k_host : kp .host = false) (adm len : Nat) (v0 : List (Nat × Nat)) (v1 : Colouring) (s : State) : keep kp (colourFrame adm len v0 v1 s).2 = keep kp s := by
  induction v0 generalizing v1 s with
  | nil => first | rfl | simp [colourFrame, k_writes, k_egr, k_twin, k_host]
  | cons x v0 ih =>
    unfold colourFrame
    repeat' (first | (simp [ih, k_writes, k_egr, k_twin, k_host]; done) | split | dsimp only)
    all_goals first | rfl | (simp_all; done) | grind [keep_meterRequest]

@[simp] theorem keep_modSession {kp : Area → Bool} (k_egr : kp .egr = false) (m : Nat) (f : MirSession → MirSession) (s : State) : keep kp (modSession m f s) = keep kp s := by
  unfold modSession
  repeat' (first | (simp [k_egr]; done) | split | dsimp only)
  all_goals first | rfl | (simp_all; done) | (simp [keep, k_egr]; done) | grind [keep_modEgr]

@[simp] theorem keep_mirrorDropEvent {kp : Area → Bool} (k_regs : kp .regs = false) (k_host : kp .host = false) (m reason : Nat) (s : State) : keep kp (mirrorDropEvent m reason s) = keep kp s := by
  unfold mirrorDropEvent
  repeat' (first | (simp [k_regs, k_host]; done) | split | dsimp only)
  all_goals first | rfl | (simp_all; done) | (simp [keep, k_regs, k_host]; done) | grind [keep_raiseLim]

@[simp] theorem keep_mirrorSample {kp : Area → Bool} (k_egr : kp .egr = false) (m : Nat) (s : State) : keep kp (mirrorSample m s).2 = keep kp s := by
  unfold mirrorSample
  repeat' (first | (simp [k_egr]; done) | split | dsimp only)
  all_goals first | rfl | (simp_all; done) | (simp [keep, k_egr]; done) | grind [keep_modSession]

@[simp] theorem keep_mirrorCandidate {kp : Area → Bool} (k_regs : kp .regs = false) (k_ports : kp .ports = false) (k_buf : kp .buf = false) (k_egr : kp .egr = false) (k_twin : kp .twin = false) (k_host : kp .host = false) (k_boot : kp .boot = false) (k_out : kp .out = false) (m f : Nat) (body : List Byte) (len port queue stamp : Nat) (s : State) : keep kp (mirrorCandidate m f body len port queue stamp s) = keep kp s := by
  unfold mirrorCandidate
  repeat' (first | (simp [k_regs, k_ports, k_buf, k_egr, k_twin, k_host, k_boot, k_out]; done) | split | dsimp only)
  all_goals first | rfl | (simp_all; done) | (simp [keep, k_regs, k_ports, k_buf, k_egr, k_twin, k_host, k_boot, k_out]; done) | grind [keep_unrefFrame, keep_mirrorSample, keep_placeOther, keep_countPair, keep_modSession, keep_mirrorDropEvent]

@[simp] theorem keep_modSched {kp : Area → Bool} (k_egr : kp .egr = false) (p : Nat) (f : Sched → Sched) (s : State) : keep kp (modSched p f s) = keep kp s := by
  unfold modSched
  repeat' (first | (simp [k_egr]; done) | split | dsimp only)
  all_goals first | rfl | (simp_all; done) | (simp [keep, k_egr]; done) | grind [keep_modEgr]

@[simp] theorem keep_schedGain {kp : Area → Bool} (k_egr : kp .egr = false) (p : Nat) (s : State) : keep kp (schedGain p s) = keep kp s := by
  unfold schedGain
  repeat' (first | (simp [k_egr]; done) | split | dsimp only)
  all_goals first | rfl | (simp_all; done) | (simp [keep, k_egr]; done) | grind [keep_modSched]

@[simp] theorem keep_fillShaper {kp : Area → Bool} (k_egr : kp .egr = false) (p : Nat) (s : State) : keep kp (fillShaper p s) = keep kp s := by
  unfold fillShaper
  repeat' (first | (simp [k_egr]; done) | split | dsimp only)
  all_goals first | rfl | (simp_all; done) | (simp [keep, k_egr]; done) | grind [keep_modSched]

@[simp] theorem keep_fillMin {kp : Area → Bool} (k_egr : kp .egr = false) (q : Nat) (s : State) : keep kp (fillMin q s) = keep kp s := by
  unfold fillMin
  repeat' (first | (simp [k_egr]; done) | split | dsimp only)
  all_goals first | rfl | (simp_all; done) | (simp [keep, k_egr]; done) | grind [keep_modSched]

@[simp] theorem keep_fillMax {kp : Area → Bool} (k_egr : kp .egr = false) (q : Nat) (s : State) : keep kp (fillMax q s) = keep kp s := by
  unfold fillMax
  repeat' (first | (simp [k_egr]; done) | split | dsimp only)
  all_goals first | rfl | (simp_all; done) | (simp [keep, k_egr]; done) | grind [keep_modSched]

@[simp] theorem keep_selectQueue {kp : Area → Bool} (k_egr : kp .egr = false) (p : Nat) (s : State) : keep kp (selectQueue p s).2 = keep kp s := by
  unfold selectQueue
  repeat' (first | (simp [k_egr]; done) | split | dsimp only)
  all_goals first | rfl | (simp_all; done) | (simp [keep, k_egr]; done) | grind [keep_modSched]

@[simp] theorem keep_chargePort {kp : Area → Bool} (k_egr : kp .egr = false) (p w : Nat) (s : State) : keep kp (chargePort p w s) = keep kp s := by
  unfold chargePort
  repeat' (first | (simp [k_egr]; done) | split | dsimp only)
  all_goals first | rfl | (simp_all; done) | (simp [keep, k_egr]; done) | grind [keep_modSched]

@[simp] theorem keep_chargeQueue {kp : Area → Bool} (k_egr : kp .egr = false) (p u w : Nat) (drr : Bool) (s : State) : keep kp (chargeQueue p u w drr s) = keep kp s := by
  unfold chargeQueue
  repeat' (first | (simp [k_egr]; done) | split | dsimp only)
  all_goals first | rfl | (simp_all; done) | (simp [keep, k_egr]; done) | grind [keep_modSched]

@[simp] theorem keep_editEvent {kp : Area → Bool} (k_regs : kp .regs = false) (k_host : kp .host = false) (p inPort reason len : Nat) (s : State) : keep kp (editEvent p inPort reason len s) = keep kp s := by
  unfold editEvent
  repeat' (first | (simp [k_regs, k_host]; done) | split | dsimp only)
  all_goals first | rfl | (simp_all; done) | (simp [keep, k_regs, k_host]; done) | grind [keep_raiseLim]

@[simp] theorem keep_grantSeq {kp : Area → Bool} (k_lanes : kp .lanes = false) (k_twin : kp .twin = false) (p : Nat) (s : State) : keep kp (grantSeq p s).2 = keep kp s := by
  unfold grantSeq
  repeat' (first | (simp [k_lanes, k_twin]; done) | split | dsimp only)
  all_goals first | rfl | (simp_all; done) | (simp [keep, k_lanes, k_twin]; done) | grind [keep_takeEseq, keep_modTwin]

@[simp] theorem keep_decayAtGrant {kp : Area → Bool} (k_ports : kp .ports = false) (p : Nat) (s : State) : keep kp (decayAtGrant p s) = keep kp s := by
  unfold decayAtGrant
  repeat' (first | (simp [k_ports]; done) | split | dsimp only)
  all_goals first | rfl | (simp_all; done) | (simp [keep, k_ports]; done) | grind [keep_ctDecay, keep_countDecay]

@[simp] theorem keep_toMac {kp : Area → Bool} (k_ports : kp .ports = false) (k_egr : kp .egr = false) (p : Nat) (f : TxFrame) (s : State) : keep kp (toMac p f s) = keep kp s := by
  unfold toMac
  repeat' (first | (simp [k_ports, k_egr]; done) | split | dsimp only)
  all_goals first | rfl | (simp_all; done) | (simp [keep, k_ports, k_egr]; done) | grind [keep_decayAtGrant, keep_modPort, keep_countSent]

@[simp] theorem keep_grantPlaceholder {kp : Area → Bool} (k_regs : kp .regs = false) (k_lanes : kp .lanes = false) (k_ports : kp .ports = false) (k_buf : kp .buf = false) (k_egr : kp .egr = false) (k_twin : kp .twin = false) (k_host : kp .host = false) (k_boot : kp .boot = false) (k_out : kp .out = false) (p u q : Nat) (c : Copy) (slot : Bool) (s : State) : keep kp (grantPlaceholder p u q c slot s) = keep kp s := by
  unfold grantPlaceholder
  repeat' (first | (simp [k_regs, k_lanes, k_ports, k_buf, k_egr, k_twin, k_host, k_boot, k_out]; done) | split | dsimp only)
  all_goals first | rfl | (simp_all; done) | (simp [keep, k_regs, k_lanes, k_ports, k_buf, k_egr, k_twin, k_host, k_boot, k_out]; done) | grind [keep_grantSeq, keep_countPair, keep_recGrant, keep_toMac, keep_releaseCopy]

@[simp] theorem keep_grantHead {kp : Area → Bool} (k_regs : kp .regs = false) (k_lanes : kp .lanes = false) (k_ports : kp .ports = false) (k_buf : kp .buf = false) (k_egr : kp .egr = false) (k_twin : kp .twin = false) (k_time : kp .time = false) (k_host : kp .host = false) (k_boot : kp .boot = false) (k_out : kp .out = false) (p u : Nat) (drr : Bool) (s : State) : keep kp (grantHead p u drr s).2 = keep kp s := by
  unfold grantHead
  repeat' (first | (simp [k_regs, k_lanes, k_ports, k_buf, k_egr, k_twin, k_time, k_host, k_boot, k_out]; done) | split | dsimp only)
  all_goals first | rfl | (simp_all; done) | (simp [keep, k_regs, k_lanes, k_ports, k_buf, k_egr, k_twin, k_time, k_host, k_boot, k_out]; done) | grind [keep_modQueue, keep_grantPlaceholder, keep_chargeQueue, keep_chargePort, keep_releaseCopy, keep_editEvent, keep_dropLinked, keep_grantSeq, keep_tsGrant, keep_countPair, keep_recGrant, keep_forEach, keep_mirrorCandidate, keep_toMac]

@[simp] theorem keep_grantSlot {kp : Area → Bool} (k_regs : kp .regs = false) (k_lanes : kp .lanes = false) (k_ports : kp .ports = false) (k_buf : kp .buf = false) (k_egr : kp .egr = false) (k_twin : kp .twin = false) (k_host : kp .host = false) (k_boot : kp .boot = false) (k_out : kp .out = false) (p : Nat) (s : State) : keep kp (grantSlot p s).2 = keep kp s := by
  unfold grantSlot
  repeat' (first | (simp [k_regs, k_lanes, k_ports, k_buf, k_egr, k_twin, k_host, k_boot, k_out]; done) | split | dsimp only)
  all_goals first | rfl | (simp_all; done) | (simp [keep, k_regs, k_lanes, k_ports, k_buf, k_egr, k_twin, k_host, k_boot, k_out]; done) | grind [keep_modSched, keep_grantPlaceholder, keep_chargePort, keep_mirrorDropEvent, keep_editEvent, keep_dropLinked, keep_grantSeq, keep_countPair, keep_recGrant, keep_toMac, keep_releaseCopy]

@[simp] theorem keep_grantPort {kp : Area → Bool} (k_regs : kp .regs = false) (k_lanes : kp .lanes = false) (k_ports : kp .ports = false) (k_buf : kp .buf = false) (k_egr : kp .egr = false) (k_twin : kp .twin = false) (k_time : kp .time = false) (k_host : kp .host = false) (k_boot : kp .boot = false) (k_out : kp .out = false) (p : Nat) (v0 : Nat) (s : State) : keep kp (grantPort p v0 s) = keep kp s := by
  induction v0 generalizing s with
  | zero => first | rfl | simp [grantPort, k_regs, k_lanes, k_ports, k_buf, k_egr, k_twin, k_time, k_host, k_boot, k_out]
  | succ v0 ih =>
    unfold grantPort
    repeat' (first | (simp [ih, k_regs, k_lanes, k_ports, k_buf, k_egr, k_twin, k_time, k_host, k_boot, k_out]; done) | split | dsimp only)
    all_goals first | rfl | (simp_all; done) | grind [keep_selectQueue, keep_grantHead, keep_grantSlot]

@[simp] theorem keep_gainStep {kp : Area → Bool} (k_egr : kp .egr = false) (s : State) : keep kp (gainStep s) = keep kp s := by
  unfold gainStep
  repeat' (first | (simp [k_egr]; done) | split | dsimp only)
  all_goals first | rfl | (simp_all; done) | (simp [keep, k_egr]; done) | grind [keep_forEach, keep_schedGain]

@[simp] theorem keep_grantStep {kp : Area → Bool} (k_regs : kp .regs = false) (k_lanes : kp .lanes = false) (k_ports : kp .ports = false) (k_buf : kp .buf = false) (k_egr : kp .egr = false) (k_twin : kp .twin = false) (k_time : kp .time = false) (k_host : kp .host = false) (k_boot : kp .boot = false) (k_out : kp .out = false) (s : State) : keep kp (grantStep s) = keep kp s := by
  unfold grantStep
  repeat' (first | (simp [k_regs, k_lanes, k_ports, k_buf, k_egr, k_twin, k_time, k_host, k_boot, k_out]; done) | split | dsimp only)
  all_goals first | rfl | (simp_all; done) | (simp [keep, k_regs, k_lanes, k_ports, k_buf, k_egr, k_twin, k_time, k_host, k_boot, k_out]; done) | grind [keep_forEach, keep_grantPort]

@[simp] theorem keep_mirrorTake {kp : Area → Bool} (k_buf : kp .buf = false) (k_egr : kp .egr = false) (m : Nat) (s : State) : keep kp (mirrorTake m s).2 = keep kp s := by
  unfold mirrorTake
  repeat' (first | (simp [k_buf, k_egr]; done) | split | dsimp only)
  all_goals first | rfl | (simp_all; done) | (simp [keep, k_buf, k_egr]; done) | grind [keep_modEgr, keep_modSched, keep_modQueue]

@[simp] theorem keep_mirrorTakes {kp : Area → Bool} (k_buf : kp .buf = false) (k_egr : kp .egr = false)  (v0 : Nat) (s : State) : keep kp (mirrorTakes v0 s) = keep kp s := by
  induction v0 generalizing s with
  | zero => first | rfl | simp [mirrorTakes, k_buf, k_egr]
  | succ v0 ih =>
    unfold mirrorTakes
    repeat' (first | (simp [ih, k_buf, k_egr]; done) | split | dsimp only)
    all_goals first | rfl | (simp_all; done) | grind [keep_mirrorTake]

@[simp] theorem keep_recircTakes {kp : Area → Bool} (k_regs : kp .regs = false) (k_lanes : kp .lanes = false) (k_adm : kp .adm = false) (k_buf : kp .buf = false) (k_egr : kp .egr = false) (k_twin : kp .twin = false) (k_host : kp .host = false) (k_boot : kp .boot = false) (k_out : kp .out = false)  (v0 : Nat) (s : State) : keep kp (recircTakes v0 s) = keep kp s := by
  induction v0 generalizing s with
  | zero => first | rfl | simp [recircTakes, k_regs, k_lanes, k_adm, k_buf, k_egr, k_twin, k_host, k_boot, k_out]
  | succ v0 ih =>
    unfold recircTakes
    repeat' (first | (simp [ih, k_regs, k_lanes, k_adm, k_buf, k_egr, k_twin, k_host, k_boot, k_out]; done) | split | dsimp only)
    all_goals first | rfl | (simp_all; done) | grind [keep_modQueue, keep_modBuf, keep_countPair, keep_releaseCopy, keep_editEvent, keep_dropLinked, keep_takeCells, keep_noCell, keep_returnCells, keep_modAdm]

@[simp] theorem keep_recircStep {kp : Area → Bool} (k_regs : kp .regs = false) (k_lanes : kp .lanes = false) (k_adm : kp .adm = false) (k_buf : kp .buf = false) (k_egr : kp .egr = false) (k_twin : kp .twin = false) (k_host : kp .host = false) (k_boot : kp .boot = false) (k_out : kp .out = false) (s : State) : keep kp (recircStep s) = keep kp s := by
  unfold recircStep
  refine (keep_forEach _ _ _ fun r t => ?_).trans ?_
  · refine (keep_forEach _ _ _ fun c u => ?_).trans ?_
    · apply keep_dropLinked <;> assumption
    · apply keep_modQueue; assumption
  · exact Eq.trans (by apply keep_recircTakes <;> assumption) (keep_modBuf (by assumption) _ _)

@[simp] theorem keep_bankEnergy {kp : Area → Bool} (k_egr : kp .egr = false) (k e : Nat) (s : State) : keep kp (bankEnergy k e s) = keep kp s := by
  unfold bankEnergy
  repeat' (first | (simp [k_egr]; done) | split | dsimp only)
  all_goals first | rfl | (simp_all; done) | (simp [keep, k_egr]; done) | grind [keep_forEach, keep_countAt]

@[simp] theorem keep_groupEnergy {kp : Area → Bool} (k_egr : kp .egr = false) (g e : Nat) (s : State) : keep kp (groupEnergy g e s) = keep kp s := by
  unfold groupEnergy
  repeat' (first | (simp [k_egr]; done) | split | dsimp only)
  all_goals first | rfl | (simp_all; done) | (simp [keep, k_egr]; done) | grind [keep_countAt, keep_forEach]

@[simp] theorem keep_energyInterval {kp : Area → Bool} (k_egr : kp .egr = false) (k_pwr : kp .pwr = false) (nj : List Nat) (s : State) : keep kp (energyInterval nj s) = keep kp s := by
  unfold energyInterval
  split
  · rfl
  · rw [keep_applyCounts (by assumption), keep_modEgr (by assumption)]
    refine (keep_forEach _ _ _ fun d u => keep_modPwr (by assumption) _ u).trans ?_
    refine (keep_forEach _ _ _ fun g u => keep_groupEnergy (by assumption) g _ u).trans ?_
    exact keep_forEach _ _ _ fun n u => keep_bankEnergy (by assumption) n _ u

end Sys2Proof.Machine
end

