-- ==== Sys2Proof/Laws/Keep/Retire.lean ====
section
/-! SUPPORT. Which parts of the state the operations of Machine/Retire.lean keep. -/

namespace Sys2Proof.Machine

set_option linter.all false

@[simp] theorem keep_resultArrives {kp : Area → Bool} (k_hob : kp .hob = false) (f : Nat) (s : State) : keep kp (resultArrives f s) = keep kp s := by
  unfold resultArrives
  repeat' (first | (simp [k_hob]; done) | split | dsimp only)
  all_goals first | rfl | (simp_all; done) | (simp [keep, k_hob]; done) | grind [keep_modFlight]

@[simp] theorem keep_lateFiring {kp : Area → Bool} (k_regs : kp .regs = false) (k_host : kp .host = false) (x : Inflight) (s : State) : keep kp (lateFiring x s) = keep kp s := by
  unfold lateFiring
  repeat' (first | (simp [k_regs, k_host]; done) | split | dsimp only)
  all_goals first | rfl | (simp_all; done) | (simp [keep, k_regs, k_host]; done) | grind [keep_raiseEv]

@[simp] theorem keep_lateCutoff {kp : Area → Bool} (k_regs : kp .regs = false) (k_hob : kp .hob = false) (k_host : kp .host = false) (k_out : kp .out = false) (s : State) : keep kp (lateCutoff s) = keep kp s := by
  unfold lateCutoff
  repeat' (first | (simp [k_regs, k_hob, k_host, k_out]; done) | split | dsimp only)
  all_goals first | rfl | (simp_all; done) | (simp [keep, k_regs, k_hob, k_host, k_out]; done) | grind [keep_forEach, keep_lateFiring, keep_raiseLim, keep_regCountN, keep_modHob, keep_flueSend]

@[simp] theorem keep_noteListMissing {kp : Area → Bool} (k_regs : kp .regs = false) (k_hob : kp .hob = false) (k_host : kp .host = false) (t : Nat) (s : State) : keep kp (noteListMissing t s) = keep kp s := by
  unfold noteListMissing
  repeat' (first | (simp [k_regs, k_hob, k_host]; done) | split | dsimp only)
  all_goals first | rfl | (simp_all; done) | (simp [keep, k_regs, k_hob, k_host]; done) | grind [keep_raiseEv, keep_regCount, keep_modHob]

@[simp] theorem keep_retireEffects {kp : Area → Bool} (k_regs : kp .regs = false) (k_writes : kp .writes = false) (k_tbl : kp .tbl = false) (k_egr : kp .egr = false) (k_twin : kp .twin = false) (k_host : kp .host = false) (f : Inflight) (r : Result) (s : State) : keep kp (retireEffects f r s).2 = keep kp s := by
  unfold retireEffects
  repeat' (first | (simp [k_regs, k_writes, k_tbl, k_egr, k_twin, k_host]; done) | split | dsimp only)
  all_goals first | rfl | (simp_all; done) | (simp [keep, k_regs, k_writes, k_tbl, k_egr, k_twin, k_host]; done) | grind [keep_modTbl, keep_requestLearn, keep_publishRetire, keep_forEach, keep_countPair, keep_colourFrame]

@[simp] theorem keep_retireMirrors {kp : Area → Bool} (k_regs : kp .regs = false) (k_ports : kp .ports = false) (k_buf : kp .buf = false) (k_egr : kp .egr = false) (k_twin : kp .twin = false) (k_host : kp .host = false) (k_boot : kp .boot = false) (k_out : kp .out = false) (f : Inflight) (r : Result) (v : Verdict) (s : State) : keep kp (retireMirrors f r v s) = keep kp s := by
  unfold retireMirrors
  repeat' (first | (simp [k_regs, k_ports, k_buf, k_egr, k_twin, k_host, k_boot, k_out]; done) | split | dsimp only)
  all_goals first | rfl | (simp_all; done) | (simp [keep, k_regs, k_ports, k_buf, k_egr, k_twin, k_host, k_boot, k_out]; done) | grind [keep_forEach, keep_mirrorCandidate, keep_refFrame]

@[simp] theorem keep_retireStored {kp : Area → Bool} (k_buf : kp .buf = false) (f : Inflight) (r : Result) (e : Effects) (v : Verdict) (s : State) : keep kp (retireStored f r e v s) = keep kp s := by
  unfold retireStored
  repeat' (first | (simp [k_buf]; done) | split | dsimp only)
  all_goals first | rfl | (simp_all; done) | (simp [keep, k_buf]; done) | grind [keep_forEach, keep_refFrame, keep_modStored]

@[simp] theorem keep_retireMulticast {kp : Area → Bool} (k_regs : kp .regs = false) (k_ports : kp .ports = false) (k_buf : kp .buf = false) (k_egr : kp .egr = false) (k_twin : kp .twin = false) (k_host : kp .host = false) (k_boot : kp .boot = false) (k_out : kp .out = false) (f : Inflight) (g n : Nat) (s : State) : keep kp (retireMulticast f g n s) = keep kp s := by
  unfold retireMulticast
  repeat' (first | (simp [k_regs, k_ports, k_buf, k_egr, k_twin, k_host, k_boot, k_out]; done) | split | dsimp only)
  all_goals first | rfl | (simp_all; done) | (simp [keep, k_regs, k_ports, k_buf, k_egr, k_twin, k_host, k_boot, k_out]; done) | grind [keep_countPair, keep_forEach, keep_refFrame, keep_replicate]

@[simp] theorem keep_retireCopies {kp : Area → Bool} (k_regs : kp .regs = false) (k_ports : kp .ports = false) (k_buf : kp .buf = false) (k_egr : kp .egr = false) (k_twin : kp .twin = false) (k_host : kp .host = false) (k_boot : kp .boot = false) (k_out : kp .out = false) (f : Inflight) (d : Disp) (s : State) : keep kp (retireCopies f d s) = keep kp s := by
  unfold retireCopies
  repeat' (first | (simp [k_regs, k_ports, k_buf, k_egr, k_twin, k_host, k_boot, k_out]; done) | split | dsimp only)
  all_goals first | rfl | (simp_all; done) | (simp [keep, k_regs, k_ports, k_buf, k_egr, k_twin, k_host, k_boot, k_out]; done) | grind [keep_placeUnicast, keep_refFrame, keep_retireMulticast, keep_placeOther]

@[simp] theorem keep_retireRecord {kp : Area → Bool} (k_twin : kp .twin = false) (f : Inflight) (v : Verdict) (e : Effects) (s : State) : keep kp (retireRecord f v e s) = keep kp s := by
  unfold retireRecord
  repeat' (first | (simp [k_twin]; done) | split | dsimp only)
  all_goals first | rfl | (simp_all; done) | (simp [keep, k_twin]; done) | grind [keep_recRetire]

@[simp] theorem keep_noteInjRetired {kp : Area → Bool} (k_host : kp .host = false) (r : Rx) (s : State) : keep kp (noteInjRetired r s) = keep kp s := by
  unfold noteInjRetired
  repeat' (first | (simp [k_host]; done) | split | dsimp only)
  all_goals first | rfl | (simp_all; done) | (simp [keep, k_host]; done) | grind [keep_modHost]

@[simp] theorem keep_finishRetire {kp : Area → Bool} (k_regs : kp .regs = false) (k_hob : kp .hob = false) (k_buf : kp .buf = false) (k_egr : kp .egr = false) (k_twin : kp .twin = false) (k_host : kp .host = false) (k_boot : kp .boot = false) (k_out : kp .out = false) (f : Inflight) (s : State) : keep kp (finishRetire f s) = keep kp s := by
  unfold finishRetire
  repeat' (first | (simp [k_regs, k_hob, k_buf, k_egr, k_twin, k_host, k_boot, k_out]; done) | split | dsimp only)
  all_goals first | rfl | (simp_all; done) | (simp [keep, k_regs, k_hob, k_buf, k_egr, k_twin, k_host, k_boot, k_out]; done) | grind [keep_unrefFrame, keep_modStored, keep_countProgram, keep_settleFlight, keep_modFlight]

@[simp] theorem keep_retireDrop {kp : Area → Bool} (k_egr : kp .egr = false) (k_twin : kp .twin = false) (k_host : kp .host = false) (f : Inflight) (reason : Nat) (v : Verdict) (e : Effects) (s : State) : keep kp (retireDrop f reason v e s) = keep kp s := by
  unfold retireDrop
  repeat' (first | (simp [k_egr, k_twin, k_host]; done) | split | dsimp only)
  all_goals first | rfl | (simp_all; done) | (simp [keep, k_egr, k_twin, k_host]; done) | grind [keep_retireRecord, keep_noteInjDrop, keep_countDrop]

@[simp] theorem keep_retireLate {kp : Area → Bool} (k_regs : kp .regs = false) (k_hob : kp .hob = false) (k_buf : kp .buf = false) (k_egr : kp .egr = false) (k_twin : kp .twin = false) (k_host : kp .host = false) (k_boot : kp .boot = false) (k_out : kp .out = false) (reason : Nat) (f : Inflight) (s : State) : keep kp (retireLate reason f s) = keep kp s := by
  unfold retireLate
  repeat' (first | (simp [k_regs, k_hob, k_buf, k_egr, k_twin, k_host, k_boot, k_out]; done) | split | dsimp only)
  all_goals first | rfl | (simp_all; done) | (simp [keep, k_regs, k_hob, k_buf, k_egr, k_twin, k_host, k_boot, k_out]; done) | grind [keep_finishRetire, keep_retireDrop, keep_whenB, keep_regCount]

@[simp] theorem keep_retirePlain {kp : Area → Bool} (k_regs : kp .regs = false) (k_ports : kp .ports = false) (k_hob : kp .hob = false) (k_buf : kp .buf = false) (k_egr : kp .egr = false) (k_twin : kp .twin = false) (k_host : kp .host = false) (k_boot : kp .boot = false) (k_out : kp .out = false) (f : Inflight) (v : Verdict) (q reason : Nat) (k : CopyKind) (s : State) : keep kp (retirePlain f v q reason k s) = keep kp s := by
  unfold retirePlain
  repeat' (first | (simp [k_regs, k_ports, k_hob, k_buf, k_egr, k_twin, k_host, k_boot, k_out]; done) | split | dsimp only)
  all_goals first | rfl | (simp_all; done) | (simp [keep, k_regs, k_ports, k_hob, k_buf, k_egr, k_twin, k_host, k_boot, k_out]; done) | grind [keep_refFrame, keep_retireRecord, keep_noteInjRetired, keep_finishRetire, keep_placeUnicast, keep_placeOther]

@[simp] theorem keep_retireProgram {kp : Area → Bool} (k_regs : kp .regs = false) (k_writes : kp .writes = false) (k_ports : kp .ports = false) (k_hob : kp .hob = false) (k_tbl : kp .tbl = false) (k_buf : kp .buf = false) (k_egr : kp .egr = false) (k_twin : kp .twin = false) (k_host : kp .host = false) (k_boot : kp .boot = false) (k_out : kp .out = false) (f : Inflight) (r : Result) (s : State) : keep kp (retireProgram f r s) = keep kp s := by
  unfold retireProgram
  repeat' (first | (simp [k_regs, k_writes, k_ports, k_hob, k_tbl, k_buf, k_egr, k_twin, k_host, k_boot, k_out]; done) | split | dsimp only)
  all_goals first | rfl | (simp_all; done) | (simp [keep, k_regs, k_writes, k_ports, k_hob, k_tbl, k_buf, k_egr, k_twin, k_host, k_boot, k_out]; done) | grind [keep_finishRetire, keep_retireDrop, keep_retireEffects, keep_retireMirrors, keep_retireStored, keep_retireCopies, keep_retireRecord, keep_noteInjRetired]

@[simp] theorem keep_retireNow {kp : Area → Bool} (k_regs : kp .regs = false) (k_writes : kp .writes = false) (k_ports : kp .ports = false) (k_hob : kp .hob = false) (k_tbl : kp .tbl = false) (k_buf : kp .buf = false) (k_egr : kp .egr = false) (k_twin : kp .twin = false) (k_host : kp .host = false) (k_boot : kp .boot = false) (k_out : kp .out = false) (f : Inflight) (s : State) : keep kp (retireNow f s) = keep kp s := by
  unfold retireNow
  repeat' (first | (simp [k_regs, k_writes, k_ports, k_hob, k_tbl, k_buf, k_egr, k_twin, k_host, k_boot, k_out]; done) | split | dsimp only)
  all_goals first | rfl | (simp_all; done) | (simp [keep, k_regs, k_writes, k_ports, k_hob, k_tbl, k_buf, k_egr, k_twin, k_host, k_boot, k_out]; done) | grind [keep_retirePlain, keep_modTbl, keep_retireProgram, keep_retireLate]

@[simp] theorem keep_holdFrame {kp : Area → Bool} (k_regs : kp .regs = false) (k_hob : kp .hob = false) (f : Inflight) (s : State) : keep kp (holdFrame f s) = keep kp s := by
  unfold holdFrame
  repeat' (first | (simp [k_regs, k_hob]; done) | split | dsimp only)
  all_goals first | rfl | (simp_all; done) | (simp [keep, k_regs, k_hob]; done) | grind [keep_modHob, keep_regCount, keep_modFlight]

@[simp] theorem keep_retireSolo {kp : Area → Bool} (k_regs : kp .regs = false) (k_writes : kp .writes = false) (k_ports : kp .ports = false) (k_hob : kp .hob = false) (k_tbl : kp .tbl = false) (k_buf : kp .buf = false) (k_egr : kp .egr = false) (k_twin : kp .twin = false) (k_host : kp .host = false) (k_boot : kp .boot = false) (k_out : kp .out = false) (n : Nat) (l : List Inflight) (s : State) : keep kp (retireSolo n l s) = keep kp s := by
  induction l generalizing n s with
  | nil => cases n <;> simp [retireSolo, k_regs, k_writes, k_ports, k_hob, k_tbl, k_buf, k_egr, k_twin, k_host, k_boot, k_out]
  | cons f l ih => cases n <;> simp [retireSolo, ih, k_regs, k_writes, k_ports, k_hob, k_tbl, k_buf, k_egr, k_twin, k_host, k_boot, k_out]

@[simp] theorem keep_retireAgreed {kp : Area → Bool} (k_regs : kp .regs = false) (k_writes : kp .writes = false) (k_ports : kp .ports = false) (k_hob : kp .hob = false) (k_tbl : kp .tbl = false) (k_buf : kp .buf = false) (k_egr : kp .egr = false) (k_twin : kp .twin = false) (k_host : kp .host = false) (k_boot : kp .boot = false) (k_out : kp .out = false) (t : Nat) (p : Option LateList) (f : Inflight) (s : State) : keep kp (retireAgreed t p f s) = keep kp s := by
  unfold retireAgreed
  repeat' (first | (simp [k_regs, k_writes, k_ports, k_hob, k_tbl, k_buf, k_egr, k_twin, k_host, k_boot, k_out]; done) | split | dsimp only)
  all_goals first | rfl | (simp_all; done) | (simp [keep, k_regs, k_writes, k_ports, k_hob, k_tbl, k_buf, k_egr, k_twin, k_host, k_boot, k_out]; done) | grind [keep_retireLate, keep_retireNow]

@[simp] theorem keep_retireUnder {kp : Area → Bool} (k_regs : kp .regs = false) (k_writes : kp .writes = false) (k_ports : kp .ports = false) (k_hob : kp .hob = false) (k_tbl : kp .tbl = false) (k_buf : kp .buf = false) (k_egr : kp .egr = false) (k_twin : kp .twin = false) (k_host : kp .host = false) (k_boot : kp .boot = false) (k_out : kp .out = false) (p : Option LateList) (f : Inflight) (s : State) : keep kp (retireUnder p f s) = keep kp s := by
  unfold retireUnder
  repeat' (first | (simp [k_regs, k_writes, k_ports, k_hob, k_tbl, k_buf, k_egr, k_twin, k_host, k_boot, k_out]; done) | split | dsimp only)
  all_goals first | rfl | (simp_all; done) | (simp [keep, k_regs, k_writes, k_ports, k_hob, k_tbl, k_buf, k_egr, k_twin, k_host, k_boot, k_out]; done) | grind [keep_retireLate, keep_failAttempt, keep_retireNow]

@[simp] theorem keep_retireStep {kp : Area → Bool} (k_regs : kp .regs = false) (k_writes : kp .writes = false) (k_ports : kp .ports = false) (k_hob : kp .hob = false) (k_tbl : kp .tbl = false) (k_buf : kp .buf = false) (k_egr : kp .egr = false) (k_twin : kp .twin = false) (k_host : kp .host = false) (k_boot : kp .boot = false) (k_out : kp .out = false) (s : State) : keep kp (retireStep s) = keep kp s := by
  unfold retireStep
  repeat' (first | (simp [k_regs, k_writes, k_ports, k_hob, k_tbl, k_buf, k_egr, k_twin, k_host, k_boot, k_out]; done) | split | dsimp only)
  all_goals first | rfl | (simp_all; done) | (simp [keep, k_regs, k_writes, k_ports, k_hob, k_tbl, k_buf, k_egr, k_twin, k_host, k_boot, k_out]; done) | grind [keep_modHob, keep_forEach, keep_retireUnder, keep_noteListMissing, keep_retireAgreed, keep_retireSolo]

@[simp] theorem keep_retireResume {kp : Area → Bool} (k_regs : kp .regs = false) (k_writes : kp .writes = false) (k_ports : kp .ports = false) (k_hob : kp .hob = false) (k_tbl : kp .tbl = false) (k_buf : kp .buf = false) (k_egr : kp .egr = false) (k_twin : kp .twin = false) (k_host : kp .host = false) (k_boot : kp .boot = false) (k_out : kp .out = false) (timeout : Bool) (s : State) : keep kp (retireResume timeout s) = keep kp s := by
  unfold retireResume
  repeat' (first | (simp [k_regs, k_writes, k_ports, k_hob, k_tbl, k_buf, k_egr, k_twin, k_host, k_boot, k_out]; done) | split | dsimp only)
  all_goals first | rfl | (simp_all; done) | (simp [keep, k_regs, k_writes, k_ports, k_hob, k_tbl, k_buf, k_egr, k_twin, k_host, k_boot, k_out]; done) | grind [keep_retireStep]

end Sys2Proof.Machine
end

