-- ==== Sys2Proof/Laws/Keep/RegWrite.lean ====
section
/-! SUPPORT. Which parts of the state the operations of Machine/RegWrite.lean keep. -/

namespace Sys2Proof.Machine

set_option linter.all false

@[simp] theorem keep_poolWrite {kp : Area → Bool} (k_regs : kp .regs = false) (k_buf : kp .buf = false) (k_host : kp .host = false) (r : Reg) (i : Nat) (v : Word) (s : State) : keep kp (poolWrite r i v s) = keep kp s := by
  unfold poolWrite
  repeat' (first | (simp [k_regs, k_buf, k_host]; done) | split | dsimp only)
  all_goals first | rfl | (simp_all; done) | (simp [keep, k_regs, k_buf, k_host]; done) | grind [keep_regSet, keep_raiseEv, keep_resizeReserves]

@[simp] theorem keep_pathDelayWrite {kp : Area → Bool} (k_regs : kp .regs = false) (k_buf : kp .buf = false) (k_host : kp .host = false) (v : Word) (s : State) : keep kp (pathDelayWrite v s) = keep kp s := by
  unfold pathDelayWrite
  repeat' (first | (simp [k_regs, k_buf, k_host]; done) | split | dsimp only)
  all_goals first | rfl | (simp_all; done) | (simp [keep, k_regs, k_buf, k_host]; done) | grind [keep_regSetFld, keep_raiseEv, keep_regSet, keep_poolWrite]

@[simp] theorem keep_govCfgWrite {kp : Area → Bool} (k_regs : kp .regs = false) (k_host : kp .host = false) (v : Word) (s : State) : keep kp (govCfgWrite v s) = keep kp s := by
  unfold govCfgWrite
  repeat' (first | (simp [k_regs, k_host]; done) | split | dsimp only)
  all_goals first | rfl | (simp_all; done) | (simp [keep, k_regs, k_host]; done) | grind [keep_regSet, keep_raiseEv]

@[simp] theorem keep_chanMapWrite {kp : Area → Bool} (k_regs : kp .regs = false) (k_ports : kp .ports = false) (k_out : kp .out = false) (i : Nat) (v : Word) (s : State) : keep kp (chanMapWrite i v s) = keep kp s := by
  unfold chanMapWrite
  repeat' (first | (simp [k_regs, k_ports, k_out]; done) | split | dsimp only)
  all_goals first | rfl | (simp_all; done) | (simp [keep, k_regs, k_ports, k_out]; done) | grind [keep_regSet, keep_forEach, keep_linkJudge, keep_linkJudgeLane]

@[simp] theorem keep_portCtrl {kp : Area → Bool} (k_regs : kp .regs = false) (k_ports : kp .ports = false) (k_host : kp .host = false) (p bits : Nat) (s : State) : keep kp (portCtrl p bits s) = keep kp s := by
  unfold portCtrl
  repeat' (first | (simp [k_regs, k_ports, k_host]; done) | split | dsimp only)
  all_goals first | rfl | (simp_all; done) | (simp [keep, k_regs, k_ports, k_host]; done) | grind [keep_whenB, keep_modPort, keep_flapClear, keep_stormClear]

@[simp] theorem keep_mirCfgWrite {kp : Area → Bool} (k_regs : kp .regs = false) (k_egr : kp .egr = false) (k_host : kp .host = false) (m : Nat) (v : Word) (s : State) : keep kp (mirCfgWrite m v s) = keep kp s := by
  unfold mirCfgWrite
  repeat' (first | (simp [k_regs, k_egr, k_host]; done) | split | dsimp only)
  all_goals first | rfl | (simp_all; done) | (simp [keep, k_regs, k_egr, k_host]; done) | grind [keep_raiseEv, keep_whenB, keep_modSession, keep_regSet]

@[simp] theorem keep_policyWrite {kp : Area → Bool} (k_regs : kp .regs = false) (k_egr : kp .egr = false) (k : Nat) (v : Word) (s : State) : keep kp (policyWrite k v s) = keep kp s := by
  unfold policyWrite
  repeat' (first | (simp [k_regs, k_egr]; done) | split | dsimp only)
  all_goals first | rfl | (simp_all; done) | (simp [keep, k_regs, k_egr]; done) | grind [keep_regSet, keep_modEgr]

@[simp] theorem keep_ecmpCfgWrite {kp : Area → Bool} (k_regs : kp .regs = false) (k_tbl : kp .tbl = false) (v : Word) (s : State) : keep kp (ecmpCfgWrite v s) = keep kp s := by
  unfold ecmpCfgWrite
  repeat' (first | (simp [k_regs, k_tbl]; done) | split | dsimp only)
  all_goals first | rfl | (simp_all; done) | (simp [keep, k_regs, k_tbl]; done) | grind [keep_regSet, keep_modTbl]

@[simp] theorem keep_tsfPop {kp : Area → Bool} (k_time : kp .time = false) (k_host : kp .host = false) (s : State) : keep kp (tsfPop s) = keep kp s := by
  unfold tsfPop
  repeat' (first | (simp [k_time, k_host]; done) | split | dsimp only)
  all_goals first | rfl | (simp_all; done) | (simp [keep, k_time, k_host]; done) | grind [keep_modHost, keep_modTime]

@[simp] theorem keep_takeHeldHigh {kp : Area → Bool} (k_regs : kp .regs = false) (lo hi : Reg) (i : Nat) (v : Word) (s : State) : keep kp (takeHeldHigh lo hi i v s) = keep kp s := by
  unfold takeHeldHigh
  repeat' (first | (simp [k_regs]; done) | split | dsimp only)
  all_goals first | rfl | (simp_all; done) | (simp [keep, k_regs]; done) | grind [keep_regSet]

@[simp] theorem keep_holdHigh {kp : Area → Bool} (k_regs : kp .regs = false) (r : Reg) (i : Nat) (value mask : Word) (s : State) : keep kp (holdHigh r i value mask s) = keep kp s := by
  unfold holdHigh
  repeat' (first | (simp [k_regs]; done) | split | dsimp only)
  all_goals first | rfl | (simp_all; done) | (simp [keep, k_regs]; done)

@[simp] theorem keep_applyField {kp : Area → Bool} (k_regs : kp .regs = false) (k_lanes : kp .lanes = false) (k_ports : kp .ports = false) (k_adm : kp .adm = false) (k_hob : kp .hob = false) (k_tbl : kp .tbl = false) (k_tcam : kp .tcam = false) (k_buf : kp .buf = false) (k_egr : kp .egr = false) (k_time : kp .time = false) (k_host : kp .host = false) (k_boot : kp .boot = false) (k_pwr : kp .pwr = false) (k_out : kp .out = false) (r : Reg) (i : Nat) (value mask : Word) (s : State) : keep kp (applyField r i value mask s) = keep kp s := by
  unfold applyField
  repeat' (first | (simp [k_regs, k_lanes, k_ports, k_adm, k_hob, k_tbl, k_tcam, k_buf, k_egr, k_time, k_host, k_boot, k_pwr, k_out]; done) | split | dsimp only)
  all_goals first | rfl | (simp_all; done) | (simp [keep, k_regs, k_lanes, k_ports, k_adm, k_hob, k_tbl, k_tcam, k_buf, k_egr, k_time, k_host, k_boot, k_pwr, k_out]; done) | grind [keep_pathDelayWrite, keep_laneModeEffect, keep_whenB, keep_retrainLane, keep_chanMapWrite, keep_poolWrite, keep_modPort, keep_regSet, keep_portCtrl, keep_govCfgWrite, keep_groupCfgEffect, keep_modTbl, keep_ecmpCfgWrite, keep_takeHeldHigh, keep_holdHigh, keep_writeRegion, keep_tcamRegWrite, keep_raiseEv, keep_policyWrite, keep_mirCfgWrite, keep_fillShaper, keep_fillMax, keep_fillMin, keep_tsfPop]

@[simp] theorem keep_applyReg {kp : Area → Bool} (k_regs : kp .regs = false) (k_lanes : kp .lanes = false) (k_ports : kp .ports = false) (k_adm : kp .adm = false) (k_hob : kp .hob = false) (k_tbl : kp .tbl = false) (k_tcam : kp .tcam = false) (k_buf : kp .buf = false) (k_egr : kp .egr = false) (k_time : kp .time = false) (k_host : kp .host = false) (k_boot : kp .boot = false) (k_pwr : kp .pwr = false) (k_out : kp .out = false) (a : Nat) (value mask : Word) (s : State) : keep kp (applyReg a value mask s) = keep kp s := by
  unfold applyReg
  repeat' (first | (simp [k_regs, k_lanes, k_ports, k_adm, k_hob, k_tbl, k_tcam, k_buf, k_egr, k_time, k_host, k_boot, k_pwr, k_out]; done) | split | dsimp only)
  all_goals first | rfl | (simp_all; done) | (simp [keep, k_regs, k_lanes, k_ports, k_adm, k_hob, k_tbl, k_tcam, k_buf, k_egr, k_time, k_host, k_boot, k_pwr, k_out]; done) | grind [keep_applyField]

@[simp] theorem keep_clearW1c {kp : Area → Bool} (k_regs : kp .regs = false) (a : Nat) (value : Word) (s : State) : keep kp (clearW1c a value s) = keep kp s := by
  unfold clearW1c
  repeat' (first | (simp [k_regs]; done) | split | dsimp only)
  all_goals first | rfl | (simp_all; done) | (simp [keep, k_regs]; done) | grind [keep_regSet]

end Sys2Proof.Machine
end

