-- ==== Sys2Proof/Laws/Keep/HostWrites.lean ====
section
/-! SUPPORT. Which parts of the state the operations of Machine/HostWrites.lean keep. -/

namespace Sys2Proof.Machine

set_option linter.all false

@[simp] theorem keep_addWrite {kp : Area → Bool} (k_writes : kp .writes = false) (w : HostWrite) (s : State) : keep kp (addWrite w s) = keep kp s := by
  unfold addWrite
  repeat' (first | (simp [k_writes]; done) | split | dsimp only)
  all_goals first | rfl | (simp_all; done) | (simp [keep, k_writes]; done)

@[simp] theorem keep_acceptTable {kp : Area → Bool} (k_regs : kp .regs = false) (k_writes : kp .writes = false) (k_tbl : kp .tbl = false) (k_egr : kp .egr = false) (k_host : kp .host = false) (w : HostWrite) (code : Nat) (ws : List Nat) (s : State) : keep kp (acceptTable w code ws s).2 = keep kp s := by
  unfold acceptTable
  repeat' (first | (simp [k_regs, k_writes, k_tbl, k_egr, k_host]; done) | split | dsimp only)
  all_goals first | rfl | (simp_all; done) | (simp [keep, k_regs, k_writes, k_tbl, k_egr, k_host]; done) | grind [keep_addWrite, keep_reachWrite, keep_hostPublish, keep_meterReach, keep_raiseEv]

@[simp] theorem keep_acceptWrite {kp : Area → Bool} (k_regs : kp .regs = false) (k_writes : kp .writes = false) (k_prog : kp .prog = false) (k_tbl : kp .tbl = false) (k_egr : kp .egr = false) (k_host : kp .host = false) (w : HostWrite) (partner : List Byte) (s : State) : keep kp (acceptWrite w partner s).2.2 = keep kp s := by
  unfold acceptWrite
  repeat' (first | (simp [k_regs, k_writes, k_prog, k_tbl, k_egr, k_host]; done) | split | dsimp only)
  all_goals first | rfl | (simp_all; done) | (simp [keep, k_regs, k_writes, k_prog, k_tbl, k_egr, k_host]; done) | grind [keep_acceptTable, keep_addWrite, keep_raiseEv, keep_modProg]

@[simp] theorem keep_placePort {kp : Area → Bool} (k_regs : kp .regs = false) (k_lanes : kp .lanes = false) (k_ports : kp .ports = false) (k_out : kp .out = false) (p : Nat) (enable : Bool) (rate lane chan : Nat) (s : State) : keep kp (placePort p enable rate lane chan s) = keep kp s := by
  unfold placePort
  repeat' (first | (simp [k_regs, k_lanes, k_ports, k_out]; done) | split | dsimp only)
  all_goals first | rfl | (simp_all; done) | (simp [keep, k_regs, k_lanes, k_ports, k_out]; done) | grind [keep_chanMapWrite, keep_forEach, keep_modLane, keep_linkJudgeLane]

@[simp] theorem keep_portSetApply {kp : Area → Bool} (k_regs : kp .regs = false) (k_lanes : kp .lanes = false) (k_ports : kp .ports = false) (k_adm : kp .adm = false) (k_hob : kp .hob = false) (k_tbl : kp .tbl = false) (k_tcam : kp .tcam = false) (k_buf : kp .buf = false) (k_egr : kp .egr = false) (k_time : kp .time = false) (k_host : kp .host = false) (k_boot : kp .boot = false) (k_pwr : kp .pwr = false) (k_out : kp .out = false) (p : Nat) (enable : Bool) (rate lane chan : Nat) (s : State) : keep kp (portSetApply p enable rate lane chan s).2 = keep kp s := by
  unfold portSetApply
  repeat' (first | (simp [k_regs, k_lanes, k_ports, k_adm, k_hob, k_tbl, k_tcam, k_buf, k_egr, k_time, k_host, k_boot, k_pwr, k_out]; done) | split | dsimp only)
  all_goals first | rfl | (simp_all; done) | (simp [keep, k_regs, k_lanes, k_ports, k_adm, k_hob, k_tbl, k_tcam, k_buf, k_egr, k_time, k_host, k_boot, k_pwr, k_out]; done) | grind [keep_applyField, keep_placePort]

@[simp] theorem keep_queueSetApply {kp : Area → Bool} (k_regs : kp .regs = false) (k_lanes : kp .lanes = false) (k_ports : kp .ports = false) (k_adm : kp .adm = false) (k_hob : kp .hob = false) (k_tbl : kp .tbl = false) (k_tcam : kp .tcam = false) (k_buf : kp .buf = false) (k_egr : kp .egr = false) (k_time : kp .time = false) (k_host : kp .host = false) (k_boot : kp .boot = false) (k_pwr : kp .pwr = false) (k_out : kp .out = false) (q mask : Nat) (values : List Nat) (s : State) : keep kp (queueSetApply q mask values s) = keep kp s := by
  unfold queueSetApply
  repeat' (first | (simp [k_regs, k_lanes, k_ports, k_adm, k_hob, k_tbl, k_tcam, k_buf, k_egr, k_time, k_host, k_boot, k_pwr, k_out]; done) | split | dsimp only)
  all_goals first | rfl | (simp_all; done) | (simp [keep, k_regs, k_lanes, k_ports, k_adm, k_hob, k_tbl, k_tcam, k_buf, k_egr, k_time, k_host, k_boot, k_pwr, k_out]; done) | grind [keep_forEach, keep_applyField]

@[simp] theorem keep_txnWrite {kp : Area → Bool} (k_regs : kp .regs = false) (k_writes : kp .writes = false) (k_tcam : kp .tcam = false) (k_twin : kp .twin = false) (k_host : kp .host = false) (w : HostWrite) (ws : List Nat) (s : State) : keep kp (txnWrite w ws s) = keep kp s := by
  unfold txnWrite
  repeat' (first | (simp [k_regs, k_writes, k_tcam, k_twin, k_host]; done) | split | dsimp only)
  all_goals first | rfl | (simp_all; done) | (simp [keep, k_regs, k_writes, k_tcam, k_twin, k_host]; done) | grind [keep_txnOpen, keep_endWrite, keep_txnAbort, keep_txnCommit]

@[simp] theorem keep_tableAtE {kp : Area → Bool} (k_regs : kp .regs = false) (k_writes : kp .writes = false) (k_hob : kp .hob = false) (k_tbl : kp .tbl = false) (k_tcam : kp .tcam = false) (k_egr : kp .egr = false) (k_twin : kp .twin = false) (k_host : kp .host = false) (w : HostWrite) (code : Nat) (ws : List Nat) (s : State) : keep kp (tableAtE w code ws s) = keep kp s := by
  unfold tableAtE
  repeat' (first | (simp [k_regs, k_writes, k_hob, k_tbl, k_tcam, k_egr, k_twin, k_host]; done) | split | dsimp only)
  all_goals first | rfl | (simp_all; done) | (simp [keep, k_regs, k_writes, k_hob, k_tbl, k_tcam, k_egr, k_twin, k_host]; done) | grind [keep_placeLaneOp, keep_endWrite, keep_tcamEntryOp, keep_txnWrite, keep_modSession, keep_pairSet]

@[simp] theorem keep_applyWrite {kp : Area → Bool} (k_regs : kp .regs = false) (k_writes : kp .writes = false) (k_lanes : kp .lanes = false) (k_ports : kp .ports = false) (k_adm : kp .adm = false) (k_hob : kp .hob = false) (k_tbl : kp .tbl = false) (k_tcam : kp .tcam = false) (k_buf : kp .buf = false) (k_egr : kp .egr = false) (k_twin : kp .twin = false) (k_time : kp .time = false) (k_host : kp .host = false) (k_boot : kp .boot = false) (k_pwr : kp .pwr = false) (k_out : kp .out = false) (w : HostWrite) (s : State) : keep kp (applyWrite w s) = keep kp s := by
  unfold applyWrite
  repeat' (first | (simp [k_regs, k_writes, k_lanes, k_ports, k_adm, k_hob, k_tbl, k_tcam, k_buf, k_egr, k_twin, k_time, k_host, k_boot, k_pwr, k_out]; done) | split | dsimp only)
  all_goals first | rfl | (simp_all; done) | (simp [keep, k_regs, k_writes, k_lanes, k_ports, k_adm, k_hob, k_tbl, k_tcam, k_buf, k_egr, k_twin, k_time, k_host, k_boot, k_pwr, k_out]; done) | grind [keep_tableAtE, keep_applyReg, keep_endWrite, keep_portSetApply, keep_queueSetApply, keep_timeApply]

@[simp] theorem keep_applyWrites {kp : Area → Bool} (k_regs : kp .regs = false) (k_writes : kp .writes = false) (k_lanes : kp .lanes = false) (k_ports : kp .ports = false) (k_adm : kp .adm = false) (k_hob : kp .hob = false) (k_tbl : kp .tbl = false) (k_tcam : kp .tcam = false) (k_buf : kp .buf = false) (k_egr : kp .egr = false) (k_twin : kp .twin = false) (k_time : kp .time = false) (k_host : kp .host = false) (k_boot : kp .boot = false) (k_pwr : kp .pwr = false) (k_out : kp .out = false) (s : State) : keep kp (applyWrites s) = keep kp s := by
  unfold applyWrites
  repeat' (first | (simp [k_regs, k_writes, k_lanes, k_ports, k_adm, k_hob, k_tbl, k_tcam, k_buf, k_egr, k_twin, k_time, k_host, k_boot, k_pwr, k_out]; done) | split | dsimp only)
  all_goals first | rfl | (simp_all; done) | (simp [keep, k_regs, k_writes, k_lanes, k_ports, k_adm, k_hob, k_tbl, k_tcam, k_buf, k_egr, k_twin, k_time, k_host, k_boot, k_pwr, k_out]; done) | grind [keep_forEach, keep_applyWrite]

@[simp] theorem keep_safeApply {kp : Area → Bool} (k_regs : kp .regs = false) (k_writes : kp .writes = false) (k_lanes : kp .lanes = false) (k_ports : kp .ports = false) (k_adm : kp .adm = false) (k_hob : kp .hob = false) (k_tbl : kp .tbl = false) (k_tcam : kp .tcam = false) (k_buf : kp .buf = false) (k_egr : kp .egr = false) (k_twin : kp .twin = false) (k_time : kp .time = false) (k_host : kp .host = false) (k_boot : kp .boot = false) (k_pwr : kp .pwr = false) (k_out : kp .out = false) (s : State) : keep kp (safeApply s) = keep kp s := by
  unfold safeApply
  repeat' (first | (simp [k_regs, k_writes, k_lanes, k_ports, k_adm, k_hob, k_tbl, k_tcam, k_buf, k_egr, k_twin, k_time, k_host, k_boot, k_pwr, k_out]; done) | split | dsimp only)
  all_goals first | rfl | (simp_all; done) | (simp [keep, k_regs, k_writes, k_lanes, k_ports, k_adm, k_hob, k_tbl, k_tcam, k_buf, k_egr, k_twin, k_time, k_host, k_boot, k_pwr, k_out]; done) | grind [keep_publishesDue, keep_meterWritesDue, keep_effectsDue, keep_applyWrites]

@[simp] theorem keep_tellWrite {kp : Area → Bool} (k_out : kp .out = false) (e seq : Nat) (entry buf : List Byte) (s : State) : keep kp (tellWrite e seq entry buf s) = keep kp s := by
  unfold tellWrite
  repeat' (first | (simp [k_out]; done) | split | dsimp only)
  all_goals first | rfl | (simp_all; done) | (simp [keep, k_out]; done) | grind [keep_whenB, keep_flueSend]

@[simp] theorem keep_partnerWrite {kp : Area → Bool} (k_regs : kp .regs = false) (k_writes : kp .writes = false) (k_lanes : kp .lanes = false) (k_ports : kp .ports = false) (k_adm : kp .adm = false) (k_prog : kp .prog = false) (k_hob : kp .hob = false) (k_tbl : kp .tbl = false) (k_tcam : kp .tcam = false) (k_buf : kp .buf = false) (k_egr : kp .egr = false) (k_twin : kp .twin = false) (k_time : kp .time = false) (k_host : kp .host = false) (k_boot : kp .boot = false) (k_pwr : kp .pwr = false) (k_out : kp .out = false) (e : Nat) (side : Bool) (seq : Nat) (entry : List Byte) (s : State) : keep kp (partnerWrite e side seq entry s) = keep kp s := by
  unfold partnerWrite
  repeat' (first | (simp [k_regs, k_writes, k_lanes, k_ports, k_adm, k_prog, k_hob, k_tbl, k_tcam, k_buf, k_egr, k_twin, k_time, k_host, k_boot, k_pwr, k_out]; done) | split | dsimp only)
  all_goals first | rfl | (simp_all; done) | (simp [keep, k_regs, k_writes, k_lanes, k_ports, k_adm, k_prog, k_hob, k_tbl, k_tcam, k_buf, k_egr, k_twin, k_time, k_host, k_boot, k_pwr, k_out]; done) | grind [keep_selfFault, keep_raiseEv, keep_acceptWrite, keep_publishesDue, keep_meterWritesDue, keep_effectsDue, keep_applyWrites]

@[simp] theorem keep_directWrite {kp : Area → Bool} (k_regs : kp .regs = false) (k_writes : kp .writes = false) (k_lanes : kp .lanes = false) (k_ports : kp .ports = false) (k_adm : kp .adm = false) (k_hob : kp .hob = false) (k_tbl : kp .tbl = false) (k_tcam : kp .tcam = false) (k_buf : kp .buf = false) (k_egr : kp .egr = false) (k_twin : kp .twin = false) (k_time : kp .time = false) (k_host : kp .host = false) (k_boot : kp .boot = false) (k_pwr : kp .pwr = false) (k_out : kp .out = false) (a : Nat) (v : Word) (s : State) : keep kp (directWrite a v s) = keep kp s := by
  unfold directWrite
  repeat' (first | (simp [k_regs, k_writes, k_lanes, k_ports, k_adm, k_hob, k_tbl, k_tcam, k_buf, k_egr, k_twin, k_time, k_host, k_boot, k_pwr, k_out]; done) | split | dsimp only)
  all_goals first | rfl | (simp_all; done) | (simp [keep, k_regs, k_writes, k_lanes, k_ports, k_adm, k_hob, k_tbl, k_tcam, k_buf, k_egr, k_twin, k_time, k_host, k_boot, k_pwr, k_out]; done) | grind [keep_clearW1c, keep_raiseEv, keep_hostErr, keep_safeApply, keep_addWrite, keep_modHost]

end Sys2Proof.Machine
end

