-- ==== Sys2Proof/Laws/Keep/Mailbox.lean ====
section
/-! SUPPORT. Which parts of the state the operations of Machine/Mailbox.lean keep. -/

namespace Sys2Proof.Machine

set_option linter.all false

@[simp] theorem keep_mbxTake {kp : Area → Bool} (k_host : kp .host = false) (h : MbxHdr) (op : Nat) (k : MbxCmd → State → State) (s : State) (h_k : ∀ x0 x1, keep kp (k x0 x1) = keep kp x1) : keep kp (mbxTake h op k s) = keep kp s := by
  unfold mbxTake
  repeat' (first | (simp [h_k, k_host]; done) | split | dsimp only)
  all_goals first | rfl | (simp_all; done) | (simp [keep, k_host]; done) | grind [keep_modRing, keep_modHost, keep_complete]

@[simp] theorem keep_hostWriteCmd {kp : Area → Bool} (k_regs : kp .regs = false) (k_writes : kp .writes = false) (k_lanes : kp .lanes = false) (k_ports : kp .ports = false) (k_adm : kp .adm = false) (k_prog : kp .prog = false) (k_hob : kp .hob = false) (k_tbl : kp .tbl = false) (k_tcam : kp .tcam = false) (k_buf : kp .buf = false) (k_egr : kp .egr = false) (k_twin : kp .twin = false) (k_time : kp .time = false) (k_host : kp .host = false) (k_boot : kp .boot = false) (k_pwr : kp .pwr = false) (k_out : kp .out = false) (h : MbxHdr) (op : Nat) (args buf partner : List Byte) (s : State) : keep kp (hostWriteCmd h op args buf partner s) = keep kp s := by
  unfold hostWriteCmd
  repeat' (first | (simp [k_regs, k_writes, k_lanes, k_ports, k_adm, k_prog, k_hob, k_tbl, k_tcam, k_buf, k_egr, k_twin, k_time, k_host, k_boot, k_pwr, k_out]; done) | split | dsimp only)
  all_goals first | rfl | (simp_all; done) | (simp [keep, k_regs, k_writes, k_lanes, k_ports, k_adm, k_prog, k_hob, k_tbl, k_tcam, k_buf, k_egr, k_twin, k_time, k_host, k_boot, k_pwr, k_out]; done) | grind [keep_mbxTake, keep_complete, keep_acceptWrite, keep_tellWrite, keep_safeApply]

@[simp] theorem keep_tableWriteCmd {kp : Area → Bool} (k_regs : kp .regs = false) (k_writes : kp .writes = false) (k_lanes : kp .lanes = false) (k_ports : kp .ports = false) (k_adm : kp .adm = false) (k_prog : kp .prog = false) (k_hob : kp .hob = false) (k_tbl : kp .tbl = false) (k_tcam : kp .tcam = false) (k_buf : kp .buf = false) (k_egr : kp .egr = false) (k_twin : kp .twin = false) (k_time : kp .time = false) (k_host : kp .host = false) (k_boot : kp .boot = false) (k_pwr : kp .pwr = false) (k_out : kp .out = false) (h : MbxHdr) (code : Nat) (rec : List Byte) (s : State) : keep kp (tableWriteCmd h code rec s) = keep kp s := by
  unfold tableWriteCmd
  repeat' (first | (simp [k_regs, k_writes, k_lanes, k_ports, k_adm, k_prog, k_hob, k_tbl, k_tcam, k_buf, k_egr, k_twin, k_time, k_host, k_boot, k_pwr, k_out]; done) | split | dsimp only)
  all_goals first | rfl | (simp_all; done) | (simp [keep, k_regs, k_writes, k_lanes, k_ports, k_adm, k_prog, k_hob, k_tbl, k_tcam, k_buf, k_egr, k_twin, k_time, k_host, k_boot, k_pwr, k_out]; done) | grind [keep_hostWriteCmd]

@[simp] theorem keep_serveRead {kp : Area → Bool} (k_hob : kp .hob = false) (k_tbl : kp .tbl = false) (k_host : kp .host = false) (r : PendingRead) (s : State) : keep kp (serveRead r s) = keep kp s := by
  unfold serveRead
  repeat' (first | (simp [k_hob, k_tbl, k_host]; done) | split | dsimp only)
  all_goals first | rfl | (simp_all; done) | (simp [keep, k_hob, k_tbl, k_host]; done) | grind [keep_placeLaneOp, keep_complete, keep_hostPut]

@[simp] theorem keep_serveReads {kp : Area → Bool} (k_hob : kp .hob = false) (k_tbl : kp .tbl = false) (k_host : kp .host = false) (s : State) : keep kp (serveReads s) = keep kp s := by
  unfold serveReads
  repeat' (first | (simp [k_hob, k_tbl, k_host]; done) | split | dsimp only)
  all_goals first | rfl | (simp_all; done) | (simp [keep, k_hob, k_tbl, k_host]; done) | grind [keep_forEach, keep_serveRead, keep_modHost]

@[simp] theorem keep_tableReadCmd {kp : Area → Bool} (k_hob : kp .hob = false) (k_tbl : kp .tbl = false) (k_host : kp .host = false) (h : MbxHdr) (code : Nat) (rec : List Byte) (s : State) : keep kp (tableReadCmd h code rec s) = keep kp s := by
  unfold tableReadCmd
  repeat' (first | (simp [k_hob, k_tbl, k_host]; done) | split | dsimp only)
  all_goals first | rfl | (simp_all; done) | (simp [keep, k_hob, k_tbl, k_host]; done) | grind [keep_mbxTake, keep_complete, keep_serveRead, keep_modHost]

@[simp] theorem keep_queueLong {kp : Area → Bool} (k_host : kp .host = false) (h : MbxHdr) (c : MbxCmd) (args buf : List Byte) (shadow : List (Nat × Nat)) (t : Nat) (s : State) : keep kp (queueLong h c args buf shadow t s) = keep kp s := by
  unfold queueLong
  repeat' (first | (simp [k_host]; done) | split | dsimp only)
  all_goals first | rfl | (simp_all; done) | (simp [keep, k_host]; done) | grind [keep_modHost]

@[simp] theorem keep_longCmd {kp : Area → Bool} (k_host : kp .host = false) (h : MbxHdr) (op : Nat) (args buf : List Byte) (needsBuf : Bool) (shadow : List (Nat × Nat)) (s : State) : keep kp (longCmd h op args buf needsBuf shadow s) = keep kp s := by
  unfold longCmd
  repeat' (first | (simp [k_host]; done) | split | dsimp only)
  all_goals first | rfl | (simp_all; done) | (simp [keep, k_host]; done) | grind [keep_mbxTake, keep_complete, keep_queueLong]

@[simp] theorem keep_versionCmd {kp : Area → Bool} (k_host : kp .host = false) (h : MbxHdr) (high low : Nat) (s : State) : keep kp (versionCmd h high low s) = keep kp s := by
  unfold versionCmd
  repeat' (first | (simp [k_host]; done) | split | dsimp only)
  all_goals first | rfl | (simp_all; done) | (simp [keep, k_host]; done) | grind [keep_mbxTake, keep_complete, keep_modHost, keep_hostPut]

end Sys2Proof.Machine
end

