-- ==== Sys2Proof/Laws/Keep/HostIf.lean ====
section
/-! SUPPORT. Which parts of the state the operations of Machine/HostIf.lean keep. -/

namespace Sys2Proof.Machine

set_option linter.all false

@[simp] theorem keep_ringProdWrite {kp : Area → Bool} (k_host : kp .host = false) (k : Nat) (v : Word) (s : State) : keep kp (ringProdWrite k v s) = keep kp s := by
  unfold ringProdWrite
  repeat' (first | (simp [k_host]; done) | split | dsimp only)
  all_goals first | rfl | (simp_all; done) | (simp [keep, k_host]; done) | grind [keep_modRing]

@[simp] theorem keep_ringConsWrite {kp : Area → Bool} (k_host : kp .host = false) (k : Nat) (v : Word) (s : State) : keep kp (ringConsWrite k v s) = keep kp s := by
  unfold ringConsWrite
  repeat' (first | (simp [k_host]; done) | split | dsimp only)
  all_goals first | rfl | (simp_all; done) | (simp [keep, k_host]; done) | grind [keep_modHost, keep_modRing, keep_drainCompletions]

@[simp] theorem keep_drainHeld {kp : Area → Bool} (k_regs : kp .regs = false) (k_host : kp .host = false) (s : State) : keep kp (drainHeld s) = keep kp s := by
  unfold drainHeld
  repeat' (first | (simp [k_regs, k_host]; done) | split | dsimp only)
  all_goals first | rfl | (simp_all; done) | (simp [keep, k_regs, k_host]; done) | grind [keep_forEach, keep_loseEvent, keep_modHost, keep_ringPut]

@[simp] theorem keep_ringEnable {kp : Area → Bool} (k_regs : kp .regs = false) (k_host : kp .host = false) (k : Nat) (s : State) : keep kp (ringEnable k s) = keep kp s := by
  unfold ringEnable
  repeat' (first | (simp [k_regs, k_host]; done) | split | dsimp only)
  all_goals first | rfl | (simp_all; done) | (simp [keep, k_regs, k_host]; done) | grind [keep_modRing, keep_modHost, keep_drainCompletions, keep_drainHeld]

@[simp] theorem keep_ringDisable {kp : Area → Bool} (k_host : kp .host = false) (k : Nat) (s : State) : keep kp (ringDisable k s) = keep kp s := by
  unfold ringDisable
  repeat' (first | (simp [k_host]; done) | split | dsimp only)
  all_goals first | rfl | (simp_all; done) | (simp [keep, k_host]; done) | grind [keep_modHost]

@[simp] theorem keep_ringCfgSet {kp : Area → Bool} (k_regs : kp .regs = false) (k_host : kp .host = false) (k : Nat) (v : Word) (s : State) : keep kp (ringCfgSet k v s) = keep kp s := by
  unfold ringCfgSet
  repeat' (first | (simp [k_regs, k_host]; done) | split | dsimp only)
  all_goals first | rfl | (simp_all; done) | (simp [keep, k_regs, k_host]; done) | grind [keep_regSet, keep_ringEnable, keep_ringDisable]

@[simp] theorem keep_quietAll {kp : Area → Bool} (k_writes : kp .writes = false) (k_tbl : kp .tbl = false) (k_host : kp .host = false) (s : State) : keep kp (quietAll s) = keep kp s := by
  unfold quietAll
  repeat' (first | (simp [k_writes, k_tbl, k_host]; done) | split | dsimp only)
  all_goals first | rfl | (simp_all; done) | (simp [keep, k_writes, k_tbl, k_host]; done) | grind [keep_modTbl, keep_modHost]

@[simp] theorem keep_hostReset {kp : Area → Bool} (k_regs : kp .regs = false) (k_writes : kp .writes = false) (k_tbl : kp .tbl = false) (k_host : kp .host = false) (s : State) : keep kp (hostReset s) = keep kp s := by
  unfold hostReset
  repeat' (first | (simp [k_regs, k_writes, k_tbl, k_host]; done) | split | dsimp only)
  all_goals first | rfl | (simp_all; done) | (simp [keep, k_regs, k_writes, k_tbl, k_host]; done) | grind [keep_quietAll, keep_modHost]

@[simp] theorem keep_functionReset {kp : Area → Bool} (k_regs : kp .regs = false) (k_writes : kp .writes = false) (k_tbl : kp .tbl = false) (k_host : kp .host = false) (s : State) : keep kp (functionReset s) = keep kp s := by
  unfold functionReset
  repeat' (first | (simp [k_regs, k_writes, k_tbl, k_host]; done) | split | dsimp only)
  all_goals first | rfl | (simp_all; done) | (simp [keep, k_regs, k_writes, k_tbl, k_host]; done) | grind [keep_raiseEv, keep_hostErr, keep_hostReset]

@[simp] theorem keep_txTake {kp : Area → Bool} (k_host : kp .host = false) (q : Nat) (d : TxDesc) (s : State) : keep kp (txTake q d s) = keep kp s := by
  unfold txTake
  repeat' (first | (simp [k_host]; done) | split | dsimp only)
  all_goals first | rfl | (simp_all; done) | (simp [keep, k_host]; done) | grind [keep_modHost, keep_modRing]

@[simp] theorem keep_modDesc {kp : Area → Bool} (k_host : kp .host = false) (id : Nat) (f : TxDone → TxDone) (s : State) : keep kp (modDesc id f s) = keep kp s := by
  unfold modDesc
  repeat' (first | (simp [k_host]; done) | split | dsimp only)
  all_goals first | rfl | (simp_all; done) | (simp [keep, k_host]; done) | grind [keep_modHost]

@[simp] theorem keep_injectFrame {kp : Area → Bool} (k_regs : kp .regs = false) (k_lanes : kp .lanes = false) (k_adm : kp .adm = false) (k_buf : kp .buf = false) (k_egr : kp .egr = false) (k_twin : kp .twin = false) (k_host : kp .host = false) (k_boot : kp .boot = false) (k_out : kp .out = false) (side : Bool) (apply : Nat) (i : InjInfo) (bs : List Byte) (s : State) : keep kp (injectFrame side apply i bs s) = keep kp s := by
  unfold injectFrame
  repeat' (first | (simp [k_regs, k_lanes, k_adm, k_buf, k_egr, k_twin, k_host, k_boot, k_out]; done) | split | dsimp only)
  all_goals first | rfl | (simp_all; done) | (simp [keep, k_regs, k_lanes, k_adm, k_buf, k_egr, k_twin, k_host, k_boot, k_out]; done) | grind [keep_takeCells, keep_noteInjDrop, keep_noCell, keep_returnCells, keep_arrive]

@[simp] theorem keep_injectOne {kp : Area → Bool} (k_regs : kp .regs = false) (k_lanes : kp .lanes = false) (k_adm : kp .adm = false) (k_buf : kp .buf = false) (k_egr : kp .egr = false) (k_twin : kp .twin = false) (k_host : kp .host = false) (k_boot : kp .boot = false) (k_out : kp .out = false) (i : InjInfo) (body : List Byte) (s : State) : keep kp (injectOne i body s) = keep kp s := by
  unfold injectOne
  repeat' (first | (simp [k_regs, k_lanes, k_adm, k_buf, k_egr, k_twin, k_host, k_boot, k_out]; done) | split | dsimp only)
  all_goals first | rfl | (simp_all; done) | (simp [keep, k_regs, k_lanes, k_adm, k_buf, k_egr, k_twin, k_host, k_boot, k_out]; done) | grind [keep_modHost, keep_whenB, keep_flueSend, keep_injectFrame]

@[simp] theorem keep_txRead {kp : Area → Bool} (k_regs : kp .regs = false) (k_lanes : kp .lanes = false) (k_adm : kp .adm = false) (k_buf : kp .buf = false) (k_egr : kp .egr = false) (k_twin : kp .twin = false) (k_host : kp .host = false) (k_boot : kp .boot = false) (k_out : kp .out = false) (q : Nat) (bs : List Byte) (s : State) : keep kp (txRead q bs s) = keep kp s := by
  unfold txRead
  repeat' (first | (simp [k_regs, k_lanes, k_adm, k_buf, k_egr, k_twin, k_host, k_boot, k_out]; done) | split | dsimp only)
  all_goals first | rfl | (simp_all; done) | (simp [keep, k_regs, k_lanes, k_adm, k_buf, k_egr, k_twin, k_host, k_boot, k_out]; done) | grind [keep_forEach, keep_injectOne, keep_modDesc, keep_raiseLim, keep_countDrop]

@[simp] theorem keep_txWrite {kp : Area → Bool} (k_host : kp .host = false) (q : Nat) (s : State) : keep kp (txWrite q s) = keep kp s := by
  unfold txWrite
  repeat' (first | (simp [k_host]; done) | split | dsimp only)
  all_goals first | rfl | (simp_all; done) | (simp [keep, k_host]; done) | grind [keep_ringPut, keep_modHost]

@[simp] theorem keep_markTake {kp : Area → Bool} (k_buf : kp .buf = false) (q e : Nat) (s : State) : keep kp (markTake q e s) = keep kp s := by
  unfold markTake
  repeat' (first | (simp [k_buf]; done) | split | dsimp only)
  all_goals first | rfl | (simp_all; done) | (simp [keep, k_buf]; done) | grind [keep_release, keep_modQueue]

@[simp] theorem keep_hostTake {kp : Area → Bool} (k_buf : kp .buf = false) (k_host : kp .host = false) (k_out : kp .out = false) (q : Nat) (bufs : List Nat) (s : State) : keep kp (hostTake q bufs s) = keep kp s := by
  unfold hostTake
  repeat' (first | (simp [k_buf, k_host, k_out]; done) | split | dsimp only)
  all_goals first | rfl | (simp_all; done) | (simp [keep, k_buf, k_host, k_out]; done) | grind [keep_modHost, keep_modRing, keep_markTake, keep_whenB, keep_flueSend]

@[simp] theorem keep_takeOne {kp : Area → Bool} (k_regs : kp .regs = false) (k_buf : kp .buf = false) (k_egr : kp .egr = false) (k_twin : kp .twin = false) (k_host : kp .host = false) (k_boot : kp .boot = false) (k_out : kp .out = false) (q : Nat) (bufs : List Nat) (s : State) : keep kp (takeOne q bufs s) = keep kp s := by
  unfold takeOne
  repeat' (first | (simp [k_regs, k_buf, k_egr, k_twin, k_host, k_boot, k_out]; done) | split | dsimp only)
  all_goals first | rfl | (simp_all; done) | (simp [keep, k_regs, k_buf, k_egr, k_twin, k_host, k_boot, k_out]; done) | grind [keep_modQueue, keep_releaseCopy, keep_modHost, keep_countPair]

@[simp] theorem keep_takesDue {kp : Area → Bool} (k_regs : kp .regs = false) (k_buf : kp .buf = false) (k_egr : kp .egr = false) (k_twin : kp .twin = false) (k_host : kp .host = false) (k_boot : kp .boot = false) (k_out : kp .out = false) (s : State) : keep kp (takesDue s) = keep kp s := by
  unfold takesDue
  repeat' (first | (simp [k_regs, k_buf, k_egr, k_twin, k_host, k_boot, k_out]; done) | split | dsimp only)
  all_goals first | rfl | (simp_all; done) | (simp [keep, k_regs, k_buf, k_egr, k_twin, k_host, k_boot, k_out]; done) | grind [keep_forEach, keep_takeOne, keep_modHost]

@[simp] theorem keep_rxWrite {kp : Area → Bool} (k_host : kp .host = false) (q : Nat) (s : State) : keep kp (rxWrite q s) = keep kp s := by
  unfold rxWrite
  repeat' (first | (simp [k_host]; done) | split | dsimp only)
  all_goals first | rfl | (simp_all; done) | (simp [keep, k_host]; done) | grind [keep_ringPut, keep_forEach, keep_hostPut, keep_modHost]

@[simp] theorem keep_rxStall {kp : Area → Bool} (k_regs : kp .regs = false) (k_host : kp .host = false) (q : Nat) (s : State) : keep kp (rxStall q s) = keep kp s := by
  unfold rxStall
  repeat' (first | (simp [k_regs, k_host]; done) | split | dsimp only)
  all_goals first | rfl | (simp_all; done) | (simp [keep, k_regs, k_host]; done) | grind [keep_modHost, keep_raiseLim]

@[simp] theorem keep_hostTick {kp : Area → Bool} (k_regs : kp .regs = false) (k_host : kp .host = false) (k_out : kp .out = false) (s : State) : keep kp (hostTick s) = keep kp s := by
  unfold hostTick
  repeat' (first | (simp [k_regs, k_host, k_out]; done) | split | dsimp only)
  all_goals first | rfl | (simp_all; done) | (simp [keep, k_regs, k_host, k_out]; done) | grind [keep_modHost, keep_forEach, keep_rxStall, keep_modOut]

@[simp] theorem keep_injectReceive {kp : Area → Bool} (k_regs : kp .regs = false) (k_lanes : kp .lanes = false) (k_adm : kp .adm = false) (k_buf : kp .buf = false) (k_egr : kp .egr = false) (k_twin : kp .twin = false) (k_host : kp .host = false) (k_boot : kp .boot = false) (k_out : kp .out = false) (apply : Nat) (body : List Byte) (s : State) : keep kp (injectReceive apply body s) = keep kp s := by
  unfold injectReceive
  repeat' (first | (simp [k_regs, k_lanes, k_adm, k_buf, k_egr, k_twin, k_host, k_boot, k_out]; done) | split | dsimp only)
  all_goals first | rfl | (simp_all; done) | (simp [keep, k_regs, k_lanes, k_adm, k_buf, k_egr, k_twin, k_host, k_boot, k_out]; done) | grind [keep_injectFrame]

@[simp] theorem keep_msixSend {kp : Area → Bool} (k_host : kp .host = false) (k_out : kp .out = false) (v : Nat) (s : State) : keep kp (msixSend v s) = keep kp s := by
  unfold msixSend
  repeat' (first | (simp [k_host, k_out]; done) | split | dsimp only)
  all_goals first | rfl | (simp_all; done) | (simp [keep, k_host, k_out]; done) | grind [keep_modOut, keep_modHost]

@[simp] theorem keep_mdioStart {kp : Area → Bool} (k_regs : kp .regs = false) (k_host : kp .host = false) (k_out : kp .out = false) (m : Nat) (v : Word) (s : State) : keep kp (mdioStart m v s) = keep kp s := by
  unfold mdioStart
  repeat' (first | (simp [k_regs, k_host, k_out]; done) | split | dsimp only)
  all_goals first | rfl | (simp_all; done) | (simp [keep, k_regs, k_host, k_out]; done) | grind [keep_regSet, keep_modOut, keep_modHost]

@[simp] theorem keep_mdioEnd {kp : Area → Bool} (k_regs : kp .regs = false) (k_host : kp .host = false) (m data : Nat) (s : State) : keep kp (mdioEnd m data s) = keep kp s := by
  unfold mdioEnd
  repeat' (first | (simp [k_regs, k_host]; done) | split | dsimp only)
  all_goals first | rfl | (simp_all; done) | (simp [keep, k_regs, k_host]; done) | grind [keep_modHost, keep_regSetFld]

@[simp] theorem keep_modTwi {kp : Area → Bool} (k_host : kp .host = false) (m : Nat) (f : Twi → Twi) (s : State) : keep kp (modTwi m f s) = keep kp s := by
  unfold modTwi
  repeat' (first | (simp [k_host]; done) | split | dsimp only)
  all_goals first | rfl | (simp_all; done) | (simp [keep, k_host]; done) | grind [keep_modHost]

@[simp] theorem keep_twiCmd {kp : Area → Bool} (k_regs : kp .regs = false) (k_host : kp .host = false) (k_out : kp .out = false) (m : Nat) (v : Word) (s : State) : keep kp (twiCmd m v s) = keep kp s := by
  unfold twiCmd
  repeat' (first | (simp [k_regs, k_host, k_out]; done) | split | dsimp only)
  all_goals first | rfl | (simp_all; done) | (simp [keep, k_regs, k_host, k_out]; done) | grind [keep_regSet, keep_modOut, keep_modTwi]

@[simp] theorem keep_twiEnd {kp : Area → Bool} (k_regs : kp .regs = false) (k_host : kp .host = false) (m : Nat) (r : TwiResult) (s : State) : keep kp (twiEnd m r s) = keep kp s := by
  unfold twiEnd
  repeat' (first | (simp [k_regs, k_host]; done) | split | dsimp only)
  all_goals first | rfl | (simp_all; done) | (simp [keep, k_regs, k_host]; done) | grind [keep_raiseEv, keep_modTwi]

@[simp] theorem keep_readAnswer {kp : Area → Bool} (k_regs : kp .regs = false) (v : Word) (s : State) : keep kp (readAnswer v s) = keep kp s := by
  unfold readAnswer
  repeat' (first | (simp [k_regs]; done) | split | dsimp only)
  all_goals first | rfl | (simp_all; done) | (simp [keep, k_regs]; done)

@[simp] theorem keep_twiPop {kp : Area → Bool} (k_regs : kp .regs = false) (k_host : kp .host = false) (m : Nat) (s : State) : keep kp (twiPop m s) = keep kp s := by
  unfold twiPop
  repeat' (first | (simp [k_regs, k_host]; done) | split | dsimp only)
  all_goals first | rfl | (simp_all; done) | (simp [keep, k_regs, k_host]; done) | grind [keep_readAnswer, keep_modTwi]

@[simp] theorem keep_uartPop {kp : Area → Bool} (k_regs : kp .regs = false) (k_host : kp .host = false) (s : State) : keep kp (uartPop s) = keep kp s := by
  unfold uartPop
  repeat' (first | (simp [k_regs, k_host]; done) | split | dsimp only)
  all_goals first | rfl | (simp_all; done) | (simp [keep, k_regs, k_host]; done) | grind [keep_readAnswer, keep_modHost]

@[simp] theorem keep_uartPush {kp : Area → Bool} (k_host : kp .host = false) (v : Word) (s : State) : keep kp (uartPush v s) = keep kp s := by
  unfold uartPush
  repeat' (first | (simp [k_host]; done) | split | dsimp only)
  all_goals first | rfl | (simp_all; done) | (simp [keep, k_host]; done) | grind [keep_modHost]

@[simp] theorem keep_dmaError {kp : Area → Bool} (k_regs : kp .regs = false) (k_host : kp .host = false) (off idx : Nat) (s : State) : keep kp (dmaError off idx s) = keep kp s := by
  unfold dmaError
  repeat' (first | (simp [k_regs, k_host]; done) | split | dsimp only)
  all_goals first | rfl | (simp_all; done) | (simp [keep, k_regs, k_host]; done) | grind [keep_raiseEv, keep_hostErr]

@[simp] theorem keep_pcieFail {kp : Area → Bool} (k_regs : kp .regs = false) (k_writes : kp .writes = false) (k_host : kp .host = false) (e : PcieErr) (s : State) : keep kp (pcieFail e s) = keep kp s := by
  unfold pcieFail
  split
  · split
    · rfl
    · dsimp only
      rw [keep_dmaError k_regs k_host, keep_complete k_host]
      simp [keep, modHost, k_writes, k_host]
  · split
    · rfl
    · rw [keep_dmaError k_regs k_host, keep_modDesc k_host]
  · split
    · rw [keep_dmaError k_regs k_host, keep_ringDisable k_host, keep_regSetFld k_regs]
    · rfl

end Sys2Proof.Machine
end

