-- ==== Sys2Proof/Laws/Keep/Start.lean ====
section
/-! SUPPORT. Which parts of the state the operations of Machine/Start.lean keep. -/

namespace Sys2Proof.Machine

set_option linter.all false

@[simp] theorem keep_fillSlice {kp : Area → Bool} (k_buf : kp .buf = false) (i : Nat) (s : State) : keep kp (fillSlice i s) = keep kp s := by
  unfold fillSlice
  repeat' (first | (simp [k_buf]; done) | split | dsimp only)
  all_goals first | rfl | (simp_all; done) | (simp [keep, k_buf]; done) | grind [keep_ashRefillOp, keep_modSlice]

@[simp] theorem keep_stepNine {kp : Area → Bool} (k_buf : kp .buf = false) (s : State) : keep kp (stepNine s) = keep kp s := by
  unfold stepNine
  repeat' (first | (simp [k_buf]; done) | split | dsimp only)
  all_goals first | rfl | (simp_all; done) | (simp [keep, k_buf]; done) | grind [keep_sizeReserves, keep_forEach, keep_fillSlice, keep_modBuf]

@[simp] theorem keep_seedsTake {kp : Area → Bool} (k_tbl : kp .tbl = false) (s : State) : keep kp (seedsTake s) = keep kp s := by
  unfold seedsTake
  repeat' (first | (simp [k_tbl]; done) | split | dsimp only)
  all_goals first | rfl | (simp_all; done) | (simp [keep, k_tbl]; done) | grind [keep_modTbl]

@[simp] theorem keep_releaseLanes {kp : Area → Bool} (k_regs : kp .regs = false) (k_lanes : kp .lanes = false) (k_ports : kp .ports = false) (k_host : kp .host = false) (k_boot : kp .boot = false) (k_out : kp .out = false) (s : State) : keep kp (releaseLanes s) = keep kp s := by
  unfold releaseLanes
  repeat' (first | (simp [k_regs, k_lanes, k_ports, k_host, k_boot, k_out]; done) | split | dsimp only)
  all_goals first | rfl | (simp_all; done) | (simp [keep, k_regs, k_lanes, k_ports, k_host, k_boot, k_out]; done) | grind [keep_forEach, keep_linkJudgeLane, keep_laneStart, keep_regSetFld, keep_modBoot]

@[simp] theorem keep_nameStart {kp : Area → Bool} (k_regs : kp .regs = false) (k_host : kp .host = false) (k_boot : kp .boot = false) (t : Nat) (s : State) : keep kp (nameStart t s) = keep kp s := by
  unfold nameStart
  repeat' (first | (simp [k_regs, k_host, k_boot]; done) | split | dsimp only)
  all_goals first | rfl | (simp_all; done) | (simp [keep, k_regs, k_host, k_boot]; done) | grind [keep_raiseEv, keep_modBoot]

@[simp] theorem keep_beginForwarding {kp : Area → Bool} (k_clk : kp .clk = false) (k_regs : kp .regs = false) (k_lanes : kp .lanes = false) (k_ports : kp .ports = false) (k_adm : kp .adm = false) (k_prog : kp .prog = false) (k_tbl : kp .tbl = false) (k_egr : kp .egr = false) (k_host : kp .host = false) (k_boot : kp .boot = false) (k_out : kp .out = false) (s : State) : keep kp (beginForwarding s) = keep kp s := by
  unfold beginForwarding
  repeat' (first | (simp [k_clk, k_regs, k_lanes, k_ports, k_adm, k_prog, k_tbl, k_egr, k_host, k_boot, k_out]; done) | split | dsimp only)
  all_goals first | rfl | (simp_all; done) | (simp [keep, k_clk, k_regs, k_lanes, k_ports, k_adm, k_prog, k_tbl, k_egr, k_host, k_boot, k_out]; done) | grind [keep_modClk, keep_nameStart, keep_seedsTake, keep_modBoot, keep_activateImage, keep_noteCapacity, keep_releaseLanes]

@[simp] theorem keep_forwardingDue {kp : Area → Bool} (k_clk : kp .clk = false) (k_regs : kp .regs = false) (k_lanes : kp .lanes = false) (k_ports : kp .ports = false) (k_adm : kp .adm = false) (k_prog : kp .prog = false) (k_tbl : kp .tbl = false) (k_egr : kp .egr = false) (k_host : kp .host = false) (k_boot : kp .boot = false) (k_out : kp .out = false) (s : State) : keep kp (forwardingDue s) = keep kp s := by
  unfold forwardingDue
  repeat' (first | (simp [k_clk, k_regs, k_lanes, k_ports, k_adm, k_prog, k_tbl, k_egr, k_host, k_boot, k_out]; done) | split | dsimp only)
  all_goals first | rfl | (simp_all; done) | (simp [keep, k_clk, k_regs, k_lanes, k_ports, k_adm, k_prog, k_tbl, k_egr, k_host, k_boot, k_out]; done) | grind [keep_beginForwarding]

end Sys2Proof.Machine
end

