-- ==== Sys2Proof/Laws/Keep/Snap.lean ====
section
/-! SUPPORT. Which parts of the state the operations of Machine/Snap.lean keep. -/

namespace Sys2Proof.Machine

set_option linter.all false

@[simp] theorem keep_sendBulk {kp : Area → Bool} (k_out : kp .out = false) (b : List Byte) (s : State) : keep kp (sendBulk b s) = keep kp s := by
  unfold sendBulk
  repeat' (first | (simp [k_out]; done) | split | dsimp only)
  all_goals first | rfl | (simp_all; done) | (simp [keep, k_out]; done) | grind [keep_flueSend]

@[simp] theorem keep_sendLog {kp : Area → Bool} (k_out : kp .out = false) (r : ItemRec) (s : State) : keep kp (sendLog r s) = keep kp s := by
  unfold sendLog
  repeat' (first | (simp [k_out]; done) | split | dsimp only)
  all_goals first | rfl | (simp_all; done) | (simp [keep, k_out]; done) | grind [keep_flueSend]

@[simp] theorem keep_snapStart {kp : Area → Bool} (k_regs : kp .regs = false) (k_twin : kp .twin = false) (k_host : kp .host = false) (k_out : kp .out = false) (s : State) : keep kp (snapStart s) = keep kp s := by
  unfold snapStart
  repeat' (first | (simp [k_regs, k_twin, k_host, k_out]; done) | split | dsimp only)
  all_goals first | rfl | (simp_all; done) | (simp [keep, k_regs, k_twin, k_host, k_out]; done) | grind [keep_forEach, keep_sendBulk, keep_raiseEv, keep_modTwin]

@[simp] theorem keep_mapLanes {kp : Area → Bool} (k_twin : kp .twin = false) (k_out : kp .out = false) (s : State) : keep kp (mapLanes s) = keep kp s := by
  unfold mapLanes
  repeat' (first | (simp [k_twin, k_out]; done) | split | dsimp only)
  all_goals first | rfl | (simp_all; done) | (simp [keep, k_twin, k_out]; done) | grind [keep_flueSend, keep_modTwin]

@[simp] theorem keep_logLanes {kp : Area → Bool} (k_twin : kp .twin = false) (k_out : kp .out = false) (s : State) : keep kp (logLanes s) = keep kp s := by
  unfold logLanes
  repeat' (first | (simp [k_twin, k_out]; done) | split | dsimp only)
  all_goals first | rfl | (simp_all; done) | (simp [keep, k_twin, k_out]; done) | grind [keep_forEach, keep_sendLog, keep_modTwin, keep_flueSend]

@[simp] theorem keep_noteRetirements {kp : Area → Bool} (k_twin : kp .twin = false) (f : State → State) (s : State) (h_f : ∀ x0, keep kp (f x0) = keep kp x0) : keep kp (noteRetirements f s) = keep kp s := by
  unfold noteRetirements
  repeat' (first | (simp [h_f, k_twin]; done) | split | dsimp only)
  all_goals first | rfl | (simp_all; done) | (simp [keep, k_twin]; done) | grind [keep_modTwin]

@[simp] theorem keep_logRetirements {kp : Area → Bool} (k_twin : kp .twin = false) (k_out : kp .out = false) (s : State) : keep kp (logRetirements s) = keep kp s := by
  unfold logRetirements
  repeat' (first | (simp [k_twin, k_out]; done) | split | dsimp only)
  all_goals first | rfl | (simp_all; done) | (simp [keep, k_twin, k_out]; done) | grind [keep_forEach, keep_sendLog, keep_modTwin]

@[simp] theorem keep_withPlaceholders {kp : Area → Bool} (k_out : kp .out = false) (f : State → State) (s : State) (h_f : ∀ x0, keep kp (f x0) = keep kp x0) : keep kp (withPlaceholders f s) = keep kp s := by
  unfold withPlaceholders
  repeat' (first | (simp [h_f, k_out]; done) | split | dsimp only)
  all_goals first | rfl | (simp_all; done) | (simp [keep, k_out]; done) | grind [keep_forEach, keep_flueSend]

@[simp] theorem keep_sourceStep {kp : Area → Bool} (k_regs : kp .regs = false) (k_twin : kp .twin = false) (k_host : kp .host = false) (k_out : kp .out = false) (s : State) : keep kp (sourceStep s) = keep kp s := by
  unfold sourceStep
  repeat' (first | (simp [k_regs, k_twin, k_host, k_out]; done) | split | dsimp only)
  all_goals first | rfl | (simp_all; done) | (simp [keep, k_regs, k_twin, k_host, k_out]; done) | grind [keep_snapStart, keep_flueSend, keep_modTwin, keep_forEach, keep_sendLog, keep_logLanes, keep_logRetirements]

@[simp] theorem keep_takeVersions {kp : Area → Bool} (k_tbl : kp .tbl = false) (k_buf : kp .buf = false) (k : EntryKey) (eff st new old : Nat) (s : State) : keep kp (takeVersions k eff st new old s) = keep kp s := by
  unfold takeVersions
  repeat' (first | (simp [k_tbl, k_buf]; done) | split | dsimp only)
  all_goals first | rfl | (simp_all; done) | (simp [keep, k_tbl, k_buf]; done) | grind [keep_dropChange, keep_setVer, keep_putChange, keep_reach]

@[simp] theorem keep_takeStation {kp : Area → Bool} (k_tbl : kp .tbl = false) (k_buf : kp .buf = false) (i : Nat) (b : List Byte) (s : State) : keep kp (takeStation i b s) = keep kp s := by
  unfold takeStation
  repeat' (first | (simp [k_tbl, k_buf]; done) | split | dsimp only)
  all_goals first | rfl | (simp_all; done) | (simp [keep, k_tbl, k_buf]; done) | grind [keep_dropChange, keep_modTbl, keep_takeVersions]

@[simp] theorem keep_takeRoute {kp : Area → Bool} (k_tbl : kp .tbl = false) (k_buf : kp .buf = false) (i : Nat) (b : List Byte) (s : State) : keep kp (takeRoute i b s) = keep kp s := by
  unfold takeRoute
  repeat' (first | (simp [k_tbl, k_buf]; done) | split | dsimp only)
  all_goals first | rfl | (simp_all; done) | (simp [keep, k_tbl, k_buf]; done) | grind [keep_dropChange, keep_modTbl, keep_countRoute, keep_takeVersions]

@[simp] theorem keep_takeTcam {kp : Area → Bool} (k_tcam : kp .tcam = false) (i : Nat) (b : List Byte) (s : State) : keep kp (takeTcam i b s) = keep kp s := by
  unfold takeTcam
  repeat' (first | (simp [k_tcam]; done) | split | dsimp only)
  all_goals first | rfl | (simp_all; done) | (simp [keep, k_tcam]; done) | grind [keep_modTcam]

@[simp] theorem keep_takeMeter {kp : Area → Bool} (k_egr : kp .egr = false) (i : Nat) (b : List Byte) (s : State) : keep kp (takeMeter i b s) = keep kp s := by
  unfold takeMeter
  repeat' (first | (simp [k_egr]; done) | split | dsimp only)
  all_goals first | rfl | (simp_all; done) | (simp [keep, k_egr]; done) | grind [keep_modMeter]

@[simp] theorem keep_takeTable {kp : Area → Bool} (k_tbl : kp .tbl = false) (k_tcam : kp .tcam = false) (k_buf : kp .buf = false) (k_egr : kp .egr = false) (code i : Nat) (b : List Byte) (s : State) : keep kp (takeTable code i b s) = keep kp s := by
  unfold takeTable
  repeat' (first | (simp [k_tbl, k_tcam, k_buf, k_egr]; done) | split | dsimp only)
  all_goals first | rfl | (simp_all; done) | (simp [keep, k_tbl, k_tcam, k_buf, k_egr]; done) | grind [keep_takeStation, keep_takeRoute, keep_takeTcam, keep_takeMeter, keep_modSession, keep_takeVersions]

@[simp] theorem keep_takeEmber {kp : Area → Bool} (k_tbl : kp .tbl = false) (r : Nat) (b : List Byte) (s : State) : keep kp (takeEmber r b s) = keep kp s := by
  unfold takeEmber
  repeat' (first | (simp [k_tbl]; done) | split | dsimp only)
  all_goals first | rfl | (simp_all; done) | (simp [keep, k_tbl]; done) | grind [keep_modEmber]

@[simp] theorem keep_takeRegAt {kp : Area → Bool} (k_regs : kp .regs = false) (k_lanes : kp .lanes = false) (k_ports : kp .ports = false) (k_adm : kp .adm = false) (k_hob : kp .hob = false) (k_tbl : kp .tbl = false) (k_egr : kp .egr = false) (k_host : kp .host = false) (k_boot : kp .boot = false) (k_pwr : kp .pwr = false) (k_out : kp .out = false) (a : Nat) (b : List Byte) (s : State) : keep kp (takeRegAt a b s) = keep kp s := by
  unfold takeRegAt
  repeat' (first | (simp [k_regs, k_lanes, k_ports, k_adm, k_hob, k_tbl, k_egr, k_host, k_boot, k_pwr, k_out]; done) | split | dsimp only)
  all_goals first | rfl | (simp_all; done) | (simp [keep, k_regs, k_lanes, k_ports, k_adm, k_hob, k_tbl, k_egr, k_host, k_boot, k_pwr, k_out]; done) | grind [keep_laneModeEffect, keep_chanMapWrite, keep_groupCfgEffect, keep_regSet, keep_policyWrite, keep_ecmpCfgWrite]

@[simp] theorem keep_takeReg {kp : Area → Bool} (k_regs : kp .regs = false) (k_lanes : kp .lanes = false) (k_ports : kp .ports = false) (k_adm : kp .adm = false) (k_hob : kp .hob = false) (k_tbl : kp .tbl = false) (k_egr : kp .egr = false) (k_host : kp .host = false) (k_boot : kp .boot = false) (k_pwr : kp .pwr = false) (k_out : kp .out = false) (code off : Nat) (b : List Byte) (s : State) : keep kp (takeReg code off b s) = keep kp s := by
  unfold takeReg
  repeat' (first | (simp [k_regs, k_lanes, k_ports, k_adm, k_hob, k_tbl, k_egr, k_host, k_boot, k_pwr, k_out]; done) | split | dsimp only)
  all_goals first | rfl | (simp_all; done) | (simp [keep, k_regs, k_lanes, k_ports, k_adm, k_hob, k_tbl, k_egr, k_host, k_boot, k_pwr, k_out]; done) | grind [keep_takeRegAt]

@[simp] theorem keep_takeMac {kp : Area → Bool} (k_ports : kp .ports = false) (p : Nat) (b : List Byte) (s : State) : keep kp (takeMac p b s) = keep kp s := by
  unfold takeMac
  repeat' (first | (simp [k_ports]; done) | split | dsimp only)
  all_goals first | rfl | (simp_all; done) | (simp [keep, k_ports]; done) | grind [keep_modPort]

@[simp] theorem keep_takeSched {kp : Area → Bool} (k_egr : kp .egr = false) (p : Nat) (b : List Byte) (s : State) : keep kp (takeSched p b s) = keep kp s := by
  unfold takeSched
  repeat' (first | (simp [k_egr]; done) | split | dsimp only)
  all_goals first | rfl | (simp_all; done) | (simp [keep, k_egr]; done) | grind [keep_modSched]

@[simp] theorem keep_phRecount {kp : Area → Bool} (k_buf : kp .buf = false) (s : State) : keep kp (phRecount s) = keep kp s := by
  unfold phRecount
  repeat' (first | (simp [k_buf]; done) | split | dsimp only)
  all_goals first | rfl | (simp_all; done) | (simp [keep, k_buf]; done) | grind [keep_modBuf]

@[simp] theorem keep_takeQueue {kp : Area → Bool} (k_buf : kp .buf = false) (q : Nat) (b : List Byte) (s : State) : keep kp (takeQueue q b s) = keep kp s := by
  unfold takeQueue
  repeat' (first | (simp [k_buf]; done) | split | dsimp only)
  all_goals first | rfl | (simp_all; done) | (simp [keep, k_buf]; done) | grind [keep_forEach, keep_putStored, keep_phRecount, keep_modQueue]

@[simp] theorem keep_takeDesc {kp : Area → Bool} (k_buf : kp .buf = false) (d : Nat) (b : List Byte) (s : State) : keep kp (takeDesc d b s) = keep kp s := by
  unfold takeDesc
  repeat' (first | (simp [k_buf]; done) | split | dsimp only)
  all_goals first | rfl | (simp_all; done) | (simp [keep, k_buf]; done) | grind [keep_release, keep_forgetStored, keep_putStored]

@[simp] theorem keep_takeResidue {kp : Area → Bool} (k_buf : kp .buf = false) (i : Nat) (b : List Byte) (s : State) : keep kp (takeResidue i b s) = keep kp s := by
  unfold takeResidue
  repeat' (first | (simp [k_buf]; done) | split | dsimp only)
  all_goals first | rfl | (simp_all; done) | (simp [keep, k_buf]; done) | grind [keep_phRecount, keep_modBuf]

@[simp] theorem keep_markQueued {kp : Area → Bool} (k_tbl : kp .tbl = false) (k : EntryKey) (d i : Nat) (c : Change) (s : State) : keep kp (markQueued k d i c s) = keep kp s := by
  unfold markQueued
  repeat' (first | (simp [k_tbl]; done) | split | dsimp only)
  all_goals first | rfl | (simp_all; done) | (simp [keep, k_tbl]; done) | grind [keep_dropChange, keep_putChange, keep_syncWord, keep_enqueue]

@[simp] theorem keep_takeChange {kp : Area → Bool} (k_tbl : kp .tbl = false) (b : List Byte) (s : State) : keep kp (takeChange b s) = keep kp s := by
  unfold takeChange
  repeat' (first | (simp [k_tbl]; done) | split | dsimp only)
  all_goals first | rfl | (simp_all; done) | (simp [keep, k_tbl]; done) | grind [keep_markQueued, keep_reach]

@[simp] theorem keep_takeTxn {kp : Area → Bool} (k_tcam : kp .tcam = false) (b : List Byte) (s : State) : keep kp (takeTxn b s) = keep kp s := by
  unfold takeTxn
  repeat' (first | (simp [k_tcam]; done) | split | dsimp only)
  all_goals first | rfl | (simp_all; done) | (simp [keep, k_tcam]; done) | grind [keep_modTcam]

@[simp] theorem keep_takeDevice {kp : Area → Bool} (k_tbl : kp .tbl = false) (k_tcam : kp .tcam = false) (k_buf : kp .buf = false) (k_egr : kp .egr = false) (k_time : kp .time = false) (code i : Nat) (b : List Byte) (s : State) : keep kp (takeDevice code i b s) = keep kp s := by
  unfold takeDevice
  repeat' (first | (simp [k_tbl, k_tcam, k_buf, k_egr, k_time]; done) | split | dsimp only)
  all_goals first | rfl | (simp_all; done) | (simp [keep, k_tbl, k_tcam, k_buf, k_egr, k_time]; done) | grind [keep_takeChange, keep_modTbl, keep_takeTxn, keep_modBuf, keep_modSession, keep_modTime]

@[simp] theorem keep_takeItem {kp : Area → Bool} (k_regs : kp .regs = false) (k_lanes : kp .lanes = false) (k_ports : kp .ports = false) (k_adm : kp .adm = false) (k_hob : kp .hob = false) (k_tbl : kp .tbl = false) (k_tcam : kp .tcam = false) (k_buf : kp .buf = false) (k_egr : kp .egr = false) (k_twin : kp .twin = false) (k_time : kp .time = false) (k_host : kp .host = false) (k_boot : kp .boot = false) (k_pwr : kp .pwr = false) (k_out : kp .out = false) (r : ItemRec) (s : State) : keep kp (takeItem r s) = keep kp s := by
  unfold takeItem
  repeat' (first | (simp [k_regs, k_lanes, k_ports, k_adm, k_hob, k_tbl, k_tcam, k_buf, k_egr, k_twin, k_time, k_host, k_boot, k_pwr, k_out]; done) | split | dsimp only)
  all_goals first | rfl | (simp_all; done) | (simp [keep, k_regs, k_lanes, k_ports, k_adm, k_hob, k_tbl, k_tcam, k_buf, k_egr, k_twin, k_time, k_host, k_boot, k_pwr, k_out]; done) | grind [keep_takeTable, keep_takeEmber, keep_pairSet, keep_takeReg, keep_modTwin, keep_takeMac, keep_takeSched, keep_modLane, keep_takeQueue, keep_modOwner, keep_takeDesc, keep_takeResidue, keep_takeDevice]

@[simp] theorem keep_takeItems {kp : Area → Bool} (k_regs : kp .regs = false) (k_lanes : kp .lanes = false) (k_ports : kp .ports = false) (k_adm : kp .adm = false) (k_hob : kp .hob = false) (k_tbl : kp .tbl = false) (k_tcam : kp .tcam = false) (k_buf : kp .buf = false) (k_egr : kp .egr = false) (k_twin : kp .twin = false) (k_time : kp .time = false) (k_host : kp .host = false) (k_boot : kp .boot = false) (k_pwr : kp .pwr = false) (k_out : kp .out = false) (b : List Byte) (s : State) : keep kp (takeItems b s) = keep kp s := by
  unfold takeItems
  repeat' (first | (simp [k_regs, k_lanes, k_ports, k_adm, k_hob, k_tbl, k_tcam, k_buf, k_egr, k_twin, k_time, k_host, k_boot, k_pwr, k_out]; done) | split | dsimp only)
  all_goals first | rfl | (simp_all; done) | (simp [keep, k_regs, k_lanes, k_ports, k_adm, k_hob, k_tbl, k_tcam, k_buf, k_egr, k_twin, k_time, k_host, k_boot, k_pwr, k_out]; done) | grind [keep_forEach, keep_takeItem, keep_modBuf]

@[simp] theorem keep_linkPlaceholder {kp : Area → Bool} (k_regs : kp .regs = false) (k_ports : kp .ports = false) (k_buf : kp .buf = false) (k_twin : kp .twin = false) (k_host : kp .host = false) (k_boot : kp .boot = false) (k_out : kp .out = false) (b : List Byte) (s : State) : keep kp (linkPlaceholder b s) = keep kp s := by
  unfold linkPlaceholder
  repeat' (first | (simp [k_regs, k_ports, k_buf, k_twin, k_host, k_boot, k_out]; done) | split | dsimp only)
  all_goals first | rfl | (simp_all; done) | (simp [keep, k_regs, k_ports, k_buf, k_twin, k_host, k_boot, k_out]; done) | grind [keep_putStored, keep_chargeOwner, keep_linkCopy, keep_bankCopy, keep_modBuf]

@[simp] theorem keep_placeholdersDue {kp : Area → Bool} (k_regs : kp .regs = false) (k_ports : kp .ports = false) (k_buf : kp .buf = false) (k_twin : kp .twin = false) (k_host : kp .host = false) (k_boot : kp .boot = false) (k_out : kp .out = false) (s : State) : keep kp (placeholdersDue s) = keep kp s := by
  unfold placeholdersDue
  repeat' (first | (simp [k_regs, k_ports, k_buf, k_twin, k_host, k_boot, k_out]; done) | split | dsimp only)
  all_goals first | rfl | (simp_all; done) | (simp [keep, k_regs, k_ports, k_buf, k_twin, k_host, k_boot, k_out]; done) | grind [keep_forEach, keep_linkPlaceholder, keep_modTwin]

@[simp] theorem keep_placeholderReceive {kp : Area → Bool} (k_regs : kp .regs = false) (k_ports : kp .ports = false) (k_buf : kp .buf = false) (k_twin : kp .twin = false) (k_host : kp .host = false) (k_boot : kp .boot = false) (k_out : kp .out = false) (tick : Nat) (b : List Byte) (s : State) : keep kp (placeholderReceive tick b s) = keep kp s := by
  unfold placeholderReceive
  repeat' (first | (simp [k_regs, k_ports, k_buf, k_twin, k_host, k_boot, k_out]; done) | split | dsimp only)
  all_goals first | rfl | (simp_all; done) | (simp [keep, k_regs, k_ports, k_buf, k_twin, k_host, k_boot, k_out]; done) | grind [keep_linkPlaceholder, keep_modTwin]

@[simp] theorem keep_laneCleared {kp : Area → Bool} (k_twin : kp .twin = false) (map : Bool) (b : List Byte) (s : State) : keep kp (laneCleared map b s) = keep kp s := by
  unfold laneCleared
  repeat' (first | (simp [k_twin]; done) | split | dsimp only)
  all_goals first | rfl | (simp_all; done) | (simp [keep, k_twin]; done) | grind [keep_modTwin]

@[simp] theorem keep_clearPath {kp : Area → Bool} (k_writes : kp .writes = false) (k_ports : kp .ports = false) (k_adm : kp .adm = false) (k_hob : kp .hob = false) (k_threads : kp .threads = false) (k_tbl : kp .tbl = false) (k_tcam : kp .tcam = false) (k_buf : kp .buf = false) (k_egr : kp .egr = false) (k_twin : kp .twin = false) (s : State) : keep kp (clearPath s) = keep kp s := by
  unfold clearPath
  refine Eq.trans (by apply keep_stepNine <;> assumption) ((keep_modTwin (by assumption) _ _).trans ?_)
  simp [keep, k_writes, k_ports, k_adm, k_hob, k_threads, k_tbl, k_tcam, k_buf, k_egr, k_twin]

@[simp] theorem keep_dropUnsent {kp : Area → Bool} (k_regs : kp .regs = false) (k_lanes : kp .lanes = false) (k_ports : kp .ports = false) (k_adm : kp .adm = false) (k_hob : kp .hob = false) (k_tbl : kp .tbl = false) (k_egr : kp .egr = false) (k_host : kp .host = false) (k_boot : kp .boot = false) (k_pwr : kp .pwr = false) (k_out : kp .out = false) (s : State) : keep kp (dropUnsent s) = keep kp s := by
  unfold dropUnsent
  refine keep_forEach _ _ _ fun n t => ?_
  dsimp only
  split
  · rfl
  · split
    · apply keep_takeReg <;> assumption
    · rfl

end Sys2Proof.Machine
end

