-- ==== Sys2Proof/Laws/Keep/Twin.lean ====
section
/-! SUPPORT. Which parts of the state the operations of Machine/Twin.lean keep. -/

namespace Sys2Proof.Machine

set_option linter.all false

@[simp] theorem keep_setState {kp : Area → Bool} (k_regs : kp .regs = false) (k_twin : kp .twin = false) (k_host : kp .host = false) (st : TwinState) (s : State) : keep kp (setState st s) = keep kp s := by
  unfold setState
  repeat' (first | (simp [k_regs, k_twin, k_host]; done) | split | dsimp only)
  all_goals first | rfl | (simp_all; done) | (simp [keep, k_regs, k_twin, k_host]; done) | grind [keep_raiseEv, keep_modTwin]

@[simp] theorem keep_dropPartnerCapacity {kp : Area → Bool} (k_adm : kp .adm = false) (s : State) : keep kp (dropPartnerCapacity s) = keep kp s := by
  unfold dropPartnerCapacity
  repeat' (first | (simp [k_adm]; done) | split | dsimp only)
  all_goals first | rfl | (simp_all; done) | (simp [keep, k_adm]; done) | grind [keep_modAdm]

@[simp] theorem keep_enterDiverged {kp : Area → Bool} (k_clk : kp .clk = false) (k_regs : kp .regs = false) (k_adm : kp .adm = false) (k_twin : kp .twin = false) (k_host : kp .host = false) (s : State) : keep kp (enterDiverged s) = keep kp s := by
  unfold enterDiverged
  repeat' (first | (simp [k_clk, k_regs, k_adm, k_twin, k_host]; done) | split | dsimp only)
  all_goals first | rfl | (simp_all; done) | (simp [keep, k_clk, k_regs, k_adm, k_twin, k_host]; done) | grind [keep_dropPartnerCapacity, keep_modTwin, keep_setState, keep_modClk]

@[simp] theorem keep_startPairing {kp : Area → Bool} (k_twin : kp .twin = false) (k_out : kp .out = false) (nonce : List Byte) (s : State) : keep kp (startPairing nonce s) = keep kp s := by
  unfold startPairing
  repeat' (first | (simp [k_twin, k_out]; done) | split | dsimp only)
  all_goals first | rfl | (simp_all; done) | (simp [keep, k_twin, k_out]; done) | grind [keep_flueSend, keep_modTwin]

@[simp] theorem keep_pairRefuse {kp : Area → Bool} (k_regs : kp .regs = false) (k_twin : kp .twin = false) (k_host : kp .host = false) (reason : Nat) (s : State) : keep kp (pairRefuse reason s) = keep kp s := by
  unfold pairRefuse
  repeat' (first | (simp [k_regs, k_twin, k_host]; done) | split | dsimp only)
  all_goals first | rfl | (simp_all; done) | (simp [keep, k_regs, k_twin, k_host]; done) | grind [keep_raiseEv, keep_modTwin, keep_setState]

@[simp] theorem keep_sendConfirm {kp : Area → Bool} (k_regs : kp .regs = false) (k_ports : kp .ports = false) (k_buf : kp .buf = false) (k_egr : kp .egr = false) (k_twin : kp .twin = false) (k_host : kp .host = false) (k_boot : kp .boot = false) (k_out : kp .out = false) (s : State) : keep kp (sendConfirm s) = keep kp s := by
  unfold sendConfirm
  repeat' (first | (simp [k_regs, k_ports, k_buf, k_egr, k_twin, k_host, k_boot, k_out]; done) | split | dsimp only)
  all_goals first | rfl | (simp_all; done) | (simp [keep, k_regs, k_ports, k_buf, k_egr, k_twin, k_host, k_boot, k_out]; done) | grind [keep_flueSend, keep_replicate]

@[simp] theorem keep_endSource {kp : Area → Bool} (k_twin : kp .twin = false) (s : State) : keep kp (endSource s) = keep kp s := by
  unfold endSource
  repeat' (first | (simp [k_twin]; done) | split | dsimp only)
  all_goals first | rfl | (simp_all; done) | (simp [keep, k_twin]; done) | grind [keep_modTwin]

@[simp] theorem keep_helloReceive {kp : Area → Bool} (k_regs : kp .regs = false) (k_ports : kp .ports = false) (k_buf : kp .buf = false) (k_egr : kp .egr = false) (k_twin : kp .twin = false) (k_host : kp .host = false) (k_boot : kp .boot = false) (k_out : kp .out = false) (body nonce : List Byte) (s : State) : keep kp (helloReceive body nonce s) = keep kp s := by
  unfold helloReceive
  repeat' (first | (simp [k_regs, k_ports, k_buf, k_egr, k_twin, k_host, k_boot, k_out]; done) | split | dsimp only)
  all_goals first | rfl | (simp_all; done) | (simp [keep, k_regs, k_ports, k_buf, k_egr, k_twin, k_host, k_boot, k_out]; done) | grind [keep_endSource, keep_hearNow, keep_startPairing, keep_modTwin, keep_setState, keep_pairRefuse, keep_sendConfirm]

@[simp] theorem keep_sessionKeys {kp : Area → Bool} (k_twin : kp .twin = false) (k : List Byte) (s : State) : keep kp (sessionKeys k s) = keep kp s := by
  unfold sessionKeys
  repeat' (first | (simp [k_twin]; done) | split | dsimp only)
  all_goals first | rfl | (simp_all; done) | (simp [keep, k_twin]; done) | grind [keep_modTwin]

@[simp] theorem keep_pairPass {kp : Area → Bool} (k_twin : kp .twin = false) (k : List Byte) (s : State) : keep kp (pairPass k s) = keep kp s := by
  unfold pairPass
  repeat' (first | (simp [k_twin]; done) | split | dsimp only)
  all_goals first | rfl | (simp_all; done) | (simp [keep, k_twin]; done) | grind [keep_modTwin, keep_sessionKeys]

@[simp] theorem keep_confirmReceive {kp : Area → Bool} (k_regs : kp .regs = false) (k_twin : kp .twin = false) (k_host : kp .host = false) (tag : List Byte) (theirs : Nat) (s : State) : keep kp (confirmReceive tag theirs s) = keep kp s := by
  unfold confirmReceive
  repeat' (first | (simp [k_regs, k_twin, k_host]; done) | split | dsimp only)
  all_goals first | rfl | (simp_all; done) | (simp [keep, k_regs, k_twin, k_host]; done) | grind [keep_hearNow, keep_pairRefuse, keep_pairPass]

@[simp] theorem keep_pairingLate {kp : Area → Bool} (k_regs : kp .regs = false) (k_twin : kp .twin = false) (k_host : kp .host = false) (s : State) : keep kp (pairingLate s) = keep kp s := by
  unfold pairingLate
  repeat' (first | (simp [k_regs, k_twin, k_host]; done) | split | dsimp only)
  all_goals first | rfl | (simp_all; done) | (simp [keep, k_regs, k_twin, k_host]; done) | grind [keep_pairRefuse]

@[simp] theorem keep_pairingAgain {kp : Area → Bool} (k_twin : kp .twin = false) (k_out : kp .out = false) (nonce : List Byte) (s : State) : keep kp (pairingAgain nonce s) = keep kp s := by
  unfold pairingAgain
  repeat' (first | (simp [k_twin, k_out]; done) | split | dsimp only)
  all_goals first | rfl | (simp_all; done) | (simp [keep, k_twin, k_out]; done) | grind [keep_startPairing]

@[simp] theorem keep_tickSyncStep {kp : Area → Bool} (k_clk : kp .clk = false) (k_regs : kp .regs = false) (k_lanes : kp .lanes = false) (k_ports : kp .ports = false) (k_adm : kp .adm = false) (k_prog : kp .prog = false) (k_tbl : kp .tbl = false) (k_egr : kp .egr = false) (k_twin : kp .twin = false) (k_host : kp .host = false) (k_boot : kp .boot = false) (k_out : kp .out = false) (s : State) : keep kp (tickSyncStep s) = keep kp s := by
  unfold tickSyncStep
  repeat' (first | (simp [k_clk, k_regs, k_lanes, k_ports, k_adm, k_prog, k_tbl, k_egr, k_twin, k_host, k_boot, k_out]; done) | split | dsimp only)
  all_goals first | rfl | (simp_all; done) | (simp [keep, k_clk, k_regs, k_lanes, k_ports, k_adm, k_prog, k_tbl, k_egr, k_twin, k_host, k_boot, k_out]; done) | grind [keep_flueSend, keep_modTwin, keep_beginForwarding, keep_setState]

@[simp] theorem keep_tickSyncReceive {kp : Area → Bool} (k_twin : kp .twin = false) (n : Nat) (s : State) : keep kp (tickSyncReceive n s) = keep kp s := by
  unfold tickSyncReceive
  repeat' (first | (simp [k_twin]; done) | split | dsimp only)
  all_goals first | rfl | (simp_all; done) | (simp [keep, k_twin]; done) | grind [keep_modTwin, keep_hearNow]

@[simp] theorem keep_endHostWork {kp : Area → Bool} (k_regs : kp .regs = false) (k_writes : kp .writes = false) (k_lanes : kp .lanes = false) (k_ports : kp .ports = false) (k_adm : kp .adm = false) (k_hob : kp .hob = false) (k_tbl : kp .tbl = false) (k_tcam : kp .tcam = false) (k_buf : kp .buf = false) (k_egr : kp .egr = false) (k_twin : kp .twin = false) (k_time : kp .time = false) (k_host : kp .host = false) (k_boot : kp .boot = false) (k_pwr : kp .pwr = false) (k_out : kp .out = false) (s : State) : keep kp (endHostWork s) = keep kp s := by
  unfold endHostWork
  repeat' (first | (simp [k_regs, k_writes, k_lanes, k_ports, k_adm, k_hob, k_tbl, k_tcam, k_buf, k_egr, k_twin, k_time, k_host, k_boot, k_pwr, k_out]; done) | split | dsimp only)
  all_goals first | rfl | (simp_all; done) | (simp [keep, k_regs, k_writes, k_lanes, k_ports, k_adm, k_hob, k_tbl, k_tcam, k_buf, k_egr, k_twin, k_time, k_host, k_boot, k_pwr, k_out]; done) | grind [keep_forEach, keep_applyWrite, keep_complete]

@[simp] theorem keep_startSyncing {kp : Area → Bool} (k_clk : kp .clk = false) (k_regs : kp .regs = false) (k_writes : kp .writes = false) (k_lanes : kp .lanes = false) (k_ports : kp .ports = false) (k_adm : kp .adm = false) (k_hob : kp .hob = false) (k_threads : kp .threads = false) (k_tbl : kp .tbl = false) (k_tcam : kp .tcam = false) (k_buf : kp .buf = false) (k_egr : kp .egr = false) (k_twin : kp .twin = false) (k_time : kp .time = false) (k_host : kp .host = false) (k_boot : kp .boot = false) (k_pwr : kp .pwr = false) (k_out : kp .out = false) (s : State) : keep kp (startSyncing s) = keep kp s := by
  unfold startSyncing
  repeat' (first | (simp [k_clk, k_regs, k_writes, k_lanes, k_ports, k_adm, k_hob, k_threads, k_tbl, k_tcam, k_buf, k_egr, k_twin, k_time, k_host, k_boot, k_pwr, k_out]; done) | split | dsimp only)
  all_goals first | rfl | (simp_all; done) | (simp [keep, k_clk, k_regs, k_writes, k_lanes, k_ports, k_adm, k_hob, k_threads, k_tbl, k_tcam, k_buf, k_egr, k_twin, k_time, k_host, k_boot, k_pwr, k_out]; done) | grind [keep_modClk, keep_endHostWork, keep_setState, keep_modBoot, keep_clearPath, keep_modTwin]

@[simp] theorem keep_moveTicks {kp : Area → Bool} (k_regs : kp .regs = false) (k_lanes : kp .lanes = false) (k_ports : kp .ports = false) (k_adm : kp .adm = false) (k_buf : kp .buf = false) (k_egr : kp .egr = false) (k_twin : kp .twin = false) (k_host : kp .host = false) (k_boot : kp .boot = false) (k_out : kp .out = false) (n : Nat) (s : State) : keep kp (moveTicks n s) = keep kp s := by
  unfold moveTicks
  repeat' (first | (simp [k_regs, k_lanes, k_ports, k_adm, k_buf, k_egr, k_twin, k_host, k_boot, k_out]; done) | split | dsimp only)
  all_goals first | rfl | (simp_all; done) | (simp [keep, k_regs, k_lanes, k_ports, k_adm, k_buf, k_egr, k_twin, k_host, k_boot, k_out]; done) | grind [keep_forEach, keep_dropArrived, keep_modAdm, keep_modPort, keep_modLane]

@[simp] theorem keep_tsyncAdopt {kp : Area → Bool} (k_clk : kp .clk = false) (k_tick : kp .tick = false) (k_regs : kp .regs = false) (k_writes : kp .writes = false) (k_lanes : kp .lanes = false) (k_ports : kp .ports = false) (k_adm : kp .adm = false) (k_hob : kp .hob = false) (k_threads : kp .threads = false) (k_tbl : kp .tbl = false) (k_tcam : kp .tcam = false) (k_buf : kp .buf = false) (k_egr : kp .egr = false) (k_twin : kp .twin = false) (k_time : kp .time = false) (k_host : kp .host = false) (k_boot : kp .boot = false) (k_pwr : kp .pwr = false) (k_out : kp .out = false) (s : State) : keep kp (tsyncAdopt s) = keep kp s := by
  unfold tsyncAdopt
  repeat' (first | (simp [k_clk, k_tick, k_regs, k_writes, k_lanes, k_ports, k_adm, k_hob, k_threads, k_tbl, k_tcam, k_buf, k_egr, k_twin, k_time, k_host, k_boot, k_pwr, k_out]; done) | split | dsimp only)
  all_goals first | rfl | (simp_all; done) | (simp [keep, k_clk, k_tick, k_regs, k_writes, k_lanes, k_ports, k_adm, k_hob, k_threads, k_tbl, k_tcam, k_buf, k_egr, k_twin, k_time, k_host, k_boot, k_pwr, k_out]; done) | grind [keep_modHost, keep_modClk, keep_moveTicks, keep_modTwin, keep_startSyncing]

@[simp] theorem keep_pairLinks {kp : Area → Bool} (k_ports : kp .ports = false) (k_out : kp .out = false) (joiner : Bool) (s : State) : keep kp (pairLinks joiner s) = keep kp s := by
  unfold pairLinks
  repeat' (first | (simp [k_ports, k_out]; done) | split | dsimp only)
  all_goals first | rfl | (simp_all; done) | (simp [keep, k_ports, k_out]; done) | grind [keep_forEach, keep_modPort, keep_flueSend]

@[simp] theorem keep_enterPair {kp : Area → Bool} (k_regs : kp .regs = false) (k_adm : kp .adm = false) (k_twin : kp .twin = false) (k_host : kp .host = false) (k_out : kp .out = false) (first : Bool) (s : State) : keep kp (enterPair first s) = keep kp s := by
  unfold enterPair
  repeat' (first | (simp [k_regs, k_adm, k_twin, k_host, k_out]; done) | split | dsimp only)
  all_goals first | rfl | (simp_all; done) | (simp [keep, k_regs, k_adm, k_twin, k_host, k_out]; done) | grind [keep_modTwin, keep_setState, keep_noteCapacity, keep_modAdm, keep_raiseEv]

@[simp] theorem keep_coldStartDue {kp : Area → Bool} (k_clk : kp .clk = false) (k_regs : kp .regs = false) (k_lanes : kp .lanes = false) (k_ports : kp .ports = false) (k_adm : kp .adm = false) (k_prog : kp .prog = false) (k_tbl : kp .tbl = false) (k_egr : kp .egr = false) (k_twin : kp .twin = false) (k_host : kp .host = false) (k_boot : kp .boot = false) (k_out : kp .out = false) (s : State) : keep kp (coldStartDue s) = keep kp s := by
  unfold coldStartDue
  repeat' (first | (simp [k_clk, k_regs, k_lanes, k_ports, k_adm, k_prog, k_tbl, k_egr, k_twin, k_host, k_boot, k_out]; done) | split | dsimp only)
  all_goals first | rfl | (simp_all; done) | (simp [keep, k_clk, k_regs, k_lanes, k_ports, k_adm, k_prog, k_tbl, k_egr, k_twin, k_host, k_boot, k_out]; done) | grind [keep_enterPair, keep_pairLinks, keep_beginForwarding, keep_modTwin]

@[simp] theorem keep_goSolo {kp : Area → Bool} (k_regs : kp .regs = false) (k_ports : kp .ports = false) (k_adm : kp .adm = false) (k_tbl : kp .tbl = false) (k_twin : kp .twin = false) (k_host : kp .host = false) (k_out : kp .out = false) (s : State) : keep kp (goSolo s) = keep kp s := by
  unfold goSolo
  repeat' (first | (simp [k_regs, k_ports, k_adm, k_tbl, k_twin, k_host, k_out]; done) | split | dsimp only)
  all_goals first | rfl | (simp_all; done) | (simp [keep, k_regs, k_ports, k_adm, k_tbl, k_twin, k_host, k_out]; done) | grind [keep_dropPartnerCapacity, keep_modTwin, keep_setState, keep_forEach, keep_linkSettle, keep_modPort, keep_noteCapacity]

@[simp] theorem keep_partnerAbsentDue {kp : Area → Bool} (k_regs : kp .regs = false) (k_ports : kp .ports = false) (k_adm : kp .adm = false) (k_tbl : kp .tbl = false) (k_twin : kp .twin = false) (k_host : kp .host = false) (k_out : kp .out = false) (s : State) : keep kp (partnerAbsentDue s) = keep kp s := by
  unfold partnerAbsentDue
  repeat' (first | (simp [k_regs, k_ports, k_adm, k_tbl, k_twin, k_host, k_out]; done) | split | dsimp only)
  all_goals first | rfl | (simp_all; done) | (simp [keep, k_regs, k_ports, k_adm, k_tbl, k_twin, k_host, k_out]; done) | grind [keep_modTwin, keep_goSolo, keep_raiseEv]

@[simp] theorem keep_roleUnconfirmedDue {kp : Area → Bool} (k_clk : kp .clk = false) (k_regs : kp .regs = false) (k_adm : kp .adm = false) (k_twin : kp .twin = false) (k_host : kp .host = false) (s : State) : keep kp (roleUnconfirmedDue s) = keep kp s := by
  unfold roleUnconfirmedDue
  repeat' (first | (simp [k_clk, k_regs, k_adm, k_twin, k_host]; done) | split | dsimp only)
  all_goals first | rfl | (simp_all; done) | (simp [keep, k_clk, k_regs, k_adm, k_twin, k_host]; done) | grind [keep_enterDiverged, keep_modTwin]

@[simp] theorem keep_demotionDue {kp : Area → Bool} (k_clk : kp .clk = false) (k_regs : kp .regs = false) (k_adm : kp .adm = false) (k_twin : kp .twin = false) (k_host : kp .host = false) (s : State) : keep kp (demotionDue s) = keep kp s := by
  unfold demotionDue
  repeat' (first | (simp [k_clk, k_regs, k_adm, k_twin, k_host]; done) | split | dsimp only)
  all_goals first | rfl | (simp_all; done) | (simp [keep, k_clk, k_regs, k_adm, k_twin, k_host]; done) | grind [keep_enterDiverged]

@[simp] theorem keep_faultReceive {kp : Area → Bool} (k_regs : kp .regs = false) (k_twin : kp .twin = false) (k_host : kp .host = false) (d cause f : Nat) (detail : List Byte) (s : State) : keep kp (faultReceive d cause f detail s) = keep kp s := by
  unfold faultReceive
  repeat' (first | (simp [k_regs, k_twin, k_host]; done) | split | dsimp only)
  all_goals first | rfl | (simp_all; done) | (simp [keep, k_regs, k_twin, k_host]; done) | grind [keep_modTwin, keep_hearNow, keep_raiseEv]

@[simp] theorem keep_digestMismatch {kp : Area → Bool} (k_regs : kp .regs = false) (k_twin : kp .twin = false) (k_host : kp .host = false) (k_out : kp .out = false) (t own theirs : Nat) (s : State) : keep kp (digestMismatch t own theirs s) = keep kp s := by
  unfold digestMismatch
  repeat' (first | (simp [k_regs, k_twin, k_host, k_out]; done) | split | dsimp only)
  all_goals first | rfl | (simp_all; done) | (simp [keep, k_regs, k_twin, k_host, k_out]; done) | grind [keep_raiseLim, keep_regCount, keep_modTwin, keep_failAttempt, keep_selfFault]

@[simp] theorem keep_digestCompare {kp : Area → Bool} (k_regs : kp .regs = false) (k_twin : kp .twin = false) (k_host : kp .host = false) (k_out : kp .out = false) (t : Nat) (s : State) : keep kp (digestCompare t s) = keep kp s := by
  unfold digestCompare
  repeat' (first | (simp [k_regs, k_twin, k_host, k_out]; done) | split | dsimp only)
  all_goals first | rfl | (simp_all; done) | (simp [keep, k_regs, k_twin, k_host, k_out]; done) | grind [keep_modTwin, keep_digestMismatch]

@[simp] theorem keep_digestStep {kp : Area → Bool} (k_regs : kp .regs = false) (k_twin : kp .twin = false) (k_host : kp .host = false) (k_out : kp .out = false) (s : State) : keep kp (digestStep s) = keep kp s := by
  unfold digestStep
  repeat' (first | (simp [k_regs, k_twin, k_host, k_out]; done) | split | dsimp only)
  all_goals first | rfl | (simp_all; done) | (simp [keep, k_regs, k_twin, k_host, k_out]; done) | grind [keep_recAdmit, keep_recRetire, keep_recGrant, keep_recWrite, keep_modTwin, keep_digestCompare, keep_flueSend]

@[simp] theorem keep_digestReceive {kp : Area → Bool} (k_regs : kp .regs = false) (k_twin : kp .twin = false) (k_host : kp .host = false) (k_out : kp .out = false) (t d st : Nat) (s : State) : keep kp (digestReceive t d st s) = keep kp s := by
  unfold digestReceive
  repeat' (first | (simp [k_regs, k_twin, k_host, k_out]; done) | split | dsimp only)
  all_goals first | rfl | (simp_all; done) | (simp [keep, k_regs, k_twin, k_host, k_out]; done) | grind [keep_modTwin, keep_hear, keep_digestCompare]

@[simp] theorem keep_digestsMissing {kp : Area → Bool} (k_regs : kp .regs = false) (k_twin : kp .twin = false) (k_host : kp .host = false) (k_out : kp .out = false) (s : State) : keep kp (digestsMissing s) = keep kp s := by
  unfold digestsMissing
  repeat' (first | (simp [k_regs, k_twin, k_host, k_out]; done) | split | dsimp only)
  all_goals first | rfl | (simp_all; done) | (simp [keep, k_regs, k_twin, k_host, k_out]; done) | grind [keep_modTwin, keep_forEach, keep_digestMismatch]

@[simp] theorem keep_detectOne {kp : Area → Bool} (k_ports : kp .ports = false) (e : DetectEntry) (s : State) : keep kp (detectOne e s) = keep kp s := by
  unfold detectOne
  repeat' (first | (simp [k_ports]; done) | split | dsimp only)
  all_goals first | rfl | (simp_all; done) | (simp [keep, k_ports]; done) | grind [keep_modPort]

@[simp] theorem keep_roleAccept {kp : Area → Bool} (k_regs : kp .regs = false) (k_twin : kp .twin = false) (k_host : kp .host = false) (level : Bool) (s : State) : keep kp (roleAccept level s) = keep kp s := by
  unfold roleAccept
  repeat' (first | (simp [k_regs, k_twin, k_host]; done) | split | dsimp only)
  all_goals first | rfl | (simp_all; done) | (simp [keep, k_regs, k_twin, k_host]; done) | grind [keep_raiseEv, keep_modTwin]

@[simp] theorem keep_roleEffect {kp : Area → Bool} (k_regs : kp .regs = false) (k_twin : kp .twin = false) (k_host : kp .host = false) (s : State) : keep kp (roleEffect s) = keep kp s := by
  unfold roleEffect
  repeat' (first | (simp [k_regs, k_twin, k_host]; done) | split | dsimp only)
  all_goals first | rfl | (simp_all; done) | (simp [keep, k_regs, k_twin, k_host]; done) | grind [keep_modTwin, keep_raiseEv, keep_setState]

@[simp] theorem keep_swapRaise {kp : Area → Bool} (k_regs : kp .regs = false) (k_twin : kp .twin = false) (k_host : kp .host = false) (s : State) : keep kp (swapRaise s) = keep kp s := by
  unfold swapRaise
  repeat' (first | (simp [k_regs, k_twin, k_host]; done) | split | dsimp only)
  all_goals first | rfl | (simp_all; done) | (simp [keep, k_regs, k_twin, k_host]; done) | grind [keep_raiseEv, keep_modTwin]

@[simp] theorem keep_swapExpire {kp : Area → Bool} (k_regs : kp .regs = false) (k_twin : kp .twin = false) (k_host : kp .host = false) (s : State) : keep kp (swapExpire s) = keep kp s := by
  unfold swapExpire
  repeat' (first | (simp [k_regs, k_twin, k_host]; done) | split | dsimp only)
  all_goals first | rfl | (simp_all; done) | (simp [keep, k_regs, k_twin, k_host]; done) | grind [keep_raiseEv, keep_modTwin]

@[simp] theorem keep_swapReqReceive {kp : Area → Bool} (k_twin : kp .twin = false) (s : State) : keep kp (swapReqReceive s) = keep kp s := by
  unfold swapReqReceive
  repeat' (first | (simp [k_twin]; done) | split | dsimp only)
  all_goals first | rfl | (simp_all; done) | (simp [keep, k_twin]; done) | grind [keep_hearNow, keep_modTwin]

@[simp] theorem keep_resyncBegin {kp : Area → Bool} (k_regs : kp .regs = false) (k_twin : kp .twin = false) (k_host : kp .host = false) (k_out : kp .out = false) (nonce : List Byte) (s : State) : keep kp (resyncBegin nonce s) = keep kp s := by
  unfold resyncBegin
  repeat' (first | (simp [k_regs, k_twin, k_host, k_out]; done) | split | dsimp only)
  all_goals first | rfl | (simp_all; done) | (simp [keep, k_regs, k_twin, k_host, k_out]; done) | grind [keep_startPairing, keep_setState, keep_modTwin]

@[simp] theorem keep_attemptStep {kp : Area → Bool} (k_clk : kp .clk = false) (k_regs : kp .regs = false) (k_adm : kp .adm = false) (k_twin : kp .twin = false) (k_host : kp .host = false) (s : State) : keep kp (attemptStep s) = keep kp s := by
  unfold attemptStep
  repeat' (first | (simp [k_clk, k_regs, k_adm, k_twin, k_host]; done) | split | dsimp only)
  all_goals first | rfl | (simp_all; done) | (simp [keep, k_clk, k_regs, k_adm, k_twin, k_host]; done) | grind [keep_raiseEv, keep_modTwin, keep_enterDiverged, keep_endSource]

@[simp] theorem keep_snapLateDue {kp : Area → Bool} (k_twin : kp .twin = false) (s : State) : keep kp (snapLateDue s) = keep kp s := by
  unfold snapLateDue
  repeat' (first | (simp [k_twin]; done) | split | dsimp only)
  all_goals first | rfl | (simp_all; done) | (simp [keep, k_twin]; done) | grind [keep_failAttempt]

@[simp] theorem keep_flueSilence {kp : Area → Bool} (k_twin : kp .twin = false) (s : State) : keep kp (flueSilence s) = keep kp s := by
  unfold flueSilence
  repeat' (first | (simp [k_twin]; done) | split | dsimp only)
  all_goals first | rfl | (simp_all; done) | (simp [keep, k_twin]; done) | grind [keep_failAttempt]

@[simp] theorem keep_snapEndReceive {kp : Area → Bool} (k_twin : kp .twin = false) (j : Nat) (s : State) : keep kp (snapEndReceive j s) = keep kp s := by
  unfold snapEndReceive
  repeat' (first | (simp [k_twin]; done) | split | dsimp only)
  all_goals first | rfl | (simp_all; done) | (simp [keep, k_twin]; done) | grind [keep_hearNow, keep_modTwin]

@[simp] theorem keep_joinDue {kp : Area → Bool} (k_clk : kp .clk = false) (k_regs : kp .regs = false) (k_lanes : kp .lanes = false) (k_ports : kp .ports = false) (k_adm : kp .adm = false) (k_prog : kp .prog = false) (k_hob : kp .hob = false) (k_tbl : kp .tbl = false) (k_buf : kp .buf = false) (k_egr : kp .egr = false) (k_twin : kp .twin = false) (k_host : kp .host = false) (k_boot : kp .boot = false) (k_pwr : kp .pwr = false) (k_out : kp .out = false) (s : State) : keep kp (joinDue s) = keep kp s := by
  unfold joinDue
  repeat' (first | (simp [k_clk, k_regs, k_lanes, k_ports, k_adm, k_prog, k_hob, k_tbl, k_buf, k_egr, k_twin, k_host, k_boot, k_pwr, k_out]; done) | split | dsimp only)
  all_goals first | rfl | (simp_all; done) | (simp [keep, k_clk, k_regs, k_lanes, k_ports, k_adm, k_prog, k_hob, k_tbl, k_buf, k_egr, k_twin, k_host, k_boot, k_pwr, k_out]; done) | grind [keep_beginForwarding, keep_setState, keep_modTwin, keep_sizeReserves, keep_dropUnsent]

@[simp] theorem keep_warmDoneReceive {kp : Area → Bool} (k_twin : kp .twin = false) (w : Nat) (s : State) : keep kp (warmDoneReceive w s) = keep kp s := by
  unfold warmDoneReceive
  repeat' (first | (simp [k_twin]; done) | split | dsimp only)
  all_goals first | rfl | (simp_all; done) | (simp [keep, k_twin]; done) | grind [keep_hearNow, keep_modTwin]

@[simp] theorem keep_warmDue {kp : Area → Bool} (k_regs : kp .regs = false) (k_ports : kp .ports = false) (k_adm : kp .adm = false) (k_twin : kp .twin = false) (k_host : kp .host = false) (k_out : kp .out = false) (s : State) : keep kp (warmDue s) = keep kp s := by
  unfold warmDue
  repeat' (first | (simp [k_regs, k_ports, k_adm, k_twin, k_host, k_out]; done) | split | dsimp only)
  all_goals first | rfl | (simp_all; done) | (simp [keep, k_regs, k_ports, k_adm, k_twin, k_host, k_out]; done) | grind [keep_modAdm, keep_enterPair, keep_pairLinks, keep_raiseEv, keep_modTwin]

@[simp] theorem keep_stillWarmingDue {kp : Area → Bool} (k_regs : kp .regs = false) (k_twin : kp .twin = false) (k_host : kp .host = false) (s : State) : keep kp (stillWarmingDue s) = keep kp s := by
  unfold stillWarmingDue
  repeat' (first | (simp [k_regs, k_twin, k_host]; done) | split | dsimp only)
  all_goals first | rfl | (simp_all; done) | (simp [keep, k_regs, k_twin, k_host]; done) | grind [keep_raiseEv, keep_modTwin]

@[simp] theorem keep_flueLink {kp : Area → Bool} (k_regs : kp .regs = false) (k_twin : kp .twin = false) (k_host : kp .host = false) (g : Nat) (lock : Bool) (s : State) : keep kp (flueLink g lock s) = keep kp s := by
  unfold flueLink
  repeat' (first | (simp [k_regs, k_twin, k_host]; done) | split | dsimp only)
  all_goals first | rfl | (simp_all; done) | (simp [keep, k_regs, k_twin, k_host]; done) | grind [keep_raiseEv, keep_modTwin]

@[simp] theorem keep_packFlue {kp : Area → Bool} (k_twin : kp .twin = false) (k_out : kp .out = false) (s : State) : keep kp (packFlue s) = keep kp s := by
  unfold packFlue
  repeat' (first | (simp [k_twin, k_out]; done) | split | dsimp only)
  all_goals first | rfl | (simp_all; done) | (simp [keep, k_twin, k_out]; done) | grind [keep_modOut, keep_modTwin]

@[simp] theorem keep_flueDiscard {kp : Area → Bool} (k_regs : kp .regs = false) (k_adm : kp .adm = false) (k_twin : kp .twin = false) (k_host : kp .host = false) (n : Nat) (s : State) : keep kp (flueDiscard n s) = keep kp s := by
  unfold flueDiscard
  repeat' (first | (simp [k_regs, k_adm, k_twin, k_host]; done) | split | dsimp only)
  all_goals first | rfl | (simp_all; done) | (simp [keep, k_regs, k_adm, k_twin, k_host]; done) | grind [keep_raiseLim, keep_regCount, keep_modAdm, keep_modTwin]

@[simp] theorem keep_flueReceive {kp : Area → Bool} (k_regs : kp .regs = false) (k_adm : kp .adm = false) (k_twin : kp .twin = false) (k_host : kp .host = false) (f : List Byte) (s : State) : keep kp (flueReceive f s) = keep kp s := by
  unfold flueReceive
  repeat' (first | (simp [k_regs, k_adm, k_twin, k_host]; done) | split | dsimp only)
  all_goals first | rfl | (simp_all; done) | (simp [keep, k_regs, k_adm, k_twin, k_host]; done) | grind [keep_flueDiscard, keep_modAdm, keep_modTwin]

@[simp] theorem keep_keepaliveStep {kp : Area → Bool} (k_out : kp .out = false) (s : State) : keep kp (keepaliveStep s) = keep kp s := by
  unfold keepaliveStep
  repeat' (first | (simp [k_out]; done) | split | dsimp only)
  all_goals first | rfl | (simp_all; done) | (simp [keep, k_out]; done) | grind [keep_flueSend]

@[simp] theorem keep_twinEarly {kp : Area → Bool} (k_clk : kp .clk = false) (k_regs : kp .regs = false) (k_lanes : kp .lanes = false) (k_ports : kp .ports = false) (k_adm : kp .adm = false) (k_prog : kp .prog = false) (k_hob : kp .hob = false) (k_tbl : kp .tbl = false) (k_buf : kp .buf = false) (k_egr : kp .egr = false) (k_twin : kp .twin = false) (k_host : kp .host = false) (k_boot : kp .boot = false) (k_pwr : kp .pwr = false) (k_out : kp .out = false) (s : State) : keep kp (twinEarly s) = keep kp s := by
  unfold twinEarly
  repeat' (first | (simp [k_clk, k_regs, k_lanes, k_ports, k_adm, k_prog, k_hob, k_tbl, k_buf, k_egr, k_twin, k_host, k_boot, k_pwr, k_out]; done) | split | dsimp only)
  all_goals first | rfl | (simp_all; done) | (simp [keep, k_clk, k_regs, k_lanes, k_ports, k_adm, k_prog, k_hob, k_tbl, k_buf, k_egr, k_twin, k_host, k_boot, k_pwr, k_out]; done) | grind [keep_digestsMissing, keep_digestStep, keep_attemptStep, keep_flueSilence, keep_snapLateDue, keep_roleUnconfirmedDue, keep_partnerAbsentDue, keep_demotionDue, keep_roleEffect, keep_warmDue, keep_joinDue, keep_coldStartDue, keep_mapLanes]

@[simp] theorem keep_twinLate {kp : Area → Bool} (k_clk : kp .clk = false) (k_regs : kp .regs = false) (k_lanes : kp .lanes = false) (k_ports : kp .ports = false) (k_adm : kp .adm = false) (k_prog : kp .prog = false) (k_tbl : kp .tbl = false) (k_egr : kp .egr = false) (k_twin : kp .twin = false) (k_host : kp .host = false) (k_boot : kp .boot = false) (k_out : kp .out = false) (s : State) : keep kp (twinLate s) = keep kp s := by
  unfold twinLate
  repeat' (first | (simp [k_clk, k_regs, k_lanes, k_ports, k_adm, k_prog, k_tbl, k_egr, k_twin, k_host, k_boot, k_out]; done) | split | dsimp only)
  all_goals first | rfl | (simp_all; done) | (simp [keep, k_clk, k_regs, k_lanes, k_ports, k_adm, k_prog, k_tbl, k_egr, k_twin, k_host, k_boot, k_out]; done) | grind [keep_keepaliveStep, keep_tickSyncStep, keep_pairingLate, keep_stillWarmingDue, keep_swapRaise, keep_swapExpire, keep_sourceStep]

@[simp] theorem keep_heartbeat {kp : Area → Bool} (k_twin : kp .twin = false) (k_out : kp .out = false) (s : State) : keep kp (heartbeat s) = keep kp s := by
  unfold heartbeat
  repeat' (first | (simp [k_twin, k_out]; done) | split | dsimp only)
  all_goals first | rfl | (simp_all; done) | (simp [keep, k_twin, k_out]; done) | grind [keep_modOut, keep_modTwin]

theorem keep_twinCmd {kp : Area → Bool} (k_host : kp .host = false) (h : MbxHdr) (f : State → Option State) (s : State)
    (hf : ∀ u v, f u = some v → keep kp v = keep kp u) : keep kp (twinCmd h f s) = keep kp s := by
  unfold twinCmd
  apply keep_mbxTake <;> first | assumption | skip
  intro c u
  split
  · simp [k_host]
  · split
    · simp [k_host]
      exact hf _ _ (by assumption)
    · simp [k_host]

@[simp] theorem keep_twinStatusCmd {kp : Area → Bool} (k_host : kp .host = false) (h : MbxHdr) (s : State) : keep kp (twinStatusCmd h s) = keep kp s := by
  unfold twinStatusCmd
  repeat' (first | (simp [k_host]; done) | split | dsimp only)
  all_goals first | rfl | (simp_all; done) | (simp [keep, k_host]; done) | grind [keep_mbxTake, keep_complete, keep_hostPut]

theorem keep_swapAsk {kp : Area → Bool} (k_twin : kp .twin = false) (k_out : kp .out = false) (s : State) {u : State} (h : swapAsk s = some u) : keep kp u = keep kp s := by
  simp only [swapAsk] at h
  (repeat' split at h) <;> simp_all
  all_goals (cases h; simp [k_twin, k_out])

theorem keep_resyncAsk {kp : Area → Bool} (k_twin : kp .twin = false) (s : State) {u : State} (h : resyncAsk s = some u) : keep kp u = keep kp s := by
  simp only [resyncAsk] at h
  (repeat' split at h) <;> simp_all
  all_goals (cases h; simp [k_twin])

@[simp] theorem keep_leavePair {kp : Area → Bool} (k_clk : kp .clk = false) (k_regs : kp .regs = false) (k_ports : kp .ports = false) (k_adm : kp .adm = false) (k_tbl : kp .tbl = false) (k_twin : kp .twin = false) (k_host : kp .host = false) (k_out : kp .out = false) (s : State) : keep kp (leavePair s) = keep kp s := by
  unfold leavePair
  repeat' (first | (simp [k_clk, k_regs, k_ports, k_adm, k_tbl, k_twin, k_host, k_out]; done) | split | dsimp only)
  all_goals first | rfl | (simp_all; done) | (simp [keep, k_clk, k_regs, k_ports, k_adm, k_tbl, k_twin, k_host, k_out]; done) | grind [keep_modTwin, keep_goSolo, keep_selfFault, keep_enterDiverged]

@[simp] theorem keep_leaveCmd {kp : Area → Bool} (k_clk : kp .clk = false) (k_regs : kp .regs = false) (k_ports : kp .ports = false) (k_adm : kp .adm = false) (k_tbl : kp .tbl = false) (k_twin : kp .twin = false) (k_host : kp .host = false) (k_out : kp .out = false) (h : MbxHdr) (s : State) : keep kp (leaveCmd h s) = keep kp s := by
  unfold leaveCmd
  repeat' (first | (simp [k_clk, k_regs, k_ports, k_adm, k_tbl, k_twin, k_host, k_out]; done) | split | dsimp only)
  all_goals first | rfl | (simp_all; done) | (simp [keep, k_clk, k_regs, k_ports, k_adm, k_tbl, k_twin, k_host, k_out]; done) | grind [keep_mbxTake, keep_complete, keep_leavePair]

theorem keep_pairAsk {kp : Area → Bool} (k_twin : kp .twin = false) (k_out : kp .out = false) (nonce : List Byte) (s : State) {u : State} (h : pairAsk nonce s = some u) : keep kp u = keep kp s := by
  simp only [pairAsk] at h
  (repeat' split at h) <;> simp_all
  all_goals (cases h; simp [k_twin, k_out])

end Sys2Proof.Machine
end

