-- ==== Sys2Proof/Laws/Keep/Power.lean ====
section
/-! SUPPORT. Which parts of the state the operations of Machine/Power.lean keep. -/

namespace Sys2Proof.Machine

set_option linter.all false

@[simp] theorem keep_loseSession {kp : Area → Bool} (k_twin : kp .twin = false) (s : State) : keep kp (loseSession s) = keep kp s := by
  unfold loseSession
  repeat' (first | (simp [k_twin]; done) | split | dsimp only)
  all_goals first | rfl | (simp_all; done) | (simp [keep, k_twin]; done) | grind [keep_modTwin]

@[simp] theorem keep_dropDomain {kp : Area → Bool} (k_regs : kp .regs = false) (k_tcam : kp .tcam = false) (k_twin : kp .twin = false) (k_host : kp .host = false) (k_pwr : kp .pwr = false) (d : Nat) (s : State) : keep kp (dropDomain d s) = keep kp s := by
  unfold dropDomain
  repeat' (first | (simp [k_regs, k_tcam, k_twin, k_host, k_pwr]; done) | split | dsimp only)
  all_goals first | rfl | (simp_all; done) | (simp [keep, k_regs, k_tcam, k_twin, k_host, k_pwr]; done) | grind [keep_domainOff, keep_modHost, keep_modTwin, keep_loseSession, keep_modTcam]

@[simp] theorem keep_domainBit {kp : Area → Bool} (k_regs : kp .regs = false) (k_tcam : kp .tcam = false) (k_twin : kp .twin = false) (k_host : kp .host = false) (k_pwr : kp .pwr = false) (b : Nat) (on : Bool) (s : State) : keep kp (domainBit b on s) = keep kp s := by
  unfold domainBit
  repeat' (first | (simp [k_regs, k_tcam, k_twin, k_host, k_pwr]; done) | split | dsimp only)
  all_goals first | rfl | (simp_all; done) | (simp [keep, k_regs, k_tcam, k_twin, k_host, k_pwr]; done) | grind [keep_domainRequest, keep_regSetFld, keep_dropDomain, keep_raiseEv]

@[simp] theorem keep_domainCtrlWrite {kp : Area → Bool} (k_regs : kp .regs = false) (k_tcam : kp .tcam = false) (k_twin : kp .twin = false) (k_host : kp .host = false) (k_pwr : kp .pwr = false) (v : Word) (s : State) : keep kp (domainCtrlWrite v s) = keep kp s := by
  unfold domainCtrlWrite
  repeat' (first | (simp [k_regs, k_tcam, k_twin, k_host, k_pwr]; done) | split | dsimp only)
  all_goals first | rfl | (simp_all; done) | (simp [keep, k_regs, k_tcam, k_twin, k_host, k_pwr]; done) | grind [keep_forEach, keep_domainBit]

@[simp] theorem keep_disableLane {kp : Area → Bool} (k_regs : kp .regs = false) (k_lanes : kp .lanes = false) (k_ports : kp .ports = false) (k_host : kp .host = false) (k_out : kp .out = false) (l : Nat) (s : State) : keep kp (disableLane l s) = keep kp s := by
  unfold disableLane
  repeat' (first | (simp [k_regs, k_lanes, k_ports, k_host, k_out]; done) | split | dsimp only)
  all_goals first | rfl | (simp_all; done) | (simp [keep, k_regs, k_lanes, k_ports, k_host, k_out]; done) | grind [keep_laneStop, keep_regSetFld]

@[simp] theorem keep_enterSafe {kp : Area → Bool} (k_clk : kp .clk = false) (k_regs : kp .regs = false) (k_lanes : kp .lanes = false) (k_ports : kp .ports = false) (k_host : kp .host = false) (k_boot : kp .boot = false) (k_pwr : kp .pwr = false) (k_out : kp .out = false) (c : SafeCause) (s : State) : keep kp (enterSafe c s) = keep kp s := by
  unfold enterSafe
  repeat' (first | (simp [k_clk, k_regs, k_lanes, k_ports, k_host, k_boot, k_pwr, k_out]; done) | split | dsimp only)
  all_goals first | rfl | (simp_all; done) | (simp [keep, k_clk, k_regs, k_lanes, k_ports, k_host, k_boot, k_pwr, k_out]; done) | grind [keep_forEach, keep_disableLane, keep_modBoot, keep_modClk, keep_domainOff, keep_regSetFld, keep_raiseEv]

@[simp] theorem keep_blockFailed {kp : Area → Bool} (k_regs : kp .regs = false) (k_host : kp .host = false) (kind num : Nat) (s : State) : keep kp (blockFailed kind num s) = keep kp s := by
  unfold blockFailed
  repeat' (first | (simp [k_regs, k_host]; done) | split | dsimp only)
  all_goals first | rfl | (simp_all; done) | (simp [keep, k_regs, k_host]; done) | grind [keep_raiseEv]

@[simp] theorem keep_inServiceFailure {kp : Area → Bool} (k_regs : kp .regs = false) (k_adm : kp .adm = false) (k_hob : kp .hob = false) (k_threads : kp .threads = false) (k_tbl : kp .tbl = false) (k_tcam : kp .tcam = false) (k_twin : kp .twin = false) (k_host : kp .host = false) (k_boot : kp .boot = false) (k_out : kp .out = false) (e : Nat × Nat) (s : State) : keep kp (inServiceFailure e s) = keep kp s := by
  unfold inServiceFailure
  repeat' (first | (simp [k_regs, k_adm, k_hob, k_threads, k_tbl, k_tcam, k_twin, k_host, k_boot, k_out]; done) | split | dsimp only)
  all_goals first | rfl | (simp_all; done) | (simp [keep, k_regs, k_adm, k_hob, k_threads, k_tbl, k_tcam, k_twin, k_host, k_boot, k_out]; done) | grind [keep_blockFailed, keep_stoveFailure, keep_failBrick, keep_raiseEv, keep_regSetFld, keep_addHealth]

@[simp] theorem keep_domainReadyStep {kp : Area → Bool} (k_clk : kp .clk = false) (k_regs : kp .regs = false) (k_lanes : kp .lanes = false) (k_ports : kp .ports = false) (k_adm : kp .adm = false) (k_hob : kp .hob = false) (k_threads : kp .threads = false) (k_tbl : kp .tbl = false) (k_tcam : kp .tcam = false) (k_twin : kp .twin = false) (k_host : kp .host = false) (k_boot : kp .boot = false) (k_pwr : kp .pwr = false) (k_out : kp .out = false) (failed : List (Nat × Nat)) (s : State) : keep kp (domainReadyStep failed s) = keep kp s := by
  unfold domainReadyStep
  repeat' (first | (simp [k_clk, k_regs, k_lanes, k_ports, k_adm, k_hob, k_threads, k_tbl, k_tcam, k_twin, k_host, k_boot, k_pwr, k_out]; done) | split | dsimp only)
  all_goals first | rfl | (simp_all; done) | (simp [keep, k_clk, k_regs, k_lanes, k_ports, k_adm, k_hob, k_threads, k_tbl, k_tcam, k_twin, k_host, k_boot, k_pwr, k_out]; done) | grind [keep_modPwr, keep_regSetFld, keep_inServiceFailure, keep_blockFailed, keep_enterSafe, keep_raiseEv, keep_modGroup, keep_forEach]

@[simp] theorem keep_setEffective {kp : Area → Bool} (k_adm : kp .adm = false) (k_hob : kp .hob = false) (k_pwr : kp .pwr = false) (k_out : kp .out = false) (g code : Nat) (s : State) : keep kp (setEffective g code s) = keep kp s := by
  unfold setEffective
  repeat' (first | (simp [k_adm, k_hob, k_pwr, k_out]; done) | split | dsimp only)
  all_goals first | rfl | (simp_all; done) | (simp [keep, k_adm, k_hob, k_pwr, k_out]; done) | grind [keep_changeClock, keep_modPwr]

@[simp] theorem keep_avsStep {kp : Area → Bool} (k_regs : kp .regs = false) (k_adm : kp .adm = false) (k_hob : kp .hob = false) (k_host : kp .host = false) (k_pwr : kp .pwr = false) (k_out : kp .out = false) (need : List Nat) (s : State) : keep kp (avsStep need s) = keep kp s := by
  unfold avsStep
  repeat' (first | (simp [k_regs, k_adm, k_hob, k_host, k_pwr, k_out]; done) | split | dsimp only)
  all_goals first | rfl | (simp_all; done) | (simp [keep, k_regs, k_adm, k_hob, k_host, k_pwr, k_out]; done) | grind [keep_modPwr, keep_raiseEv, keep_setEffective]

@[simp] theorem keep_vidMove {kp : Area → Bool} (k_pwr : kp .pwr = false) (s : State) : keep kp (vidMove s) = keep kp s := by
  unfold vidMove
  repeat' (first | (simp [k_pwr]; done) | split | dsimp only)
  all_goals first | rfl | (simp_all; done) | (simp [keep, k_pwr]; done) | grind [keep_modPwr]

@[simp] theorem keep_thermalTrip {kp : Area → Bool} (k_clk : kp .clk = false) (k_regs : kp .regs = false) (k_hob : kp .hob = false) (k_tcam : kp .tcam = false) (k_twin : kp .twin = false) (k_host : kp .host = false) (k_boot : kp .boot = false) (k_pwr : kp .pwr = false) (sensor : Nat) (t : Int) (s : State) : keep kp (thermalTrip sensor t s) = keep kp s := by
  unfold thermalTrip
  repeat' (first | (simp [k_clk, k_regs, k_hob, k_tcam, k_twin, k_host, k_boot, k_pwr]; done) | split | dsimp only)
  all_goals first | rfl | (simp_all; done) | (simp [keep, k_clk, k_regs, k_hob, k_tcam, k_twin, k_host, k_boot, k_pwr]; done) | grind [keep_raiseEv, keep_modPwr, keep_modClk, keep_modBoot, keep_forEach, keep_modGroup, keep_dropDomain]

@[simp] theorem keep_throttleDown {kp : Area → Bool} (k_adm : kp .adm = false) (k_hob : kp .hob = false) (k_pwr : kp .pwr = false) (k_out : kp .out = false) (s : State) : keep kp (throttleDown s) = keep kp s := by
  unfold throttleDown
  repeat' (first | (simp [k_adm, k_hob, k_pwr, k_out]; done) | split | dsimp only)
  all_goals first | rfl | (simp_all; done) | (simp [keep, k_adm, k_hob, k_pwr, k_out]; done) | grind [keep_forEach, keep_setEffective]

@[simp] theorem keep_throttleUp {kp : Area → Bool} (k_adm : kp .adm = false) (k_hob : kp .hob = false) (k_pwr : kp .pwr = false) (k_out : kp .out = false) (s : State) : keep kp (throttleUp s) = keep kp s := by
  unfold throttleUp
  repeat' (first | (simp [k_adm, k_hob, k_pwr, k_out]; done) | split | dsimp only)
  all_goals first | rfl | (simp_all; done) | (simp [keep, k_adm, k_hob, k_pwr, k_out]; done) | grind [keep_forEach, keep_setEffective]

@[simp] theorem keep_setThrottling {kp : Area → Bool} (k_regs : kp .regs = false) (k_host : kp .host = false) (k_pwr : kp .pwr = false) (on : Bool) (t : Int) (s : State) : keep kp (setThrottling on t s) = keep kp s := by
  unfold setThrottling
  repeat' (first | (simp [k_regs, k_host, k_pwr]; done) | split | dsimp only)
  all_goals first | rfl | (simp_all; done) | (simp [keep, k_regs, k_host, k_pwr]; done) | grind [keep_raiseEv, keep_modPwr]

@[simp] theorem keep_throttleStep {kp : Area → Bool} (k_regs : kp .regs = false) (k_adm : kp .adm = false) (k_hob : kp .hob = false) (k_host : kp .host = false) (k_pwr : kp .pwr = false) (k_out : kp .out = false) (t : Int) (s : State) : keep kp (throttleStep t s) = keep kp s := by
  unfold throttleStep
  repeat' (first | (simp [k_regs, k_adm, k_hob, k_host, k_pwr, k_out]; done) | split | dsimp only)
  all_goals first | rfl | (simp_all; done) | (simp [keep, k_regs, k_adm, k_hob, k_host, k_pwr, k_out]; done) | grind [keep_throttleDown, keep_setThrottling, keep_modPwr, keep_throttleUp]

@[simp] theorem keep_thermalStep {kp : Area → Bool} (k_clk : kp .clk = false) (k_regs : kp .regs = false) (k_adm : kp .adm = false) (k_hob : kp .hob = false) (k_tcam : kp .tcam = false) (k_twin : kp .twin = false) (k_host : kp .host = false) (k_boot : kp .boot = false) (k_pwr : kp .pwr = false) (k_out : kp .out = false) (die : List Int) (h0 h1 : Int) (s : State) : keep kp (thermalStep die h0 h1 s) = keep kp s := by
  unfold thermalStep
  repeat' (first | (simp [k_clk, k_regs, k_adm, k_hob, k_tcam, k_twin, k_host, k_boot, k_pwr, k_out]; done) | split | dsimp only)
  all_goals first | rfl | (simp_all; done) | (simp [keep, k_clk, k_regs, k_adm, k_hob, k_tcam, k_twin, k_host, k_boot, k_pwr, k_out]; done) | grind [keep_modPwr, keep_raiseLim, keep_thermalTrip, keep_throttleStep]

@[simp] theorem keep_agingStep {kp : Area → Bool} (k_regs : kp .regs = false) (k_host : kp .host = false) (k_pwr : kp .pwr = false) (degrade : List Nat) (s : State) : keep kp (agingStep degrade s) = keep kp s := by
  unfold agingStep
  repeat' (first | (simp [k_regs, k_host, k_pwr]; done) | split | dsimp only)
  all_goals first | rfl | (simp_all; done) | (simp [keep, k_regs, k_host, k_pwr]; done) | grind [keep_modPwr, keep_raiseEv]

@[simp] theorem keep_visitGroup {kp : Area → Bool} (k_regs : kp .regs = false) (k_adm : kp .adm = false) (k_hob : kp .hob = false) (k_tbl : kp .tbl = false) (k_host : kp .host = false) (k_pwr : kp .pwr = false) (k_out : kp .out = false) (g : Nat) (s : State) : keep kp (visitGroup g s) = keep kp s := by
  unfold visitGroup
  repeat' (first | (simp [k_regs, k_adm, k_hob, k_tbl, k_host, k_pwr, k_out]; done) | split | dsimp only)
  all_goals first | rfl | (simp_all; done) | (simp [keep, k_regs, k_adm, k_hob, k_tbl, k_host, k_pwr, k_out]; done) | grind [keep_sweepLeave, keep_applySet, keep_unparkGroup, keep_modPwr, keep_raiseEv]

@[simp] theorem keep_sweepVisitDue {kp : Area → Bool} (k_regs : kp .regs = false) (k_adm : kp .adm = false) (k_hob : kp .hob = false) (k_tbl : kp .tbl = false) (k_host : kp .host = false) (k_pwr : kp .pwr = false) (k_out : kp .out = false) (s : State) : keep kp (sweepVisitDue s) = keep kp s := by
  unfold sweepVisitDue
  repeat' (first | (simp [k_regs, k_adm, k_hob, k_tbl, k_host, k_pwr, k_out]; done) | split | dsimp only)
  all_goals first | rfl | (simp_all; done) | (simp [keep, k_regs, k_adm, k_hob, k_tbl, k_host, k_pwr, k_out]; done) | grind [keep_modPwr, keep_visitGroup]

@[simp] theorem keep_sweepDrainedStep {kp : Area → Bool} (k_regs : kp .regs = false) (k_hob : kp .hob = false) (k_tbl : kp .tbl = false) (k_host : kp .host = false) (k_pwr : kp .pwr = false) (s : State) : keep kp (sweepDrainedStep s) = keep kp s := by
  unfold sweepDrainedStep
  repeat' (first | (simp [k_regs, k_hob, k_tbl, k_host, k_pwr]; done) | split | dsimp only)
  all_goals first | rfl | (simp_all; done) | (simp [keep, k_regs, k_hob, k_tbl, k_host, k_pwr]; done) | grind [keep_forEach, keep_setStove, keep_cacheFlush, keep_modPwr]

@[simp] theorem keep_sweepTested {kp : Area → Bool} (k_pwr : kp .pwr = false) (failed : Nat) (s : State) : keep kp (sweepTested failed s) = keep kp s := by
  unfold sweepTested
  repeat' (first | (simp [k_pwr]; done) | split | dsimp only)
  all_goals first | rfl | (simp_all; done) | (simp [keep, k_pwr]; done) | grind [keep_modPwr]

@[simp] theorem keep_sweepReturnStep {kp : Area → Bool} (k_regs : kp .regs = false) (k_adm : kp .adm = false) (k_hob : kp .hob = false) (k_tbl : kp .tbl = false) (k_host : kp .host = false) (k_boot : kp .boot = false) (k_pwr : kp .pwr = false) (k_out : kp .out = false) (s : State) : keep kp (sweepReturnStep s) = keep kp s := by
  unfold sweepReturnStep
  repeat' (first | (simp [k_regs, k_adm, k_hob, k_tbl, k_host, k_boot, k_pwr, k_out]; done) | split | dsimp only)
  all_goals first | rfl | (simp_all; done) | (simp [keep, k_regs, k_adm, k_hob, k_tbl, k_host, k_boot, k_pwr, k_out]; done) | grind [keep_forEach, keep_addHealth, keep_modGroup, keep_modPwr, keep_raiseEv, keep_applySet]

@[simp] theorem keep_scanLock {kp : Area → Bool} (k_clk : kp .clk = false) (k_regs : kp .regs = false) (k_lanes : kp .lanes = false) (k_ports : kp .ports = false) (k_twin : kp .twin = false) (k_host : kp .host = false) (k_boot : kp .boot = false) (k_pwr : kp .pwr = false) (k_out : kp .out = false) (code : Nat) (s : State) : keep kp (scanLock code s) = keep kp s := by
  unfold scanLock
  repeat' (first | (simp [k_clk, k_regs, k_lanes, k_ports, k_twin, k_host, k_boot, k_pwr, k_out]; done) | split | dsimp only)
  all_goals first | rfl | (simp_all; done) | (simp [keep, k_clk, k_regs, k_lanes, k_ports, k_twin, k_host, k_boot, k_pwr, k_out]; done) | grind [keep_loseSession, keep_modBoot, keep_raiseEv, keep_enterSafe, keep_modPwr]

@[simp] theorem keep_jtagOut {kp : Area → Bool} (k_out : kp .out = false) (v : Nat) (s : State) : keep kp (jtagOut v s) = keep kp s := by
  unfold jtagOut
  repeat' (first | (simp [k_out]; done) | split | dsimp only)
  all_goals first | rfl | (simp_all; done) | (simp [keep, k_out]; done) | grind [keep_modOut]

@[simp] theorem keep_healthCmd {kp : Area → Bool} (k_host : kp .host = false) (h : MbxHdr) (s : State) : keep kp (healthCmd h s) = keep kp s := by
  unfold healthCmd
  repeat' (first | (simp [k_host]; done) | split | dsimp only)
  all_goals first | rfl | (simp_all; done) | (simp [keep, k_host]; done) | grind [keep_mbxTake, keep_complete, keep_hostPut]

end Sys2Proof.Machine
end

