-- ==== Sys2Proof/Laws/Keep/Boot.lean ====
section
/-! SUPPORT. Which parts of the state the operations of Machine/Boot.lean keep. -/

namespace Sys2Proof.Machine

set_option linter.all false

@[simp] theorem keep_flashWrite {kp : Area → Bool} (k_boot : kp .boot = false) (slot off : Nat) (bs : List Byte) (s : State) : keep kp (flashWrite slot off bs s) = keep kp s := by
  unfold flashWrite
  repeat' (first | (simp [k_boot]; done) | split | dsimp only)
  all_goals first | rfl | (simp_all; done) | (simp [keep, k_boot]; done) | grind [keep_modBoot]

@[simp] theorem keep_flashErase {kp : Area → Bool} (k_boot : kp .boot = false) (slot lo hi : Nat) (s : State) : keep kp (flashErase slot lo hi s) = keep kp s := by
  unfold flashErase
  repeat' (first | (simp [k_boot]; done) | split | dsimp only)
  all_goals first | rfl | (simp_all; done) | (simp [keep, k_boot]; done) | grind [keep_modBoot]

@[simp] theorem keep_countRefusals {kp : Area → Bool} (k_regs : kp .regs = false) (k_host : kp .host = false) (k_boot : kp .boot = false) (t n : Nat) (s : State) : keep kp (countRefusals t n s) = keep kp s := by
  unfold countRefusals
  repeat' (first | (simp [k_regs, k_host, k_boot]; done) | split | dsimp only)
  all_goals first | rfl | (simp_all; done) | (simp [keep, k_regs, k_host, k_boot]; done) | grind [keep_regCountN, keep_raiseEv, keep_modBoot]

@[simp] theorem keep_bootReg {kp : Area → Bool} (k_regs : kp .regs = false) (k_lanes : kp .lanes = false) (k_ports : kp .ports = false) (k_adm : kp .adm = false) (k_hob : kp .hob = false) (k_tbl : kp .tbl = false) (k_tcam : kp .tcam = false) (k_buf : kp .buf = false) (k_egr : kp .egr = false) (k_time : kp .time = false) (k_host : kp .host = false) (k_boot : kp .boot = false) (k_pwr : kp .pwr = false) (k_out : kp .out = false) (r : List Byte) (s : State) : keep kp (bootReg r s) = keep kp s := by
  unfold bootReg
  repeat' (first | (simp [k_regs, k_lanes, k_ports, k_adm, k_hob, k_tbl, k_tcam, k_buf, k_egr, k_time, k_host, k_boot, k_pwr, k_out]; done) | split | dsimp only)
  all_goals first | rfl | (simp_all; done) | (simp [keep, k_regs, k_lanes, k_ports, k_adm, k_hob, k_tbl, k_tcam, k_buf, k_egr, k_time, k_host, k_boot, k_pwr, k_out]; done) | grind [keep_applyReg, keep_raiseEv]

@[simp] theorem keep_bootRegs {kp : Area → Bool} (k_regs : kp .regs = false) (k_lanes : kp .lanes = false) (k_ports : kp .ports = false) (k_adm : kp .adm = false) (k_hob : kp .hob = false) (k_tbl : kp .tbl = false) (k_tcam : kp .tcam = false) (k_buf : kp .buf = false) (k_egr : kp .egr = false) (k_time : kp .time = false) (k_host : kp .host = false) (k_boot : kp .boot = false) (k_pwr : kp .pwr = false) (k_out : kp .out = false) (bs : List Byte) (s : State) : keep kp (bootRegs bs s) = keep kp s := by
  unfold bootRegs
  repeat' (first | (simp [k_regs, k_lanes, k_ports, k_adm, k_hob, k_tbl, k_tcam, k_buf, k_egr, k_time, k_host, k_boot, k_pwr, k_out]; done) | split | dsimp only)
  all_goals first | rfl | (simp_all; done) | (simp [keep, k_regs, k_lanes, k_ports, k_adm, k_hob, k_tbl, k_tcam, k_buf, k_egr, k_time, k_host, k_boot, k_pwr, k_out]; done) | grind [keep_forEach, keep_bootReg]

@[simp] theorem keep_bootVersioned {kp : Area → Bool} (k_regs : kp .regs = false) (k_writes : kp .writes = false) (k_tbl : kp .tbl = false) (k_buf : kp .buf = false) (k_twin : kp .twin = false) (k_host : kp .host = false) (code : Nat) (ws : List Nat) (s : State) : keep kp (bootVersioned code ws s).2 = keep kp s := by
  unfold bootVersioned
  repeat' (first | (simp [k_regs, k_writes, k_tbl, k_buf, k_twin, k_host]; done) | split | dsimp only)
  all_goals first | rfl | (simp_all; done) | (simp [keep, k_regs, k_writes, k_tbl, k_buf, k_twin, k_host]; done) | grind [keep_effectsDue, keep_reachWrite, keep_modTbl]

@[simp] theorem keep_bootTxn {kp : Area → Bool} (k_regs : kp .regs = false) (k_tcam : kp .tcam = false) (k_host : kp .host = false) (ws : List Nat) (s : State) : keep kp (bootTxn ws s).2 = keep kp s := by
  unfold bootTxn
  repeat' (first | (simp [k_regs, k_tcam, k_host]; done) | split | dsimp only)
  all_goals first | rfl | (simp_all; done) | (simp [keep, k_regs, k_tcam, k_host]; done) | grind [keep_txnOpen, keep_txnCommit, keep_txnIdle, keep_txnApply, keep_txnAbort]

@[simp] theorem keep_seedHalf {kp : Area → Bool} (k_tbl : kp .tbl = false) (r : Nat) (v : List Byte) (s : State) : keep kp (seedHalf r v s) = keep kp s := by
  unfold seedHalf
  repeat' (first | (simp [k_tbl]; done) | split | dsimp only)
  all_goals first | rfl | (simp_all; done) | (simp [keep, k_tbl]; done) | grind [keep_modEmber]

@[simp] theorem keep_bootRecord {kp : Area → Bool} (k_regs : kp .regs = false) (k_writes : kp .writes = false) (k_tbl : kp .tbl = false) (k_tcam : kp .tcam = false) (k_buf : kp .buf = false) (k_egr : kp .egr = false) (k_twin : kp .twin = false) (k_host : kp .host = false) (code : Nat) (rec : List Byte) (s : State) : keep kp (bootRecord code rec s).2 = keep kp s := by
  unfold bootRecord
  repeat' (first | (simp [k_regs, k_writes, k_tbl, k_tcam, k_buf, k_egr, k_twin, k_host]; done) | split | dsimp only)
  all_goals first | rfl | (simp_all; done) | (simp [keep, k_regs, k_writes, k_tbl, k_tcam, k_buf, k_egr, k_twin, k_host]; done) | grind [keep_bootVersioned, keep_modEmber, keep_seedHalf, keep_tcamEntryOp, keep_bootTxn, keep_modMeter, keep_modSession, keep_pairSet]

@[simp] theorem keep_bootRecords {kp : Area → Bool} (k_regs : kp .regs = false) (k_writes : kp .writes = false) (k_tbl : kp .tbl = false) (k_tcam : kp .tcam = false) (k_buf : kp .buf = false) (k_egr : kp .egr = false) (k_twin : kp .twin = false) (k_host : kp .host = false) (l : List (Nat × List Byte)) (s : State) : keep kp (bootRecords l s).2 = keep kp s := by
  unfold bootRecords
  repeat' (first | (simp [k_regs, k_writes, k_tbl, k_tcam, k_buf, k_egr, k_twin, k_host]; done) | split | dsimp only)
  all_goals first | rfl | (simp_all; done) | (simp [keep, k_regs, k_writes, k_tbl, k_tcam, k_buf, k_egr, k_twin, k_host]; done) | grind [keep_bootRecord]

@[simp] theorem keep_settleTables {kp : Area → Bool} (k_tbl : kp .tbl = false) (k_buf : kp .buf = false) (s : State) : keep kp (settleTables s) = keep kp s := by
  unfold settleTables
  repeat' (first | (simp [k_tbl, k_buf]; done) | split | dsimp only)
  all_goals first | rfl | (simp_all; done) | (simp [keep, k_tbl, k_buf]; done) | grind [keep_modTbl, keep_modBuf]

@[simp] theorem keep_bootEmber {kp : Area → Bool} (k_regs : kp .regs = false) (k_writes : kp .writes = false) (k_tbl : kp .tbl = false) (k_buf : kp .buf = false) (k_twin : kp .twin = false) (k_host : kp .host = false) (r : List Byte) (s : State) : keep kp (bootEmber r s).2 = keep kp s := by
  unfold bootEmber
  repeat' (first | (simp [k_regs, k_writes, k_tbl, k_buf, k_twin, k_host]; done) | split | dsimp only)
  all_goals first | rfl | (simp_all; done) | (simp [keep, k_regs, k_writes, k_tbl, k_buf, k_twin, k_host]; done) | grind [keep_bootVersioned, keep_seedHalf, keep_modEmber]

@[simp] theorem keep_bootEmbers {kp : Area → Bool} (k_regs : kp .regs = false) (k_writes : kp .writes = false) (k_tbl : kp .tbl = false) (k_buf : kp .buf = false) (k_twin : kp .twin = false) (k_host : kp .host = false) (k_boot : kp .boot = false) (bs : List Byte) (s : State) : keep kp (bootEmbers bs s) = keep kp s := by
  unfold bootEmbers
  repeat' (first | (simp [k_regs, k_writes, k_tbl, k_buf, k_twin, k_host, k_boot]; done) | split | dsimp only)
  all_goals first | rfl | (simp_all; done) | (simp [keep, k_regs, k_writes, k_tbl, k_buf, k_twin, k_host, k_boot]; done) | grind [keep_bootEmber, keep_countRefusals]

@[simp] theorem keep_refusePorts {kp : Area → Bool} (k_regs : kp .regs = false) (k_host : kp .host = false) (k_boot : kp .boot = false) (s : State) : keep kp (refusePorts s) = keep kp s := by
  unfold refusePorts
  repeat' (first | (simp [k_regs, k_host, k_boot]; done) | split | dsimp only)
  all_goals first | rfl | (simp_all; done) | (simp [keep, k_regs, k_host, k_boot]; done) | grind [keep_countRefusals, keep_forEach, keep_regSetFld]

@[simp] theorem keep_markUnusable {kp : Area → Bool} (k_regs : kp .regs = false) (k_host : kp .host = false) (k_boot : kp .boot = false) (k_pwr : kp .pwr = false) (kind num src : Nat) (s : State) : keep kp (markUnusable kind num src s) = keep kp s := by
  unfold markUnusable
  repeat' (first | (simp [k_regs, k_host, k_boot, k_pwr]; done) | split | dsimp only)
  all_goals first | rfl | (simp_all; done) | (simp [keep, k_regs, k_host, k_boot, k_pwr]; done) | grind [keep_addHealth, keep_raiseEv, keep_modPwr, keep_regSetFld]

@[simp] theorem keep_bootHealth {kp : Area → Bool} (k_regs : kp .regs = false) (k_host : kp .host = false) (k_boot : kp .boot = false) (k_pwr : kp .pwr = false) (img : List Byte) (s : State) : keep kp (bootHealth img s) = keep kp s := by
  unfold bootHealth
  repeat' (first | (simp [k_regs, k_host, k_boot, k_pwr]; done) | split | dsimp only)
  all_goals first | rfl | (simp_all; done) | (simp [keep, k_regs, k_host, k_boot, k_pwr]; done) | grind [keep_forEach, keep_markUnusable]

@[simp] theorem keep_mapBrick {kp : Area → Bool} (k_regs : kp .regs = false) (k_tcam : kp .tcam = false) (k_host : kp .host = false) (p : Nat) (s : State) : keep kp (mapBrick p s) = keep kp s := by
  unfold mapBrick
  repeat' (first | (simp [k_regs, k_tcam, k_host]; done) | split | dsimp only)
  all_goals first | rfl | (simp_all; done) | (simp [keep, k_regs, k_tcam, k_host]; done) | grind [keep_raiseEv, keep_modTcam]

@[simp] theorem keep_mapBricks {kp : Area → Bool} (k_regs : kp .regs = false) (k_tcam : kp .tcam = false) (k_host : kp .host = false) (s : State) : keep kp (mapBricks s) = keep kp s := by
  unfold mapBricks
  repeat' (first | (simp [k_regs, k_tcam, k_host]; done) | split | dsimp only)
  all_goals first | rfl | (simp_all; done) | (simp [keep, k_regs, k_tcam, k_host]; done) | grind [keep_noteSpares, keep_modTcam, keep_forEach, keep_mapBrick]

@[simp] theorem keep_bootKeys {kp : Area → Bool} (k_boot : kp .boot = false) (img : List Byte) (s : State) : keep kp (bootKeys img s) = keep kp s := by
  unfold bootKeys
  repeat' (first | (simp [k_boot]; done) | split | dsimp only)
  all_goals first | rfl | (simp_all; done) | (simp [keep, k_boot]; done) | grind [keep_modBoot]

@[simp] theorem keep_stoveSetup {kp : Area → Bool} (k_regs : kp .regs = false) (k_adm : kp .adm = false) (k_hob : kp .hob = false) (k_host : kp .host = false) (k_pwr : kp .pwr = false) (s : State) : keep kp (stoveSetup s) = keep kp s := by
  unfold stoveSetup
  repeat' (first | (simp [k_regs, k_adm, k_hob, k_host, k_pwr]; done) | split | dsimp only)
  all_goals first | rfl | (simp_all; done) | (simp [keep, k_regs, k_adm, k_hob, k_host, k_pwr]; done) | grind [keep_forEach, keep_modGroup, keep_setStove, keep_modPwr, keep_modHob, keep_modAdm]

@[simp] theorem keep_overlayApply {kp : Area → Bool} (k_regs : kp .regs = false) (k_writes : kp .writes = false) (k_lanes : kp .lanes = false) (k_ports : kp .ports = false) (k_adm : kp .adm = false) (k_hob : kp .hob = false) (k_tbl : kp .tbl = false) (k_tcam : kp .tcam = false) (k_buf : kp .buf = false) (k_egr : kp .egr = false) (k_twin : kp .twin = false) (k_time : kp .time = false) (k_host : kp .host = false) (k_boot : kp .boot = false) (k_pwr : kp .pwr = false) (k_out : kp .out = false) (body : List Byte) (s : State) : keep kp (overlayApply body s) = keep kp s := by
  unfold overlayApply
  repeat' (first | (simp [k_regs, k_writes, k_lanes, k_ports, k_adm, k_hob, k_tbl, k_tcam, k_buf, k_egr, k_twin, k_time, k_host, k_boot, k_pwr, k_out]; done) | split | dsimp only)
  all_goals first | rfl | (simp_all; done) | (simp [keep, k_regs, k_writes, k_lanes, k_ports, k_adm, k_hob, k_tbl, k_tcam, k_buf, k_egr, k_twin, k_time, k_host, k_boot, k_pwr, k_out]; done) | grind [keep_bootRegs, keep_bootRecords, keep_modTwin, keep_modBoot]

@[simp] theorem keep_bootOverlay {kp : Area → Bool} (k_regs : kp .regs = false) (k_writes : kp .writes = false) (k_lanes : kp .lanes = false) (k_ports : kp .ports = false) (k_adm : kp .adm = false) (k_hob : kp .hob = false) (k_tbl : kp .tbl = false) (k_tcam : kp .tcam = false) (k_buf : kp .buf = false) (k_egr : kp .egr = false) (k_twin : kp .twin = false) (k_time : kp .time = false) (k_host : kp .host = false) (k_boot : kp .boot = false) (k_pwr : kp .pwr = false) (k_out : kp .out = false) (slot : Nat) (s : State) : keep kp (bootOverlay slot s) = keep kp s := by
  unfold bootOverlay
  repeat' (first | (simp [k_regs, k_writes, k_lanes, k_ports, k_adm, k_hob, k_tbl, k_tcam, k_buf, k_egr, k_twin, k_time, k_host, k_boot, k_pwr, k_out]; done) | split | dsimp only)
  all_goals first | rfl | (simp_all; done) | (simp [keep, k_regs, k_writes, k_lanes, k_ports, k_adm, k_hob, k_tbl, k_tcam, k_buf, k_egr, k_twin, k_time, k_host, k_boot, k_pwr, k_out]; done) | grind [keep_raiseEv, keep_overlayApply]

theorem keep_bootReset {kp : Area → Bool} (k_clk : kp .clk = false) (k_tick : kp .tick = false) (k_regs : kp .regs = false) (k_writes : kp .writes = false) (k_lanes : kp .lanes = false) (k_ports : kp .ports = false) (k_adm : kp .adm = false) (k_prog : kp .prog = false) (k_hob : kp .hob = false) (k_threads : kp .threads = false) (k_tbl : kp .tbl = false) (k_tcam : kp .tcam = false) (k_buf : kp .buf = false) (k_egr : kp .egr = false) (k_twin : kp .twin = false) (k_time : kp .time = false) (k_host : kp .host = false) (k_boot : kp .boot = false) (k_fuseOp : kp .fuseOp = false) (k_image : kp .image = false) (k_pwr : kp .pwr = false) (k_out : kp .out = false) (low supply : Bool) (s : State) : keep kp (bootReset low supply s) = keep kp s := by
  simp [keep, bootReset, k_clk, k_tick, k_regs, k_writes, k_lanes, k_ports, k_adm, k_prog, k_hob, k_threads, k_tbl, k_tcam, k_buf, k_egr, k_twin, k_time, k_host, k_boot, k_fuseOp, k_image, k_pwr, k_out]

@[simp] theorem keep_atStep {kp : Area → Bool} (k_boot : kp .boot = false) (n : Nat) (s : State) : keep kp (atStep n s) = keep kp s := by
  unfold atStep
  repeat' (first | (simp [k_boot]; done) | split | dsimp only)
  all_goals first | rfl | (simp_all; done) | (simp [keep, k_boot]; done) | grind [keep_modBoot]

@[simp] theorem keep_startFailure {kp : Area → Bool} (k_regs : kp .regs = false) (k_host : kp .host = false) (k_boot : kp .boot = false) (k_pwr : kp .pwr = false) (e : Nat × Nat) (s : State) : keep kp (startFailure e s) = keep kp s := by
  unfold startFailure
  repeat' (first | (simp [k_regs, k_host, k_boot, k_pwr]; done) | split | dsimp only)
  all_goals first | rfl | (simp_all; done) | (simp [keep, k_regs, k_host, k_boot, k_pwr]; done) | grind [keep_blockFailed, keep_markUnusable]

@[simp] theorem keep_stepEleven {kp : Area → Bool} (k_regs : kp .regs = false) (k_host : kp .host = false) (k_boot : kp .boot = false) (s : State) : keep kp (stepEleven s) = keep kp s := by
  unfold stepEleven
  repeat' (first | (simp [k_regs, k_host, k_boot]; done) | split | dsimp only)
  all_goals first | rfl | (simp_all; done) | (simp [keep, k_regs, k_host, k_boot]; done) | grind [keep_atStep, keep_modBoot, keep_nameStart]

@[simp] theorem keep_stepsToEnd {kp : Area → Bool} (k_clk : kp .clk = false) (k_regs : kp .regs = false) (k_lanes : kp .lanes = false) (k_ports : kp .ports = false) (k_buf : kp .buf = false) (k_host : kp .host = false) (k_boot : kp .boot = false) (k_pwr : kp .pwr = false) (k_out : kp .out = false) (s : State) : keep kp (stepsToEnd s) = keep kp s := by
  unfold stepsToEnd
  repeat' (first | (simp [k_clk, k_regs, k_lanes, k_ports, k_buf, k_host, k_boot, k_pwr, k_out]; done) | split | dsimp only)
  all_goals first | rfl | (simp_all; done) | (simp [keep, k_clk, k_regs, k_lanes, k_ports, k_buf, k_host, k_boot, k_pwr, k_out]; done) | grind [keep_enterSafe, keep_atStep, keep_stepEleven, keep_stepNine]

@[simp] theorem keep_stepEight {kp : Area → Bool} (k_regs : kp .regs = false) (k_writes : kp .writes = false) (k_lanes : kp .lanes = false) (k_ports : kp .ports = false) (k_adm : kp .adm = false) (k_prog : kp .prog = false) (k_hob : kp .hob = false) (k_tbl : kp .tbl = false) (k_tcam : kp .tcam = false) (k_buf : kp .buf = false) (k_egr : kp .egr = false) (k_twin : kp .twin = false) (k_time : kp .time = false) (k_host : kp .host = false) (k_boot : kp .boot = false) (k_image : kp .image = false) (k_pwr : kp .pwr = false) (k_out : kp .out = false) (slot : Nat) (img : List Byte) (s : State) : keep kp (stepEight slot img s) = keep kp s := by
  unfold stepEight
  repeat' (first | (simp [k_regs, k_writes, k_lanes, k_ports, k_adm, k_prog, k_hob, k_tbl, k_tcam, k_buf, k_egr, k_twin, k_time, k_host, k_boot, k_image, k_pwr, k_out]; done) | split | dsimp only)
  all_goals first | rfl | (simp_all; done) | (simp [keep, k_regs, k_writes, k_lanes, k_ports, k_adm, k_prog, k_hob, k_tbl, k_tcam, k_buf, k_egr, k_twin, k_time, k_host, k_boot, k_image, k_pwr, k_out]; done) | grind [keep_modBoot, keep_atStep, keep_bootKeys, keep_mapBricks, keep_bootHealth, keep_bootRegs, keep_refusePorts, keep_bootRecords, keep_bootEmbers, keep_countRefusals, keep_loadProgram, keep_stoveSetup, keep_settleTables, keep_bootOverlay]

@[simp] theorem keep_blocksSetup {kp : Area → Bool} (k_regs : kp .regs = false) (k_adm : kp .adm = false) (k_hob : kp .hob = false) (k_tcam : kp .tcam = false) (k_host : kp .host = false) (k_boot : kp .boot = false) (k_pwr : kp .pwr = false) (s : State) : keep kp (blocksSetup s) = keep kp s := by
  unfold blocksSetup
  repeat' (first | (simp [k_regs, k_adm, k_hob, k_tcam, k_host, k_boot, k_pwr]; done) | split | dsimp only)
  all_goals first | rfl | (simp_all; done) | (simp [keep, k_regs, k_adm, k_hob, k_tcam, k_host, k_boot, k_pwr]; done) | grind [keep_stoveSetup, keep_mapBricks, keep_bootHealth]

@[simp] theorem keep_stepSeven {kp : Area → Bool} (k_clk : kp .clk = false) (k_regs : kp .regs = false) (k_writes : kp .writes = false) (k_lanes : kp .lanes = false) (k_ports : kp .ports = false) (k_adm : kp .adm = false) (k_prog : kp .prog = false) (k_hob : kp .hob = false) (k_tbl : kp .tbl = false) (k_tcam : kp .tcam = false) (k_buf : kp .buf = false) (k_egr : kp .egr = false) (k_twin : kp .twin = false) (k_time : kp .time = false) (k_host : kp .host = false) (k_boot : kp .boot = false) (k_image : kp .image = false) (k_pwr : kp .pwr = false) (k_out : kp .out = false) (inp : StartInput) (s : State) : keep kp (stepSeven inp s) = keep kp s := by
  unfold stepSeven
  repeat' (first | (simp [k_clk, k_regs, k_writes, k_lanes, k_ports, k_adm, k_prog, k_hob, k_tbl, k_tcam, k_buf, k_egr, k_twin, k_time, k_host, k_boot, k_image, k_pwr, k_out]; done) | split | dsimp only)
  all_goals first | rfl | (simp_all; done) | (simp [keep, k_clk, k_regs, k_writes, k_lanes, k_ports, k_adm, k_prog, k_hob, k_tbl, k_tcam, k_buf, k_egr, k_twin, k_time, k_host, k_boot, k_image, k_pwr, k_out]; done) | grind [keep_raiseEv, keep_modBoot, keep_atStep, keep_stepsToEnd, keep_stepEight, keep_enterSafe, keep_blocksSetup]

@[simp] theorem keep_stepThree {kp : Area → Bool} (k_clk : kp .clk = false) (k_tick : kp .tick = false) (k_regs : kp .regs = false) (k_writes : kp .writes = false) (k_lanes : kp .lanes = false) (k_ports : kp .ports = false) (k_adm : kp .adm = false) (k_prog : kp .prog = false) (k_hob : kp .hob = false) (k_tbl : kp .tbl = false) (k_tcam : kp .tcam = false) (k_buf : kp .buf = false) (k_egr : kp .egr = false) (k_twin : kp .twin = false) (k_time : kp .time = false) (k_host : kp .host = false) (k_boot : kp .boot = false) (k_image : kp .image = false) (k_pwr : kp .pwr = false) (k_out : kp .out = false) (inp : StartInput) (s : State) : keep kp (stepThree inp s) = keep kp s := by
  unfold stepThree
  repeat' (first | (simp [k_clk, k_tick, k_regs, k_writes, k_lanes, k_ports, k_adm, k_prog, k_hob, k_tbl, k_tcam, k_buf, k_egr, k_twin, k_time, k_host, k_boot, k_image, k_pwr, k_out]; done) | split | dsimp only)
  all_goals first | rfl | (simp_all; done) | (simp [keep, k_clk, k_tick, k_regs, k_writes, k_lanes, k_ports, k_adm, k_prog, k_hob, k_tbl, k_tcam, k_buf, k_egr, k_twin, k_time, k_host, k_boot, k_image, k_pwr, k_out]; done) | grind [keep_modPwr, keep_modHost, keep_modClk, keep_forEach, keep_startFailure, keep_atStep, keep_enterSafe, keep_blocksSetup, keep_regSetFld, keep_stepSeven]

@[simp] theorem keep_runStart {kp : Area → Bool} (k_clk : kp .clk = false) (k_tick : kp .tick = false) (k_regs : kp .regs = false) (k_writes : kp .writes = false) (k_lanes : kp .lanes = false) (k_ports : kp .ports = false) (k_adm : kp .adm = false) (k_prog : kp .prog = false) (k_hob : kp .hob = false) (k_tbl : kp .tbl = false) (k_tcam : kp .tcam = false) (k_buf : kp .buf = false) (k_egr : kp .egr = false) (k_twin : kp .twin = false) (k_time : kp .time = false) (k_host : kp .host = false) (k_boot : kp .boot = false) (k_image : kp .image = false) (k_pwr : kp .pwr = false) (k_out : kp .out = false) (inp : StartInput) (s : State) : keep kp (runStart inp s) = keep kp s := by
  unfold runStart
  repeat' (first | (simp [k_clk, k_tick, k_regs, k_writes, k_lanes, k_ports, k_adm, k_prog, k_hob, k_tbl, k_tcam, k_buf, k_egr, k_twin, k_time, k_host, k_boot, k_image, k_pwr, k_out]; done) | split | dsimp only)
  all_goals first | rfl | (simp_all; done) | (simp [keep, k_clk, k_tick, k_regs, k_writes, k_lanes, k_ports, k_adm, k_prog, k_hob, k_tbl, k_tcam, k_buf, k_egr, k_twin, k_time, k_host, k_boot, k_image, k_pwr, k_out]; done) | grind [keep_modTwin, keep_modBoot, keep_modPwr, keep_modHost, keep_modClk, keep_scanLock, keep_enterSafe, keep_stoveSetup, keep_stepThree]

@[simp] theorem keep_resetRise {kp : Area → Bool} (k_clk : kp .clk = false) (k_tick : kp .tick = false) (k_regs : kp .regs = false) (k_writes : kp .writes = false) (k_lanes : kp .lanes = false) (k_ports : kp .ports = false) (k_adm : kp .adm = false) (k_prog : kp .prog = false) (k_hob : kp .hob = false) (k_tbl : kp .tbl = false) (k_tcam : kp .tcam = false) (k_buf : kp .buf = false) (k_egr : kp .egr = false) (k_twin : kp .twin = false) (k_time : kp .time = false) (k_host : kp .host = false) (k_boot : kp .boot = false) (k_image : kp .image = false) (k_pwr : kp .pwr = false) (k_out : kp .out = false) (inp : StartInput) (s : State) : keep kp (resetRise inp s) = keep kp s := by
  unfold resetRise
  repeat' (first | (simp [k_clk, k_tick, k_regs, k_writes, k_lanes, k_ports, k_adm, k_prog, k_hob, k_tbl, k_tcam, k_buf, k_egr, k_twin, k_time, k_host, k_boot, k_image, k_pwr, k_out]; done) | split | dsimp only)
  all_goals first | rfl | (simp_all; done) | (simp [keep, k_clk, k_tick, k_regs, k_writes, k_lanes, k_ports, k_adm, k_prog, k_hob, k_tbl, k_tcam, k_buf, k_egr, k_twin, k_time, k_host, k_boot, k_image, k_pwr, k_out]; done) | grind [keep_modBoot, keep_runStart]

@[simp] theorem keep_resetFall {kp : Area → Bool} (k_clk : kp .clk = false) (k_tick : kp .tick = false) (k_regs : kp .regs = false) (k_writes : kp .writes = false) (k_lanes : kp .lanes = false) (k_ports : kp .ports = false) (k_adm : kp .adm = false) (k_prog : kp .prog = false) (k_hob : kp .hob = false) (k_threads : kp .threads = false) (k_tbl : kp .tbl = false) (k_tcam : kp .tcam = false) (k_buf : kp .buf = false) (k_egr : kp .egr = false) (k_twin : kp .twin = false) (k_time : kp .time = false) (k_host : kp .host = false) (k_boot : kp .boot = false) (k_fuseOp : kp .fuseOp = false) (k_image : kp .image = false) (k_pwr : kp .pwr = false) (k_out : kp .out = false) (ns : Nat) (s : State) : keep kp (resetFall ns s) = keep kp s := by
  unfold resetFall
  repeat' (first | (simp [k_clk, k_tick, k_regs, k_writes, k_lanes, k_ports, k_adm, k_prog, k_hob, k_threads, k_tbl, k_tcam, k_buf, k_egr, k_twin, k_time, k_host, k_boot, k_fuseOp, k_image, k_pwr, k_out]; done) | split | dsimp only)
  all_goals first | rfl | (simp_all; done) | (simp [keep, k_clk, k_tick, k_regs, k_writes, k_lanes, k_ports, k_adm, k_prog, k_hob, k_threads, k_tbl, k_tcam, k_buf, k_egr, k_twin, k_time, k_host, k_boot, k_fuseOp, k_image, k_pwr, k_out]; done) | grind [keep_bootReset, keep_useFree]

@[simp] theorem keep_supplyFall {kp : Area → Bool} (k_clk : kp .clk = false) (k_tick : kp .tick = false) (k_regs : kp .regs = false) (k_writes : kp .writes = false) (k_lanes : kp .lanes = false) (k_ports : kp .ports = false) (k_adm : kp .adm = false) (k_prog : kp .prog = false) (k_hob : kp .hob = false) (k_threads : kp .threads = false) (k_tbl : kp .tbl = false) (k_tcam : kp .tcam = false) (k_buf : kp .buf = false) (k_egr : kp .egr = false) (k_twin : kp .twin = false) (k_time : kp .time = false) (k_host : kp .host = false) (k_boot : kp .boot = false) (k_fuseOp : kp .fuseOp = false) (k_image : kp .image = false) (k_pwr : kp .pwr = false) (k_out : kp .out = false) (s : State) : keep kp (supplyFall s) = keep kp s := by
  unfold supplyFall
  repeat' (first | (simp [k_clk, k_tick, k_regs, k_writes, k_lanes, k_ports, k_adm, k_prog, k_hob, k_threads, k_tbl, k_tcam, k_buf, k_egr, k_twin, k_time, k_host, k_boot, k_fuseOp, k_image, k_pwr, k_out]; done) | split | dsimp only)
  all_goals first | rfl | (simp_all; done) | (simp [keep, k_clk, k_tick, k_regs, k_writes, k_lanes, k_ports, k_adm, k_prog, k_hob, k_threads, k_tbl, k_tcam, k_buf, k_egr, k_twin, k_time, k_host, k_boot, k_fuseOp, k_image, k_pwr, k_out]; done) | grind [keep_bootReset]

@[simp] theorem keep_supplyRise {kp : Area → Bool} (k_clk : kp .clk = false) (k_tick : kp .tick = false) (k_regs : kp .regs = false) (k_writes : kp .writes = false) (k_lanes : kp .lanes = false) (k_ports : kp .ports = false) (k_adm : kp .adm = false) (k_prog : kp .prog = false) (k_hob : kp .hob = false) (k_tbl : kp .tbl = false) (k_tcam : kp .tcam = false) (k_buf : kp .buf = false) (k_egr : kp .egr = false) (k_twin : kp .twin = false) (k_time : kp .time = false) (k_host : kp .host = false) (k_boot : kp .boot = false) (k_image : kp .image = false) (k_pwr : kp .pwr = false) (k_out : kp .out = false) (inp : StartInput) (s : State) : keep kp (supplyRise inp s) = keep kp s := by
  unfold supplyRise
  repeat' (first | (simp [k_clk, k_tick, k_regs, k_writes, k_lanes, k_ports, k_adm, k_prog, k_hob, k_tbl, k_tcam, k_buf, k_egr, k_twin, k_time, k_host, k_boot, k_image, k_pwr, k_out]; done) | split | dsimp only)
  all_goals first | rfl | (simp_all; done) | (simp [keep, k_clk, k_tick, k_regs, k_writes, k_lanes, k_ports, k_adm, k_prog, k_hob, k_tbl, k_tcam, k_buf, k_egr, k_twin, k_time, k_host, k_boot, k_image, k_pwr, k_out]; done) | grind [keep_modBoot, keep_runStart]

@[simp] theorem keep_restartWrite {kp : Area → Bool} (k_clk : kp .clk = false) (k_tick : kp .tick = false) (k_regs : kp .regs = false) (k_writes : kp .writes = false) (k_lanes : kp .lanes = false) (k_ports : kp .ports = false) (k_adm : kp .adm = false) (k_prog : kp .prog = false) (k_hob : kp .hob = false) (k_threads : kp .threads = false) (k_tbl : kp .tbl = false) (k_tcam : kp .tcam = false) (k_buf : kp .buf = false) (k_egr : kp .egr = false) (k_twin : kp .twin = false) (k_time : kp .time = false) (k_host : kp .host = false) (k_boot : kp .boot = false) (k_fuseOp : kp .fuseOp = false) (k_image : kp .image = false) (k_pwr : kp .pwr = false) (k_out : kp .out = false) (v : Word) (inp : StartInput) (s : State) : keep kp (restartWrite v inp s) = keep kp s := by
  unfold restartWrite
  repeat' (first | (simp [k_clk, k_tick, k_regs, k_writes, k_lanes, k_ports, k_adm, k_prog, k_hob, k_threads, k_tbl, k_tcam, k_buf, k_egr, k_twin, k_time, k_host, k_boot, k_fuseOp, k_image, k_pwr, k_out]; done) | split | dsimp only)
  all_goals first | rfl | (simp_all; done) | (simp [keep, k_clk, k_tick, k_regs, k_writes, k_lanes, k_ports, k_adm, k_prog, k_hob, k_threads, k_tbl, k_tcam, k_buf, k_egr, k_twin, k_time, k_host, k_boot, k_fuseOp, k_image, k_pwr, k_out]; done) | grind [keep_runStart, keep_bootReset]

@[simp] theorem keep_forwardWrite {kp : Area → Bool} (k_regs : kp .regs = false) (k_host : kp .host = false) (k_boot : kp .boot = false) (v : Word) (s : State) : keep kp (forwardWrite v s) = keep kp s := by
  unfold forwardWrite
  repeat' (first | (simp [k_regs, k_host, k_boot]; done) | split | dsimp only)
  all_goals first | rfl | (simp_all; done) | (simp [keep, k_regs, k_host, k_boot]; done) | grind [keep_nameStart, keep_modBoot]

@[simp] theorem keep_pllLocks {kp : Area → Bool} (k_clk : kp .clk = false) (k_tick : kp .tick = false) (k_regs : kp .regs = false) (k_writes : kp .writes = false) (k_lanes : kp .lanes = false) (k_ports : kp .ports = false) (k_adm : kp .adm = false) (k_prog : kp .prog = false) (k_hob : kp .hob = false) (k_tbl : kp .tbl = false) (k_tcam : kp .tcam = false) (k_buf : kp .buf = false) (k_egr : kp .egr = false) (k_twin : kp .twin = false) (k_time : kp .time = false) (k_host : kp .host = false) (k_boot : kp .boot = false) (k_image : kp .image = false) (k_pwr : kp .pwr = false) (k_out : kp .out = false) (s : State) : keep kp (pllLocks s) = keep kp s := by
  unfold pllLocks
  repeat' (first | (simp [k_clk, k_tick, k_regs, k_writes, k_lanes, k_ports, k_adm, k_prog, k_hob, k_tbl, k_tcam, k_buf, k_egr, k_twin, k_time, k_host, k_boot, k_image, k_pwr, k_out]; done) | split | dsimp only)
  all_goals first | rfl | (simp_all; done) | (simp [keep, k_clk, k_tick, k_regs, k_writes, k_lanes, k_ports, k_adm, k_prog, k_hob, k_tbl, k_tcam, k_buf, k_egr, k_twin, k_time, k_host, k_boot, k_image, k_pwr, k_out]; done) | grind [keep_stepThree, keep_modBoot, keep_modClk]

@[simp] theorem keep_leaveSafe {kp : Area → Bool} (k_clk : kp .clk = false) (k_regs : kp .regs = false) (k_lanes : kp .lanes = false) (k_ports : kp .ports = false) (k_adm : kp .adm = false) (k_prog : kp .prog = false) (k_tbl : kp .tbl = false) (k_buf : kp .buf = false) (k_egr : kp .egr = false) (k_host : kp .host = false) (k_boot : kp .boot = false) (k_pwr : kp .pwr = false) (k_out : kp .out = false) (s : State) : keep kp (leaveSafe s) = keep kp s := by
  unfold leaveSafe
  repeat' (first | (simp [k_clk, k_regs, k_lanes, k_ports, k_adm, k_prog, k_tbl, k_buf, k_egr, k_host, k_boot, k_pwr, k_out]; done) | split | dsimp only)
  all_goals first | rfl | (simp_all; done) | (simp [keep, k_clk, k_regs, k_lanes, k_ports, k_adm, k_prog, k_tbl, k_buf, k_egr, k_host, k_boot, k_pwr, k_out]; done) | grind [keep_enterSafe, keep_modBoot, keep_forwardingDue, keep_stepNine]

@[simp] theorem keep_pairWaitDue {kp : Area → Bool} (k_clk : kp .clk = false) (k_regs : kp .regs = false) (k_lanes : kp .lanes = false) (k_ports : kp .ports = false) (k_adm : kp .adm = false) (k_prog : kp .prog = false) (k_tbl : kp .tbl = false) (k_egr : kp .egr = false) (k_twin : kp .twin = false) (k_host : kp .host = false) (k_boot : kp .boot = false) (k_out : kp .out = false) (s : State) : keep kp (pairWaitDue s) = keep kp s := by
  unfold pairWaitDue
  repeat' (first | (simp [k_clk, k_regs, k_lanes, k_ports, k_adm, k_prog, k_tbl, k_egr, k_twin, k_host, k_boot, k_out]; done) | split | dsimp only)
  all_goals first | rfl | (simp_all; done) | (simp [keep, k_clk, k_regs, k_lanes, k_ports, k_adm, k_prog, k_tbl, k_egr, k_twin, k_host, k_boot, k_out]; done) | grind [keep_modBoot, keep_beginForwarding, keep_setState]

@[simp] theorem keep_fuseGo {kp : Area → Bool} (k_boot : kp .boot = false) (k_fuseOp : kp .fuseOp = false) (op slot svn : Nat) (s : State) : keep kp (fuseGo op slot svn s) = keep kp s := by
  unfold fuseGo
  repeat' (first | (simp [k_boot, k_fuseOp]; done) | split | dsimp only)
  all_goals first | rfl | (simp_all; done) | (simp [keep, k_boot, k_fuseOp]; done) | grind [keep_modBoot]

@[simp] theorem keep_fuseCtrlWrite {kp : Area → Bool} (k_regs : kp .regs = false) (k_boot : kp .boot = false) (k_fuseOp : kp .fuseOp = false) (v : Word) (s : State) : keep kp (fuseCtrlWrite v s) = keep kp s := by
  unfold fuseCtrlWrite
  repeat' (first | (simp [k_regs, k_boot, k_fuseOp]; done) | split | dsimp only)
  all_goals first | rfl | (simp_all; done) | (simp [keep, k_regs, k_boot, k_fuseOp]; done) | grind [keep_regSet, keep_fuseGo]

@[simp] theorem keep_fuseCommand {kp : Area → Bool} (k_regs : kp .regs = false) (k_boot : kp .boot = false) (k_fuseOp : kp .fuseOp = false) (op slot svn : Nat) (s : State) : keep kp (fuseCommand op slot svn s) = keep kp s := by
  unfold fuseCommand
  repeat' (first | (simp [k_regs, k_boot, k_fuseOp]; done) | split | dsimp only)
  all_goals first | rfl | (simp_all; done) | (simp [keep, k_regs, k_boot, k_fuseOp]; done) | grind [keep_fuseCtrlWrite]

@[simp] theorem keep_fuseDone {kp : Area → Bool} (k_regs : kp .regs = false) (k_host : kp .host = false) (k_boot : kp .boot = false) (k_fuseOp : kp .fuseOp = false) (k_fuses : kp .fuses = false) (verified : Bool) (s : State) : keep kp (fuseDone verified s) = keep kp s := by
  unfold fuseDone
  repeat' (first | (simp [k_regs, k_host, k_boot, k_fuseOp, k_fuses]; done) | split | dsimp only)
  all_goals first | rfl | (simp_all; done) | (simp [keep, k_regs, k_host, k_boot, k_fuseOp, k_fuses]; done) | grind [keep_raiseEv, keep_modBoot]

end Sys2Proof.Machine
end

