-- ==== Sys2Proof/Laws/Keep/Access.lean ====
section
/-! SUPPORT. Which parts of the state the operations of Machine/Access.lean keep. -/

namespace Sys2Proof.Machine

set_option linter.all false

@[simp] theorem keep_latchHigh {kp : Area → Bool} (k_regs : kp .regs = false) (a : Nat) (s : State) : keep kp (latchHigh a s) = keep kp s := by
  unfold latchHigh
  repeat' (first | (simp [k_regs]; done) | split | dsimp only)
  all_goals first | rfl | (simp_all; done) | (simp [keep, k_regs]; done)

@[simp] theorem keep_clearRc {kp : Area → Bool} (k_regs : kp .regs = false) (a : Nat) (s : State) : keep kp (clearRc a s) = keep kp s := by
  unfold clearRc
  repeat' (first | (simp [k_regs]; done) | split | dsimp only)
  all_goals first | rfl | (simp_all; done) | (simp [keep, k_regs]; done) | grind [keep_regSet]

@[simp] theorem keep_latchNow {kp : Area → Bool} (k_time : kp .time = false) (c : Nat) (s : State) : keep kp (latchNow c s) = keep kp s := by
  unfold latchNow
  repeat' (first | (simp [k_time]; done) | split | dsimp only)
  all_goals first | rfl | (simp_all; done) | (simp [keep, k_time]; done) | grind [keep_modTime]

@[simp] theorem keep_barRead {kp : Area → Bool} (k_regs : kp .regs = false) (k_time : kp .time = false) (k_host : kp .host = false) (a c : Nat) (s : State) : keep kp (barRead a c s) = keep kp s := by
  unfold barRead
  repeat' (first | (simp [k_regs, k_time, k_host]; done) | split | dsimp only)
  all_goals first | rfl | (simp_all; done) | (simp [keep, k_regs, k_time, k_host]; done) | grind [keep_latchNow, keep_readAnswer, keep_twiPop, keep_uartPop, keep_clearRc, keep_latchHigh]

@[simp] theorem keep_ringBaseWrite {kp : Area → Bool} (k_regs : kp .regs = false) (r : Reg) (i : Nat) (v : Word) (s : State) : keep kp (ringBaseWrite r i v s) = keep kp s := by
  unfold ringBaseWrite
  repeat' (first | (simp [k_regs]; done) | split | dsimp only)
  all_goals first | rfl | (simp_all; done) | (simp [keep, k_regs]; done) | grind [keep_takeHeldHigh, keep_holdHigh]

@[simp] theorem keep_hostRegWrite {kp : Area → Bool} (k_regs : kp .regs = false) (k_host : kp .host = false) (k_out : kp .out = false) (r : Reg) (i : Nat) (v : Word) (s : State) : keep kp (hostRegWrite r i v s) = keep kp s := by
  unfold hostRegWrite
  repeat' (first | (simp [k_regs, k_host, k_out]; done) | split | dsimp only)
  all_goals first | rfl | (simp_all; done) | (simp [keep, k_regs, k_host, k_out]; done) | grind [keep_ringBaseWrite, keep_ringCfgSet, keep_ringProdWrite, keep_ringConsWrite, keep_mdioStart, keep_twiCmd, keep_modTwi, keep_uartPush, keep_modHost, keep_clearW1c, keep_regSet]

@[simp] theorem keep_bootRegWrite {kp : Area → Bool} (k_regs : kp .regs = false) (k_host : kp .host = false) (k_boot : kp .boot = false) (k_fuseOp : kp .fuseOp = false) (r : Reg) (i : Nat) (v : Word) (s : State) : keep kp (bootRegWrite r i v s) = keep kp s := by
  unfold bootRegWrite
  repeat' (first | (simp [k_regs, k_host, k_boot, k_fuseOp]; done) | split | dsimp only)
  all_goals first | rfl | (simp_all; done) | (simp [keep, k_regs, k_host, k_boot, k_fuseOp]; done) | grind [keep_forwardWrite, keep_fuseCtrlWrite, keep_modBoot, keep_clearW1c]

@[simp] theorem keep_ownRegWrite {kp : Area → Bool} (k_regs : kp .regs = false) (k_tcam : kp .tcam = false) (k_twin : kp .twin = false) (k_host : kp .host = false) (k_pwr : kp .pwr = false) (r : Reg) (i : Nat) (v : Word) (s : State) : keep kp (ownRegWrite r i v s) = keep kp s := by
  unfold ownRegWrite
  repeat' (first | (simp [k_regs, k_tcam, k_twin, k_host, k_pwr]; done) | split | dsimp only)
  all_goals first | rfl | (simp_all; done) | (simp [keep, k_regs, k_tcam, k_twin, k_host, k_pwr]; done) | grind [keep_domainCtrlWrite, keep_clearW1c, keep_regSet]

@[simp] theorem keep_barWrite {kp : Area → Bool} (k_regs : kp .regs = false) (k_writes : kp .writes = false) (k_lanes : kp .lanes = false) (k_ports : kp .ports = false) (k_adm : kp .adm = false) (k_hob : kp .hob = false) (k_tbl : kp .tbl = false) (k_tcam : kp .tcam = false) (k_buf : kp .buf = false) (k_egr : kp .egr = false) (k_twin : kp .twin = false) (k_time : kp .time = false) (k_host : kp .host = false) (k_boot : kp .boot = false) (k_fuseOp : kp .fuseOp = false) (k_pwr : kp .pwr = false) (k_out : kp .out = false) (a : Nat) (v : Word) (s : State) : keep kp (barWrite a v s) = keep kp s := by
  unfold barWrite
  repeat' (first | (simp [k_regs, k_writes, k_lanes, k_ports, k_adm, k_hob, k_tbl, k_tcam, k_buf, k_egr, k_twin, k_time, k_host, k_boot, k_fuseOp, k_pwr, k_out]; done) | split | dsimp only)
  all_goals first | rfl | (simp_all; done) | (simp [keep, k_regs, k_writes, k_lanes, k_ports, k_adm, k_hob, k_tbl, k_tcam, k_buf, k_egr, k_twin, k_time, k_host, k_boot, k_fuseOp, k_pwr, k_out]; done) | grind [keep_directWrite, keep_applyReg, keep_clearW1c, keep_hostRegWrite, keep_bootRegWrite, keep_ownRegWrite]

@[simp] theorem keep_badAccess {kp : Area → Bool} (k_regs : kp .regs = false) (k_host : kp .host = false) (off bytes : Nat) (s : State) : keep kp (badAccess off bytes s) = keep kp s := by
  unfold badAccess
  repeat' (first | (simp [k_regs, k_host]; done) | split | dsimp only)
  all_goals first | rfl | (simp_all; done) | (simp [keep, k_regs, k_host]; done) | grind [keep_hostErr]

@[simp] theorem keep_bar2Read {kp : Area → Bool} (k_regs : kp .regs = false) (a len : Nat) (s : State) : keep kp (bar2Read a len s) = keep kp s := by
  unfold bar2Read
  repeat' (first | (simp [k_regs]; done) | split | dsimp only)
  all_goals first | rfl | (simp_all; done) | (simp [keep, k_regs]; done)

@[simp] theorem keep_bar2Write {kp : Area → Bool} (k_host : kp .host = false) (a : Nat) (bs : List Byte) (s : State) : keep kp (bar2Write a bs s) = keep kp s := by
  unfold bar2Write
  repeat' (first | (simp [k_host]; done) | split | dsimp only)
  all_goals first | rfl | (simp_all; done) | (simp [keep, k_host]; done) | grind [keep_modHost]

end Sys2Proof.Machine
end

