-- ==== Sys2Proof/Laws/Keep/Audit.lean ====
section
/-! SUPPORT. Which parts of the state the operations of Machine/Audit.lean keep. -/

namespace Sys2Proof.Machine

set_option linter.all false

@[simp] theorem keep_auditRepair {kp : Area → Bool} (k_regs : kp .regs = false) (k_writes : kp .writes = false) (k_prog : kp .prog = false) (k_tbl : kp .tbl = false) (k_egr : kp .egr = false) (k_host : kp .host = false) (k_out : kp .out = false) (tbl i : Nat) (a : Audited) (sh : Nat × Nat) (given : List (Nat × Nat)) (s : State) : keep kp (auditRepair tbl i a sh given s) = keep kp s := by
  unfold auditRepair
  repeat' (first | (simp [k_regs, k_writes, k_prog, k_tbl, k_egr, k_host, k_out]; done) | split | dsimp only)
  all_goals first | rfl | (simp_all; done) | (simp [keep, k_regs, k_writes, k_prog, k_tbl, k_egr, k_host, k_out]; done) | grind [keep_acceptWrite, keep_tellWrite]

@[simp] theorem keep_auditVisit {kp : Area → Bool} (k_regs : kp .regs = false) (k_writes : kp .writes = false) (k_prog : kp .prog = false) (k_tbl : kp .tbl = false) (k_egr : kp .egr = false) (k_host : kp .host = false) (k_out : kp .out = false) (given : List (Nat × Nat)) (once : Bool) (tbl i : Nat) (s : State) : keep kp (auditVisit given once tbl i s).2 = keep kp s := by
  unfold auditVisit
  repeat' (first | (simp [k_regs, k_writes, k_prog, k_tbl, k_egr, k_host, k_out]; done) | split | dsimp only)
  all_goals first | rfl | (simp_all; done) | (simp [keep, k_regs, k_writes, k_prog, k_tbl, k_egr, k_host, k_out]; done) | grind [keep_regCount, keep_raiseEv, keep_modTbl, keep_auditRepair]

@[simp] theorem keep_auditNext {kp : Area → Bool} (k_regs : kp .regs = false) (k_writes : kp .writes = false) (k_prog : kp .prog = false) (k_tbl : kp .tbl = false) (k_egr : kp .egr = false) (k_host : kp .host = false) (k_out : kp .out = false) (given : List (Nat × Nat)) (s : State) : keep kp (auditNext given s) = keep kp s := by
  unfold auditNext
  repeat' (first | (simp [k_regs, k_writes, k_prog, k_tbl, k_egr, k_host, k_out]; done) | split | dsimp only)
  all_goals first | rfl | (simp_all; done) | (simp [keep, k_regs, k_writes, k_prog, k_tbl, k_egr, k_host, k_out]; done) | grind [keep_auditVisit, keep_modTbl, keep_raiseEv]

@[simp] theorem keep_auditStep {kp : Area → Bool} (k_regs : kp .regs = false) (k_writes : kp .writes = false) (k_prog : kp .prog = false) (k_tbl : kp .tbl = false) (k_egr : kp .egr = false) (k_host : kp .host = false) (k_out : kp .out = false) (given : List (Nat × Nat)) (s : State) : keep kp (auditStep given s) = keep kp s := by
  unfold auditStep
  repeat' (first | (simp [k_regs, k_writes, k_prog, k_tbl, k_egr, k_host, k_out]; done) | split | dsimp only)
  all_goals first | rfl | (simp_all; done) | (simp [keep, k_regs, k_writes, k_prog, k_tbl, k_egr, k_host, k_out]; done) | grind [keep_forEach, keep_auditNext]

@[simp] theorem keep_auditRange {kp : Area → Bool} (k_regs : kp .regs = false) (k_writes : kp .writes = false) (k_prog : kp .prog = false) (k_tbl : kp .tbl = false) (k_egr : kp .egr = false) (k_host : kp .host = false) (k_out : kp .out = false) (tbl first count : Nat) (given : List (Nat × Nat)) (s : State) : keep kp (auditRange tbl first count given s).2 = keep kp s := by
  unfold auditRange
  repeat' (first | (simp [k_regs, k_writes, k_prog, k_tbl, k_egr, k_host, k_out]; done) | split | dsimp only)
  all_goals first | rfl | (simp_all; done) | (simp [keep, k_regs, k_writes, k_prog, k_tbl, k_egr, k_host, k_out]; done) | grind [keep_auditVisit]

end Sys2Proof.Machine
end

