-- ==== Sys2Proof/Laws/Keep/Long.lean ====
section
/-! SUPPORT. Which parts of the state the operations of Machine/Long.lean keep. -/

namespace Sys2Proof.Machine

set_option linter.all false

@[simp] theorem keep_longProgram {kp : Area → Bool} (k_regs : kp .regs = false) (k_prog : kp .prog = false) (k_host : kp .host = false) (c : LongCmd) (s : State) : keep kp (longProgram c s).2.2 = keep kp s := by
  unfold longProgram
  repeat' (first | (simp [k_regs, k_prog, k_host]; done) | split | dsimp only)
  all_goals first | rfl | (simp_all; done) | (simp [keep, k_regs, k_prog, k_host]; done) | grind [keep_loadProgram]

@[simp] theorem keep_longAudit {kp : Area → Bool} (k_regs : kp .regs = false) (k_writes : kp .writes = false) (k_prog : kp .prog = false) (k_tbl : kp .tbl = false) (k_egr : kp .egr = false) (k_host : kp .host = false) (k_out : kp .out = false) (c : LongCmd) (s : State) : keep kp (longAudit c s).2.2 = keep kp s := by
  unfold longAudit
  repeat' (first | (simp [k_regs, k_writes, k_prog, k_tbl, k_egr, k_host, k_out]; done) | split | dsimp only)
  all_goals first | rfl | (simp_all; done) | (simp [keep, k_regs, k_writes, k_prog, k_tbl, k_egr, k_host, k_out]; done) | grind [keep_auditRange]

@[simp] theorem keep_imageData {kp : Area → Bool} (k_boot : kp .boot = false) (slot off : Nat) (bs : List Byte) (s : State) : keep kp (imageData slot off bs s).2.2 = keep kp s := by
  unfold imageData
  repeat' (first | (simp [k_boot]; done) | split | dsimp only)
  all_goals first | rfl | (simp_all; done) | (simp [keep, k_boot]; done) | grind [keep_flashWrite]

@[simp] theorem keep_imageCommit {kp : Area → Bool} (k_regs : kp .regs = false) (k_host : kp .host = false) (k_boot : kp .boot = false) (slot : Nat) (c : LongCmd) (iv : List Byte) (s : State) : keep kp (imageCommit slot c iv s).2.2 = keep kp s := by
  unfold imageCommit
  repeat' (first | (simp [k_regs, k_host, k_boot]; done) | split | dsimp only)
  all_goals first | rfl | (simp_all; done) | (simp [keep, k_regs, k_host, k_boot]; done) | grind [keep_flashWrite, keep_flashErase, keep_raiseEv]

@[simp] theorem keep_longImageWrite {kp : Area → Bool} (k_regs : kp .regs = false) (k_host : kp .host = false) (k_boot : kp .boot = false) (c : LongCmd) (iv : List Byte) (s : State) : keep kp (longImageWrite c iv s).2.2 = keep kp s := by
  unfold longImageWrite
  repeat' (first | (simp [k_regs, k_host, k_boot]; done) | split | dsimp only)
  all_goals first | rfl | (simp_all; done) | (simp [keep, k_regs, k_host, k_boot]; done) | grind [keep_imageData, keep_imageCommit, keep_flashErase]

@[simp] theorem keep_writeSelect {kp : Area → Bool} (k_boot : kp .boot = false) (slot : Nat) (s : State) : keep kp (writeSelect slot s) = keep kp s := by
  unfold writeSelect
  repeat' (first | (simp [k_boot]; done) | split | dsimp only)
  all_goals first | rfl | (simp_all; done) | (simp [keep, k_boot]; done) | grind [keep_flashWrite, keep_flashErase]

@[simp] theorem keep_longSelect {kp : Area → Bool} (k_boot : kp .boot = false) (c : LongCmd) (flashOk : Bool) (s : State) : keep kp (longSelect c flashOk s).2.2 = keep kp s := by
  unfold longSelect
  repeat' (first | (simp [k_boot]; done) | split | dsimp only)
  all_goals first | rfl | (simp_all; done) | (simp [keep, k_boot]; done) | grind [keep_writeSelect]

@[simp] theorem keep_longBist {kp : Area → Bool} (k_regs : kp .regs = false) (k_adm : kp .adm = false) (k_hob : kp .hob = false) (k_tbl : kp .tbl = false) (k_host : kp .host = false) (k_boot : kp .boot = false) (k_pwr : kp .pwr = false) (k_out : kp .out = false) (c : LongCmd) (inp : LongInput) (s : State) : keep kp (longBist c inp s).2.2 = keep kp s := by
  unfold longBist
  repeat' (first | (simp [k_regs, k_adm, k_hob, k_tbl, k_host, k_boot, k_pwr, k_out]; done) | split | dsimp only)
  all_goals first | rfl | (simp_all; done) | (simp [keep, k_regs, k_adm, k_hob, k_tbl, k_host, k_boot, k_pwr, k_out]; done) | grind [keep_hostPut, keep_visitGroup, keep_forEach, keep_addHealth]

@[simp] theorem keep_longRun {kp : Area → Bool} (k_regs : kp .regs = false) (k_writes : kp .writes = false) (k_adm : kp .adm = false) (k_prog : kp .prog = false) (k_hob : kp .hob = false) (k_tbl : kp .tbl = false) (k_egr : kp .egr = false) (k_host : kp .host = false) (k_boot : kp .boot = false) (k_pwr : kp .pwr = false) (k_out : kp .out = false) (c : LongCmd) (inp : LongInput) (s : State) : keep kp (longRun c inp s).2.2 = keep kp s := by
  unfold longRun
  repeat' (first | (simp [k_regs, k_writes, k_adm, k_prog, k_hob, k_tbl, k_egr, k_host, k_boot, k_pwr, k_out]; done) | split | dsimp only)
  all_goals first | rfl | (simp_all; done) | (simp [keep, k_regs, k_writes, k_adm, k_prog, k_hob, k_tbl, k_egr, k_host, k_boot, k_pwr, k_out]; done) | grind [keep_longProgram, keep_longAudit, keep_longImageWrite, keep_longSelect, keep_longBist]

@[simp] theorem keep_longDone {kp : Area → Bool} (k_regs : kp .regs = false) (k_writes : kp .writes = false) (k_adm : kp .adm = false) (k_prog : kp .prog = false) (k_hob : kp .hob = false) (k_tbl : kp .tbl = false) (k_egr : kp .egr = false) (k_host : kp .host = false) (k_boot : kp .boot = false) (k_pwr : kp .pwr = false) (k_out : kp .out = false) (inp : LongInput) (s : State) : keep kp (longDone inp s) = keep kp s := by
  unfold longDone
  repeat' (first | (simp [k_regs, k_writes, k_adm, k_prog, k_hob, k_tbl, k_egr, k_host, k_boot, k_pwr, k_out]; done) | split | dsimp only)
  all_goals first | rfl | (simp_all; done) | (simp [keep, k_regs, k_writes, k_adm, k_prog, k_hob, k_tbl, k_egr, k_host, k_boot, k_pwr, k_out]; done) | grind [keep_longRun, keep_modHost, keep_complete]

@[simp] theorem keep_commitCmd {kp : Area → Bool} (k_host : kp .host = false) (h : MbxHdr) (slot : Nat) (s : State) : keep kp (commitCmd h slot s) = keep kp s := by
  unfold commitCmd
  repeat' (first | (simp [k_host]; done) | split | dsimp only)
  all_goals first | rfl | (simp_all; done) | (simp [keep, k_host]; done) | grind [keep_mbxTake, keep_complete, keep_queueLong]

@[simp] theorem keep_commitsDue {kp : Area → Bool} (k_host : kp .host = false) (s : State) : keep kp (commitsDue s) = keep kp s := by
  unfold commitsDue
  repeat' (first | (simp [k_host]; done) | split | dsimp only)
  all_goals first | rfl | (simp_all; done) | (simp [keep, k_host]; done) | grind [keep_modHost]

end Sys2Proof.Machine
end

