-- ==== Sys2Proof/Laws/Keep/Tick.lean ====
section
/-! SUPPORT. Which parts of the state the operations of Machine/Tick.lean keep. -/

namespace Sys2Proof.Machine

set_option linter.all false

@[simp] theorem keep_turnOutputs {kp : Area → Bool} (k_twin : kp .twin = false) (k_out : kp .out = false) (s : State) : keep kp (turnOutputs s) = keep kp s := by
  unfold turnOutputs
  repeat' (first | (simp [k_twin, k_out]; done) | split | dsimp only)
  all_goals first | rfl | (simp_all; done) | (simp [keep, k_twin, k_out]; done) | grind [keep_modOut, keep_packFlue]

@[simp] theorem keep_advanceTick {kp : Area → Bool} (k_clk : kp .clk = false) (k_tick : kp .tick = false) (k_time : kp .time = false) (s : State) : keep kp (advanceTick s) = keep kp s := by
  unfold advanceTick
  repeat' (first | (simp [k_clk, k_tick, k_time]; done) | split | dsimp only)
  all_goals first | rfl | (simp_all; done) | (simp [keep, k_clk, k_tick, k_time]; done) | grind [keep_modClk, keep_timeAdvance]

@[simp] theorem keep_startsDue {kp : Area → Bool} (k_clk : kp .clk = false) (k_regs : kp .regs = false) (k_lanes : kp .lanes = false) (k_ports : kp .ports = false) (k_adm : kp .adm = false) (k_prog : kp .prog = false) (k_hob : kp .hob = false) (k_tbl : kp .tbl = false) (k_buf : kp .buf = false) (k_egr : kp .egr = false) (k_twin : kp .twin = false) (k_host : kp .host = false) (k_boot : kp .boot = false) (k_pwr : kp .pwr = false) (k_out : kp .out = false) (s : State) : keep kp (startsDue s) = keep kp s := by
  unfold startsDue
  repeat' (first | (simp [k_clk, k_regs, k_lanes, k_ports, k_adm, k_prog, k_hob, k_tbl, k_buf, k_egr, k_twin, k_host, k_boot, k_pwr, k_out]; done) | split | dsimp only)
  all_goals first | rfl | (simp_all; done) | (simp [keep, k_clk, k_regs, k_lanes, k_ports, k_adm, k_prog, k_hob, k_tbl, k_buf, k_egr, k_twin, k_host, k_boot, k_pwr, k_out]; done) | grind [keep_pairWaitDue, keep_forwardingDue, keep_leaveSafe, keep_twinEarly]

@[simp] theorem keep_portEarly {kp : Area → Bool} (k_regs : kp .regs = false) (k_ports : kp .ports = false) (k_tbl : kp .tbl = false) (k_buf : kp .buf = false) (k_host : kp .host = false) (p : Nat) (s : State) : keep kp (portEarly p s) = keep kp s := by
  unfold portEarly
  repeat' (first | (simp [k_regs, k_ports, k_tbl, k_buf, k_host]; done) | split | dsimp only)
  all_goals first | rfl | (simp_all; done) | (simp [keep, k_regs, k_ports, k_tbl, k_buf, k_host]; done) | grind [keep_pauseWatch, keep_stormQuiet, keep_flapQuiet, keep_holdExpiry, keep_ctRaisesDue, keep_linkEffects]

@[simp] theorem keep_portLate {kp : Area → Bool} (k_ports : kp .ports = false) (k_egr : kp .egr = false) (k_out : kp .out = false) (p : Nat) (s : State) : keep kp (portLate p s) = keep kp s := by
  unfold portLate
  repeat' (first | (simp [k_ports, k_egr, k_out]; done) | split | dsimp only)
  all_goals first | rfl | (simp_all; done) | (simp [keep, k_ports, k_egr, k_out]; done) | grind [keep_countLpi, keep_lpiEnter, keep_noteEmpty, keep_pauseExpiry]

@[simp] theorem keep_changesDue {kp : Area → Bool} (k_regs : kp .regs = false) (k_writes : kp .writes = false) (k_tbl : kp .tbl = false) (k_buf : kp .buf = false) (k_twin : kp .twin = false) (k_host : kp .host = false) (k_out : kp .out = false) (s : State) : keep kp (changesDue s) = keep kp s := by
  unfold changesDue
  repeat' (first | (simp [k_regs, k_writes, k_tbl, k_buf, k_twin, k_host, k_out]; done) | split | dsimp only)
  all_goals first | rfl | (simp_all; done) | (simp [keep, k_regs, k_writes, k_tbl, k_buf, k_twin, k_host, k_out]; done) | grind [keep_effectsDue, keep_completeDue, keep_hitsDue]

@[simp] theorem keep_effectsOfTick {kp : Area → Bool} (k_regs : kp .regs = false) (k_writes : kp .writes = false) (k_lanes : kp .lanes = false) (k_ports : kp .ports = false) (k_adm : kp .adm = false) (k_prog : kp .prog = false) (k_hob : kp .hob = false) (k_tbl : kp .tbl = false) (k_tcam : kp .tcam = false) (k_buf : kp .buf = false) (k_egr : kp .egr = false) (k_twin : kp .twin = false) (k_time : kp .time = false) (k_host : kp .host = false) (k_boot : kp .boot = false) (k_pwr : kp .pwr = false) (k_out : kp .out = false) (s : State) : keep kp (effectsOfTick s) = keep kp s := by
  unfold effectsOfTick
  repeat' (first | (simp [k_regs, k_writes, k_lanes, k_ports, k_adm, k_prog, k_hob, k_tbl, k_tcam, k_buf, k_egr, k_twin, k_time, k_host, k_boot, k_pwr, k_out]; done) | split | dsimp only)
  all_goals first | rfl | (simp_all; done) | (simp [keep, k_regs, k_writes, k_lanes, k_ports, k_adm, k_prog, k_hob, k_tbl, k_tcam, k_buf, k_egr, k_twin, k_time, k_host, k_boot, k_pwr, k_out]; done) | grind [keep_txnIdle, keep_txnApply, keep_activationDue, keep_applyCounts, keep_publishesDue, keep_meterWritesDue, keep_applyWrites, keep_changesDue]

@[simp] theorem keep_setBudgets {kp : Area → Bool} (k_buf : kp .buf = false) (s : State) : keep kp (setBudgets s) = keep kp s := by
  unfold setBudgets
  repeat' (first | (simp [k_buf]; done) | split | dsimp only)
  all_goals first | rfl | (simp_all; done) | (simp [keep, k_buf]; done) | grind [keep_modBuf]

@[simp] theorem keep_dropStopped {kp : Area → Bool} (k_regs : kp .regs = false) (k_adm : kp .adm = false) (k_buf : kp .buf = false) (k_egr : kp .egr = false) (k_twin : kp .twin = false) (k_host : kp .host = false) (k_boot : kp .boot = false) (k_out : kp .out = false) (s : State) : keep kp (dropStopped s) = keep kp s := by
  unfold dropStopped
  repeat' (first | (simp [k_regs, k_adm, k_buf, k_egr, k_twin, k_host, k_boot, k_out]; done) | split | dsimp only)
  all_goals first | rfl | (simp_all; done) | (simp [keep, k_regs, k_adm, k_buf, k_egr, k_twin, k_host, k_boot, k_out]; done) | grind [keep_forEach, keep_dropArrived, keep_modAdm]

@[simp] theorem keep_admitAndRetire {kp : Area → Bool} (k_regs : kp .regs = false) (k_writes : kp .writes = false) (k_ports : kp .ports = false) (k_adm : kp .adm = false) (k_hob : kp .hob = false) (k_tbl : kp .tbl = false) (k_buf : kp .buf = false) (k_egr : kp .egr = false) (k_twin : kp .twin = false) (k_host : kp .host = false) (k_boot : kp .boot = false) (k_out : kp .out = false) (s : State) : keep kp (admitAndRetire s) = keep kp s := by
  unfold admitAndRetire
  have hr (t : State) : keep kp (withPlaceholders retireStep t) = keep kp t :=
    keep_withPlaceholders (by assumption) _ _ fun u => by apply keep_retireStep <;> assumption
  refine Eq.trans (by apply keep_placeholdersDue <;> assumption) ((keep_noteRetirements (by assumption) _ _ hr).trans ?_)
  refine Eq.trans (by apply keep_residueRetries <;> assumption) (Eq.trans (by apply keep_residueEnds <;> assumption) ?_)
  simp [k_regs, k_writes, k_ports, k_adm, k_hob, k_tbl, k_buf, k_egr, k_twin, k_host, k_boot, k_out]

@[simp] theorem keep_grantAndTake {kp : Area → Bool} (k_regs : kp .regs = false) (k_lanes : kp .lanes = false) (k_ports : kp .ports = false) (k_adm : kp .adm = false) (k_buf : kp .buf = false) (k_egr : kp .egr = false) (k_twin : kp .twin = false) (k_time : kp .time = false) (k_host : kp .host = false) (k_boot : kp .boot = false) (k_out : kp .out = false) (s : State) : keep kp (grantAndTake s) = keep kp s := by
  unfold grantAndTake
  repeat' (first | (simp [k_regs, k_lanes, k_ports, k_adm, k_buf, k_egr, k_twin, k_time, k_host, k_boot, k_out]; done) | split | dsimp only)
  all_goals first | rfl | (simp_all; done) | (simp [keep, k_regs, k_lanes, k_ports, k_adm, k_buf, k_egr, k_twin, k_time, k_host, k_boot, k_out]; done) | grind [keep_stageStep, keep_flushStep, keep_takesDue, keep_recircStep, keep_withPlaceholders, keep_grantStep, keep_mirrorTakes]

@[simp] theorem keep_pathTick {kp : Area → Bool} (k_regs : kp .regs = false) (k_writes : kp .writes = false) (k_lanes : kp .lanes = false) (k_ports : kp .ports = false) (k_adm : kp .adm = false) (k_hob : kp .hob = false) (k_tbl : kp .tbl = false) (k_buf : kp .buf = false) (k_egr : kp .egr = false) (k_twin : kp .twin = false) (k_time : kp .time = false) (k_host : kp .host = false) (k_boot : kp .boot = false) (k_out : kp .out = false) (s : State) : keep kp (pathTick s) = keep kp s := by
  unfold pathTick
  repeat' (first | (simp [k_regs, k_writes, k_lanes, k_ports, k_adm, k_hob, k_tbl, k_buf, k_egr, k_twin, k_time, k_host, k_boot, k_out]; done) | split | dsimp only)
  all_goals first | rfl | (simp_all; done) | (simp [keep, k_regs, k_writes, k_lanes, k_ports, k_adm, k_hob, k_tbl, k_buf, k_egr, k_twin, k_time, k_host, k_boot, k_out]; done) | grind [keep_gainStep, keep_applyReleases, keep_flowControlStep, keep_fetchStep, keep_grantAndTake, keep_admitAndRetire, keep_dropStopped]

@[simp] theorem keep_agreementTick {kp : Area → Bool} (k_regs : kp .regs = false) (k_lanes : kp .lanes = false) (k_adm : kp .adm = false) (k_hob : kp .hob = false) (k_host : kp .host = false) (k_out : kp .out = false) (s : State) : keep kp (agreementTick s) = keep kp s := by
  unfold agreementTick
  repeat' (first | (simp [k_regs, k_lanes, k_adm, k_hob, k_host, k_out]; done) | split | dsimp only)
  all_goals first | rfl | (simp_all; done) | (simp [keep, k_regs, k_lanes, k_adm, k_hob, k_host, k_out]; done) | grind [keep_relayEndsSend, keep_relayFlush, keep_lateCutoff, keep_decideClean]

@[simp] theorem keep_reportsDue {kp : Area → Bool} (k_regs : kp .regs = false) (k_time : kp .time = false) (k_host : kp .host = false) (s : State) : keep kp (reportsDue s) = keep kp s := by
  unfold reportsDue
  repeat' (first | (simp [k_regs, k_time, k_host]; done) | split | dsimp only)
  all_goals first | rfl | (simp_all; done) | (simp [keep, k_regs, k_time, k_host]; done) | grind [keep_forEach, keep_tsTimeout]

@[simp] theorem keep_forgetOld {kp : Area → Bool} (k_prog : kp .prog = false) (k_tbl : kp .tbl = false) (k_egr : kp .egr = false) (s : State) : keep kp (forgetOld s) = keep kp s := by
  unfold forgetOld
  repeat' (first | (simp [k_prog, k_tbl, k_egr]; done) | split | dsimp only)
  all_goals first | rfl | (simp_all; done) | (simp [keep, k_prog, k_tbl, k_egr]; done) | grind [keep_modEgr, keep_modTbl, keep_freeOldImages, keep_freeVersions, keep_prunePubs]

@[simp] theorem keep_eccReads {kp : Area → Bool} (k_regs : kp .regs = false) (k_tbl : kp .tbl = false) (k_tcam : kp .tcam = false) (k_twin : kp .twin = false) (k_host : kp .host = false) (k_out : kp .out = false) (found : List (Nat × Nat × Bool)) (s : State) : keep kp (eccReads found s) = keep kp s := by
  unfold eccReads
  repeat' (first | (simp [k_regs, k_tbl, k_tcam, k_twin, k_host, k_out]; done) | split | dsimp only)
  all_goals first | rfl | (simp_all; done) | (simp [keep, k_regs, k_tbl, k_tcam, k_twin, k_host, k_out]; done) | grind [keep_forEach, keep_lookupEcc]

@[simp] theorem keep_tickWork {kp : Area → Bool} (k_clk : kp .clk = false) (k_regs : kp .regs = false) (k_writes : kp .writes = false) (k_lanes : kp .lanes = false) (k_ports : kp .ports = false) (k_adm : kp .adm = false) (k_prog : kp .prog = false) (k_hob : kp .hob = false) (k_tbl : kp .tbl = false) (k_tcam : kp .tcam = false) (k_buf : kp .buf = false) (k_egr : kp .egr = false) (k_twin : kp .twin = false) (k_time : kp .time = false) (k_host : kp .host = false) (k_boot : kp .boot = false) (k_pwr : kp .pwr = false) (k_out : kp .out = false) (inp : TickInput) (before s : State) : keep kp (tickWork inp before s) = keep kp s := by
  unfold tickWork
  repeat' (first | (simp [k_clk, k_regs, k_writes, k_lanes, k_ports, k_adm, k_prog, k_hob, k_tbl, k_tcam, k_buf, k_egr, k_twin, k_time, k_host, k_boot, k_pwr, k_out]; done) | split | dsimp only)
  all_goals first | rfl | (simp_all; done) | (simp [keep, k_clk, k_regs, k_writes, k_lanes, k_ports, k_adm, k_prog, k_hob, k_tbl, k_tcam, k_buf, k_egr, k_twin, k_time, k_host, k_boot, k_pwr, k_out]; done) | grind [keep_movesDue, keep_startsDue, keep_adoptDue, keep_eccReads, keep_forEach, keep_portEarly, keep_setBudgets, keep_effectsOfTick, keep_groupJoin, keep_capacityStep, keep_commitsDue, keep_serveReads, keep_scanStep, keep_agreementTick, keep_pathTick, keep_portLate, keep_trainTimeoutOp, keep_laneTick, keep_auditStep, keep_scrubStep, keep_reportsDue, keep_hostTick, keep_forgetOld, keep_imageStep, keep_heartbeat, keep_twinLate, keep_timeSend]

@[simp] theorem keep_tickBoundary {kp : Area → Bool} (k_clk : kp .clk = false) (k_tick : kp .tick = false) (k_regs : kp .regs = false) (k_writes : kp .writes = false) (k_lanes : kp .lanes = false) (k_ports : kp .ports = false) (k_adm : kp .adm = false) (k_prog : kp .prog = false) (k_hob : kp .hob = false) (k_tbl : kp .tbl = false) (k_tcam : kp .tcam = false) (k_buf : kp .buf = false) (k_egr : kp .egr = false) (k_twin : kp .twin = false) (k_time : kp .time = false) (k_host : kp .host = false) (k_boot : kp .boot = false) (k_pwr : kp .pwr = false) (k_out : kp .out = false) (inp : TickInput) (s : State) : keep kp (tickBoundary inp s) = keep kp s := by
  unfold tickBoundary
  repeat' (first | (simp [k_clk, k_tick, k_regs, k_writes, k_lanes, k_ports, k_adm, k_prog, k_hob, k_tbl, k_tcam, k_buf, k_egr, k_twin, k_time, k_host, k_boot, k_pwr, k_out]; done) | split | dsimp only)
  all_goals first | rfl | (simp_all; done) | (simp [keep, k_clk, k_tick, k_regs, k_writes, k_lanes, k_ports, k_adm, k_prog, k_hob, k_tbl, k_tcam, k_buf, k_egr, k_twin, k_time, k_host, k_boot, k_pwr, k_out]; done) | grind [keep_tickWork, keep_advanceTick, keep_turnOutputs]

end Sys2Proof.Machine
end

