-- ==== Sys2Proof/Laws/Fuses.lean ====
section
/-! SUPPORT. What a command can do to the queue, the fuses and the fuse operation in progress (R517, R518). -/

namespace Sys2Proof.Machine

set_option linter.all false

/-- The queue, the fuses and the fuse operation in progress. -/
def fuseView : Area → Bool
  | .pending => true
  | .fuses => true
  | .fuseOp => true
  | _ => false

@[simp] theorem fuseView_clk : fuseView .clk = false := Eq.trans rfl rfl
@[simp] theorem fuseView_tick : fuseView .tick = false := Eq.trans rfl rfl
@[simp] theorem fuseView_regs : fuseView .regs = false := Eq.trans rfl rfl
@[simp] theorem fuseView_writes : fuseView .writes = false := Eq.trans rfl rfl
@[simp] theorem fuseView_lanes : fuseView .lanes = false := Eq.trans rfl rfl
@[simp] theorem fuseView_ports : fuseView .ports = false := Eq.trans rfl rfl
@[simp] theorem fuseView_adm : fuseView .adm = false := Eq.trans rfl rfl
@[simp] theorem fuseView_prog : fuseView .prog = false := Eq.trans rfl rfl
@[simp] theorem fuseView_hob : fuseView .hob = false := Eq.trans rfl rfl
@[simp] theorem fuseView_threads : fuseView .threads = false := Eq.trans rfl rfl
@[simp] theorem fuseView_tbl : fuseView .tbl = false := Eq.trans rfl rfl
@[simp] theorem fuseView_tcam : fuseView .tcam = false := Eq.trans rfl rfl
@[simp] theorem fuseView_buf : fuseView .buf = false := Eq.trans rfl rfl
@[simp] theorem fuseView_egr : fuseView .egr = false := Eq.trans rfl rfl
@[simp] theorem fuseView_twin : fuseView .twin = false := Eq.trans rfl rfl
@[simp] theorem fuseView_time : fuseView .time = false := Eq.trans rfl rfl
@[simp] theorem fuseView_host : fuseView .host = false := Eq.trans rfl rfl
@[simp] theorem fuseView_boot : fuseView .boot = false := Eq.trans rfl rfl
@[simp] theorem fuseView_image : fuseView .image = false := Eq.trans rfl rfl
@[simp] theorem fuseView_pwr : fuseView .pwr = false := Eq.trans rfl rfl
@[simp] theorem fuseView_out : fuseView .out = false := Eq.trans rfl rfl

theorem keep_fuseView_iff (s t : State) :
    keep fuseView t = keep fuseView s ↔ t.pending = s.pending ∧ t.fuses = s.fuses ∧ t.boot.fuseOp = s.boot.fuseOp := by
  simp [keep, fuseView]
  exact fun _ => and_comm

/-- What every command but FUSE_OP_DONE does to the queue, the fuses and the fuse operation in progress: the queue and the
fuses stay, and the operation stays, is dropped, or is a new one judged as R518 says. -/
def FuseStep (s t : State) : Prop :=
  t.pending = s.pending ∧ t.fuses = s.fuses ∧ (t.boot.fuseOp = s.boot.fuseOp ∨ t.boot.fuseOp = none ∨
    ∃ op slot svn, t.boot.fuseOp = some { op := op, slot := slot, svn := svn, refused := fuseRefused op slot svn s })

theorem fuseStep_of_keep {s t : State} (h : keep fuseView t = keep fuseView s) : FuseStep s t := by
  have h := (keep_fuseView_iff s t).1 h
  exact ⟨h.1, h.2.1, .inl h.2.2⟩

theorem fuseStep_then {s t u : State} (h : FuseStep s t) (k : keep fuseView u = keep fuseView t) : FuseStep s u := by
  have k := (keep_fuseView_iff t u).1 k
  unfold FuseStep
  rw [k.1, k.2.1, k.2.2]
  exact h

theorem fuseStep_after {s t u : State} (k : keep fuseView t = keep fuseView s) (h : FuseStep t u) : FuseStep s u := by
  have k := (keep_fuseView_iff s t).1 k
  have e (op slot svn : Nat) : fuseRefused op slot svn t = fuseRefused op slot svn s := by unfold fuseRefused; rw [k.2.1]
  simp only [FuseStep, e, k.1, k.2.1, k.2.2] at h
  exact h

theorem fuseStep_bootReset (low supply : Bool) (s : State) : FuseStep s (bootReset low supply s) := ⟨rfl, rfl, .inr (.inl rfl)⟩

theorem fuseStep_resetFall (ns : Nat) (s : State) : FuseStep s (resetFall ns s) := by
  unfold resetFall
  split
  · exact fuseStep_of_keep rfl
  · split
    · exact fuseStep_bootReset _ _ _
    · split
      · exact fuseStep_after (by simp) (fuseStep_bootReset _ _ _)
      · exact fuseStep_of_keep (by simp)

theorem fuseStep_supplyFall (s : State) : FuseStep s (supplyFall s) := fuseStep_bootReset _ _ _

theorem fuseStep_restartWrite (v : Word) (inp : StartInput) (s : State) : FuseStep s (restartWrite v inp s) := by
  unfold restartWrite
  split
  · exact fuseStep_then (fuseStep_bootReset false false s) (by simp)
  · exact fuseStep_of_keep rfl

theorem fuseStep_fuseGo (op slot svn : Nat) (s : State) : FuseStep s (fuseGo op slot svn s) := by
  unfold fuseGo
  split
  · exact ⟨rfl, rfl, .inr (.inr ⟨op, slot, svn, rfl⟩)⟩
  · exact fuseStep_of_keep rfl

theorem fuseStep_fuseCtrlWrite (v : Word) (s : State) : FuseStep s (fuseCtrlWrite v s) := by
  unfold fuseCtrlWrite
  dsimp only
  split
  · exact fuseStep_after (by simp) (fuseStep_fuseGo _ _ _ _)
  · exact fuseStep_of_keep (by simp)

theorem fuseStep_fuseCommand (op slot svn : Nat) (s : State) : FuseStep s (fuseCommand op slot svn s) := by
  unfold fuseCommand
  split
  · exact fuseStep_fuseCtrlWrite _ _
  · exact fuseStep_of_keep rfl

theorem fuseStep_bootRegWrite (r : Reg) (i : Nat) (v : Word) (s : State) : FuseStep s (bootRegWrite r i v s) := by
  unfold bootRegWrite
  split
  · exact fuseStep_of_keep (by simp)
  · exact fuseStep_fuseCtrlWrite _ _
  · exact fuseStep_of_keep (by simp)
  · exact fuseStep_of_keep (by simp)

theorem fuseStep_barWrite (a : Nat) (v : Word) (s : State) : FuseStep s (barWrite a v s) := by
  unfold barWrite
  split
  · exact fuseStep_of_keep rfl
  · split
    · exact fuseStep_of_keep rfl
    · split
      · exact fuseStep_of_keep (by simp)
      · split
        · exact fuseStep_of_keep (by simp)
        · exact fuseStep_of_keep (by simp)
        · exact fuseStep_bootRegWrite _ _ _ _
        · exact fuseStep_of_keep (by simp)

/-- FUSE_OP_DONE: the operation ends, and the fuses are as they were or as a verified, accepted operation leaves them (R518). -/
theorem fuseDone_cases (v : Bool) (s : State) : (fuseDone v s).pending = s.pending ∧ (fuseDone v s).boot.fuseOp = none ∧
    ((fuseDone v s).fuses = s.fuses ∨
      ∃ o, s.boot.fuseOp = some o ∧ o.refused = false ∧ (fuseDone v s).fuses = blow o.op o.slot o.svn s s.fuses) := by
  have hk (c i : Nat) (d : List Byte) (t : State) := (keep_fuseView_iff t (raiseEv c i d t)).1 (by simp)
  unfold fuseDone
  split
  · next h => exact ⟨rfl, h, .inl rfl⟩
  · next o h => cases hr : o.refused <;> cases v <;> simp [hk, modBoot, h, hr]

end Sys2Proof.Machine
end

