-- ==== Sys2Proof/Laws/PerInstr.lean ====
section
/-! SUPPORT. Statements made per command: for the family Operands, that no word spells the command, whatever its operands, since
no row of the command table gives bits (notes/assumptions/3.md). -/

namespace Sys2Proof.Laws.Operands

/-- No word of any length spells the command. -/
def Statement (i : Instr) : Prop := ∀ nbits w : Nat, decodeTableWord nbits w ≠ some i

/-- The one reason, for every command. -/
theorem no_word (i : Instr) : Statement i := by
  intro nbits w h
  cases h

theorem resetNRise (inp : StartInput) : Statement (.resetNRise inp) := no_word _
theorem resetNLow (lowNs : Nat) : Statement (.resetNLow lowNs) := no_word _
theorem supplyMonitorReset : Statement (.supplyMonitorReset) := no_word _
theorem restart (value : Word) (inp : StartInput) : Statement (.restart value inp) := no_word _
theorem forward (value : Word) : Statement (.forward value) := no_word _
theorem functionLevelReset : Statement (.functionLevelReset) := no_word _
theorem d3hotEntry : Statement (.d3hotEntry) := no_word _
theorem pciePerst : Statement (.pciePerst) := no_word _
theorem pllLock : Statement (.pllLock) := no_word _
theorem forwardingStart : Statement (.forwardingStart) := no_word _
theorem pairWaitExpire : Statement (.pairWaitExpire) := no_word _
theorem tick (inp : TickInput) : Statement (.tick inp) := no_word _
theorem dispatchQueueEntry : Statement (.dispatchQueueEntry) := no_word _
theorem brickPositionMove (pos : Fin 240) : Statement (.brickPositionMove pos) := no_word _
theorem tcamScrubRepair (good : Bool) : Statement (.tcamScrubRepair good) := no_word _
theorem bankFetchArrive (queue : Fin 16384) : Statement (.bankFetchArrive queue) := no_word _
theorem timerFire (slot : Fin 64) : Statement (.timerFire slot) := no_word _
theorem energyInterval (nj : List Nat) : Statement (.energyInterval nj) := no_word _
theorem laneModeWrite (lane : Fin 512) (value : Word) : Statement (.laneModeWrite lane value) := no_word _
theorem retrain (lane : Fin 512) : Statement (.retrain lane) := no_word _
theorem laneBlockLock (lane : Fin 512) : Statement (.laneBlockLock lane) := no_word _
theorem trainingSetReceive (lane : Fin 512) (set : OSet) : Statement (.trainingSetReceive lane set) := no_word _
theorem alignEntry (lane : Fin 512) : Statement (.alignEntry lane) := no_word _
theorem inServiceEntry (lane : Fin 512) : Statement (.inServiceEntry lane) := no_word _
theorem trainTimeout (lane : Fin 512) : Statement (.trainTimeout lane) := no_word _
theorem tickMarkerReceive (lane : Fin 512) (set : OSet) : Statement (.tickMarkerReceive lane set) := no_word _
theorem hearthFrameReceive (lane : Fin 512) (fr : HFrame) : Statement (.hearthFrameReceive lane fr) := no_word _
theorem channelStatusReceive (lane : Fin 512) (set : OSet) : Statement (.channelStatusReceive lane set) := no_word _
theorem reservedOrderedSet (lane : Fin 512) (set : OSet) : Statement (.reservedOrderedSet lane set) := no_word _
theorem timestampReportReceive (lane : Fin 512) (set : OSet) : Statement (.timestampReportReceive lane set) := no_word _
theorem laneOutOfStep (lane : Fin 512) : Statement (.laneOutOfStep lane) := no_word _
theorem blockLockLoss (lane : Fin 512) : Statement (.blockLockLoss lane) := no_word _
theorem outOfStepRealign (lane : Fin 512) : Statement (.outOfStepRealign lane) := no_word _
theorem plainFrameReceive (lane : Fin 512) (fr : PFrame) : Statement (.plainFrameReceive lane fr) := no_word _
theorem txFirstBlock (port : Fin 2048) (cycle : Nat) : Statement (.txFirstBlock port cycle) := no_word _
theorem underrun (port : Fin 2048) (linkLost : Bool) : Statement (.underrun port linkLost) := no_word _
theorem ctDecay (port : Fin 2048) : Statement (.ctDecay port) := no_word _
theorem cellReturn (cell : Fin 524288) (eccBad : Bool) : Statement (.cellReturn cell eccBad) := no_word _
theorem ashRefill (slice : Fin 16) : Statement (.ashRefill slice) := no_word _
theorem ashSpill (slice : Fin 16) : Statement (.ashSpill slice) := no_word _
theorem linkLossAbort (port : Fin 2048) : Statement (.linkLossAbort port) := no_word _
theorem pauseExpiry (port : Fin 2048) : Statement (.pauseExpiry port) := no_word _
theorem pauseFrameSend (port : Fin 2048) : Statement (.pauseFrameSend port) := no_word _
theorem pauseRefresh (port : Fin 2048) : Statement (.pauseRefresh port) := no_word _
theorem pauseStorm (port : Fin 2048) : Statement (.pauseStorm port) := no_word _
theorem stormRecover (port : Fin 2048) : Statement (.stormRecover port) := no_word _
theorem stormClear (port : Fin 2048) : Statement (.stormClear port) := no_word _
theorem flapClear (port : Fin 2048) : Statement (.flapClear port) := no_word _
theorem ctReset (port : Fin 2048) : Statement (.ctReset port) := no_word _
theorem macTxCtWrite (port : Fin 2048) (value : Word) : Statement (.macTxCtWrite port value) := no_word _
theorem lpiEnter (port : Fin 2048) : Statement (.lpiEnter port) := no_word _
theorem linkDetect (port : Fin 2048) (up : Bool) : Statement (.linkDetect port up) := no_word _
theorem linkDownEffect (port : Fin 2048) : Statement (.linkDownEffect port) := no_word _
theorem linkUpEffect (port : Fin 2048) : Statement (.linkUpEffect port) := no_word _
theorem linkHoldExpiry (port : Fin 2048) : Statement (.linkHoldExpiry port) := no_word _
theorem flapRelease (port : Fin 2048) : Statement (.flapRelease port) := no_word _
theorem cleanBitmap (tick : Nat) (clean : BitVec 512) : Statement (.cleanBitmap tick clean) := no_word _
theorem bitmapMissing (tick : Nat) (atPartner : Bool) : Statement (.bitmapMissing tick atPartner) := no_word _
theorem relay (fr : RelayFrame) : Statement (.relay fr) := no_word _
theorem relayEnd (lane : Fin 512) (tick : Nat) : Statement (.relayEnd lane tick) := no_word _
theorem capacity (h q : Nat) (effTick : Nat) : Statement (.capacity h q effTick) := no_word _
theorem capacityChange : Statement (.capacityChange) := no_word _
theorem invocationStart (t : ThreadRef) : Statement (.invocationStart t) := no_word _
theorem steal (t : ThreadRef) : Statement (.steal t) := no_word _
theorem add (t : ThreadRef) (gd : Guard) (dst a b : GReg) : Statement (.add t gd dst a b) := no_word _
theorem sub (t : ThreadRef) (gd : Guard) (dst a b : GReg) : Statement (.sub t gd dst a b) := no_word _
theorem and (t : ThreadRef) (gd : Guard) (dst a b : GReg) : Statement (.and t gd dst a b) := no_word _
theorem or (t : ThreadRef) (gd : Guard) (dst a b : GReg) : Statement (.or t gd dst a b) := no_word _
theorem xor (t : ThreadRef) (gd : Guard) (dst a b : GReg) : Statement (.xor t gd dst a b) := no_word _
theorem andn (t : ThreadRef) (gd : Guard) (dst a b : GReg) : Statement (.andn t gd dst a b) := no_word _
theorem shl (t : ThreadRef) (gd : Guard) (dst a b : GReg) : Statement (.shl t gd dst a b) := no_word _
theorem shr (t : ThreadRef) (gd : Guard) (dst a b : GReg) : Statement (.shr t gd dst a b) := no_word _
theorem sar (t : ThreadRef) (gd : Guard) (dst a b : GReg) : Statement (.sar t gd dst a b) := no_word _
theorem mul (t : ThreadRef) (gd : Guard) (dst a b : GReg) : Statement (.mul t gd dst a b) := no_word _
theorem minu (t : ThreadRef) (gd : Guard) (dst a b : GReg) : Statement (.minu t gd dst a b) := no_word _
theorem maxu (t : ThreadRef) (gd : Guard) (dst a b : GReg) : Statement (.maxu t gd dst a b) := no_word _
theorem popc (t : ThreadRef) (gd : Guard) (dst a : GReg) : Statement (.popc t gd dst a) := no_word _
theorem clz (t : ThreadRef) (gd : Guard) (dst a : GReg) : Statement (.clz t gd dst a) := no_word _
theorem hash (t : ThreadRef) (gd : Guard) (dst a b : GReg) : Statement (.hash t gd dst a b) := no_word _
theorem mov (t : ThreadRef) (gd : Guard) (dst a : GReg) : Statement (.mov t gd dst a) := no_word _
theorem pand (t : ThreadRef) (gd : Guard) (pd pa pb : PReg) : Statement (.pand t gd pd pa pb) := no_word _
theorem por (t : ThreadRef) (gd : Guard) (pd pa pb : PReg) : Statement (.por t gd pd pa pb) := no_word _
theorem pxor (t : ThreadRef) (gd : Guard) (pd pa pb : PReg) : Statement (.pxor t gd pd pa pb) := no_word _
theorem pandn (t : ThreadRef) (gd : Guard) (pd pa pb : PReg) : Statement (.pandn t gd pd pa pb) := no_word _
theorem ceq (t : ThreadRef) (gd : Guard) (pd : PReg) (a b : GReg) : Statement (.ceq t gd pd a b) := no_word _
theorem cne (t : ThreadRef) (gd : Guard) (pd : PReg) (a b : GReg) : Statement (.cne t gd pd a b) := no_word _
theorem cltu (t : ThreadRef) (gd : Guard) (pd : PReg) (a b : GReg) : Statement (.cltu t gd pd a b) := no_word _
theorem cleu (t : ThreadRef) (gd : Guard) (pd : PReg) (a b : GReg) : Statement (.cleu t gd pd a b) := no_word _
theorem clts (t : ThreadRef) (gd : Guard) (pd : PReg) (a b : GReg) : Statement (.clts t gd pd a b) := no_word _
theorem cles (t : ThreadRef) (gd : Guard) (pd : PReg) (a b : GReg) : Statement (.cles t gd pd a b) := no_word _
theorem addi (t : ThreadRef) (gd : Guard) (dst a : GReg) (imm : Word) : Statement (.addi t gd dst a imm) := no_word _
theorem andi (t : ThreadRef) (gd : Guard) (dst a : GReg) (imm : Word) : Statement (.andi t gd dst a imm) := no_word _
theorem ori (t : ThreadRef) (gd : Guard) (dst a : GReg) (imm : Word) : Statement (.ori t gd dst a imm) := no_word _
theorem xori (t : ThreadRef) (gd : Guard) (dst a : GReg) (imm : Word) : Statement (.xori t gd dst a imm) := no_word _
theorem shli (t : ThreadRef) (gd : Guard) (dst a : GReg) (imm : Word) : Statement (.shli t gd dst a imm) := no_word _
theorem shri (t : ThreadRef) (gd : Guard) (dst a : GReg) (imm : Word) : Statement (.shri t gd dst a imm) := no_word _
theorem sari (t : ThreadRef) (gd : Guard) (dst a : GReg) (imm : Word) : Statement (.sari t gd dst a imm) := no_word _
theorem movi (t : ThreadRef) (gd : Guard) (dst : GReg) (imm : Word) : Statement (.movi t gd dst imm) := no_word _
theorem movhi (t : ThreadRef) (gd : Guard) (dst a : GReg) (imm : Word) : Statement (.movhi t gd dst a imm) := no_word _
theorem ceqi (t : ThreadRef) (gd : Guard) (pd : PReg) (a : GReg) (imm : Word) : Statement (.ceqi t gd pd a imm) := no_word _
theorem cnei (t : ThreadRef) (gd : Guard) (pd : PReg) (a : GReg) (imm : Word) : Statement (.cnei t gd pd a imm) := no_word _
theorem cltui (t : ThreadRef) (gd : Guard) (pd : PReg) (a : GReg) (imm : Word) : Statement (.cltui t gd pd a imm) := no_word _
theorem cgtui (t : ThreadRef) (gd : Guard) (pd : PReg) (a : GReg) (imm : Word) : Statement (.cgtui t gd pd a imm) := no_word _
theorem cltsi (t : ThreadRef) (gd : Guard) (pd : PReg) (a : GReg) (imm : Word) : Statement (.cltsi t gd pd a imm) := no_word _
theorem cgtsi (t : ThreadRef) (gd : Guard) (pd : PReg) (a : GReg) (imm : Word) : Statement (.cgtsi t gd pd a imm) := no_word _
theorem ext (t : ThreadRef) (gd : Guard) (dst a : GReg) (pos : Fin 64) (len : Fin 65) : Statement (.ext t gd dst a pos len) := no_word _
theorem ins (t : ThreadRef) (gd : Guard) (dst a b : GReg) (pos : Fin 64) (len : Fin 65) : Statement (.ins t gd dst a b pos len) := no_word _
theorem tbit (t : ThreadRef) (gd : Guard) (pd : PReg) (a : GReg) (pos : Fin 64) : Statement (.tbit t gd pd a pos) := no_word _
theorem fext (t : ThreadRef) (gd : Guard) (dst a : GReg) (pos : Fin 8) (len : Fin 65) (boff : Fin 128) : Statement (.fext t gd dst a pos len boff) := no_word _
theorem fins (t : ThreadRef) (gd : Guard) (a b : GReg) (pos : Fin 8) (len : Fin 65) (boff : Fin 128) : Statement (.fins t gd a b pos len boff) := no_word _
theorem ld (t : ThreadRef) (gd : Guard) (dst a : GReg) (space : Space) (size : Fin 4) (off : Fin 65536) : Statement (.ld t gd dst a space size off) := no_word _
theorem st (t : ThreadRef) (gd : Guard) (a b : GReg) (space : Space) (size : Fin 4) (off : Fin 65536) : Statement (.st t gd a b space size off) := no_word _
theorem feld (t : ThreadRef) (gd : Guard) (a : GReg) (pd : PReg) : Statement (.feld t gd a pd) := no_word _
theorem feldAnswer (t : ThreadRef) : Statement (.feldAnswer t) := no_word _
theorem fetch (t : ThreadRef) (gd : Guard) (dst a : GReg) (size : Fin 4) (off : Fin 65536) : Statement (.fetch t gd dst a size off) := no_word _
theorem fetchAnswer (t : ThreadRef) : Statement (.fetchAnswer t) := no_word _
theorem heLoadAnswer (t : ThreadRef) : Statement (.heLoadAnswer t) := no_word _
theorem lookupStation (t : ThreadRef) (gd : Guard) (dst a : GReg) (pd : PReg) (keysel : Fin 3) : Statement (.lookupStation t gd dst a pd keysel) := no_word _
theorem lookupRoute4 (t : ThreadRef) (gd : Guard) (dst a : GReg) (pd : PReg) (keysel : Fin 4) (limit : Fin 16) : Statement (.lookupRoute4 t gd dst a pd keysel limit) := no_word _
theorem lookupRoute6 (t : ThreadRef) (gd : Guard) (dst a b : GReg) (pd : PReg) (keysel : Fin 4) (limit : Fin 16) : Statement (.lookupRoute6 t gd dst a b pd keysel limit) := no_word _
theorem lookupNexthop (t : ThreadRef) (gd : Guard) (dst a : GReg) (pd : PReg) : Statement (.lookupNexthop t gd dst a pd) := no_word _
theorem lookupEcmp (t : ThreadRef) (gd : Guard) (dst a : GReg) (pd : PReg) : Statement (.lookupEcmp t gd dst a pd) := no_word _
theorem lookupTcam (t : ThreadRef) (gd : Guard) (dst a b : GReg) (pd : PReg) (profile : Fin 16) : Statement (.lookupTcam t gd dst a b pd profile) := no_word _
theorem lookupAnswer (t : ThreadRef) (ecc : EccResult) (which : Nat) : Statement (.lookupAnswer t ecc which) := no_word _
theorem br (t : ThreadRef) (gd : Guard) (off : Fin 65536) : Statement (.br t gd off) := no_word _
theorem loop (t : ThreadRef) (gd : Guard) (dst : GReg) (count : Fin 16) (off : Fin 65536) : Statement (.loop t gd dst count off) := no_word _
theorem brx (t : ThreadRef) (gd : Guard) (a b : GReg) : Statement (.brx t gd a b) := no_word _
theorem enter (t : ThreadRef) (gd : Guard) : Statement (.enter t gd) := no_word _
theorem enterGrant (t : ThreadRef) : Statement (.enterGrant t) := no_word _
theorem leave (t : ThreadRef) (gd : Guard) : Statement (.leave t gd) := no_word _
theorem publish (t : ThreadRef) (gd : Guard) : Statement (.publish t gd) := no_word _
theorem endInv (t : ThreadRef) (gd : Guard) : Statement (.endInv t gd) := no_word _
theorem nop (t : ThreadRef) (gd : Guard) : Statement (.nop t gd) := no_word _
theorem emitFwd (t : ThreadRef) (gd : Guard) (a b : GReg) (queue : Fin 8) (qsrc : Bool) : Statement (.emitFwd t gd a b queue qsrc) := no_word _
theorem emitMcast (t : ThreadRef) (gd : Guard) (a : GReg) : Statement (.emitMcast t gd a) := no_word _
theorem emitTrap (t : ThreadRef) (gd : Guard) (code : Fin 65536) (hq : Fin 64) : Statement (.emitTrap t gd code hq) := no_word _
theorem emitDrop (t : ThreadRef) (gd : Guard) (a : GReg) (reason : Byte) (rsrc : Bool) : Statement (.emitDrop t gd a reason rsrc) := no_word _
theorem emitRecirc (t : ThreadRef) (gd : Guard) (a : GReg) : Statement (.emitRecirc t gd a) := no_word _
theorem mirror (t : ThreadRef) (gd : Guard) (session : Fin 16) : Statement (.mirror t gd session) := no_word _
theorem count (t : ThreadRef) (gd : Guard) (a b : GReg) (bsrc : Bool) : Statement (.count t gd a b bsrc) := no_word _
theorem meter (t : ThreadRef) (gd : Guard) (a : GReg) : Statement (.meter t gd a) := no_word _
theorem learn (t : ThreadRef) (gd : Guard) (a b : GReg) (ksrc : Bool) : Statement (.learn t gd a b ksrc) := no_word _
theorem push4 (t : ThreadRef) (gd : Guard) (a b : GReg) (o : Fin 128) : Statement (.push4 t gd a b o) := no_word _
theorem push8 (t : ThreadRef) (gd : Guard) (a b : GReg) (o : Fin 128) : Statement (.push8 t gd a b o) := no_word _
theorem pop4 (t : ThreadRef) (gd : Guard) (a : GReg) (o : Fin 128) : Statement (.pop4 t gd a o) := no_word _
theorem pop8 (t : ThreadRef) (gd : Guard) (a : GReg) (o : Fin 128) : Statement (.pop8 t gd a o) := no_word _
theorem replace4 (t : ThreadRef) (gd : Guard) (a b : GReg) (o : Fin 128) : Statement (.replace4 t gd a b o) := no_word _
theorem replace8 (t : ThreadRef) (gd : Guard) (a b : GReg) (o : Fin 128) : Statement (.replace8 t gd a b o) := no_word _
theorem decTtl (t : ThreadRef) (gd : Guard) : Statement (.decTtl t gd) := no_word _
theorem resultArrive (inv : Nat) : Statement (.resultArrive inv) := no_word _
theorem heldRetireResume : Statement (.heldRetireResume) := no_word _
theorem holdTimeout : Statement (.holdTimeout) := no_word _
theorem lateList (tick : Nat) (all : Bool) (positions : List Nat) : Statement (.lateList tick all positions) := no_word _
theorem lateListMissing (tick : Nat) (atPartner : Bool) : Statement (.lateListMissing tick atPartner) := no_word _
theorem stoveFail (stove : Fin 68) : Statement (.stoveFail stove) := no_word _
theorem stoveDrained (stove : Fin 68) : Statement (.stoveDrained stove) := no_word _
theorem freqWrite (group : Fin 17) (value : Word) : Statement (.freqWrite group value) := no_word _
theorem clockSwitchDone (group : Fin 17) : Statement (.clockSwitchDone group) := no_word _
theorem park (group : Fin 17) (value : Word) : Statement (.park group value) := no_word _
theorem groupDomainOff (group : Fin 17) : Statement (.groupDomainOff group) := no_word _
theorem unpark (group : Fin 17) (value : Word) : Statement (.unpark group value) := no_word _
theorem groupWakeReady (group : Fin 17) : Statement (.groupWakeReady group) := no_word _
theorem tableWrite (h : MbxHdr) (code : Fin 65536) (record : List Byte) : Statement (.tableWrite h code record) := no_word _
theorem tableRead (h : MbxHdr) (code : Fin 65536) (record : List Byte) : Statement (.tableRead h code record) := no_word _
theorem tableAudit (h : MbxHdr) (code : Fin 65536) (first count : Nat) (shadow : List (Nat × Nat)) : Statement (.tableAudit h code first count shadow) := no_word _
theorem hostWriteApply : Statement (.hostWriteApply) := no_word _
theorem changeComplete (tbl key : Nat) : Statement (.changeComplete tbl key) := no_word _
theorem versionStoreWait (tbl key : Nat) : Statement (.versionStoreWait tbl key) := no_word _
theorem publishApply (rec : Fin 1048576) : Statement (.publishApply rec) := no_word _
theorem emberHostWrite (lane : Fin 262144) : Statement (.emberHostWrite lane) := no_word _
theorem privateHalfRead (lane : Fin 262144) : Statement (.privateHalfRead lane) := no_word _
theorem tblEvictSeedWrite (value : Word) : Statement (.tblEvictSeedWrite value) := no_word _
theorem routeRegionWrite (v6 : Bool) (len : Fin 129) (value : Word) : Statement (.routeRegionWrite v6 len value) := no_word _
theorem tcamTxnOpen (h : MbxHdr) (id : Fin 65536) : Statement (.tcamTxnOpen h id) := no_word _
theorem tcamTxnCommit (h : MbxHdr) (id : Fin 65536) : Statement (.tcamTxnCommit h id) := no_word _
theorem tcamTxnAbort (h : MbxHdr) (id : Fin 65536) : Statement (.tcamTxnAbort h id) := no_word _
theorem tcamEntryWrite (h : MbxHdr) (record : List Byte) : Statement (.tcamEntryWrite h record) := no_word _
theorem tcamEntryWithdraw (h : MbxHdr) (index : Fin 131072) : Statement (.tcamEntryWithdraw h index) := no_word _
theorem tcamEntryClear (h : MbxHdr) (index : Fin 131072) : Statement (.tcamEntryClear h index) := no_word _
theorem tcamTxnApply : Statement (.tcamTxnApply) := no_word _
theorem tcamTxnIdle : Statement (.tcamTxnIdle) := no_word _
theorem tcamCourseWrite (off : Fin 1048576) (value : Word) : Statement (.tcamCourseWrite off value) := no_word _
theorem residueRetry : Statement (.residueRetry) := no_word _
theorem residueTimeout : Statement (.residueTimeout) := no_word _
theorem hostDmaTake (hq : Fin 64) (bufs : List Nat) : Statement (.hostDmaTake hq bufs) := no_word _
theorem hostFrameWrite (hq : Fin 64) : Statement (.hostFrameWrite hq) := no_word _
theorem meterWriteEffect (meter : Fin 262144) : Statement (.meterWriteEffect meter) := no_word _
theorem mirrorMacTake : Statement (.mirrorMacTake) := no_word _
theorem twinRoleAccept (level : Bool) : Statement (.twinRoleAccept level) := no_word _
theorem hello (body nonce : List Byte) : Statement (.hello body nonce) := no_word _
theorem confirm (tag : List Byte) (theirs : Nat) : Statement (.confirm tag theirs) := no_word _
theorem tickSync (count : Nat) : Statement (.tickSync count) := no_word _
theorem tsyncPulse : Statement (.tsyncPulse) := no_word _
theorem pairingTimeout : Statement (.pairingTimeout) := no_word _
theorem pairingRetry (nonce : List Byte) : Statement (.pairingRetry nonce) := no_word _
theorem coldStart : Statement (.coldStart) := no_word _
theorem flueFrameReceive (frame : List Byte) : Statement (.flueFrameReceive frame) := no_word _
theorem flueLinkChange (group : Fin 2) (lock : Bool) : Statement (.flueLinkChange group lock) := no_word _
theorem keepalive (tick : Nat) : Statement (.keepalive tick) := no_word _
theorem digest (tick : Nat) (digest : Nat) (counts : List Nat) (st : Nat) : Statement (.digest tick digest counts st) := no_word _
theorem digestMissing (tick : Nat) : Statement (.digestMissing tick) := no_word _
theorem detect (entries : List DetectEntry) : Statement (.detect entries) := no_word _
theorem hostWrite (effTick : Nat) (side : Bool) (seq : Nat) (entry : List Byte) : Statement (.hostWrite effTick side seq entry) := no_word _
theorem inject (apply : Nat) (body : List Byte) : Statement (.inject apply body) := no_word _
theorem dmaTake (effTick : Nat) (hq : Fin 64) (frames : Nat) : Statement (.dmaTake effTick hq frames) := no_word _
theorem time (body : List Byte) : Statement (.time body) := no_word _
theorem timeStateAdopt : Statement (.timeStateAdopt) := no_word _
theorem snapData (flags : Nat) (records : List Byte) : Statement (.snapData flags records) := no_word _
theorem snapLog (tick : Nat) (record : List Byte) : Statement (.snapLog tick record) := no_word _
theorem laneClear (map : Bool) (body : List Byte) : Statement (.laneClear map body) := no_word _
theorem placeholder (tick : Nat) (body : List Byte) : Statement (.placeholder tick body) := no_word _
theorem snapEnd (join : Nat) : Statement (.snapEnd join) := no_word _
theorem snapLate : Statement (.snapLate) := no_word _
theorem join : Statement (.join) := no_word _
theorem warmDone (warmTick : Nat) : Statement (.warmDone warmTick) := no_word _
theorem warm : Statement (.warm) := no_word _
theorem stillWarming : Statement (.stillWarming) := no_word _
theorem faultMsg (demote cause faultTick : Nat) (detail : List Byte) : Statement (.faultMsg demote cause faultTick detail) := no_word _
theorem swapReq : Statement (.swapReq) := no_word _
theorem partnerAbsent : Statement (.partnerAbsent) := no_word _
theorem roleUnconfirmed : Statement (.roleUnconfirmed) := no_word _
theorem demotion : Statement (.demotion) := no_word _
theorem swapRequestRaise : Statement (.swapRequestRaise) := no_word _
theorem swapRequestExpire : Statement (.swapRequestExpire) := no_word _
theorem resyncStart (nonce : List Byte) : Statement (.resyncStart nonce) := no_word _
theorem twinCmdStatus (h : MbxHdr) : Statement (.twinCmdStatus h) := no_word _
theorem twinCmdSwap (h : MbxHdr) : Statement (.twinCmdSwap h) := no_word _
theorem twinCmdResync (h : MbxHdr) : Statement (.twinCmdResync h) := no_word _
theorem twinCmdLeave (h : MbxHdr) : Statement (.twinCmdLeave h) := no_word _
theorem twinCmdPair (h : MbxHdr) (nonce : List Byte) : Statement (.twinCmdPair h nonce) := no_word _
theorem timeStepSet (h : MbxHdr) (sec ns frac : Nat) : Statement (.timeStepSet h sec ns frac) := no_word _
theorem timeStepAdjust (h : MbxHdr) (off : Int) : Statement (.timeStepAdjust h off) := no_word _
theorem timeRate (h : MbxHdr) (inc : Nat) : Statement (.timeRate h inc) := no_word _
theorem timeUnlock (h : MbxHdr) : Statement (.timeUnlock h) := no_word _
theorem trigArm (trig : Fin 8) (value : Word) : Statement (.trigArm trig value) := no_word _
theorem triggerFire (trig : Fin 8) (cycle : Fin 40) : Statement (.triggerFire trig cycle) := no_word _
theorem triggerPulseEnd (trig : Fin 8) (cycle : Fin 40) : Statement (.triggerPulseEnd trig cycle) := no_word _
theorem ppsInCapture (cycle : Fin 40) : Statement (.ppsInCapture cycle) := no_word _
theorem ppsOutRise (cycle : Fin 40) : Statement (.ppsOutRise cycle) := no_word _
theorem ppsOutFall (cycle : Fin 40) : Statement (.ppsOutFall cycle) := no_word _
theorem timestampTimeout (tsid : Fin 65536) : Statement (.timestampTimeout tsid) := no_word _
theorem pop : Statement (.pop) := no_word _
theorem timeNowLatch (cycle : Fin 40) : Statement (.timeNowLatch cycle) := no_word _
theorem lowWordRead (off : Nat) : Statement (.lowWordRead off) := no_word _
theorem highWordWrite (off : Nat) (value : Word) : Statement (.highWordWrite off value) := no_word _
theorem rcRead (rd : BarRead) : Statement (.rcRead rd) := no_word _
theorem registerWrite (wr : BarWrite) : Statement (.registerWrite wr) := no_word _
theorem badAccess (off bytes : Nat) : Statement (.badAccess off bytes) := no_word _
theorem hostRingProdWrite (ring : Fin 259) (value : Word) : Statement (.hostRingProdWrite ring value) := no_word _
theorem hostRingConsWrite (ring : Fin 259) (value : Word) : Statement (.hostRingConsWrite ring value) := no_word _
theorem ringCfgWrite (ring : Fin 259) (value : Word) : Statement (.ringCfgWrite ring value) := no_word _
theorem versionQuery (h : MbxHdr) (high low : Nat) : Statement (.versionQuery h high low) := no_word _
theorem programLoad (h : MbxHdr) (image : List Byte) : Statement (.programLoad h image) := no_word _
theorem programActivate (h : MbxHdr) (id : Nat) (partner : List Byte) : Statement (.programActivate h id partner) := no_word _
theorem programActivation : Statement (.programActivation) := no_word _
theorem oldImageFree : Statement (.oldImageFree) := no_word _
theorem portSet (h : MbxHdr) (port : Nat) (enable : Bool) (rate lane chan : Nat) : Statement (.portSet h port enable rate lane chan) := no_word _
theorem queueSet (h : MbxHdr) (port uq mask : Nat) (values : List Nat) : Statement (.queueSet h port uq mask values) := no_word _
theorem regWrite (h : MbxHdr) (off : Nat) (value mask : Word) : Statement (.regWrite h off value mask) := no_word _
theorem imageWriteData (h : MbxHdr) (slot : Nat) (off : Nat) (data : List Byte) : Statement (.imageWriteData h slot off data) := no_word _
theorem imageWriteCommit (h : MbxHdr) (slot : Nat) : Statement (.imageWriteCommit h slot) := no_word _
theorem imageWriteErase (h : MbxHdr) (slot : Nat) (off : Nat) : Statement (.imageWriteErase h slot off) := no_word _
theorem imageSelect (h : MbxHdr) (slot : Nat) : Statement (.imageSelect h slot) := no_word _
theorem bistRunMbist (h : MbxHdr) (domain : Nat) : Statement (.bistRunMbist h domain) := no_word _
theorem bistRunLbist (h : MbxHdr) (domain : Nat) : Statement (.bistRunLbist h domain) := no_word _
theorem bistRunSweep (h : MbxHdr) (group : Nat) : Statement (.bistRunSweep h group) := no_word _
theorem healthRead (h : MbxHdr) : Statement (.healthRead h) := no_word _
theorem txDescriptorTake (qp : Fin 64) (desc : TxDesc) : Statement (.txDescriptorTake qp desc) := no_word _
theorem txFrameReadDone (qp : Fin 64) (frame : List Byte) : Statement (.txFrameReadDone qp frame) := no_word _
theorem txCompletionWrite (qp : Fin 64) : Statement (.txCompletionWrite qp) := no_word _
theorem msiXMessage (vec : Fin 68) : Statement (.msiXMessage vec) := no_word _
theorem pcieLinkChange (status : Word) : Statement (.pcieLinkChange status) := no_word _
theorem pcieError (what : PcieErr) : Statement (.pcieError what) := no_word _
theorem mdioCmd (master : Fin 8) (value : Word) : Statement (.mdioCmd master value) := no_word _
theorem mdioDone (master : Fin 8) (data : Fin 65536) : Statement (.mdioDone master data) := no_word _
theorem go (master : Fin 8) (value : Word) : Statement (.go master value) := no_word _
theorem twiDone (master : Fin 8) (res : TwiResult) : Statement (.twiDone master res) := no_word _
theorem twiFifoRead (master : Fin 8) : Statement (.twiFifoRead master) := no_word _
theorem uartSend (value : Word) : Statement (.uartSend value) := no_word _
theorem uartRead : Statement (.uartRead) := no_word _
theorem uartReceive (byte : Byte) : Statement (.uartReceive byte) := no_word _
theorem fuseProgramCustHash (slot : Fin 4) : Statement (.fuseProgramCustHash slot) := no_word _
theorem fuseRevoke (slot : Fin 4) : Statement (.fuseRevoke slot) := no_word _
theorem fuseRootDisable : Statement (.fuseRootDisable) := no_word _
theorem fuseProgramCwk : Statement (.fuseProgramCwk) := no_word _
theorem fuseAdvanceSvn (svn : Fin 128) : Statement (.fuseAdvanceSvn svn) := no_word _
theorem fuseOpDone (verified : Bool) : Statement (.fuseOpDone verified) := no_word _
theorem domainSwitchOff (bit : Fin 13) : Statement (.domainSwitchOff bit) := no_word _
theorem domainSwitchOn (bit : Fin 13) : Statement (.domainSwitchOn bit) := no_word _
theorem domainReady (failed : List (Nat × Nat)) : Statement (.domainReady failed) := no_word _
theorem avsRecompute (need : List Nat) : Statement (.avsRecompute need) := no_word _
theorem vidStep : Statement (.vidStep) := no_word _
theorem thermalSample (die : List Int) (hbm0 hbm1 : Int) : Statement (.thermalSample die hbm0 hbm1) := no_word _
theorem agingReport (degrade : List Nat) : Statement (.agingReport degrade) := no_word _
theorem sweepVisit : Statement (.sweepVisit) := no_word _
theorem sweepDrained : Statement (.sweepDrained) := no_word _
theorem sweepTestDone (failed : Fin 16) : Statement (.sweepTestDone failed) := no_word _
theorem sweepReturn : Statement (.sweepReturn) := no_word _
theorem extest : Statement (.extest) := no_word _
theorem intscan : Statement (.intscan) := no_word _
theorem bistctl : Statement (.bistctl) := no_word _
theorem samplePreload : Statement (.samplePreload) := no_word _
theorem idcode : Statement (.idcode) := no_word _
theorem idread : Statement (.idread) := no_word _
theorem bypass (code : Byte) : Statement (.bypass code) := no_word _
theorem laneBlockError (lane : Fin 512) (lockLost : Bool) : Statement (.laneBlockError lane lockLost) := no_word _
theorem supplyMonitorRelease (inp : StartInput) : Statement (.supplyMonitorRelease inp) := no_word _
theorem receiveLpi (lane : Fin 512) (on : Bool) : Statement (.receiveLpi lane on) := no_word _
theorem longCommandDone (inp : LongInput) : Statement (.longCommandDone inp) := no_word _
theorem txFrameEnd (port : Fin 2048) : Statement (.txFrameEnd port) := no_word _

end Sys2Proof.Laws.Operands
end

