-- ==== Sys2Proof/Tests/Slice0.lean ====
section
/-! SUPPORT. The model's own tests: ill-formed commands are refused, and, for each statement with hypotheses, concrete states and
operands that meet them (theorems witness_<statement>); a few expected results taken from the manual's own examples. -/

namespace Sys2Proof.Tests

set_option Elab.async false

open Sys2Proof.Machine

/-! ### Well-formedness -/

/-- A list of bytes. -/
def zeros (n : Nat) : List Byte := List.replicate n 0

/-- A mailbox header without a tick and without a buffer. -/
def hdr : MbxHdr := { version := 1, flags := 0, cookie := 7, tick := 0, bufAddr := 0, bufLen := 0 }

theorem test_wf_starts :
    wellFormed (.resetNRise { failed := [(5, 0)] }) = false ∧ wellFormed (.restart 0 { failed := [(0, 0)] }) = false ∧
    wellFormed (.supplyMonitorRelease { failed := [(1, 2 ^ 32)] }) = false ∧ wellFormed (.domainReady [(5, 1)]) = false ∧
    wellFormed (.longCommandDone { result := 3 }) = false ∧ wellFormed (.longCommandDone { failed := [(0, 0)] }) = false ∧
    wellFormed (.avsRecompute [1, 2]) = false ∧ wellFormed (.agingReport (List.replicate 30 0)) = false ∧
    wellFormed (.energyInterval (List.replicate 24 0)) = false ∧ wellFormed (.resetNRise { failed := [(4, 7)] }) = true := by decide

theorem test_wf_ticks :
    wellFormed (.tick { shadow := [(0, 2 ^ 64)] }) = false ∧ wellFormed (.cleanBitmap (2 ^ 64) 0) = false ∧
    wellFormed (.bitmapMissing (2 ^ 64) false) = false ∧ wellFormed (.relayEnd 0 (2 ^ 64)) = false ∧
    wellFormed (.lateList (2 ^ 64) false []) = false ∧ wellFormed (.lateList 0 false [4096]) = false ∧
    wellFormed (.lateListMissing (2 ^ 64) false) = false ∧ wellFormed (.tickSync (2 ^ 64)) = false ∧
    wellFormed (.keepalive (2 ^ 64)) = false ∧ wellFormed (.digest (2 ^ 64) 0 [] 0) = false ∧
    wellFormed (.digest 0 (2 ^ 64) [] 0) = false ∧ wellFormed (.digest 0 0 [] 7) = false ∧ wellFormed (.digestMissing (2 ^ 64)) = false ∧
    wellFormed (.inject (2 ^ 64) []) = false ∧ wellFormed (.dmaTake (2 ^ 64) 0 0) = false ∧
    wellFormed (.dmaTake 0 0 (2 ^ 32)) = false ∧ wellFormed (.snapLog (2 ^ 64) []) = false ∧
    wellFormed (.placeholder (2 ^ 64) []) = false ∧ wellFormed (.snapEnd (2 ^ 64)) = false ∧
    wellFormed (.warmDone (2 ^ 64)) = false ∧ wellFormed (.faultMsg (2 ^ 64) 0 0 []) = false ∧
    wellFormed (.faultMsg 0 256 0 []) = false ∧ wellFormed (.faultMsg 0 0 (2 ^ 64) []) = false := by decide

set_option maxRecDepth 4000 in
theorem test_wf_messages :
    wellFormed (.hearthFrameReceive 0 { pre := zeros 6, data := zeros 64, status := none }) = false ∧
    wellFormed (.txFirstBlock 0 40) = false ∧
    wellFormed (.relay { tick := 2 ^ 64, port := 0, flags := 0, last := true, offset := 0, order := 0, data := [], ts := (0, 0, false) }) = false ∧
    wellFormed (.relay { tick := 0, port := 0, flags := 0, last := true, offset := 0, order := 65536, data := [], ts := (0, 0, false) }) = false ∧
    wellFormed (.relay { tick := 0, port := 0, flags := 0, last := true, offset := 0, order := 0, data := [], ts := (2 ^ 32, 0, false) }) = false ∧
    wellFormed (.relay { tick := 0, port := 0, flags := 0, last := true, offset := 0, order := 0, data := [], ts := (0, 2 ^ 16, false) }) = false ∧
    wellFormed (.capacity (2 ^ 32) 0 0) = false ∧ wellFormed (.capacity 0 (2 ^ 32) 0) = false ∧
    wellFormed (.capacity 0 0 (2 ^ 64)) = false ∧ wellFormed (.hello [] (zeros 32)) = false ∧
    wellFormed (.hello (zeros 176) []) = false ∧ wellFormed (.confirm (zeros 47) 0) = false ∧
    wellFormed (.confirm (zeros 16) 5) = false ∧ wellFormed (.confirm (zeros 16) 11) = true ∧ wellFormed (.snapData 128 []) = false ∧
    wellFormed (.pairingRetry (zeros 31)) = false ∧ wellFormed (.resyncStart (zeros 33)) = false ∧
    wellFormed (.detect [{ port := 0, kind := 4, tick := 0 }]) = false ∧
    wellFormed (.detect [{ port := 0, kind := 0, tick := 0 }]) = false ∧
    wellFormed (.detect [{ port := 0, kind := 1, tick := 2 ^ 64 }]) = false ∧
    wellFormed (.hostWrite (2 ^ 64) false 0 []) = false ∧ wellFormed (.hostWrite 0 false (2 ^ 32) []) = false := by decide

theorem test_wf_mailbox :
    wellFormed (.tableAudit hdr 0 (2 ^ 32) 0 []) = false ∧ wellFormed (.tableAudit hdr 0 0 (2 ^ 32) []) = false ∧
    wellFormed (.tableAudit hdr 0 0 0 [(0, 2 ^ 64)]) = false ∧ wellFormed (.twinCmdPair hdr []) = false ∧
    wellFormed (.timeStepSet hdr (2 ^ 48) 0 0) = false ∧ wellFormed (.timeStepSet hdr 0 (2 ^ 32) 0) = false ∧
    wellFormed (.timeStepSet hdr 0 0 (2 ^ 16)) = false ∧ wellFormed (.timeStepAdjust hdr (2 ^ 63)) = false ∧
    wellFormed (.timeStepAdjust hdr (-2 ^ 63 - 1)) = false ∧ wellFormed (.timeRate hdr (2 ^ 48)) = false ∧
    wellFormed (.versionQuery hdr 256 0) = false ∧ wellFormed (.versionQuery hdr 0 256) = false ∧
    wellFormed (.programActivate hdr 65536 []) = false ∧ wellFormed (.portSet hdr 65536 true 0 0 0) = false ∧
    wellFormed (.portSet hdr 0 true 256 0 0) = false ∧ wellFormed (.portSet hdr 0 true 0 65536 0) = false ∧
    wellFormed (.portSet hdr 0 true 0 0 256) = false ∧ wellFormed (.queueSet hdr 65536 0 0 [0, 0, 0, 0, 0]) = false ∧
    wellFormed (.queueSet hdr 0 256 0 [0, 0, 0, 0, 0]) = false ∧ wellFormed (.queueSet hdr 0 0 256 [0, 0, 0, 0, 0]) = false ∧
    wellFormed (.queueSet hdr 0 0 0 [0]) = false ∧ wellFormed (.queueSet hdr 0 0 0 [0, 0, 0, 0, 2 ^ 32]) = false := by decide

theorem test_wf_registers :
    wellFormed (.regWrite hdr (2 ^ 32) 0 0) = false ∧ wellFormed (.lowWordRead 2) = false ∧
    wellFormed (.lowWordRead (2 ^ 26)) = false ∧ wellFormed (.highWordWrite 2 0) = false ∧ wellFormed (.rcRead (.bar0 (2 ^ 26))) = false ∧
    wellFormed (.rcRead (.bar2 (2 ^ 28 - 1) 2)) = false ∧ wellFormed (.registerWrite (.bar2 (2 ^ 28) [0])) = false ∧
    wellFormed (.registerWrite (.bar0 3 0)) = false ∧ wellFormed (.badAccess (2 ^ 26) 2) = false ∧ wellFormed (.badAccess 8 4) = false ∧
    wellFormed (.imageWriteData hdr 256 0 []) = false ∧ wellFormed (.imageWriteData hdr 0 (2 ^ 32) []) = false ∧
    wellFormed (.imageWriteCommit hdr 256) = false ∧ wellFormed (.imageWriteErase hdr 256 0) = false ∧
    wellFormed (.imageWriteErase hdr 0 (2 ^ 32)) = false ∧ wellFormed (.imageSelect hdr 256) = false ∧
    wellFormed (.bistRunMbist hdr 256) = false ∧ wellFormed (.bistRunLbist hdr 256) = false ∧
    wellFormed (.bistRunSweep hdr 256) = false := by decide

theorem test_wf_descriptors :
    wellFormed (.txDescriptorTake 0 { addr := 2 ^ 64 }) = false ∧ wellFormed (.txDescriptorTake 0 { length := 2 ^ 32 }) = false ∧
    wellFormed (.txDescriptorTake 0 { flags := 2 ^ 16 }) = false ∧ wellFormed (.txDescriptorTake 0 { mss := 2 ^ 16 }) = false ∧
    wellFormed (.txDescriptorTake 0 { l3 := 256 }) = false ∧ wellFormed (.txDescriptorTake 0 { l4 := 256 }) = false ∧
    wellFormed (.txDescriptorTake 0 { launch := 2 ^ 32 }) = false ∧ wellFormed (.txDescriptorTake 0 { dest := 2 ^ 16 }) = false ∧
    wellFormed (.txDescriptorTake 0 { cookie := 2 ^ 32 }) = false ∧ wellFormed (.txDescriptorTake 0 { rsvd := 2 ^ 32 }) = false ∧
    wellFormed (.txDescriptorTake 0 {}) = true := by decide

theorem test_wf_record_length (code : Fin 65536) (h : MbxHdr) (record : List Byte) (n : Nat) (hn : record.length = 1048577 + n) :
    wellFormed (.tableWrite h code record) = false ∧ wellFormed (.tableRead h code record) = false := by
  have : decide (record.length ≤ 1048576) = false := decide_eq_false (by omega)
  exact ⟨this, this⟩

/-! ### States the witnesses start from -/

/-- The state that a command leads to. -/
def run (c : Instr) (s : State) : State :=
  match exec c s with
  | .next t => t
  | _ => s

/-- A solo device in service: started, its PLL locked, forwarding, every domain on. -/
def up : State :=
  { State.reset with
    clk := { tick := 100000, pllLocked := true, forwarding := true }
    boot := { State.reset.boot with inReset := false, resetLow := false, step := 11, startS := some 1000 }
    pwr := { State.reset.pwr with ready := 2 ^ 31 - 1 } }

/-- The active twin of a pair. -/
def paired : State := { up with twin := { State.reset.twin with st := .active, heard := 99999 } }

/-- The standby twin of a pair. -/
def standby : State := { up with twin := { State.reset.twin with st := .standby, heard := 99999 } }

/-- A solo device with lane `l` in mode `m`, enabled, and in state `x`. -/
def withLane (l : Nat) (m : Word) (x : Lane) (s : State) : State :=
  { regSet .LANE_MODE l m s with lanes := FMap.put s.lanes l x }

/-- With port `p` enabled, its frame limit 1,518 bytes, in state `x`. -/
def withPort (p : Nat) (x : Port) (s : State) : State := { regSet .MAC_PORT_CFG p 0x105EE s with ports := FMap.put s.ports p x }

/-- With 64 free cells in the cache of each of the first two slices. -/
def withCells (s : State) : State := { s with buf := { s.buf with slices := [(0, { cache := [(0, 64)] }), (1, { cache := [(32768, 64)] })] } }

/-- A training set, a tick marker and other ordered sets, with their CRC-8. -/
def oset (d1 d2 d3 op d5 d6 : Byte) : OSet := { d1, d2, d3, op, d5, d6, crc := crc8 [d1, d2, d3, op, d5, d6] }

/-- A frame of `n` bytes with a good FCS. -/
def frameOf (n : Nat) : List Byte := zeros (n - 4) ++ fcsBytes (zeros (n - 4))

/-! ### Lanes -/

/-- Lane 8 in Hearth mode 4 in state `x`. -/
def hearth (x : Lane) : State := withLane 8 0x14 x up

/-- Lane 8 in plain mode 1 in state `x`. -/
def plain (x : Lane) : State := withLane 8 0x11 x up

theorem witness_LaneTraining_block_lock :
    isHearth (laneMode (hearth { st := .acquire }) 8) = true ∧ laneOperates (hearth { st := .acquire }) 8 = true ∧
    (laneOf (hearth { st := .acquire }) 8).st = .acquire ∧
    (laneOf (run (.laneBlockLock 8) (hearth { st := .acquire })) 8).st = .negotiate := by decide +kernel

theorem witness_LaneTraining_align :
    (laneOf (hearth { st := .negotiate, setsRx := 8, setsTx := 8 }) 8).st = .negotiate ∧
    8 ≤ (laneOf (hearth { st := .negotiate, setsRx := 8, setsTx := 8 }) 8).setsRx ∧
    8 ≤ (laneOf (hearth { st := .negotiate, setsRx := 8, setsTx := 8 }) 8).setsTx ∧
    (laneOf (run (.alignEntry 8) (hearth { st := .negotiate, setsRx := 8, setsTx := 8 })) 8).st = .align := by decide +kernel

/-- Lane 8 ready to leave NEGOTIATE, with a channel map that mode 4 does not allow: channel 4 is valid. -/
def badMap : State := regSet .LANE_CHMAP 34 0x8000 (hearth { st := .negotiate, setsRx := 8, setsTx := 8 })

theorem witness_LaneTraining_stays :
    chanMapOk (hearth { st := .negotiate, setsRx := 8, setsTx := 8 }) 8 = true ∧ chanMapOk badMap 8 = false ∧
    (laneOf badMap 8).st = .negotiate ∧ (laneOf (run (.alignEntry 8) badMap) 8).st = .negotiate ∧
    (laneOf (run (.alignEntry 8) badMap) 8).refused = true ∧ laneStays badMap 8 = true ∧
    (laneOf (run (.trainTimeout 8) badMap) 8).st = .negotiate := by decide +kernel

theorem witness_LaneTraining_in_service :
    (laneOf (hearth { st := .align, markers := 16 }) 8).st = .align ∧ 16 ≤ (laneOf (hearth { st := .align, markers := 16 }) 8).markers ∧
    markerOk (hearth { st := .align, markers := 16 }) 8 = true ∧
    (laneOf (run (.inServiceEntry 8) (hearth { st := .align, markers := 16 })) 8).st = .inService := by decide +kernel

theorem witness_LaneTraining_timeout :
    (laneOf (hearth { st := .acquire }) 8).st = .acquire ∧ (laneOf (hearth { st := .negotiate }) 8).st = .negotiate ∧
    (laneOf (hearth { st := .align }) 8).st = .align ∧ laneStays (regSet .LANE_GCFG 0 0x100 (hearth { st := .align })) 8 = false ∧
    (laneOf (regSet .LANE_GCFG 0 0x100 (hearth { st := .align })) 8).trainFrom +
      ticksOfNs (regFld (regSet .LANE_GCFG 0 0x100 (hearth { st := .align })) .LANE_GCFG 0 15 8 * 1000000) ≤ 100000 ∧
    (laneOf (run (.trainTimeout 8) (regSet .LANE_GCFG 0 0x100 (hearth { st := .align }))) 8).st = .acquire := by decide +kernel

theorem witness_LaneTraining_realign :
    (laneOf (hearth { st := .outOfStep, trainFrom := 99999 }) 8).st = .outOfStep ∧
    (laneOf (hearth { st := .outOfStep, trainFrom := 99999 }) 8).trainFrom < (hearth { st := .outOfStep, trainFrom := 99999 }).clk.tick ∧
    (laneOf (run (.outOfStepRealign 8) (hearth { st := .outOfStep, trainFrom := 99999 })) 8).st = .align := by decide +kernel

theorem witness_LaneTraining_out_of_step :
    (laneOf (hearth { st := .inService, highStamp := some 99968 }) 8).st = .inService ∧
    isHearth (laneMode (hearth { st := .inService, highStamp := some 99968 }) 8) = true ∧
    (provenTick (laneOf (hearth { st := .inService, highStamp := some 99968 }) 8)).getD 0 + 32 < 100000 ∧
    (laneOf (run (.laneOutOfStep 8) (hearth { st := .inService, highStamp := some 99968 })) 8).st = .outOfStep ∧
    (laneOf (run (.laneOutOfStep 8) (hearth { st := .inService, highStamp := some 99969 })) 8).st = .inService := by decide +kernel

theorem witness_LaneTraining_lock_loss :
    (laneOf (hearth { st := .inService, lockLostAt := some 99968 }) 8).lockLostAt = some 99968 ∧
    (laneOf (hearth { st := .inService, lockLostAt := some 99968 }) 8).st = .inService ∧ 99968 + 32 ≤ up.clk.tick ∧
    (laneOf (run (.blockLockLoss 8) (hearth { st := .inService, lockLostAt := some 99968 })) 8).st = .outOfStep := by decide +kernel

theorem witness_LaneTraining_block_error :
    (laneOf (hearth { st := .inService, blockLock := true }) 8).st ≠ .disabled ∧
    (laneOf (hearth { st := .inService, blockLock := true }) 8).blockLock = true ∧
    (laneOf (run (.laneBlockError 8 true) (hearth { st := .inService, blockLock := true, lastGood := some 7 })) 8).openErr = some 7 ∧
    isHearth (laneMode (plain { linked := true, port := some 3 }) 8) = false ∧
    (laneOf (plain { linked := true, port := some 3 }) 8).linked = true ∧
    (laneOf (run (.laneBlockError 8 true) (plain { linked := true, port := some 3 })) 8).linked = false ∧
    laneClean (run (.laneBlockError 8 false) (plain { linked := true, port := some 3 })) 8 100000 = false := by decide +kernel

theorem witness_LaneTraining_plain :
    plainRate (laneMode (plain { port := some 3 }) 8) ≠ 0 ∧ (laneOf (plain { port := some 3 }) 8).port = some 3 ∧
    laneOperates (plain { port := some 3 }) 8 = true ∧ (laneOf (plain { port := some 3 }) 8).linked = false ∧
    plainAt (plain { port := some 3 }) 3 = some 8 ∧ plainAt (plain { linked := true, port := some 3 }) 3 = some 8 ∧
    plainAt (plain { port := some 3 }) 4 = none ∧ (portOf (run (.receiveLpi 8 true) (plain { port := some 3 })) 3).rxLpi = true ∧
    (laneOf (run (.linkDetect 3 true) (plain { port := some 3 })) 8).linked = true ∧
    (laneOf (run (.linkDetect 3 false) (plain { linked := true, port := some 3 })) 8).linked = false ∧
    (laneOf (run (.laneBlockLock 8) (plain { port := some 3 })) 8).linked = true := by decide +kernel

/-- Lane 8 in service with block lock, the highest stamp 99,995. -/
def serving : State := hearth { st := .inService, blockLock := true, hver := 1, highStamp := some 99995, lastGood := some 99995 }

/-- The marker of tick `k`. -/
def marker (k : Nat) : OSet :=
  oset (BitVec.ofNat 8 (k / 256)) (BitVec.ofNat 8 k) 0 0x10 (BitVec.ofNat 8 (k / 2 ^ 24)) (BitVec.ofNat 8 (k / 2 ^ 16))

theorem witness_OrderedSets :
    Claims.TakesSets serving 8 ∧ osetGood { marker 99996 with crc := (marker 99996).crc ^^^ 1 } = false ∧
    osetGood (oset 0x11 0 0 0x20 0 0) = true ∧ Claims.TakesSets (hearth { st := .negotiate, blockLock := true }) 8 ∧
    (laneOf (hearth { st := .negotiate, blockLock := true }) 8).st = .negotiate ∧
    Nat.min (ownVmax up) ((0xFF : Byte).toNat % 16) < (0xFF : Byte).toNat / 16 ∧
    (laneOf (run (.trainingSetReceive 8 (oset 0xFF 0x33 0 0x20 0 0)) (hearth { st := .negotiate, blockLock := true })) 8).partnerCap = 3 ∧
    regBit (run (.trainingSetReceive 8 (oset 0xFF 0x33 0 0x20 0 0)) (hearth { st := .negotiate, blockLock := true })) .LANE_EVENT 8 1
      = true := by
  refine ⟨⟨?_, ?_⟩, ?_, ?_, ⟨?_, ?_⟩, ?_, ?_, ?_, ?_⟩ <;> decide +kernel

theorem witness_OrderedSets_markers :
    (laneOf (hearth { st := .align, blockLock := true }) 8).st = .align ∧ Claims.stampOf up (marker 99997) = 99997 ∧
    Claims.MarkerFormat (hearth { st := .align, blockLock := true }) 8 (marker 99997) ∧
    ¬Claims.stampOf up (marker 99996) + 3 ≥ 100000 ∧ (laneOf serving 8).st ≠ .disabled ∧
    (laneOf (run (.tickMarkerReceive 8 (marker 99997)) (hearth { st := .align, blockLock := true })) 8).markers = 1 ∧
    (laneOf (run (.tickMarkerReceive 8 (marker 99996)) (hearth { st := .align, blockLock := true, markers := 5 })) 8).markers = 0 := by
  refine ⟨?_, ?_, ⟨?_, ?_⟩, ?_, ?_, ?_, ?_⟩ <;> decide +kernel

/-- A Hearth frame of channel 1 with stamp `k` and PSEQ 5. -/
def hframe (k : Nat) : HFrame :=
  let pre : List Byte := [1, 0, 0, 5, BitVec.ofNat 8 (k / 256), BitVec.ofNat 8 k]
  { pre := pre ++ [crc8 pre], data := frameOf 64, status := some (oset 0 0 0 0 0 0) }

/-- Lane 8 in service, its channel 1 mapped to port 3, which is enabled. -/
def mapped : State := withCells (withPort 3 {} (regSet .LANE_CHMAP 32 0x80030000 serving))

/-- Lane 8 in ALIGN, the highest stamp 99,998. -/
def aligning : State := hearth { st := .align, blockLock := true, highStamp := some 99998 }

theorem witness_StampOrderErrors_align :
    Claims.TakesSets aligning 8 ∧ (laneOf aligning 8).st = .align ∧ osetGood (marker 99997) = true ∧
    Claims.MarkerFormat aligning 8 (marker 99997) ∧ aligning.clk.tick ≤ Claims.stampOf aligning (marker 99997) + 3 ∧
    Claims.stampOf aligning (marker 99997) < 99998 ∧ (laneOf aligning 8).highStamp = some 99998 ∧
    (laneOf (run (.tickMarkerReceive 8 (marker 99997)) aligning) 8).unclean = [(99997, 99998)] ∧
    regBit (run (.tickMarkerReceive 8 (marker 99997)) aligning) .LANE_EVENT 8 3 = true := by
  refine ⟨⟨?_, ?_⟩, ?_, ?_, ⟨?_, ?_⟩, ?_, ?_, ?_, ?_, ?_⟩ <;> decide +kernel

theorem witness_StampOrderErrors :
    Claims.TakesSets serving 8 ∧ (laneOf serving 8).st = .inService ∧ osetGood (marker 99994) = true ∧
    Claims.MarkerFormat serving 8 (marker 99994) ∧ Claims.stampOf serving (marker 99994) ≤ serving.clk.tick + 1 ∧
    (laneOf serving 8).highStamp = some 99995 ∧ Claims.stampOf serving (marker 99994) < 99995 ∧
    laneClean (run (.tickMarkerReceive 8 (marker 99994)) serving) 8 99994 = false := by
  refine ⟨⟨?_, ?_⟩, ?_, ?_, ⟨?_, ?_⟩, ?_, ?_, ?_, ?_⟩ <;> decide +kernel

theorem witness_StampOrderErrors_frame :
    isHearth (laneMode mapped 8) = true ∧ crc8 (slice (hframe 99994).pre 0 6) = byteAt (hframe 99994).pre 6 ∧
    reconstruct mapped.clk.tick (beVal (slice (hframe 99994).pre 4 2)) = 99994 ∧ (laneOf mapped 8).highStamp = some 99995 ∧
    (laneOf (run (.hearthFrameReceive 8 (hframe 99994)) mapped) 8).highStamp = some 99995 ∧
    laneClean (run (.hearthFrameReceive 8 (hframe 99994)) mapped) 8 99994 = false ∧
    regBit (run (.hearthFrameReceive 8 (hframe 99994)) mapped) .LANE_EVENT 8 3 = true := by decide +kernel

theorem cells_free : Claims.CellsFree mapped 1 := by
  show (takeCells 1 mapped).1.length = 1
  decide +kernel

theorem witness_FramesAreReceived :
    Claims.GoodHearth (hframe 99997) ∧ (chanOf mapped 8 ((byteAt (hframe 99997).pre 0).toNat % 8)).1 = 3 ∧
    (chanOf mapped 8 ((byteAt (hframe 99997).pre 0).toNat % 8)).2.2 = true ∧
    b2n (tb (byteAt (hframe 99997).pre 0).toNat 3) + 1 = (laneOf mapped 8).hver ∧
    (laneOf mapped 8).highStamp.getD 0 ≤ reconstruct mapped.clk.tick (beVal (slice (hframe 99997).pre 4 2)) ∧
    reconstruct mapped.clk.tick (beVal (slice (hframe 99997).pre 4 2)) ≤ mapped.clk.tick + 1 ∧
    mapped.clk.tick + 5 ≤ reconstruct mapped.clk.tick (beVal (slice (hframe 99997).pre 4 2)) + admDelay mapped ∧
    FMap.get none (laneOf mapped 8).pseq ((byteAt (hframe 99997).pre 0).toNat % 8) = none ∧
    Claims.PortTakes mapped 3 (hframe 99997).data.length ∧
    ((run (.hearthFrameReceive 8 (hframe 99997)) mapped).adm.arrived.map fun r => (r.port, r.arrival, r.seq)) = [(3, 99997, 5)] := by
  refine ⟨⟨?_, ?_, ?_, _, rfl, ?_, ?_, ?_, ?_⟩, ?_, ?_, ?_, ?_, ?_, ?_, ?_, ⟨?_, ?_, ?_, ?_, cells_free⟩, ?_⟩ <;> decide +kernel

/-- A linked plain lane with port 3. -/
def plainUp3 : State := withCells (withPort 3 {} (plain { linked := true, port := some 3 }))

theorem cells_free_plain : Claims.CellsFree plainUp3 1 := by
  show (takeCells 1 plainUp3).1.length = 1
  decide +kernel

theorem witness_FramesAreReceived_plain :
    plainRate (laneMode plainUp3 8) ≠ 0 ∧ (laneOf plainUp3 8).linked = true ∧ laneOperates plainUp3 8 = true ∧
    (laneOf plainUp3 8).port = some 3 ∧ fcsGood (frameOf 64) = true ∧ 5 ≤ admDelay plainUp3 ∧
    Claims.PortTakes plainUp3 3 (frameOf 64).length ∧
    ((run (.plainFrameReceive 8 { data := frameOf 64, symErr := false, sfdTick := 100000, sfdCycle := 3 }) plainUp3).adm.arrived.map
      fun r => (r.port, r.arrival, r.flags)) = [(3, 100000, 0)] := by
  refine ⟨?_, ?_, ?_, ?_, ?_, ?_, ⟨?_, ?_, ?_, ?_, cells_free_plain⟩, ?_⟩ <;> decide +kernel

/-! ### Ports -/

/-- A granted frame of 64 bytes. -/
def granted : TxFrame := { bytes := frameOf 64, rxLen := 64, grant := 99998, cells := [0], staged := 1 }

/-- Port 3 on a linked plain lane of this twin, in state `x`. -/
def onPlain (x : Port) : State := withPort 3 x (plain { linked := true, wired := true, port := some 3 })

/-- Port 3 sends a granted frame. -/
def sends : State := onPlain { up := true, flushed := false, tx := [{ granted with started := some 99999 }] }

/-- Port 3 sends a frame of two cells of which one is staged. -/
def starved : State := onPlain { up := true, flushed := false, tx := [{ granted with cells := [0, 1], started := some 99999 }] }

theorem witness_FrameTransmission :
    nextFrame (onPlain { up := true, tx := [granted] }) 3 = some (granted, 0) ∧ mayStart (onPlain { up := true, tx := [granted] }) 3 = true ∧
    granted.tsid = none ∧ (portOf (run (.txFirstBlock 3 0) (onPlain { up := true, tx := [granted] })) 3).tx =
      [{ granted with started := some 100000 }] ∧
    (portOf sends 3).tx = [{ granted with started := some 99999 }] ∧ isPlaceholder granted.srcPos = false ∧ inPair sends = false ∧
    (portOf (run (.txFrameEnd 3) sends) 3).tx = [] ∧ (run (.txFrameEnd 3) sends).out.lanes = [.frame 8 none (frameOf 64) false] ∧
    granted.cells.length ≤ granted.staged ∧ inPair starved = false ∧ (portOf (run (.underrun 3 false) starved) 3).ctThresh = 6 ∧
    (run (.underrun 3 false) starved).out.lanes = [.frame 8 none (frameOf 64) true] ∧
    (run (.underrun 3 false) starved).egr.ctrPend = [(100001, fixedKey 2 0x53, 1, 64)] ∧
    (portOf (run (.underrun 3 true) starved) 3).ctThresh = 4 ∧
    (run (.underrun 3 true) starved).egr.ctrPend = [(100001, fixedKey 2 0x54, 1, 64)] ∧
    (portOf (run (.linkLossAbort 3) sends) 3).ctThresh = 4 ∧
    (run (.linkLossAbort 3) sends).egr.ctrPend = [(100001, fixedKey 2 0x54, 1, 64)] := by decide +kernel

theorem witness_FrameTransmission_pair :
    inPair { starved with twin := paired.twin } = true ∧
    (portOf (run (.underrun 3 false) { starved with twin := paired.twin }) 3).ctRaiseAt = [assignTick { starved with twin := paired.twin }] ∧
    (portOf (run (.underrun 3 false) { starved with twin := paired.twin }) 3).ctThresh = 4 ∧
    mayStart (onPlain { up := true, tx := [{ granted with cells := [0, 1], staged := 1 }], ctThresh := 2 }) 3 = false ∧
    mayStart (onPlain { up := true, tx := [{ granted with cells := [0, 1, 2], staged := 2 }], ctThresh := 2 }) 3 = true ∧
    nextFrame (onPlain { up := true, tx := [{ granted with queue := 2 }, granted], pfcExp := [(2, 100100)] }) 3
      = some (granted, 1) := by decide +kernel

theorem witness_FrameTransmission_decay :
    regBit (regSet .MAC_TX_CT 3 0x8004 (onPlain { ctThresh := 5, decay := 2 ^ 20 })) .MAC_TX_CT 3 15 = true ∧
    (portOf (run (.ctDecay 3) (regSet .MAC_TX_CT 3 0x8004 (onPlain { ctThresh := 5, decay := 2 ^ 20 }))) 3).ctThresh = 4 := by decide +kernel

/-- Port 3 paused since tick 0, PAUSE_WD and STORM_RECOVER 1 ms. -/
def longPause : State :=
  regSet .MAC_WATCHDOG 3 0x10001 (onPlain { up := true, pauseExp := 100100, pauseFrom := [(8, some 0)], pfcExp := [(2, 100100)] })

theorem witness_PauseWatchdog :
    FMap.get none (portOf longPause 3).pauseFrom 8 = some 0 ∧ longPause.clk.tick < pauseExpOf (portOf longPause 3) 8 ∧
    regFld longPause .MAC_WATCHDOG 3 15 0 ≠ 0 ∧ regFld longPause .MAC_WATCHDOG 3 15 0 * 5000000 < (longPause.clk.tick - 0) * 256 ∧
    inStorm (portOf (run (.pauseStorm 3) longPause) 3) 8 = true ∧ pauseExpOf (portOf (run (.pauseStorm 3) longPause) 3) 8 = 0 ∧
    regFld (regSet .MAC_WATCHDOG 3 0 longPause) .MAC_WATCHDOG 3 15 0 = 0 := by decide +kernel

theorem witness_PauseWatchdog_pfc :
    FMap.get none (portOf (onPlain { pfcExp := [(2, 100100)], pauseFrom := [(2, some 0)] }) 3).pauseFrom 2 = some 0 ∧
    inStorm (portOf (run (.pauseStorm 3) (regSet .MAC_WATCHDOG 3 1 (onPlain { pfcExp := [(2, 100100)], pauseFrom := [(2, some 0)] }))) 3) 2
      = true ∧
    inStorm (portOf (onPlain { pauseStorm := true }) 3) 8 = true ∧ beVal (slice (zeros 14 ++ [0, 1]) 14 2) = 1 := by decide +kernel

theorem witness_FlowControlAndIdle :
    pauseExpOf (portOf (run (.pauseExpiry 3) (onPlain { pauseExp := 100000, pfcExp := [(1, 100001), (2, 3)] })) 3) 8 = 0 ∧
    pauseExpOf (portOf (run (.pauseExpiry 3) (onPlain { pauseExp := 100000, pfcExp := [(1, 100001), (2, 3)] })) 3) 1 = 100001 ∧
    generates (onPlain {}) 3 = false ∧
    run (.pauseRefresh 3) (onPlain { up := true, fcSent := 256 }) = onPlain { up := true, fcSent := 256 } := by
  decide +kernel

/-- Port 3 with TX_MODE 1 and 10 quanta, its owner of class 0 asserting flow control or not. -/
def flowOn (fc : Bool) (x : Port) : State :=
  let s := regSet .MAC_FC_CFG 3 0xA0004 (onPlain x)
  { s with buf := { s.buf with owners := [(24, { fc := fc })] } }

theorem witness_FlowControlAndIdle_send :
    fcWantedOf (flowOn true {}) 3 = 256 ∧ Nat.lor 256 0 ≠ 0 ∧ generates (flowOn true {}) 3 = true ∧
    atBoundary (flowOn true { up := true }) 3 = true ∧
    (portOf (run (.pauseFrameSend 3) (flowOn true { up := true })) 3).fcSent = 256 ∧
    (run (.pauseFrameSend 3) (flowOn true { up := true })).out.lanes.length = 1 ∧
    fcWantedOf (flowOn false {}) 3 = 0 ∧ Nat.lor 0 256 ≠ 0 ∧
    (portOf (run (.pauseRefresh 3) (flowOn false { up := true, fcSent := 256 })) 3).fcSent = 0 ∧
    pauseTicks (flowOn true {}) 3 10 ≤ 2 * (100000 - 99950) ∧
    (portOf (run (.pauseRefresh 3) (flowOn true { up := true, fcSent := 256, fcSentAt := 99950, fcQuanta := 10 })) 3).fcSentAt
      = 100000 := by decide +kernel

/-- Port 3 in a storm, its last non-zero pause at tick 0. -/
def storm : State := regSet .MAC_WATCHDOG 3 0x10001 (onPlain { pauseStorm := true, pfcStorm := 4 })

theorem witness_FlowControlAndIdle_storm :
    inStorm (portOf storm 3) 8 = true ∧ inStorm (portOf storm 3) 2 = true ∧ regFld storm .MAC_WATCHDOG 3 31 16 ≠ 0 ∧
    regFld storm .MAC_WATCHDOG 3 31 16 * 5000000 ≤ (storm.clk.tick - FMap.get 0 (portOf storm 3).lastNonZero 2) * 256 ∧
    inStorm (portOf (run (.stormRecover 3) storm) 3) 8 = false ∧ inStorm (portOf (run (.stormRecover 3) storm) 3) 2 = false := by
  decide +kernel

theorem witness_FlowControlAndIdle_lpi :
    regBit (regSet .MAC_EEE_CFG 3 0x11 (onPlain { emptyFrom := 99999 })) .MAC_EEE_CFG 3 0 = true ∧
    portEmpty (onPlain { emptyFrom := 99999 }) 3 = true ∧
    99999 + regFld (regSet .MAC_EEE_CFG 3 0x11 (onPlain { emptyFrom := 99999 })) .MAC_EEE_CFG 3 15 4 ≤ 100000 ∧
    (portOf (run (.lpiEnter 3) (regSet .MAC_EEE_CFG 3 0x11 (onPlain { emptyFrom := 99999 }))) 3).txLpi = true ∧
    (run (.lpiEnter 3) (regSet .MAC_EEE_CFG 3 0x11 (onPlain { emptyFrom := 99999 }))).out.lanes = [.lpi 8 true] := by decide +kernel

theorem witness_LinkTransitions :
    (onPlain { up := true, ownUp := true, ownAt := [(100000, false)] }).twin.st = .solo ∧
    (portOf (onPlain { up := true, ownUp := true, ownAt := [(100000, false)] }) 3).ownAt = [(100000, false)] ∧
    (portOf (run (.linkDownEffect 3) (onPlain { up := true, ownUp := true, ownAt := [(100000, false)], pauseExp := 100500 })) 3).downL
      = some 100000 ∧
    (portOf (run (.linkDownEffect 3) (onPlain { up := true, ownUp := true, ownAt := [(100000, false)], pauseExp := 100500 })) 3).pauseExp = 0 ∧
    (portOf (onPlain { ownAt := [(100000, true)], downL := some 1 }) 3).ownAt = [(100000, true)] ∧
    (portOf (run (.linkUpEffect 3) (onPlain { ownAt := [(100000, true)], downL := some 1 })) 3).lastUp = 100000 ∧
    (portOf (run (.linkUpEffect 3) (onPlain { ownAt := [(100000, true)], downL := some 1 })) 3).up = true := by decide +kernel

theorem witness_LinkTransitions_suppressed :
    (portOf (onPlain { ownAt := [(100000, true)], suppressed := true }) 3).suppressed = true ∧
    (portOf (run (.linkUpEffect 3) (onPlain { ownAt := [(100000, true)], suppressed := true })) 3).up = false ∧
    regBit (run (.linkUpEffect 3) (onPlain { ownAt := [(100000, true)], suppressed := true })) .MAC_PORT_EVENT 3 0 = true ∧
    (portOf (run (.linkDownEffect 3) (onPlain { ownAt := [(100000, false)], ownUp := true, suppressed := true })) 3).flaps = [100000] ∧
    regBit (run (.linkDownEffect 3) (onPlain { ownAt := [(100000, false)], ownUp := true, suppressed := true })) .MAC_PORT_EVENT 3 1
      = true := by decide +kernel

theorem witness_LinkTransitions_hold :
    (portOf (onPlain { downL := some 0, flushed := false }) 3).downL = some 0 ∧
    0 + ticksOfNs (regFld (regSet .MAC_LINK_CFG 3 1 (onPlain { downL := some 0, flushed := false })) .MAC_LINK_CFG 3 6 0 * 1000000) ≤ 100000 ∧
    (portOf (run (.linkHoldExpiry 3) (regSet .MAC_LINK_CFG 3 1 (onPlain { downL := some 0, flushed := false }))) 3).flushed = true ∧
    regFld (regSet .MAC_LINK_CFG 3 0x100000 (onPlain { suppressed := true, flaps := [0] })) .MAC_LINK_CFG 3 27 20 ≠ 0 ∧
    secondsPassed { up with clk := { up.clk with tick := 19531250 } } 0 1 = true ∧
    secondsPassed { up with clk := { up.clk with tick := 19531249 } } 0 1 = false ∧
    (portOf (run (.flapRelease 3) { regSet .MAC_LINK_CFG 3 0x100000 (onPlain { suppressed := true, flaps := [0] }) with
      clk := { up.clk with tick := 19531250 } }) 3).suppressed = false := by decide +kernel

/-! ### Registers -/

theorem witness_LowWordReadsLatch :
    hostReaches up = true ∧ Reg.GLOBAL_TICK_LO.addr 0 % 4 = 0 ∧ isLowWord (Reg.GLOBAL_TICK_LO.addr 0) = true ∧
    isHighWord (Reg.GLOBAL_TICK_LO.addr 0 + 4) = true ∧ isLowWord 0x280000 = true ∧ isLowWord 0x2FFFF8 = true ∧
    (run (.lowWordRead (Reg.GLOBAL_TICK_LO.addr 0)) up).regs.rdData = some 100000 ∧
    FMap.get none (run (.lowWordRead (Reg.GLOBAL_TICK_LO.addr 0)) up).regs.latch (Reg.GLOBAL_TICK_LO.addr 0 + 4) = some 0 ∧
    FMap.get none up.regs.latch (Reg.GLOBAL_TICK_LO.addr 0 + 4) = none := by decide +kernel

theorem witness_RegisterAccess :
    Reg.find (Reg.ADM_AGREE_MISS.addr 0) = some (.ADM_AGREE_MISS, 0) ∧ Reg.ADM_AGREE_MISS.addr 0 % 4 = 0 ∧
    isLowWord (Reg.ADM_AGREE_MISS.addr 0) = false ∧ Reg.ADM_AGREE_MISS.info.rc ≠ 0 ∧
    (run (.rcRead (.bar0 (Reg.ADM_AGREE_MISS.addr 0))) (regSet .ADM_AGREE_MISS 0 7 up)).regs.rdData = some 7 ∧
    regVal (run (.rcRead (.bar0 (Reg.ADM_AGREE_MISS.addr 0))) (regSet .ADM_AGREE_MISS 0 7 up)) .ADM_AGREE_MISS 0 = 0 ∧
    Reg.find (Reg.LANE_EVENT.addr 9) = some (.LANE_EVENT, 9) ∧ agreedBlock (Reg.LANE_EVENT.addr 9) = true ∧
    Reg.LANE_EVENT.info.w1c ≠ 0 ∧ Reg.LANE_EVENT.info.rw = 0 ∧ Reg.LANE_EVENT.info.wo = 0 ∧
    regVal (run (.registerWrite (.bar0 (Reg.LANE_EVENT.addr 9) 2)) (regSet .LANE_EVENT 9 7 up)) .LANE_EVENT 9 = 5 ∧
    (run (.timeNowLatch 39) up).time.nowLatch.2 = 100000 ∧ ¬((2 : Nat) = 4 ∧ 8 % 4 = 0) ∧ ¬((4 : Nat) = 4 ∧ 6 % 4 = 0) ∧
    regBit (run (.badAccess 8 2) up) .HOST_ERR 0 2 = true := by decide +kernel

/-- Bytes in the host region and in the image of counter 1 and of counter 3 of class 2. -/
def windows : State :=
  { up with
    host := { up.host with hbmHost := [(5, 0xAB)] }
    egr := { up.egr with image := [(1, (0x1122, 0x33)), (fixedKey 2 3, (7, 8))] } }

theorem witness_RegisterAccess_bar2 :
    hostReaches windows = true ∧ 4 + 2 ≤ 2 ^ 28 ∧ (run (.rcRead (.bar2 4 2)) windows).regs.rdBytes = [0, 0xAB] ∧
    (run (.rcRead (.bar2 0x8000010 10)) windows).regs.rdBytes = [0x22, 0x11, 0, 0, 0, 0, 0, 0, 0x33, 0] ∧
    (run (.rcRead (.bar2 (0xC000000 + 2 * 0x400000 + 48) 9)) windows).regs.rdBytes = [7, 0, 0, 0, 0, 0, 0, 0, 8] ∧
    FMap.get 0 (run (.registerWrite (.bar2 5 [1, 2])) windows).host.hbmHost 6 = 2 ∧
    (run (.registerWrite (.bar2 0x7FFFFFF [1, 2])) windows).host.hbmHost = [(5, 0xAB), (0x7FFFFFF, 1)] ∧
    run (.registerWrite (.bar2 0x8000010 [1])) windows = windows := by decide +kernel

theorem witness_DirectWrites_held :
    Reg.find (Reg.HOST_RING_BASE_HI.addr 2) = some (Claims.baseHi false, 2) ∧ ringEnabled up 2 = false ∧
    blockOf (Reg.HOST_RING_BASE_HI.addr 2) = 11 ∧ Reg.find (Reg.HOST_QRING_BASE_HI.addr 255) = some (Claims.baseHi true, 255) ∧
    ringEnabled up 258 = false ∧ Reg.find (Reg.HOST_RING_BASE_LO.addr 2) = some (Claims.baseLo false, 2) ∧
    regVal (run (.highWordWrite (Reg.HOST_RING_BASE_HI.addr 2) 5) up) .HOST_RING_BASE_HI 2 = 0 ∧
    FMap.get none (run (.highWordWrite (Reg.HOST_RING_BASE_HI.addr 2) 5) up).regs.high (Reg.HOST_RING_BASE_HI.addr 2) = some 5 ∧
    regVal (run (.registerWrite (.bar0 (Reg.HOST_RING_BASE_LO.addr 2) 0x1234FFF))
      (run (.highWordWrite (Reg.HOST_RING_BASE_HI.addr 2) 5) up)) .HOST_RING_BASE_HI 2 = 5 ∧
    regVal (run (.registerWrite (.bar0 (Reg.HOST_RING_BASE_LO.addr 2) 0x1234FFF))
      (run (.highWordWrite (Reg.HOST_RING_BASE_HI.addr 2) 5) up)) .HOST_RING_BASE_LO 2 = 0x1234000 := by decide +kernel

theorem witness_DirectWrites :
    Claims.DirectWrite (.laneModeWrite 8 0x14) (Reg.LANE_MODE.addr 8) 0x14 ∧ Claims.DirectWrite (.retrain 8) (Reg.LANE_CTRL.addr 8) 1 ∧
    Claims.DirectWrite (.routeRegionWrite false 32 0) (Reg.TBL_ROUTE_REGION.addr 32) 0 ∧
    Claims.DirectWrite (.routeRegionWrite true 128 0) (Reg.TBL_ROUTE_REGION6.addr 128) 0 ∧
    Claims.DirectWrite (.tcamCourseWrite 63 0) 0x60003C 0 ∧ Claims.DirectWrite .pop (Reg.TIME_TSF_CTRL.addr 0) 1 ∧
    holdsWritable (Reg.LANE_MODE.addr 8) = true ∧ holdsWritable (Reg.LANE_CTRL.addr 8) = true ∧ isSafe up = false ∧
    inPair up = false ∧ inPair paired = true ∧ hostReaches paired = true ∧
    ((run (.retrain 8) up).writes.map fun w => (w.eff, w.act)) = [(100001, .reg (Reg.LANE_CTRL.addr 8) 1 0xFFFFFFFF)] ∧
    regBit (run (.retrain 8) paired) .HOST_ERR 0 1 = true := by
  refine ⟨.inl ⟨8, rfl, rfl⟩, .inr (.inl ⟨8, rfl, rfl, rfl⟩), ?_, ?_, ?_, ?_, ?_⟩
  · exact .inr (.inr (.inr (.inr (.inr (.inr (.inr (.inr (.inr (.inl ⟨32, rfl, Nat.le_refl 32, rfl⟩)))))))))
  · exact .inr (.inr (.inr (.inr (.inr (.inr (.inr (.inr (.inl ⟨128, rfl, rfl⟩))))))))
  · exact .inr (.inr (.inr (.inr (.inr (.inr (.inr (.inr (.inr (.inr (.inl ⟨63, rfl, rfl⟩))))))))))
  · exact .inr (.inr (.inr (.inr (.inr (.inr (.inr (.inr (.inr (.inr (.inr (.inr (.inl ⟨rfl, rfl, rfl⟩))))))))))))
  · decide +kernel

/-- A started device in the safe hearth state. -/
def safeUp : State := { up with boot := { up.boot with safe := .noImage } }

/-- What a direct write in solo operation has done one tick later. -/
def applied (c : Instr) (s : State) : State := run .hostWriteApply (Claims.atTick (s.clk.tick + 1) (run c s))

theorem quiet_safe : Claims.Quiet safeUp :=
  ⟨rfl, fun _ h => absurd h List.not_mem_nil, fun _ h => absurd h List.not_mem_nil, fun _ h => absurd h List.not_mem_nil⟩

theorem witness_DirectWrites_safe :
    Claims.DirectWrite (.laneModeWrite 8 0x14) (Reg.LANE_MODE.addr 8) 0x14 ∧ isSafe safeUp = true ∧ inPair safeUp = false ∧
    hostReaches safeUp = true ∧ holdsWritable (Reg.LANE_MODE.addr 8) = true ∧ regBit safeUp .LANE_MODE 8 4 = false ∧
    started safeUp = true ∧ (laneOf (run (.laneModeWrite 8 0x14) safeUp) 8).st = .acquire ∧
    (run (.laneModeWrite 8 0x14) safeUp).writes = [] := by
  refine ⟨.inl ⟨8, rfl, rfl⟩, ?_⟩ <;> decide +kernel

theorem witness_DirectWrites_effects :
    up.writes = [] ∧ (laneOf (applied (.laneModeWrite 8 0x14) up) 8).st = .acquire ∧ started up = true ∧
    regBit serving .LANE_MODE 8 4 = true ∧ (0x04 : Word).getLsbD 4 = false ∧
    (laneOf (applied (.laneModeWrite 8 0x04) serving) 8).st = .disabled ∧
    started { up with boot := { up.boot with startS := none } } = false ∧
    (applied (.laneModeWrite 8 0x14) { up with boot := { up.boot with startS := none } }).boot.enables = [8] ∧
    regVal (applied (.laneModeWrite 8 0x14) { up with boot := { up.boot with startS := none } }) .LANE_MODE 8 = 4 ∧
    (laneOf (applied (.retrain 8) serving) 8).trainFrom = 100001 ∧ (laneOf up 8).st = .disabled ∧
    (applied (.retrain 8) up).lanes = up.lanes ∧
    inStorm (portOf (applied (.stormClear 3) storm) 3) 2 = false ∧ inStorm (portOf storm 3) 2 = true ∧
    (portOf (applied (.flapClear 3) (onPlain { suppressed := true, flaps := [9] })) 3).flaps = [] ∧
    (portOf (applied (.ctReset 3) (onPlain { ctThresh := 9, decay := 3 })) 3).ctThresh = 4 ∧
    (portOf (applied (.macTxCtWrite 3 0x8009) (onPlain {})) 3).ctThresh = 9 ∧
    (applied (.tblEvictSeedWrite 0) { up with tbl := { up.tbl with evictX := 9 } }).tbl.evictX = 1 := by decide +kernel

theorem witness_DirectWrites_effects_units :
    regionOk up true 128 0x40000A = true ∧ regVal (applied (.routeRegionWrite true 128 0x40000A) up) .TBL_ROUTE_REGION6 128 = 0x40000A ∧
    regionOk up false 24 0x7E0000 = false ∧ regVal (applied (.routeRegionWrite false 24 0x7E0000) up) .TBL_ROUTE_REGION 24 = 0 ∧
    60 / 4 * 4 + 0x1000 = 0x1000 + 4 * 15 ∧
    regVal (applied (.trigArm 7 0x101) up) .TIME_TRIG_CFG 7 = 0x101 ∧
    (applied .pop { up with time := { up.time with fifo := [(1, 2, 3, 4)] } }).time.fifo = [] ∧
    (FMap.get {} (applied .pop { up with time := { up.time with fifo := [(1, 2, 3, 4)] } }).host.vectors 3).armed = true := by decide +kernel

/-- A direct write of `v` at offset `a`, its effect tick come. -/
def due (a : Nat) (v : Nat) (s : State) : State :=
  { s with writes := [{ eff := s.clk.tick, seq := 0, direct := true, act := .reg a v 0xFFFFFFFF }] }

theorem due_is_due (s : State) (r : Reg) (i : Nat) (v : Word) (h : Reg.find (r.addr i) = some (r, i)) :
    Claims.WriteDue (due (r.addr i) v.toNat s) r i v :=
  ⟨_, _, rfl, rfl, rfl, Nat.le_refl _, rfl, h⟩

theorem witness_RegisterWritesTakeEffect_lane :
    Claims.WriteDue (due (Reg.LANE_CTRL.addr 8) 1 serving) .LANE_CTRL 8 1 ∧ (laneOf (due (Reg.LANE_CTRL.addr 8) 1 serving) 8).st ≠ .disabled ∧
    (laneOf (run .hostWriteApply (due (Reg.LANE_CTRL.addr 8) 1 serving)) 8).st = .acquire ∧
    Claims.WriteDue (due (Reg.LANE_MODE.addr 8) 0x14 up) .LANE_MODE 8 0x14 ∧ started up = true ∧ regBit up .LANE_MODE 8 4 = false ∧
    isHearth (wfld (0x14 : Word) 3 0) = true ∧ (laneOf (run .hostWriteApply (due (Reg.LANE_MODE.addr 8) 0x14 up)) 8).st = .acquire := by
  refine ⟨due_is_due serving .LANE_CTRL 8 1 ?_, ?_, ?_, due_is_due up .LANE_MODE 8 0x14 ?_, ?_⟩ <;> decide +kernel

theorem witness_RegisterWritesTakeEffect_port :
    Claims.WriteDue (due (Reg.MAC_PORT_CTRL.addr 3) 1 storm) .MAC_PORT_CTRL 3 1 ∧
    Claims.WriteDue (due (Reg.MAC_PORT_CTRL.addr 3) 2 storm) .MAC_PORT_CTRL 3 2 ∧
    Claims.WriteDue (due (Reg.MAC_PORT_CTRL.addr 3) 4 storm) .MAC_PORT_CTRL 3 4 ∧
    Claims.WriteDue (due (Reg.MAC_TX_CT.addr 3) 9 storm) .MAC_TX_CT 3 9 ∧
    (portOf (run .hostWriteApply (due (Reg.MAC_PORT_CTRL.addr 3) 1 storm)) 3).pfcStorm = 0 ∧
    (portOf (run .hostWriteApply (due (Reg.MAC_TX_CT.addr 3) 9 storm)) 3).ctThresh = 9 := by
  refine ⟨due_is_due storm .MAC_PORT_CTRL 3 1 ?_, due_is_due storm .MAC_PORT_CTRL 3 2 ?_, due_is_due storm .MAC_PORT_CTRL 3 4 ?_,
    due_is_due storm .MAC_TX_CT 3 9 ?_, ?_⟩ <;> decide +kernel

theorem witness_RegisterWritesTakeEffect_tables :
    Claims.WriteDue (due (Reg.TBL_EVICT_SEED.addr 0) 0 up) .TBL_EVICT_SEED 0 0 ∧
    (run .hostWriteApply (due (Reg.TBL_EVICT_SEED.addr 0) 0 { up with tbl := { up.tbl with evictX := 9 } })).tbl.evictX = 1 ∧
    Claims.WriteDue (due (Reg.TBL_ROUTE_REGION.addr 24) 0x40000A up) .TBL_ROUTE_REGION 24 0x40000A ∧
    regionOk up false 24 0x40000A = true ∧ (0x40000A : Word) &&& 0x7FFFFF = 0x40000A ∧ regVal up .TBL_ROUTE_REGION 24 = 0 ∧
    regVal (run .hostWriteApply (due (Reg.TBL_ROUTE_REGION.addr 24) 0x40000A up)) .TBL_ROUTE_REGION 24 = 0x40000A ∧
    Claims.WriteDue (due (Reg.TBL_ROUTE_REGION6.addr 128) 0x40000A up) .TBL_ROUTE_REGION6 128 0x40000A ∧
    regVal (run .hostWriteApply (due (Reg.TBL_ROUTE_REGION6.addr 128) 0x40000A up)) .TBL_ROUTE_REGION6 128 = 0x40000A := by
  refine ⟨due_is_due up .TBL_EVICT_SEED 0 0 ?_, ?_, due_is_due up .TBL_ROUTE_REGION 24 0x40000A ?_, ?_, ?_, ?_, ?_,
    due_is_due up .TBL_ROUTE_REGION6 128 0x40000A ?_, ?_⟩ <;> decide +kernel

theorem witness_RegisterWritesTakeEffect_units :
    Claims.WriteDue (due (Reg.TCAM_COURSE.addr 15) 0x200000 { up with tcam := { up.tcam with txn := .open } }) .TCAM_COURSE 15 0x200000 ∧
    (run .hostWriteApply (due (Reg.TCAM_COURSE.addr 15) 0x200000 { up with tcam := { up.tcam with txn := .open } })).tcam.courses =
      [(31, 0x200000)] ∧
    Claims.WriteDue (due (Reg.TIME_TSF_CTRL.addr 0) 1 { up with time := { up.time with fifo := [(1, 2, 3, 4)] } }) .TIME_TSF_CTRL 0 1 ∧
    (run .hostWriteApply (due (Reg.TIME_TSF_CTRL.addr 0) 1 { up with time := { up.time with fifo := [(1, 2, 3, 4)] } })).time.fifo = [] ∧
    Claims.WriteDue (due (Reg.TIME_TRIG_CFG.addr 7) 0x101 up) .TIME_TRIG_CFG 7 0x101 ∧ wfld (0x101 : Word) 23 8 ≠ 0 ∧
    regVal (run .hostWriteApply (due (Reg.TIME_TRIG_CFG.addr 7) 0x101 up)) .TIME_TRIG_CFG 7 = 0x101 := by
  refine ⟨due_is_due _ .TCAM_COURSE 15 0x200000 ?_, ?_, due_is_due _ .TIME_TSF_CTRL 0 1 ?_, ?_, due_is_due up .TIME_TRIG_CFG 7 0x101 ?_, ?_, ?_⟩
    <;> decide +kernel

/-! ### Edxa -/

/-- Thread 1 of hob 2 of stove 3. -/
def thr : ThreadRef := { stove := 3, hob := 2, thr := 1 }

/-- The guard p0: always. -/
def always : Guard := { pred := 0, neg := false }

/-- An image whose first word is `w`. -/
def imageWith (w : Nat) : Image := { gen := 1, code := [BitVec.ofNat 64 w, 0, 0, 0], handlers := [2], entry := 0, k := 64 }

/-- The word of an instruction. -/
def wordFor (c : Instr) : Nat :=
  match Claims.wordOf c with
  | some x => x.2.2
  | none => 0

/-- A frame of 64 bytes on its way, of port 3 and ember lane 5. -/
def inflight : Inflight :=
  { id := 9, rx := { port := 3, lane := 8, bytes := frameOf 64, wireLen := 64 }, adm := 99990, ret := 100038, md := zeros 64, homeKey := 5,
    emberLane := 5, gen := 1, slot := true }

/-- Thread `thr` runs `th`, of frame `fr`, whose next instruction is `c`. -/
def issuing (c : Instr) (th : Thread) (fr : Inflight) : State :=
  { up with
    prog := { up.prog with active := some (imageWith (wordFor c)) }
    hob := { up.hob with threads := [(threadKey thr, some th)], flight := [fr] } }

/-- A thread with g1 to g3 set. -/
def thread : Thread := { inv := 9, g := [(1, 0x8000000000000005), (2, 3), (3, 0x40)], p := [(1, true)], fe := zeros 32 }

theorem issues_add : Claims.Issues (issuing (.add thr always 4 1 2) thread inflight) (.add thr always 4 1 2) thr always thread inflight
    (imageWith (wordFor (.add thr always 4 1 2))) := ⟨_, rfl, rfl, rfl, by decide +kernel, rfl⟩

theorem witness_RegisterInstructions :
    guardHolds thread always = true ∧ Claims.registerWritten (gGet thread) (.add thr always 4 1 2) = some (4, 0x8000000000000008) ∧
    Claims.Issues (issuing (.movi thr always 0 (-1)) thread inflight) (.movi thr always 0 (-1)) thr always thread inflight
      (imageWith (wordFor (.movi thr always 0 (-1)))) ∧
    Claims.registerWritten (gGet thread) (.movi thr always 0 (-1)) = some (0, 0xFFFFFFFFFFFFFFFF) ∧
    Claims.Issues (issuing (.ceqi thr always 7 2 3) thread inflight) (.ceqi thr always 7 2 3) thr always thread inflight
      (imageWith (wordFor (.ceqi thr always 7 2 3))) ∧
    Claims.predicateWritten (gGet thread) (pGet thread) (.ceqi thr always 7 2 3) = some (7, true) := by
  refine ⟨?_, ?_, ⟨_, rfl, rfl, rfl, by decide +kernel, rfl⟩, ?_, ⟨_, rfl, rfl, rfl, by decide +kernel, rfl⟩, ?_⟩ <;> decide +kernel

theorem witness_GuardedInstructions :
    guardHolds thread { pred := 2, neg := false } = false ∧ guardHolds thread { pred := 1, neg := true } = false ∧
    Claims.Issues (issuing (.add thr { pred := 2, neg := false } 4 1 2) thread inflight) (.add thr { pred := 2, neg := false } 4 1 2) thr
      { pred := 2, neg := false } thread inflight (imageWith (wordFor (.add thr { pred := 2, neg := false } 4 1 2))) ∧
    Claims.Issues (issuing (.loop thr { pred := 1, neg := true } 4 2 3) thread inflight) (.loop thr { pred := 1, neg := true } 4 2 3) thr
      { pred := 1, neg := true } thread inflight (imageWith (wordFor (.loop thr { pred := 1, neg := true } 4 2 3))) ∧
    ((threadAt (run (.loop thr { pred := 1, neg := true } 4 2 3) (issuing (.loop thr { pred := 1, neg := true } 4 2 3) thread inflight))
      (threadKey thr)).map (·.pc)) = some 4 := by
  refine ⟨?_, ?_, ⟨_, rfl, rfl, rfl, by decide +kernel, rfl⟩, ⟨_, rfl, rfl, rfl, by decide +kernel, rfl⟩, ?_⟩ <;> decide +kernel

/-- Thread `thr` issues `c` as `thread` of `inflight`. -/
abbrev Iss (c : Instr) : Prop :=
  Claims.Issues (issuing c thread inflight) c thr always thread inflight (imageWith (wordFor c))

/-- The thread after `c`. -/
def after (c : Instr) : Option Thread := threadAt (run c (issuing c thread inflight)) (threadKey thr)

/-- Thread `thr` waits for `w`. -/
def waiting (w : Wait) : State := issuing (.nop thr always) { thread with wait := w } inflight

/-- The thread after its answer `c` to `w`. -/
def answered (w : Wait) (c : Instr) : Option Thread := threadAt (run c (waiting w)) (threadKey thr)

/-- Record 7 as home, with a valid header, its private half 1 to 24, and a published value. -/
def withHome (s : State) : State :=
  { s with tbl := { s.tbl with
      headers := [(7, { ver := { old := 1, new := 1 } })]
      embers := [(7, { priv := (List.range 24).map fun i => BitVec.ofNat 8 (i + 1), pubs := [(100, List.replicate 32 9)] })] } }

/-- `inflight` with record 7 as its home record. -/
def atHome : Inflight := { inflight with ember := some 7 }

/-- Thread `thr` issues `c` as `thread` of `atHome`. -/
abbrev IssHome (c : Instr) : Prop :=
  Claims.Issues (withHome (issuing c thread atHome)) c thr always thread atHome (imageWith (wordFor c))

theorem witness_LoadInstructions :
    Iss (.fext thr always 4 0 7 64 119) ∧ 8 * ((gGet thread 0).toNat + 119) + 7 + 64 ≤ 1024 ∧
    Iss (.ld thr always 4 0 .fw 3 120) ∧ accessAddr thread 0 120 % 2 ^ 3 = 0 ∧ accessAddr thread 0 120 + 2 ^ 3 ≤ spaceSize .fw ∧
    Iss (.ld thr always 4 0 .he 3 56) ∧ accessAddr thread 0 56 + 2 ^ 3 ≤ spaceSize .he ∧
    (after (.ld thr always 4 0 .he 3 56)).map (·.wait) = some (.heLoad 4 56 8) ∧
    Iss (.feld thr always 3 7) ∧ (gGet thread 3).toNat < 1048576 ∧
    (after (.feld thr always 3 7)).map (·.wait) = some (.feld 0x40 7) ∧
    Iss (.fetch thr always 31 0 3 16344) ∧ accessAddr thread 0 16344 + 2 ^ 3 ≤ 16352 ∧
    (after (.fetch thr always 31 0 3 16344)).map (·.wait) = some (.fetch 31 16344 8) := by
  refine ⟨⟨_, rfl, rfl, rfl, by decide +kernel, rfl⟩, ?_, ⟨_, rfl, rfl, rfl, by decide +kernel, rfl⟩, ?_, ?_, ⟨_, rfl, rfl, rfl, by decide +kernel, rfl⟩, ?_, ?_, ⟨_, rfl, rfl, rfl, by decide +kernel, rfl⟩, ?_, ?_,
    ⟨_, rfl, rfl, rfl, by decide +kernel, rfl⟩, ?_, ?_⟩ <;> decide +kernel

theorem witness_LoadInstructions_answers :
    Claims.WaitsFor (waiting (.feld 7 1)) thr (.feld 7 1) { thread with wait := .feld 7 1 } inflight
      (imageWith (wordFor (.nop thr always))) ∧
    ((threadAt (run (.feldAnswer thr) (withHome (waiting (.feld 7 1)))) (threadKey thr)).map fun z => (z.fe, pGet z 1, z.pc)) =
      some (List.replicate 32 9, true, 1) ∧
    ((answered (.feld 7 1) (.feldAnswer thr)).map fun z => (z.fe, pGet z 1)) = some (List.replicate 32 0, false) ∧
    Claims.WaitsFor (waiting (.fetch 4 60 4)) thr (.fetch 4 60 4) { thread with wait := .fetch 4 60 4 } inflight
      (imageWith (wordFor (.nop thr always))) ∧
    ((answered (.fetch 4 60 4) (.fetchAnswer thr)).map fun z => (gGet z 4).toNat) = some (beVal (fcsBytes (zeros 60))) ∧
    Claims.WaitsFor (waiting (.heLoad 4 8 8)) thr (.heLoad 4 8 8) { thread with wait := .heLoad 4 8 8 } inflight
      (imageWith (wordFor (.nop thr always))) ∧
    ((threadAt (run (.heLoadAnswer thr) (withHome (issuing (.nop thr always) { thread with wait := .heLoad 4 8 8 } atHome)))
      (threadKey thr)).map fun z => (gGet z 4, z.wait)) = some (0x0807060504030201, .ready) := by
  refine ⟨⟨rfl, rfl⟩, ?_, ?_, ⟨rfl, rfl⟩, ?_, ⟨rfl, rfl⟩, ?_⟩ <;> decide +kernel

theorem witness_StoreInstructions :
    Claims.ScriptOk thread.res.edits ∧
    Iss (.st thr always 0 1 .fw 3 48) ∧ accessAddr thread 0 48 % 2 ^ 3 = 0 ∧
    (accessAddr thread 0 48 + 2 ^ 3 + 4 ≤ inflight.rx.bytes.length ∧
      thread.res.edits.length + Claims.freshBlocks thread.res.edits (accessAddr thread 0 48) (2 ^ 3) ≤ 8) ∧
    Iss (.fins thr always 0 1 7 64 51) ∧ (415 / 8 + ((415 + 64 - 1) / 8 + 1 - 415 / 8) + 4 ≤ inflight.rx.bytes.length) ∧
    Claims.freshBlocks thread.res.edits 51 9 = 2 ∧
    Iss (.st thr always 0 1 .sc 0 255) ∧ accessAddr thread 0 255 + 2 ^ 0 ≤ 256 ∧
    ((after (.st thr always 0 1 .sc 0 255)).map fun z => FMap.get 0 z.sc 255) = some 5 := by
  refine ⟨⟨by decide, by intro b m h; simp [thread] at h⟩, ⟨_, rfl, rfl, rfl, by decide +kernel, rfl⟩, ?_, ?_, ⟨_, rfl, rfl, rfl, by decide +kernel, rfl⟩, ?_, ?_,
    ⟨_, rfl, rfl, rfl, by decide +kernel, rfl⟩, ?_, ?_⟩ <;> decide +kernel

theorem witness_StoreInstructions_script :
    Claims.MayWriteFw inflight thread.res.edits (accessAddr thread 0 48) (2 ^ 3) ∧
    Claims.MayWriteFw inflight thread.res.edits (415 / 8) ((415 + 64 - 1) / 8 + 1 - 415 / 8) := by
  constructor <;> refine ⟨?_, ?_, ?_, by intro e h; simp [thread] at h⟩ <;> decide +kernel

theorem witness_StoreInstructions_ember :
    IssHome (.st thr always 0 1 .he 3 56) ∧ accessAddr thread 0 56 + 2 ^ 3 ≤ 64 ∧ 8 ≤ accessAddr thread 0 56 ∧ atHome.ember = some 7 ∧
    heWriteFault (withHome (issuing (.st thr always 0 1 .he 3 56) thread atHome)) (some 7) atHome.adm (b2n (isTimer atHome)) = none ∧
    (emberOf (run (.st thr always 0 1 .he 3 56) (withHome (issuing (.st thr always 0 1 .he 3 56) thread atHome))) 7).staging =
      zeros 24 ++ [5, 0, 0, 0, 0, 0, 0, 0x80] := by
  refine ⟨⟨_, rfl, rfl, rfl, by decide +kernel, rfl⟩, ?_, ?_, ?_, ?_, ?_⟩ <;> decide +kernel

theorem witness_Lookups :
    Iss (.lookupStation thr always 4 1 2 3) ∧ Iss (.lookupRoute4 thr always 4 1 2 1 7) ∧ Iss (.lookupRoute6 thr always 4 1 2 3 1 7) ∧
    Iss (.lookupNexthop thr always 4 3 2) ∧ Iss (.lookupEcmp thr always 4 3 2) ∧ Iss (.lookupTcam thr always 4 1 2 3 7) ∧
    (after (.lookupNexthop thr always 4 3 2)).map (·.wait) = some (.lookup 3 0 0 4 2 0x40 0) ∧
    (after (.lookupTcam thr always 4 1 2 3 7)).map (·.wait) = some (.lookup 5 0 7 4 3 0x8000000000000005 3) := by
  refine ⟨⟨_, rfl, rfl, rfl, by decide +kernel, rfl⟩, ⟨_, rfl, rfl, rfl, by decide +kernel, rfl⟩, ⟨_, rfl, rfl, rfl, by decide +kernel, rfl⟩, ⟨_, rfl, rfl, rfl, by decide +kernel, rfl⟩, ⟨_, rfl, rfl, rfl, by decide +kernel, rfl⟩,
    ⟨_, rfl, rfl, rfl, by decide +kernel, rfl⟩, ?_, ?_⟩ <;> decide +kernel

/-- The answer of a next-hop lookup, whose entry is valid, and of one that misses. -/
def nexthops : FMap Entry := [(0x40, { ver := { old := 0x8005000000000000, new := 0x8005000000000000 } })]

/-- A thread that waits for a next hop, with next hop 64 valid. -/
def hopWait (n : DWord) : State :=
  let s := waiting (.lookup 3 0 0 4 2 n 0)
  { s with tbl := { s.tbl with nexthops := nexthops } }

theorem witness_Lookups_answer :
    Claims.WaitsFor (waiting (.lookup 5 0 0 30 2 0 0)) thr (.lookup 5 0 0 30 2 0 0) { thread with wait := .lookup 5 0 0 30 2 0 0 } inflight
      (imageWith (wordFor (.nop thr always))) ∧
    (nexthopAt (hopWait 0x40) 0x40 inflight.adm).testBit 63 = true ∧
    (lookupAnswer (hopWait 0x40) inflight thread 3 0 0 0x40 0).hit = true ∧
    (lookupAnswer (hopWait 0x41) inflight thread 3 0 0 0x41 0).hit = false ∧
    ((threadAt (run (.lookupAnswer thr .good 0) (hopWait 0x40)) (threadKey thr)).map fun z => (gGet z 4, pGet z 2, z.pc)) =
      some (0x0005000000000000, true, 1) ∧
    ((threadAt (run (.lookupAnswer thr .good 0) (hopWait 0x41)) (threadKey thr)).map fun z => (gGet z 4, pGet z 2, z.pc)) =
      some (0, false, 1) := by
  refine ⟨⟨rfl, rfl⟩, ?_, ?_, ?_, ?_, ?_⟩ <;> decide +kernel

/-- Thread `thr` issues `c` as `th` of `inflight`. -/
abbrev IssAs (th : Thread) (c : Instr) : Prop :=
  Claims.Issues (issuing c th inflight) c thr always th inflight (imageWith (wordFor c))

/-- The thread after `c`, which `th` issues. -/
def afterAs (th : Thread) (c : Instr) : Option Thread := threadAt (run c (issuing c th inflight)) (threadKey thr)

/-- What becomes of invocation 9 after `c`, which `th` issues: its disposition. -/
def dispAs (th : Thread) (c : Instr) : Option Disp :=
  (flightOf (run c (issuing c th inflight)) 9).bind fun f => f.result.map (·.disp)

/-- A thread at the end of a LOOP body of one instruction, in iteration `i` of 0 to 2. -/
def looping (i : Nat) : Thread := { thread with loop := some { first := 0, last := 0, iter := i, count := 2, dst := 4 } }

theorem witness_SequenceAndSections :
    Iss (.nop thr always) ∧ Iss (.br thr always 2) ∧ (after (.br thr always 2)).map (·.pc) = some 2 ∧
    Iss (.loop thr always 4 0 1) ∧ (after (.loop thr always 4 15 2)).map (fun z => (z.pc, z.loop.map (·.count))) = some (1, some 15) ∧
    ((afterAs (looping 1) (.nop thr always)).map fun z => (z.pc, gGet z 4)) = some (0, 2) ∧
    ((afterAs (looping 2) (.nop thr always)).map fun z => (z.pc, z.loop)) = some (1, none) ∧
    Iss (.brx thr always 2 3) ∧ (imageWith (wordFor (.brx thr always 2 3))).handlers[0]? = some 2 ∧
    (after (.brx thr always 2 3)).map (fun z => (z.pc, gGet z 31, z.res.entryId)) = some (2, 0x40, 1) := by
  refine ⟨⟨_, rfl, rfl, rfl, by decide +kernel, rfl⟩, ⟨_, rfl, rfl, rfl, by decide +kernel, rfl⟩, ?_, ⟨_, rfl, rfl, rfl, by decide +kernel, rfl⟩, ?_, ?_, ?_, ⟨_, rfl, rfl, rfl, by decide +kernel, rfl⟩, ?_, ?_⟩ <;>
    decide +kernel

/-- `s` with ticket 0 of lane 5 not passed, `inflight` in the second place. -/
def second (s : State) : State := { s with hob := { s.hob with tickets := [(5, { issued := 2 })], flight := [{ inflight with turn := 1 }] } }

theorem witness_SequenceAndSections_sections :
    Iss (.enter thr always) ∧ turnCome (issuing (.enter thr always) thread inflight) 5 0 = true ∧
    (after (.enter thr always)).map (·.sect) = some .inside ∧
    turnCome (second (issuing (.enter thr always) thread inflight)) 5 1 = false ∧
    ((threadAt (run (.enter thr always) (second (issuing (.enter thr always) thread inflight))) (threadKey thr)).map (·.wait)) =
      some .ticket ∧
    Claims.WaitsFor (waiting .ticket) thr .ticket { thread with wait := .ticket } inflight (imageWith (wordFor (.nop thr always))) ∧
    turnCome (waiting .ticket) 5 0 = true ∧ (answered .ticket (.enterGrant thr)).map (·.sect) = some .inside ∧
    turnCome (second (waiting .ticket)) 5 1 = false ∧
    Iss (.leave thr always) ∧ (after (.leave thr always)).map (·.sect) = some .after ∧
    IssHome (.publish thr always) ∧
    heWriteFault (withHome (issuing (.publish thr always) thread atHome)) atHome.ember atHome.adm (b2n (isTimer atHome)) = none := by
  refine ⟨⟨_, rfl, rfl, rfl, by decide +kernel, rfl⟩, ?_, ?_, ?_, ?_, ⟨rfl, rfl⟩, ?_, ?_, ?_, ⟨_, rfl, rfl, rfl, by decide +kernel, rfl⟩, ?_, ⟨_, rfl, rfl, rfl, by decide +kernel, rfl⟩, ?_⟩ <;>
    decide +kernel

/-- A thread with destination words in g1 to g4: port 7, next hop 64, ECMP group 1, and none. -/
def dests : Thread :=
  { thread with g := [(1, 7), (2, 0x4000000000000040), (3, 0x8000000000000001), (4, 0xC000000000000000), (5, 0xFFFF), (6, 0x10000)] }

theorem witness_Dispositions :
    Iss (.endInv thr always) ∧ dispAs thread (.endInv thr always) = some .none ∧
    Iss (.emitDrop thr always 0 0x80 false) ∧ dispAs thread (.emitDrop thr always 0 0x80 false) = some (.drop 0x80) ∧
    noTemplate inflight = false ∧ IssAs dests (.emitFwd thr always 1 0 7 false) ∧ (gGet dests 1).toNat / 2 ^ 62 = 0 ∧
    dispAs dests (.emitFwd thr always 1 0 7 false) = some (.fwd 7 7) ∧
    IssAs dests (.emitFwd thr always 2 5 0 true) ∧ (gGet dests 2).toNat / 2 ^ 62 = 1 ∧
    dispAs dests (.emitFwd thr always 2 5 0 true) = some (.drop drNextHopInvalid) ∧
    IssAs dests (.emitFwd thr always 3 0 0 false) ∧ (gGet dests 3).toNat / 2 ^ 62 = 2 ∧
    dispAs dests (.emitFwd thr always 3 0 0 false) = some (.drop drEcmpEmpty) := by
  refine ⟨⟨_, rfl, rfl, rfl, by decide +kernel, rfl⟩, ?_, ⟨_, rfl, rfl, rfl, by decide +kernel, rfl⟩, ?_, ?_, ⟨_, rfl, rfl, rfl, by decide +kernel, rfl⟩, ?_, ?_, ⟨_, rfl, rfl, rfl, by decide +kernel, rfl⟩, ?_, ?_,
    ⟨_, rfl, rfl, rfl, by decide +kernel, rfl⟩, ?_, ?_⟩ <;> decide +kernel

theorem witness_Dispositions_others :
    IssAs dests (.emitMcast thr always 5) ∧ (gGet dests 5).toNat < 65536 ∧ dispAs dests (.emitMcast thr always 5) = some (.mcast 65535) ∧
    IssAs dests (.emitTrap thr always 65535 63) ∧ dispAs dests (.emitTrap thr always 65535 63) = some (.trap 63 65535) ∧
    IssAs dests (.emitRecirc thr always 5) ∧ dispAs dests (.emitRecirc thr always 5) = some (.recirc 65535) := by
  refine ⟨⟨_, rfl, rfl, rfl, by decide +kernel, rfl⟩, ?_, ?_, ⟨_, rfl, rfl, rfl, by decide +kernel, rfl⟩, ?_, ⟨_, rfl, rfl, rfl, by decide +kernel, rfl⟩, ?_⟩ <;> decide +kernel

/-- A thread whose COUNT word asks (g1), whose METER word asks (g2), and whose frame offset is 12 (g3). -/
def asks : Thread := { thread with g := [(1, 0x400005), (2, 0x3FFFF800000), (3, 12), (4, 0x1122334455667788)] }

/-- With its requests used up: two sessions, eight COUNT, two METER. -/
def usedUp : Thread :=
  { asks with res := { mirrors := [0, 15], counts := List.replicate 8 (1, 2), meters := List.replicate 2 (1, 0) } }

theorem witness_RequestsAndEdits :
    IssAs asks (.mirror thr always 15) ∧ (afterAs asks (.mirror thr always 15)).map (·.res.mirrors) = some [15] ∧
    IssAs usedUp (.mirror thr always 15) ∧ (afterAs usedUp (.mirror thr always 15)).map (·.res.mirrors) = some [0, 15] ∧
    IssAs asks (.count thr always 1 1 true) ∧ (afterAs asks (.count thr always 1 1 true)).map (·.res.counts) = some [(5, 0x400005)] ∧
    IssAs asks (.count thr always 3 1 true) ∧ (gGet asks 3).getLsbD 22 = false ∧
    IssAs asks (.meter thr always 2) ∧ (gGet asks 2).getLsbD 41 = true ∧
    IssAs asks (.meter thr always 3) ∧ (gGet asks 3).getLsbD 41 = false ∧
    IssAs usedUp (.count thr always 1 1 true) ∧ 8 ≤ usedUp.res.counts.length ∧
    regVal (run (.count thr always 1 1 true) (issuing (.count thr always 1 1 true) usedUp inflight)) .EGR_REQ_DISCARD_CNT 0 = 1 ∧
    IssAs usedUp (.meter thr always 2) ∧ 2 ≤ usedUp.res.meters.length ∧
    IssAs asks (.learn thr always 1 4 true) ∧ IssAs asks (.learn thr always 1 4 false) ∧ isTimer inflight = false := by
  refine ⟨⟨_, rfl, rfl, rfl, by decide +kernel, rfl⟩, ?_, ⟨_, rfl, rfl, rfl, by decide +kernel, rfl⟩, ?_, ⟨_, rfl, rfl, rfl, by decide +kernel, rfl⟩, ?_, ⟨_, rfl, rfl, rfl, by decide +kernel, rfl⟩, ?_,
    ⟨_, rfl, rfl, rfl, by decide +kernel, rfl⟩, ?_, ⟨_, rfl, rfl, rfl, by decide +kernel, rfl⟩, ?_, ⟨_, rfl, rfl, rfl, by decide +kernel, rfl⟩, ?_, ?_, ⟨_, rfl, rfl, rfl, by decide +kernel, rfl⟩, ?_,
    ⟨_, rfl, rfl, rfl, by decide +kernel, rfl⟩, ⟨_, rfl, rfl, rfl, by decide +kernel, rfl⟩, ?_⟩ <;> decide +kernel

/-- A frame that the parser found to carry IPv4 (L3 of its metadata 1). -/
def ipFrame : Inflight := { inflight with md := (zeros 64).set 8 1 }

theorem witness_RequestsAndEdits_edits :
    asks.res.edits.length < 8 ∧
    IssAs asks (.push8 thr always 3 4 115) ∧ (gGet asks 3).toNat + 115 ≤ 127 ∧
    IssAs asks (.push4 thr always 3 4 0) ∧ 12 ≤ (gGet asks 3).toNat ∧
    (afterAs asks (.push4 thr always 3 4 0)).map (·.res.edits) = some [.push 12 [0x55, 0x66, 0x77, 0x88]] ∧
    IssAs asks (.pop8 thr always 3 40) ∧ (gGet asks 3).toNat + 40 + 8 + 4 ≤ inflight.rx.bytes.length ∧
    IssAs asks (.pop4 thr always 3 44) ∧ (gGet asks 3).toNat + 44 + 4 + 4 ≤ inflight.rx.bytes.length ∧
    IssAs asks (.replace4 thr always 3 4 44) ∧ IssAs asks (.replace8 thr always 3 4 40) ∧
    editConflicts inflight.md asks.res.edits [12] true = false ∧
    editConflicts inflight.md asks.res.edits ((List.range 8).map (52 + ·)) false = false ∧
    Claims.Issues (issuing (.decTtl thr always) asks ipFrame) (.decTtl thr always) thr always asks ipFrame
      (imageWith (wordFor (.decTtl thr always))) ∧ mdByte ipFrame.md 8 % 16 = 1 := by
  refine ⟨?_, ⟨_, rfl, rfl, rfl, by decide +kernel, rfl⟩, ?_, ⟨_, rfl, rfl, rfl, by decide +kernel, rfl⟩, ?_, ?_, ⟨_, rfl, rfl, rfl, by decide +kernel, rfl⟩, ?_, ⟨_, rfl, rfl, rfl, by decide +kernel, rfl⟩, ?_,
    ⟨_, rfl, rfl, rfl, by decide +kernel, rfl⟩, ⟨_, rfl, rfl, rfl, by decide +kernel, rfl⟩, ?_, ?_, ⟨_, rfl, rfl, rfl, by decide +kernel, rfl⟩, ?_⟩ <;> decide +kernel

/-- The cause with which `c` faults as `th` of `inflight`. -/
def causeIn (th : Thread) (c : Instr) : Option Nat :=
  Claims.causeOf (issuing c th inflight) (imageWith (wordFor c)) inflight th c

/-- `usedUp` with eight edits. -/
def fullScript : Thread := { asks with res := { edits := List.replicate 8 (.push 40 [0, 0, 0, 0]) } }

theorem witness_InstructionFaults :
    Claims.ScriptOk asks.res.edits ∧
    IssAs asks (.ld thr always 4 0 .sc 3 249) ∧ causeIn asks (.ld thr always 4 0 .sc 3 249) = some 1 ∧
    IssAs asks (.st thr always 0 1 .md 3 0) ∧ causeIn asks (.st thr always 0 1 .md 3 0) = some 2 ∧
    IssAs asks (.publish thr always) ∧ causeIn asks (.publish thr always) = some 3 ∧
    IssAs fullScript (.push4 thr always 3 4 0) ∧ causeIn fullScript (.push4 thr always 3 4 0) = some 5 ∧
    IssAs usedUp (.mirror thr always 7) ∧ causeIn usedUp (.mirror thr always 7) = some 7 ∧
    IssAs asks (.emitDrop thr always 0 0x7F false) ∧ causeIn asks (.emitDrop thr always 0 0x7F false) = some 8 ∧
    IssAs dests (.emitMcast thr always 6) ∧ causeIn dests (.emitMcast thr always 6) = some 9 ∧
    dispAs dests (.emitMcast thr always 6) = some .fault ∧
    (run (.emitMcast thr always 6) (issuing (.emitMcast thr always 6) dests inflight)).prog.lastFaultCause = 9 ∧
    IssAs dests (.emitFwd thr always 4 0 0 false) ∧ causeIn dests (.emitFwd thr always 4 0 0 false) = some 9 := by
  refine ⟨⟨by decide, by intro b m h; simp [asks, thread] at h⟩, ⟨_, rfl, rfl, rfl, by decide +kernel, rfl⟩, ?_, ⟨_, rfl, rfl, rfl, by decide +kernel, rfl⟩, ?_,
    ⟨_, rfl, rfl, rfl, by decide +kernel, rfl⟩, ?_, ⟨_, rfl, rfl, rfl, by decide +kernel, rfl⟩, ?_, ⟨_, rfl, rfl, rfl, by decide +kernel, rfl⟩, ?_, ⟨_, rfl, rfl, rfl, by decide +kernel, rfl⟩, ?_,
    ⟨_, rfl, rfl, rfl, by decide +kernel, rfl⟩, ?_, ?_, ?_, ⟨_, rfl, rfl, rfl, by decide +kernel, rfl⟩, ?_⟩ <;> decide +kernel

/-- A firing of timer slot 0 without a template. -/
def firing : Inflight := { inflight with kind := .timer 0, ember := some 7, rx := {} }

/-- A script with an edit over byte 12. -/
def over12 : Thread := { asks with res := { edits := [.replace 12 [1, 2, 3, 4]] } }

theorem witness_InstructionFaults_others :
    IssAs over12 (.replace4 thr always 3 4 0) ∧ causeIn over12 (.replace4 thr always 3 4 0) = some 6 ∧
    Claims.Issues (withHome (issuing (.publish thr always) asks firing)) (.publish thr always) thr always asks firing
      (imageWith (wordFor (.publish thr always))) ∧
    Claims.causeOf (withHome (issuing (.publish thr always) asks firing)) (imageWith (wordFor (.publish thr always))) firing asks
      (.publish thr always) = some 4 ∧
    Claims.Issues (issuing (.emitTrap thr always 0 0) asks firing) (.emitTrap thr always 0 0) thr always asks firing
      (imageWith (wordFor (.emitTrap thr always 0 0))) ∧
    Claims.causeOf (issuing (.emitTrap thr always 0 0) asks firing) (imageWith (wordFor (.emitTrap thr always 0 0))) firing asks
      (.emitTrap thr always 0 0) = some 10 ∧
    (∃ w, Claims.wordOf (.nop thr always) = some (thr, always, w) ∧
      threadAt (issuing (.nop thr always) asks inflight) (threadKey thr) = some asks ∧
      exec (.nop thr always) (issuing (.nop thr always) asks inflight) =
        .next (run (.nop thr always) (issuing (.nop thr always) asks inflight))) := by
  refine ⟨⟨_, rfl, rfl, rfl, by decide +kernel, rfl⟩, ?_, ⟨_, rfl, rfl, rfl, by decide +kernel, rfl⟩, ?_, ⟨_, rfl, rfl, rfl, by decide +kernel, rfl⟩, ?_, ⟨_, rfl, rfl, rfl⟩⟩ <;> decide +kernel

theorem witness_InvocationsKeepTheirLimits :
    Claims.LimitsKept { issuing (.mirror thr always 7) thread inflight with pending := [.mirror thr always 7] } ∧
    ((match step { issuing (.mirror thr always 7) thread inflight with pending := [.mirror thr always 7] } with
      | .next t => threadAt t (threadKey thr)
      | _ => none : Option Thread).map (·.res.mirrors)) = some [7] := by
  refine ⟨?_, by decide +kernel⟩
  intro k th h
  have : th = thread := by
    simp only [threadAt, FMap.get, issuing] at h
    split at h <;> simp_all [threadKey]
  subst this
  refine ⟨⟨by decide, by intro b m h; simp [thread] at h⟩, by decide, by decide, by decide, by decide⟩

/-! ### Between the twins, and time -/

/-- The tick whose bitmap is due at `up`'s tick. -/
def owed : Nat := 100001 - admDelay up

theorem witness_AdmissionAgreement :
    Claims.Near paired 99990 ∧ Claims.Near paired (100000 + 2 ^ 30) ∧ Claims.Near paired 0 ∧
    (run (.cleanBitmap (99990 % 2 ^ 32) 5) paired).adm.partner = [(99990, 5)] ∧
    inPair paired = true ∧ paired.twin.pairSince ≤ paired.clk.tick ∧ owed + admDelay paired = paired.clk.tick + 1 ∧
    FMap.find? paired.adm.partner owed = none ∧ owed ∉ paired.adm.missed ∧
    (run (.bitmapMissing owed false) paired).adm.missed = [owed] ∧ regVal (run (.bitmapMissing owed false) paired) .ADM_AGREE_MISS 0 = 1 ∧
    FMap.find? { paired with adm := { paired.adm with partner := [(owed, 7)] } }.adm.partner owed ≠ none ∧
    agrees paired = true ∧ paired.twin.st ≠ .warming ∧
    owed ∈ { paired with adm := { paired.adm with missed := [owed] } }.adm.missed ∧
    regBit (run (.bitmapMissing owed true) paired) .ADM_EVENT 0 2 = true ∧ (run (.bitmapMissing owed true) paired).adm = paired.adm ∧
    (run (.relayEnd 8 99990) paired).adm.relayEnds = [(8, 99990)] ∧
    (run (.relayEnd 8 99990) { paired with adm := { paired.adm with relayBroken := [8] } }).adm.relayBroken = [] ∧
    (run (.relayEnd 8 99990) { paired with adm := { paired.adm with relayBroken := [8] } }).adm.relayEnds = [] ∧
    (run (.relayEnd 8 99990) { paired with adm := { paired.adm with flueLoss := 1 } }).adm.relayEnds = [] := by
  refine ⟨⟨?_, ?_⟩, ⟨?_, ?_⟩, ⟨?_, ?_⟩, ?_⟩ <;> decide +kernel

/-- A change of H and Q in force from tick `e` on. -/
def changing (e : Nat) (theirs : Bool) : State := { paired with adm := { paired.adm with capAt := [(e, theirs, 64, 512)] } }

theorem witness_AdmissionAgreement_capacity :
    (run (.capacity 64 512 (100010 % 2 ^ 32)) paired).adm.capAt = [(100010, true, 64, 512)] ∧
    (changing 100001 false).adm.capAt = [(100001, false, 64, 512)] ∧ (changing 100001 false).clk.tick < 100001 ∧
    capacityOf up (forceHQ up).1 (forceHQ up).2 = regFld up .ADM_GOV_CFG 0 27 16 ∧
    (run .capacityChange (changing 100000 false)).adm.hForce = 64 ∧
    (run .capacityChange (changing 100000 true)).adm.partnerQ = some 512 ∧
    (run .capacityChange (changing 100000 true)).adm.cForce = regFld up .ADM_GOV_CFG 0 27 16 := by decide +kernel

/-- A chunk of a frame of 64 bytes that the partner relays, admitted at tick `k`. -/
def chunk (off : Nat) (last : Bool) (d : List Byte) : RelayFrame :=
  { tick := 99997, port := 3, flags := 0, last := last, offset := off, order := 2, data := d, ts := (1, 2, false) }

/-- Port 3 on a plain lane of the partner, with room in the buffer and `p` of the frame held. -/
def relaying (p : List Byte) : State :=
  let s := withCells (withPort 3 {} (withLane 8 0x11 { port := some 3 } paired))
  { s with adm := { s.adm with relayPart := [(3 * 65536 + 2, p)] } }

theorem witness_RelayedFrames :
    plainAt (relaying []) 3 = some 8 ∧ (laneOf (relaying []) 8).wired = false ∧ Claims.Near (relaying []) 99997 ∧
    (chunk 0 true []).tick = 99997 % 2 ^ 32 ∧
    FMap.get [] (run (.relay (chunk 0 false (zeros 60))) (relaying [])).adm.relayPart (3 * 65536 + 2) = zeros 60 ∧
    FMap.get [] (run (.relay (chunk 61 false (zeros 60))) (relaying (zeros 60))).adm.relayPart (3 * 65536 + 2) = [] ∧
    (relaying []).clk.tick + 5 ≤ 99997 + admDelay (relaying []) ∧
    ((run (.relay (chunk 60 true (fcsBytes (zeros 60)))) (relaying (zeros 60))).adm.arrived.map fun r =>
      (r.port, r.lane, r.arrival, r.bytes.length, r.cells.length)) = [(3, 8, 99997, 64, 1)] := by
  refine ⟨?_, ?_, ⟨?_, ?_⟩, ?_⟩ <;> decide +kernel

theorem witness_RelayedFrames_cells : Claims.CellsFree (relaying (zeros 60)) (cellsOf 64) := by
  show (takeCells (cellsOf 64) (relaying (zeros 60))).1.length = cellsOf 64
  decide +kernel

theorem relay_whole (p : List Byte) (c : RelayFrame) (hp : c.port = 3) (ho : c.order = 2) : Claims.RelayWhole (relaying p) c := by
  constructor
  · intro e h _
    obtain rfl := List.mem_singleton.mp (show e ∈ [(3 * 65536 + 2, p)] from h)
    rw [hp, ho]
    rfl
  · intro k h
    exact absurd h List.not_mem_nil

theorem witness_RelayedFrames_left :
    Claims.RelayWhole (relaying []) (chunk 0 true []) ∧
    (run (.relay (chunk 61 false (zeros 60))) (relaying (zeros 60))).adm.relayBad = [3 * 65536 + 2] ∧
    (laneOf (run (.relay (chunk 61 true (zeros 60))) (relaying (zeros 60))) 8).unclean = [(99997, 99997)] ∧
    (3 * 65536 + 2, zeros 60) ∈ (relaying (zeros 60)).adm.relayPart ∧
    (run (.relay { chunk 0 false (zeros 60) with order := 3 }) (relaying (zeros 60))).adm.relayBroken = [8] ∧
    FMap.get [] (run (.relay { chunk 0 false (zeros 60) with order := 3 }) (relaying (zeros 60))).adm.relayPart (3 * 65536 + 2) = [] := by
  refine ⟨relay_whole _ _ rfl rfl, ?_⟩ <;> decide +kernel

/-- Trigger 2 armed for the present, in mode 0, raising its event, with a pulse of 3 cycles. -/
def armed : State := regSet .TIME_TRIG_CFG 2 0x309 up

theorem witness_TriggersAndPulses :
    (regVal armed .TIME_TRIG_CFG 2).getLsbD 0 = true ∧
    (todAt armed armed.clk.tick 0 / 2 ^ 48 % 2 ^ 32 + 2 ^ 32 - (regVal armed .TIME_TRIG_TARGET 2).toNat) % 2 ^ 32 < 2 ^ 31 ∧
    regVal (run (.triggerFire 2 0) armed) .TIME_TRIG_CFG 2 = 0x318 ∧ (run (.triggerFire 2 0) armed).time.pins = 4 ∧
    FMap.get none (run (.triggerFire 2 0) armed).time.pulses 2 = some 4000003 ∧
    (regVal up .TIME_TRIG_CFG 7).getLsbD 0 = false ∧
    (run (.triggerPulseEnd 2 3) { up with time := { up.time with pins := 4, pulses := [(2, some 4000003)] } }).time.pins = 0 ∧
    (run (.triggerPulseEnd 2 2) { up with time := { up.time with pins := 4, pulses := [(2, some 4000003)] } }).time.pins = 4 := by
  decide +kernel

/-- The time unit locked, PPS_OUT enabled with offset 1 ns, PPS_IN enabled. -/
def pulsing : State :=
  let s := regSet .TIME_PPS_OUT_OFF 0 1 (regSet .TIME_CFG 0 0x0A03000A up)
  { s with time := { s.time with core := { s.time.core with locked := true } } }

theorem witness_TriggersAndPulses_pps :
    regBit pulsing .TIME_CFG 0 17 = true ∧ (run (.ppsInCapture 39) pulsing).time.ppsNs = 49 ∧ regBit up .TIME_CFG 0 17 = false ∧
    regBit pulsing .TIME_CFG 0 16 = true ∧ pulsing.time.core.locked = true ∧
    regFld pulsing .TIME_PPS_OUT_OFF 0 29 0 ≤ todNs (todAt pulsing pulsing.clk.tick 1) ∧
    todNs (todAt pulsing pulsing.clk.tick 0) < regFld pulsing .TIME_PPS_OUT_OFF 0 29 0 ∧
    pulsing.time.ppsLast ≠ some (todSec (todAt pulsing pulsing.clk.tick 1)) ∧
    (run (.ppsOutRise 1) pulsing).time.ppsOut = true ∧ (run (.ppsOutRise 1) pulsing).time.ppsFall = some (4000001 + 10 * 78125) ∧
    regBit up .TIME_CFG 0 16 = false ∧
    (run (.ppsOutFall 0) { pulsing with time := { pulsing.time with ppsOut := true, ppsFall := some 4000000 } }).time.ppsOut = false ∧
    (run (.ppsOutFall 0) { pulsing with time := { pulsing.time with ppsOut := true, ppsFall := some 4000001 } }).time.ppsOut = true := by
  decide +kernel

/-- An outstanding departure report of port 3, granted at tick 99,998. -/
def report : TsPending := { tsid := 0x102, port := 3, qp := 1, grant := 99998, inj := 0 }

/-- Port 3 about to send a frame that asked for its departure time; `n` records in the FIFO. -/
def stamping (n : Nat) : State :=
  let s := onPlain { up := true, tx := [{ granted with tsid := some 0x102 }] }
  { s with time := { s.time with tsPend := [report], fifo := List.replicate n (0, 0, 0, 0) } }

theorem witness_DepartureTimes :
    (portOf (stamping 0) 3).tx = [{ granted with tsid := some 0x102 }] ∧ mayStart (stamping 0) 3 = true ∧
    plainAt (stamping 0) 3 = some 8 ∧ tsPending (stamping 0) 0x102 = some report ∧ inPair (stamping 0) = false ∧
    (run (.txFirstBlock 3 0) (stamping 0)).time.fifo =
      [Claims.tsRecord (stamping 0) report (Claims.tsFlags (stamping 0) true report 100000) (todAt (stamping 0) 100000 0)] ∧
    (stamping 4096).time.fifo.length = 4096 ∧ regVal (run (.txFirstBlock 3 0) (stamping 4096)) .TIME_TSF_OVF_CNT 0 = 1 := by
  decide +kernel

/-- Lane 8 in service, with the report of frame 0x102 outstanding. -/
def hearing : State := { serving with time := { serving.time with tsPend := [report] } }

theorem witness_DepartureTimes_reports :
    Claims.TakesSets hearing 8 ∧ osetGood (oset 4 1 2 0x4B 3 0x9F) = true ∧ (laneOf hearing 8).st = .inService ∧
    tsPending hearing ((1 : Byte).toNat * 256 + (2 : Byte).toNat) = some report ∧ 99999 % 256 = (0x9F : Byte).toNat ∧
    (run (.timestampReportReceive 8 (oset 4 1 2 0x4B 3 0x9F)) hearing).time.nextSeq = 1 ∧
    (run (.timestampReportReceive 8 (oset 4 1 2 0x4B 3 0x9F)) hearing).time.tsPend = [] ∧
    tsPending hearing 3 = none ∧
    regVal (run (.timestampReportReceive 8 (oset 4 0 3 0x4B 3 0x9F)) hearing) .TIME_TSF_TIMEOUT_CNT 0 = 1 ∧
    (run (.timestampTimeout 0x102) { hearing with clk := { hearing.clk with tick := 100254 } }).time.tsPend = [] ∧
    (run (.timestampTimeout 0x102) { hearing with clk := { hearing.clk with tick := 100253 } }).time.tsPend = [report] := by
  refine ⟨⟨?_, ?_⟩, ?_⟩ <;> decide +kernel

/-- The state message of tick 99,999 with a TOD of one second, and the one that agrees with the reset time state. -/
def stateMsg (sec : Byte) : List Byte :=
  [1, 0, 0, 0, 0, 0, 0, 0] ++ leBytes 8 99999 ++ zeros 6 ++ [sec] ++ zeros 5 ++ leBytes 6 0x47AE147AE148 ++ zeros 10

theorem witness_DepartureTimes_messages :
    (byteAt (stateMsg 1) 0).toNat = 1 ∧ standby.twin.st = .standby ∧
    timeDiffers standby (timeOfMessage (stateMsg 1)).1 (timeOfMessage (stateMsg 1)).2 = true ∧
    ((run (.time (stateMsg 1)) standby).time.adoptAt.map (·.1)) = [99999] ∧
    timeDiffers standby (timeOfMessage (stateMsg 0)).1 (timeOfMessage (stateMsg 0)).2 = false ∧
    (run (.time (stateMsg 0)) standby).time = standby.time ∧
    regVal (run (.time (stateMsg 1)) standby) .TIME_CHECK_MISMATCH_CNT 0 = 1 ∧
    (byteAt (2 :: zeros 7 ++ [0, 0, 2, 1] ++ leBytes 4 7 ++ leBytes 4 8 ++ leBytes 4 9) 0).toNat = 2 ∧
    tsPending hearing (leVal (slice (2 :: zeros 7 ++ [0, 0, 2, 1] ++ leBytes 4 7 ++ leBytes 4 8 ++ leBytes 4 9) 8 4) / 65536) = some report ∧
    (run (.time (2 :: zeros 7 ++ [0, 0, 2, 1] ++ leBytes 4 7 ++ leBytes 4 8 ++ leBytes 4 9)) hearing).time.fifo =
      [(0x1020000, 7, 8, 9)] := by decide +kernel

/-- A time state of tick `k` to adopt. -/
def adopting (k : Nat) : State := { standby with time := { standby.time with adoptAt := [(k, { tod := 5 })] } }

theorem witness_DepartureTimes_adoption :
    (adopting 99744).time.adoptAt = [(99744, { tod := 5 })] ∧ (∀ a ∈ (adopting 99744).time.acts, a.1 ≤ 99744) ∧
    (run .timeStateAdopt (adopting 99744)).time.adoptAt = [] ∧
    (run .timeStateAdopt (adopting 99744)).time.core = Nat.repeat advanceCore 256 { tod := 5 } ∧
    (run .timeStateAdopt (adopting 99745)).time.adoptAt = [(99745, { tod := 5 })] := by decide +kernel

/-! ### Stoves, programs and retirement -/

/-- The groups 0, 1 and 16 powered, with stoves `q`, homes on stoves 3 and 4. -/
def stoves (q : FMap Stove) : State :=
  { up with
    prog := { up.prog with active := some (imageWith 0) }
    hob := { up.hob with
      stoves := q
      groups := [(0, { powered := true, freq := 8 }), (1, { powered := true, freq := 8 }), (16, { powered := true, freq := 8 })]
      homeBase := [3, 4] } }

/-- Stove 3 in state `x`, the others parked. -/
def stovesWith (x : Stove) : State := stoves [(3, x)]

/-- Frames 20 and 21 wait for dispatch; the first one's home has no room. -/
def dispatching : State :=
  let s := stoves [(3, { st := .inService, queue := List.replicate 2048 1 }), (4, { st := .inService })]
  { s with hob := { s.hob with
      flight := [{ inflight with id := 20, emberLane := 2 }, { inflight with id := 21, emberLane := 5 }]
      dispWait := [20, 21] } }

theorem witness_InvocationsStart_dispatch :
    dispatching.hob.dispWait = [20] ++ 21 :: [] ∧ flightOf dispatching 21 = some { inflight with id := 21, emberLane := 5 } ∧
    homeOf dispatching 5 = 4 ∧ (stoveOf dispatching 4).st = .inService ∧ (stoveOf dispatching 4).queue.length < 2048 ∧
    homeOf dispatching 2 = 3 ∧ ¬(stoveOf dispatching 3).queue.length < 2048 ∧ (run .dispatchQueueEntry dispatching).hob.dispWait = [20] ∧
    (stoveOf (run .dispatchQueueEntry dispatching) 4).queue = [21] ∧
    (run .dispatchQueueEntry (run .dispatchQueueEntry dispatching)).hob.dispWait = [20] := by decide +kernel

/-- Stove 3 with frame 20 queued and firing 21 waiting. -/
def queued : State :=
  let s := stovesWith { st := .inService, queue := [20, 30], timerQueue := [21] }
  { s with
    prog := { s.prog with active := some { imageWith 0 with entry := 1, slots := [⟨3, 100, 0, 50, 0, false, 0, none⟩] } }
    hob := { s.hob with flight := [{ inflight with id := 20 }, { inflight with id := 21, kind := .timer 0 }] } }

/-- The timers' thread of stove 3. -/
def timerThr : ThreadRef := { stove := 3, hob := 0, thr := 7 }

theorem witness_InvocationsStart :
    threadAt queued (threadKey thr) = none ∧ flightOf queued 20 = some { inflight with id := 20 } ∧
    imageOf queued inflight.gen = queued.prog.active ∧ (stoveOf queued 3).st = .inService ∧ timerThread thr = false ∧
    threadAt (run (.invocationStart thr) queued) (threadKey thr) =
      some { inv := 20, pc := 1, fe := List.replicate 32 0, res := { entryId := 0 } } ∧
    (stoveOf (run (.invocationStart thr) queued) 3).queue = [30] ∧ timerThread timerThr = true ∧
    threadAt (run (.invocationStart timerThr) queued) (threadKey timerThr) =
      some { inv := 21, pc := 3, fe := List.replicate 32 0, res := { entryId := 257 } } ∧
    (stoveOf (run (.invocationStart timerThr) queued) 3).timerQueue = [] := by
  decide +kernel

/-- A thread of stove 4. -/
def thief : ThreadRef := { stove := 4, hob := 0, thr := 0 }

/-- Stove 3 has `n` frames, stove 4 none. -/
def stealing (n : Nat) : State :=
  { queued with hob := { queued.hob with stoves :=
      [(3, { st := .inService, queue := 30 :: 20 :: List.replicate (n - 2) 40 }), (4, { st := .inService })] } }

theorem witness_InvocationsStart_steal :
    regFld up .STOVE_CFG 0 15 4 = 8 ∧ stealVictim (stealing 7) 4 = none ∧ stealVictim (stealing 8) 4 = some 3 ∧
    (stoveOf (stealing 8) 4).queue = [] ∧ timerThread thief = false ∧ 20 ∈ (stoveOf (stealing 8) 3).queue ∧
    (∀ g ∈ (stoveOf (stealing 8) 3).queue, 20 ≤ g) ∧
    (threadAt (run (.steal thief) (stealing 8)) (threadKey thief)).map (·.inv) = some 20 ∧
    (stoveOf (run (.steal thief) (stealing 8)) 3).queue = 30 :: List.replicate 6 40 ∧
    regVal (run (.steal thief) (stealing 8)) .STOVE_STOLEN_CNT 4 = 1 := by decide +kernel

/-- The stoves in service are right. -/
def setRight (t : State) : Bool :=
  let e := (eligible t).take 64
  (List.range 68).all fun i => decide ((stoveOf t i).st = .inService) == e.contains i

theorem witness_StoveSet :
    (stoveOf queued 3).st ≠ .failed ∧ stoveWork queued 3 = [20, 30, 21] ∧ flightOf queued 20 = some { inflight with id := 20 } ∧
    (stoveOf (run (.stoveFail 3) queued) 3).st = .failed ∧
    setRight (run (.stoveFail 3) queued) = true ∧ regBit (run (.stoveFail 3) queued) .STOVE_EVENT 0 1 = true ∧
    (flightOf (run (.stoveFail 3) queued) 20).map (fun f => (f.ended, f.result.map (·.disp))) = some (true, some .lost) ∧
    (stoveOf (stovesWith { st := .failed }) 3).st = .failed ∧ stoveIdle (stovesWith { st := .draining }) 3 = true ∧
    (groupOf (stovesWith { st := .draining }) (3 / 4)).parking = false ∧
    (stoveOf (run (.stoveDrained 3) (stovesWith { st := .draining })) 3).st = .inService ∧
    setRight (run (.stoveDrained 3) (stovesWith { st := .draining })) = true ∧
    stoveIdle (stovesWith { st := .draining, queue := [1] }) 3 = false := by decide +kernel

/-- Stove 3 drained, its group in state `g`. -/
def drained (g : Group) : State :=
  let s := stovesWith { st := .draining }
  { s with hob := { s.hob with groups := FMap.put s.hob.groups 0 g } }

theorem witness_StoveSet_drained :
    (groupOf (drained { powered := true, parking := true }) (3 / 4)).parking = true ∧
    (stoveOf (run (.stoveDrained 3) (drained { powered := true, parking := true })) 3).st = .draining ∧
    (groupOf (drained { powered := true, sweeping := true }) (3 / 4)).sweeping = true ∧
    (stoveOf (run (.stoveDrained 3) (drained { powered := true, sweeping := true })) 3).st = .sweep := by decide +kernel

/-- All stoves as they come into service, a write of `v` to STOVE_GROUP_CFG of group 1 due. -/
def groupWrite (v : Word) (s : State) : State := due (Reg.STOVE_GROUP_CFG.addr 1) v.toNat s

/-- The stoves of group 1 in state `x`, the group in state `g`. -/
def groupIn (x : StoveState) (g : Group) : State :=
  let s := stoves [(5, { st := x }), (7, { st := x })]
  { s with hob := { s.hob with groups := FMap.put s.hob.groups 1 g } }

/-- Group 1 in service, its H and Q in force. -/
def serves : State :=
  let s := groupIn .inService { powered := true, freq := 8 }
  { s with adm := { s.adm with hForce := (ownCapacity s).1, qForce := (ownCapacity s).2 } }

theorem witness_GroupClockAndPower :
    Claims.WriteDue (groupWrite 10 (stovesWith {})) .STOVE_GROUP_CFG 1 10 ∧ (10 : Word).getLsbD 4 = false ∧
    (groupOf (stovesWith {}) 1).switchTo = none ∧ wfld (10 : Word) 3 0 = 10 ∧ 10 ≤ freqLimit (stovesWith {}) ∧
    (groupOf (stovesWith {}) 1).freq < 10 ∧
    (groupOf (run .hostWriteApply (groupWrite 10 (stovesWith {}))) 1).switchTo = some (10, 100000) ∧
    Claims.WriteDue (groupWrite 4 serves) .STOVE_GROUP_CFG 1 4 ∧
    (groupOf (run .hostWriteApply (groupWrite 4 serves)) 1).qLimit = some 4 ∧
    (groupOf (run .hostWriteApply (groupWrite 4 serves)) 1).switchTo.isSome = true ∧
    (groupOf (run (.clockSwitchDone 1) (run .hostWriteApply (groupWrite 10 (stovesWith {})))) 1).freq = 10 ∧
    (groupOf (run (.clockSwitchDone 1) (run .hostWriteApply (groupWrite 4 serves))) 1).freq = 8 := by
  refine ⟨due_is_due _ .STOVE_GROUP_CFG 1 10 ?_, ?_, ?_, ?_, ?_, ?_, ?_, due_is_due _ .STOVE_GROUP_CFG 1 4 ?_, ?_⟩ <;> decide +kernel

/-- Group 1 parked. -/
def parked : State := regSet .STOVE_GROUP_CFG 1 0x18 (groupIn .parked { freq := 8 })

theorem witness_GroupClockAndPower_park :
    Claims.WriteDue (groupWrite 0x18 serves) .STOVE_GROUP_CFG 1 0x18 ∧ (0x18 : Word).getLsbD 4 = true ∧
    regBit serves .STOVE_GROUP_CFG 1 4 = false ∧ wfld (0x18 : Word) 3 0 = (groupOf serves 1).freq ∧
    (groupOf serves 1).powered = true ∧ serves.pwr.visit = none ∧
    (groupOf (run .hostWriteApply (groupWrite 0x18 serves)) 1).parking = true ∧
    (stoveOf (run .hostWriteApply (groupWrite 0x18 serves)) 7).st = .draining ∧
    setRight (run .hostWriteApply (groupWrite 0x18 serves)) = true ∧
    (groupOf (groupIn .draining { powered := true, parking := true }) 1).parking = true ∧
    stoveIdle (groupIn .draining { powered := true, parking := true }) 7 = true ∧
    (stoveOf (run (.groupDomainOff 1) (groupIn .draining { powered := true, parking := true })) 7).st = .parked ∧
    tb (run (.groupDomainOff 1) (groupIn .draining { powered := true, parking := true })).pwr.ready 9 = false ∧
    regBit (run (.groupDomainOff 1) (groupIn .draining { powered := true, parking := true })) .PWR_EVENT 0 0 = true := by
  refine ⟨due_is_due _ .STOVE_GROUP_CFG 1 0x18 ?_, ?_⟩ <;> decide +kernel

theorem witness_GroupClockAndPower_wake :
    Claims.WriteDue (groupWrite 8 parked) .STOVE_GROUP_CFG 1 8 ∧ regBit parked .STOVE_GROUP_CFG 1 4 = true ∧
    wfld (8 : Word) 3 0 = (groupOf parked 1).freq ∧ (groupOf parked 1).powered = false ∧ (groupOf parked 1).wakeFrom = none ∧
    (groupOf (run .hostWriteApply (groupWrite 8 parked)) 1).wakeFrom = some 102048 ∧
    (stoveOf (run .hostWriteApply (groupWrite 8 parked)) 7).st = .waking ∧
    (stoveOf (run (.groupWakeReady 1) (groupIn .waking { powered := true, wakeFrom := some 9, joinAt := some 100000 })) 7).st
      = .inService ∧
    setRight (run (.groupWakeReady 1) (groupIn .waking { powered := true, wakeFrom := some 9, joinAt := some 100000 })) = true ∧
    assignTick (groupIn .waking {}) = 100002 ∧
    (groupOf (run (.groupWakeReady 1) (groupIn .waking { powered := true, wakeFrom := some 100002 })) 1).joinAt = some 100002 ∧
    (groupOf (run (.groupWakeReady 1) (groupIn .waking { powered := true, wakeFrom := some 100003 })) 1).joinAt = none := by
  refine ⟨due_is_due _ .STOVE_GROUP_CFG 1 8 ?_, ?_⟩ <;> decide +kernel

/-- Group 1 still drains for a park that is then taken back: stove 5 is idle, stove 7 is not. -/
def unparking : State :=
  let s := regSet .STOVE_GROUP_CFG 1 0x18 (stoves [(5, { st := .draining }), (7, { st := .draining, queue := [1] })])
  { s with hob := { s.hob with groups := FMap.put s.hob.groups 1 { powered := true, parking := true, freq := 8 } } }

theorem witness_GroupClockAndPower_unpark :
    Claims.WriteDue (groupWrite 8 unparking) .STOVE_GROUP_CFG 1 8 ∧ (groupOf unparking 1).parking = true ∧
    (groupOf (run .hostWriteApply (groupWrite 8 unparking)) 1).wakeFrom = some 102048 ∧
    (stoveOf (run .hostWriteApply (groupWrite 8 unparking)) 5).st = .waking ∧
    (stoveOf (run .hostWriteApply (groupWrite 8 unparking)) 7).st = .draining ∧
    (groupOf (drained { powered := true, wakeFrom := some 102048 }) (3 / 4)).wakeFrom ≠ none ∧
    (stoveOf (run (.stoveDrained 3) (drained { powered := true, wakeFrom := some 102048 })) 3).st = .waking := by
  refine ⟨due_is_due _ .STOVE_GROUP_CFG 1 8 ?_, ?_⟩ <;> decide +kernel

/-- A slot that fires at tick 100,000, and the next image scheduled for tick `e`. -/
def timers (e : Nat) : State :=
  let s := stovesWith { st := .inService }
  { s with prog := { s.prog with
      active := some { imageWith 0 with slots := [⟨3, 100, 0, 50, 7, true, 0, none⟩] }
      pendingImg := some { imageWith 0 with gen := 2, k := 99 }, actAt := some (e, 5) } }

theorem witness_ImagesAndTimers :
    (slotDue (timers 100000) 0 100000).isSome = true ∧
    ((run (.timerFire 0) (timers 100000)).hob.flight.map fun f => (f.kind, f.ret, f.ember, f.id)) = [(.timer 0, 100050, some 7, 1)] ∧
    slotDue (run (.timerFire 0) (timers 100000)) 0 100000 = none ∧ slotDue (timers 100000) 1 100000 = none ∧
    ((run .programActivation (timers 100000)).prog.active.map (·.gen)) = some 2 ∧
    (run .programActivation (timers 100000)).adm.kForce = 99 ∧
    ((run .programActivation (timers 100000)).prog.olds.map (·.2)) = [100001 + retDelay up] ∧
    (run .programActivation (timers 100001)).prog.actAt = some (100001, 5) ∧
    (run .oldImageFree { (timers 0) with prog := { (timers 0).prog with olds := [(imageWith 0, 100000), ({ imageWith 0 with gen := 3 }, 100001)] } }).prog.olds
      = [({ imageWith 0 with gen := 3 }, 100001)] := by decide +kernel

/-- Frame `f` in flight; `x` changes the late lists. -/
def retiring (f : Inflight) (s : State) : State := { s with hob := { s.hob with flight := [f], slotsUsed := 1 } }

theorem witness_ResultsAndLateness :
    flightOf (retiring { inflight with result := some {} } up) 9 = some { inflight with result := some {} } ∧
    (flightOf (run (.resultArrive 9) (retiring { inflight with result := some {} } up)) 9).map (·.arrived) = some (some 100000) ∧
    FMap.get none (run (.lateList (100002 % 2 ^ 32) false [3, 5]) paired).hob.latePartner 100002 = some { all := false, pos := [3, 5] } ∧
    inPair paired = true ∧ FMap.get none paired.hob.latePartner 100001 = none ∧ 100001 ∉ paired.hob.retMissing ∧
    (run (.lateListMissing 100001 false) paired).hob.retMissing = [100001] ∧
    regVal (run (.lateListMissing 100001 false) paired) .STOVE_LATELIST_MISS 0 = 1 ∧
    regBit (run (.lateListMissing 100001 true) paired) .STOVE_EVENT 0 4 = true ∧
    (run (.lateListMissing 100001 false) (run (.lateList (100001 % 2 ^ 32) true []) paired)).hob.retMissing = [] := by decide +kernel

/-- A late frame that has held retirement since its retire tick 99,950, its result come at tick 99,990 or not at all. -/
def heldFrame (a : Bool) : Inflight :=
  { inflight with ret := 99950, late := true, heldAt := some 99950, ended := a, arrived := if a then some 99990 else none,
                  result := if a then some {} else none }

/-- Retirement held by that frame. -/
def holding (a : Bool) : State :=
  let s := retiring (heldFrame a) (stovesWith { st := .inService })
  { s with hob := { s.hob with heldFrom := some 9 } }

theorem witness_ResultsAndLateness_held :
    isSolo (holding true) = true ∧ agrees (holding true) = false ∧ underSource (holding true) = false ∧
    flightOf (holding true) 9 = some (heldFrame true) ∧ retireDue (holding true) = [heldFrame true] ∧
    regBit (holding true) .STOVE_CFG 0 16 = false ∧ (run .heldRetireResume (holding true)).hob.heldFrom = none ∧
    flightOf (run .heldRetireResume (holding true)) 9 = none ∧ (run .heldRetireResume (holding true)).hob.slotsUsed = 0 ∧
    retireDue (holding false) = [heldFrame false] ∧ (run .heldRetireResume (holding false)).hob = (holding false).hob ∧
    (heldFrame false).ret + regFld (regSet .STOVE_HOLD_CFG 0 50 (holding false)) .STOVE_HOLD_CFG 0 15 0 ≤ 100000 ∧
    (run .holdTimeout (regSet .STOVE_HOLD_CFG 0 50 (holding false))).hob.heldFrom = none ∧
    (flightOf (run .holdTimeout (regSet .STOVE_HOLD_CFG 0 50 (holding false))) 9).map (·.retired) = some true ∧
    regBit (run .holdTimeout (regSet .STOVE_HOLD_CFG 0 50 (holding false))) .STOVE_EVENT 0 5 = true := by decide +kernel

/-! ### Tables, ember records and the TCAM -/

/-- MBX_CPL enabled with 256 entries at address 0. -/
def ready (s : State) : State := regSet .HOST_RING_CFG 1 0x18 s

/-- The byte of a completion that tells its status. -/
def cplStatus (t : State) : Byte := byteAt (FMap.bytes 0 t.host.hostMem 0 32) 10

/-- Next hop 7 with versions 1 and 2 from tick 99,000 on, its change to complete at tick `d`, a change queued behind it. -/
def changed (d : Nat) (applied : Bool) : State :=
  { up with tbl := { up.tbl with
      nexthops := [(7, { ver := { old := 1, new := 2, eff := 99000 } })]
      changes := [{ key := ⟨2, 7⟩, eff := 99000, done := d, applied := applied, parts := [], ageE := none, queued := some (99500, []) }] } }

/-- With an invocation admitted before tick 99,000 that still runs. -/
def older (s : State) : State := { s with hob := { s.hob with flight := [{ inflight with adm := 98000 }] } }

theorem witness_ChangesComplete :
    ((changeOf (changed 100001 true) ⟨2, 7⟩).map (·.done)) = some 100001 ∧ (run (.changeComplete 2 7) (changed 100001 true)).tbl.changes =
      (changed 100001 true).tbl.changes ∧ (run (.changeComplete 2 7) (changed 100000 false)).tbl.changes = (changed 100000 false).tbl.changes ∧
    verOf (changed 100000 true) ⟨2, 7⟩ = { old := 1, new := 2, eff := 99000 } ∧ runningBefore (changed 100000 true) 99000 = false ∧
    verOf (run (.changeComplete 2 7) (changed 100000 true)) ⟨2, 7⟩ = { old := 2, new := 2, eff := 99000 } ∧
    ((changeOf (run (.changeComplete 2 7) (changed 100000 true)) ⟨2, 7⟩).map fun c => (c.eff, c.done)) =
      some (100000, 100000 + retDelay up) ∧
    runningBefore (older (changed 100000 true)) 99000 = true ∧ vstoreUsed (older (changed 100000 true)) < 65536 ∧
    (run (.changeComplete 2 7) (older (changed 100000 true))).tbl.vstore = [⟨⟨2, 7⟩, 1, 99000⟩] := by decide +kernel

/-- With `n` records in the version store. -/
def stored (n : Nat) (s : State) : State := { s with tbl := { s.tbl with vstore := List.replicate n ⟨⟨2, 8⟩, 1, 99999⟩ } }

theorem witness_ChangesComplete_full :
    65536 ≤ vstoreUsed (stored 65536 (older (changed 100000 true))) ∧ inPair (stored 65536 (older (changed 100000 true))) = false ∧
    inPair { stored 65536 (older (changed 100000 true)) with twin := paired.twin } = true ∧
    vstoreUsed (freeVersions (older (changed 100000 true))) < 65536 ∧
    (run (.versionStoreWait 2 7) (older (changed 100000 true))).tbl.vstore = [⟨⟨2, 7⟩, 1, 99000⟩] := by
  refine ⟨?_, rfl, rfl, ?_, ?_⟩
  · exact Nat.le_of_eq (List.length_replicate ..).symm
  all_goals decide +kernel

/-- Station 0x5000000000001 removed at tick 99,000. -/
def removed : State :=
  { up with tbl := { up.tbl with
      stations := [(11, { key := 5, ver := { old := 0, new := 0, eff := 99000 } }), (12, { key := 6 })]
      changes := [{ key := ⟨0, 5⟩, eff := 99000, done := 100000, applied := true, parts := [], ageE := none, queued := none }] } }

theorem witness_ChangesComplete_removal :
    stationAt removed 5 = some 11 ∧ (verOf removed ⟨0, 5⟩).new.testBit 63 = false ∧
    (run (.changeComplete 0 5) removed).tbl.stations.map (·.1) = [12] := by decide +kernel

/-- Record 7 with a publish scheduled for tick `e`, by a frame or by the host. -/
def publishing (e : Nat) (host : Bool) : State :=
  let c : MbxCmd := { seq := 1, cookie := 9, opcode := 0x20 }
  let s := ready up
  { s with
    tbl := { s.tbl with
      embers := [(7, { pubs := [(5, zeros 32)], sched := if host then none else some (e, List.replicate 32 1),
                       hostSched := if host then [(e, List.replicate 32 1, some c)] else [] })]
      cached := [(0, 2 ^ 20 + 7, 3), (0, 7, 3)] }
    host := { s.host with outstanding := [c] } }

theorem witness_EmberRecords :
    Claims.CplReady (publishing 100000 true) ∧ ((emberOf (publishing 100000 true) 7).hostSched.map (·.1)) = [100000] ∧
    (pubAt (emberOf (run (.publishApply 7) (publishing 100000 true)) 7) 100000) = (100000, List.replicate 32 1) ∧
    (pubAt (emberOf (run (.publishApply 7) (publishing 100000 true)) 7) 99999) = (5, zeros 32) ∧
    (run (.publishApply 7) (publishing 100000 true)).tbl.cached = [(0, 7, 3)] ∧
    (run (.publishApply 7) (publishing 100000 true)).host.outstanding = [] ∧
    (ringOf (run (.publishApply 7) (publishing 100000 true)) 1).prod = 1 ∧
    (emberOf (publishing 100000 false) 7).sched = some (100000, List.replicate 32 1) ∧
    (emberOf (run (.publishApply 7) (publishing 100000 false)) 7).lastPub = some 100000 ∧
    (emberOf (run (.publishApply 7) (publishing 100001 false)) 7).lastPub = none := by
  refine ⟨⟨?_, ?_, ?_⟩, ?_⟩ <;> decide +kernel

/-- A publish of record 7 due, the version that it displaces still needed, with `l` in the version store. -/
def displacing (l : List VersionRec) : State :=
  let s := older (publishing 100000 false)
  { s with tbl := { s.tbl with
      vstore := l, embers := [(7, { pubs := [(99000, zeros 32), (5, zeros 32)], sched := some (100000, List.replicate 32 1) })] } }

theorem displacing_fits (l : List VersionRec) :
    pubFits 7 100000 (List.replicate 32 1) (displacing l) = decide (l.length + 1 ≤ 65536) := rfl

theorem witness_EmberRecords_full :
    (emberOf (displacing (List.replicate 65536 ⟨⟨2, 8⟩, 1, 99999⟩)) 7).sched = some (100000, List.replicate 32 1) ∧
    pubFits 7 100000 (List.replicate 32 1) (displacing (List.replicate 65536 ⟨⟨2, 8⟩, 1, 99999⟩)) = false ∧
    ((emberOf (run (.publishApply 7) (displacing [])) 7).pubs.map (·.1)) = [100000, 99000, 5] := by
  refine ⟨rfl, ?_, ?_⟩
  · rw [displacing_fits, List.length_replicate]; decide
  · decide +kernel

/-- A host ticket on lane 5, the first there. -/
def ticket (w : Option (Bool × List Byte)) : LaneOp :=
  { lane := 5, ticket := 0, record := 7, write := w, cmd := some { seq := 1, cookie := 9, opcode := 0x20 }, bufAddr := 4096, tick := 99990 }

/-- The device with that ticket. -/
def laneState (o : LaneOp) : State :=
  let s := ready up
  { s with
    tbl := { s.tbl with laneOps := [o], embers := [(7, { priv := List.replicate 24 3 })] }
    hob := { s.hob with tickets := [(5, { issued := 1 })] } }

theorem witness_EmberRecords_tickets :
    laneOpReady (laneState (ticket (some (true, zeros 24)))) 5 = some (ticket (some (true, zeros 24))) ∧
    laneOpReady (laneState (ticket none)) 6 = none ∧
    (emberOf (run (.emberHostWrite 5) (laneState (ticket (some (true, List.replicate 24 8))))) 7).priv = List.replicate 24 8 ∧
    (emberOf (run (.emberHostWrite 5) (laneState (ticket (some (false, List.replicate 32 8))))) 7).staging = List.replicate 32 8 ∧
    (ticketsOf (run (.emberHostWrite 5) (laneState (ticket (some (true, zeros 24))))) 5).low = 1 ∧
    laneOpReady (laneState (ticket none)) 5 = some (ticket none) ∧ Claims.CplReady (laneState (ticket none)) ∧
    Claims.cplAt (laneState (ticket none)) + 32 ≤ (ticket none).bufAddr ∧
    (FMap.bytes 0 (run (.privateHalfRead 5) (laneState (ticket none))).host.hostMem 4096 96).drop 32 =
      List.replicate 24 3 ++ zeros 40 ∧ (run (.privateHalfRead 5) (laneState (ticket none))).tbl.laneOps = [] := by
  refine ⟨?_, ?_, ?_, ?_, ?_, ?_, ⟨?_, ?_, ?_⟩, ?_⟩ <;> decide +kernel

/-- A transaction in state `x` with effect tick `e`; entry 3 is a member of both slots, entry 4 of slot 0. -/
def txn (x : TxnState) (e : Nat) : State :=
  { up with tcam := { up.tcam with
      txn := x, txnE := e, courses := [(0, 5), (16, 6)]
      entries := [(3, { m0 := true, m1 := true }), (4, { m0 := true })] } }

theorem witness_TcamTransactions :
    (txn .committed 100000).tcam.txn = .committed ∧ (txn .committed 100000).tcam.slot ≤ 1 ∧
    (run .tcamTxnApply (txn .committed 100000)).tcam.slot = 1 ∧ slotAt (run .tcamTxnApply (txn .committed 100000)) 99999 = 0 ∧
    slotAt (run .tcamTxnApply (txn .committed 100000)) 100000 = 1 ∧ (run .tcamTxnApply (txn .committed 100001)).tcam.slot = 0 ∧
    (txn .completing 99000).tcam.txnE + retDelay up ≤ 100000 ∧ runningBefore (txn .completing 99000) 99000 = false ∧
    (run .tcamTxnIdle (txn .completing 99000)).tcam.txn = .idle ∧
    memberOf (tcamEntry (run .tcamTxnIdle (txn .completing 99000)) 3) 1 = false ∧
    memberOf (tcamEntry (run .tcamTxnIdle (txn .completing 99000)) 3) 0 = true ∧
    courseVal (run .tcamTxnIdle (txn .completing 99000)) 0 0 = 5 ∧ courseVal (run .tcamTxnIdle (txn .completing 99000)) 1 0 = 0 ∧
    runningBefore (older (txn .completing 99000)) 99000 = true ∧
    (run .tcamTxnIdle (older (txn .completing 99000))).tcam.txn = .completing ∧
    (run .tcamTxnIdle (txn .completing 99999)).tcam.txn = .completing := by decide +kernel

/-- Row 2 of firebrick 1 under repair since tick `k`, its entry suppressed, and a move of position 3 to spare 240 loaded for tick `k`. -/
def repairing (k : Nat) : State :=
  { up with tcam := { up.tcam with repair := [(1, 2, k, 514)], suppressed := [514, 515], moves := [(3, 240, k)] } }

theorem witness_TcamTransactions_repair :
    (repairing 99999).tcam.repair = (1, 2, 99999, 514) :: [] ∧ (run (.tcamScrubRepair true) (repairing 99999)).tcam.suppressed = [515] ∧
    (run (.tcamScrubRepair true) (repairing 100000)).tcam.suppressed = [514, 515] ∧
    (run (.tcamScrubRepair false) (repairing 99999)).tcam.suppressed = [514, 515] ∧ up.tcam.repair = [] ∧
    (repairing 100000).tcam.moves = [((3 : Fin 240).val, 240, 100000)] ∧
    brickAt (run (.brickPositionMove 3) (repairing 100000)) 3 = 240 ∧
    brickAt (run (.brickPositionMove 3) (repairing 100001)) 3 = 3 := by decide +kernel

/-! ### The buffer pool and egress -/

/-- Slice 1 with cache `c` and ring `r`, its first cell allocated. -/
def slice1 (c r : List (Nat × Nat)) : State :=
  { up with buf := { up.buf with slices := [(1, { cache := c, ring := r })], alloc := [(32768, true)] } }

theorem witness_BufferCells :
    cellAlloc (slice1 [(40000, 2)] []) 32768 = true ∧ cellAlloc (slice1 [(40000, 2)] []) 32769 = false ∧
    Claims.cellsIn (sliceOf (run (.cellReturn 32768 false) (slice1 [(40000, 2)] [])) 1).cache = [40000, 40001, 32768] ∧
    cellAlloc (run (.cellReturn 32768 false) (slice1 [(40000, 2)] [])) 32768 = false ∧
    regFld (run (.cellReturn 32769 false) (slice1 [(40000, 2)] [])) .BUF_DOUBLE_FREE_CNT 0 15 0 = 1 ∧
    inPair { slice1 [] [] with twin := paired.twin } = true ∧
    (run (.cellReturn 32769 false) { slice1 [] [] with twin := paired.twin }).twin.fault.isSome = true ∧
    (sliceOf (run (.cellReturn 32768 true) (slice1 [(40000, 2)] [])) 1).retired = 1 ∧
    regBit (run (.cellReturn 32768 true) (slice1 [(40000, 2)] [])) .BIST_EVENT 0 3 = true ∧
    runLen (sliceOf (slice1 [(40000, 255)] [(50000, 300)]) 1).cache < 256 ∧
    (sliceOf (run (.ashRefill 1) (slice1 [(40000, 255)] [(50000, 300)])) 1) = { cache := [(40000, 255), (50000, 256)], ring := [(50256, 44)] } ∧
    256 ≤ runLen (sliceOf (slice1 [(40000, 256)] [(50000, 300)]) 1).cache ∧ 768 < runLen (sliceOf (slice1 [(40000, 769)] []) 1).cache ∧
    (sliceOf (run (.ashSpill 1) (slice1 [(40000, 769)] [])) 1) = { cache := [(40256, 513)], ring := [(40000, 256)] } ∧
    runLen (sliceOf (slice1 [(40000, 768)] []) 1).cache ≤ 768 := by decide +kernel

theorem witness_BufferCells_full :
    1024 ≤ runLen (sliceOf (slice1 [(40000, 1024)] []) 1).cache ∧
    sliceOf (run (.cellReturn 32768 false) (slice1 [(40000, 1024)] [])) 1 =
      { cache := [(40256, 768), (32768, 1)], ring := [(40000, 256)] } := by decide +kernel

/-- A residue copy of frame 9 for queue 24, entered at tick `k`, timing out `w` ticks later. -/
def residual (k w : Nat) : State :=
  let s := regSet .BUF_QUEUE_CFG 24 1000 (withPort 3 { flushed := false, up := true } up)
  { s with buf := { s.buf with
      residue := [⟨9, 24, 2, 5, k, w⟩], replBudget := 4, frames := [(9, some { refs := 2, copies := 2 })] } }

theorem witness_BufferCells_residue :
    (100000 - 99984) % 16 = 0 ∧ (portOf (residual 99984 500) (24 / 8)).flushed = false ∧ mcReady (residual 99984 500) 24 2 false = true ∧
    (run .residueRetry (residual 99984 500)).buf.residue = [] ∧
    ((queueOf (run .residueRetry (residual 99984 500)) 24).copies.map fun c => (c.frame, c.cells)) = [(9, 2)] ∧
    (run .residueRetry (residual 99985 500)).buf.residue = [⟨9, 24, 2, 5, 99985, 500⟩] ∧
    (run .residueTimeout (residual 99500 500)).buf.residue = [] ∧
    (storedOf (run .residueTimeout (residual 99500 500)) 9).map (fun x => (x.refs, x.copies)) = some (1, 1) ∧
    (run .residueTimeout (residual 99501 500)).buf.residue = [⟨9, 24, 2, 5, 99501, 500⟩] ∧
    (portOf (withPort 3 {} (residual 99501 500)) (24 / 8)).up = false ∧
    (run .residueTimeout (withPort 3 {} (residual 99501 500))).buf.residue = [] := by decide +kernel

/-- A port with two frames fetched back, a queue with a copy fetched back, none of them on die. -/
def fetching : State :=
  { withPort 3 { tx := [{ granted with queue := 1 }, { granted with queue := 1, offDie := true }] } up with
    buf := { up.buf with queues := [(24, { copies := [{ frame := 1 }, { frame := 2, offDie := true }] })] } }

theorem witness_BufferCells_fetch :
    (portOf fetching (25 / 8)).tx = [{ granted with queue := 1 }] ++ { granted with queue := 1, offDie := true } :: [] ∧
    ((portOf (run (.bankFetchArrive 25) fetching) 3).tx.map (·.offDie)) = [false, false] ∧
    (∀ g ∈ (portOf fetching (24 / 8)).tx, g.offDie = false ∨ g.queue ≠ 24 % 8) ∧
    (queueOf fetching 24).copies = [{ frame := 1 }] ++ { frame := 2, offDie := true } :: [] ∧
    ((queueOf (run (.bankFetchArrive 24) fetching) 24).copies.map (·.offDie)) = [false, false] := by decide +kernel

/-- Meter 6 with a write of effect tick `e`. -/
def metering (e : Nat) : State :=
  { up with egr := { up.egr with meters := [(6, { pendE := some e, writes := [(4, 2 ^ 63 + 5, 6, 2 ^ 24 * 3 + 7)] })] } }

/-- With a write queued behind it, asked for at tick 99,500, and the host write of the first one waiting. -/
def meteringOn : State :=
  let c : MbxCmd := { seq := 1, cookie := 9, opcode := 0x20 }
  let s := ready (metering 99000)
  { s with
    writes := [{ eff := 99000, seq := 4, cmd := some c, act := .table 6 [] }]
    egr := { s.egr with meters := [(6, { pendE := some 99000, writes := [(4 * 65536, 2 ^ 63 + 5, 6, 0)], queued := [(99500, 5, 1, 2, 3)] })] }
    host := { s.host with outstanding := [c] } }

theorem witness_EgressEffects_queued :
    (s : State) → s = meteringOn → (meterOf s 6).queued = [(99500, 5, 1, 2, 3)] ∧ (s.writes.map hostOrd) = [4 * 65536] ∧
    Claims.CplReady s ∧ (meterOf (run (.meterWriteEffect 6) s) 6).pendE = some 100000 ∧
    (meterOf (run (.meterWriteEffect 6) s) 6).writes = [(5, 1, 2, 3)] ∧ (meterOf (run (.meterWriteEffect 6) s) 6).cir = 5 ∧
    (run (.meterWriteEffect 6) s).writes = [] ∧ (run (.meterWriteEffect 6) s).host.outstanding = [] := by
  rintro s rfl
  refine ⟨?_, ?_, ⟨?_, ?_, ?_⟩, ?_⟩ <;> decide +kernel

theorem witness_EgressEffects :
    (meterOf (metering 99000) 6).pendE = some 99000 ∧ (meterOf (metering 99000) 6).writes = [(4, 2 ^ 63 + 5, 6, 2 ^ 24 * 3 + 7)] ∧ 99000 + retDelay up ≤ 100000 ∧
    meterOf (run (.meterWriteEffect 6) (metering 99000)) 6 =
      { cir := 5, valid := true, pir := 6, cbs := 7, ebs := 3, tc := 7 * 65536, te := 3 * 65536, last := 100000 } ∧
    (meterOf (run (.meterWriteEffect 6) { metering 100000 with boot := safeUp.boot }) 6).pendE = none ∧
    (run (.meterWriteEffect 6) (older (metering 99000))).egr.meters = (metering 99000).egr.meters ∧
    (run (.meterWriteEffect 6) (metering 99999)).egr.meters = (metering 99999).egr.meters := by decide +kernel

/-- A mirror copy heads the queue of session 5, whose destination is port 3, and session 5 is next. -/
def mirroring : State :=
  let s := regSet .EGR_MIR_CFG 5 0x300 up
  { s with
    buf := { s.buf with queues := [(mqOf 5, { copies := [{ frame := 4 }, { frame := 6 }] })] }
    egr := { s.egr with mirNext := 5 } }

theorem witness_EgressEffects_mirrors :
    mirDest mirroring 5 = 3 ∧ (schedOf mirroring 3).mirSlot = none ∧
    (∀ k, k < 16 → k ≠ 5 → (queueOf mirroring (mqOf k)).copies = []) ∧
    (schedOf (run .mirrorMacTake mirroring) 3).mirSlot = some { frame := 4 } ∧
    (queueOf (run .mirrorMacTake mirroring) (mqOf 5)).copies = [{ frame := 6 }] ∧ (run .mirrorMacTake mirroring).egr.mirNext = 6 ∧
    (∀ m, m < 16 → (queueOf up (mqOf m)).copies = [] ∨ (schedOf up (mirDest up m)).mirSlot.isSome = true) := by decide +kernel

/-- The tick count 65,536, the end of an energy interval. -/
def interval : State := { up with clk := { up.clk with tick := 65536 } }

theorem witness_EgressEffects_energy :
    interval.clk.tick % 65536 = 0 ∧ enabledPorts interval = [] ∧ interval.egr.cyclesRun = [] ∧ interval.egr.ctrPend = [] ∧
    FMap.get 0 (run (.energyInterval [1, 2, 3]) interval).pwr.energy 2 = 3 ∧
    (pairOf (run (.energyInterval [1, 2, 3]) interval) (fixedKey 15 2)).1 = 3 ∧ up.clk.tick % 65536 ≠ 0 ∧
    [(0, 1), (1, 2)].map (·.2) = [1, 2] ∧ divideEnergy 10 [(0, 1), (1, 2)] = ([(0, 3), (1, 6)], 1) := by decide +kernel

/-! ### The twins -/

/-- A device that may pair, with a pairing key, in pairing state `p`. -/
def pairs (st : TwinState) (p : Pairing) : State :=
  let s := regSet .TWIN_CFG 0 0x00030403 up
  { s with
    clk := { s.clk with forwarding := decide (st = .solo) }
    twin := { s.twin with st := st, groups := 3, pair := p }
    boot := { s.boot with keys := [(0, some (List.replicate 32 7, 1))] } }

/-- The HELLO body of a twin on side B that does not forward. -/
def helloB : List Byte := helloBody { pairs .pairing {} with twin := { up.twin with side := true } } (zeros 32)

/-- The pairing exchange after both HELLOs, begun at tick `k`. -/
def exchanged (k : Nat) : Pairing :=
  { started := some k, nonce := zeros 32, hello := helloB, sentHello := helloBody (pairs .solo {}) (zeros 32) }

theorem witness_TwinPairing_hello :
    mayPair (pairs .solo {}) = true ∧ helloB.length = 176 ∧ (pairs .solo {}).twin.st = .solo ∧ helloFlag helloB 0 = true ∧
    (run (.hello helloB (zeros 32)) { pairs .solo {} with twin := { (pairs .solo {}).twin with side := true } }).twin.lastRefusal = 1 ∧
    min 2 (leAt (3 :: 3 :: helloB.drop 2) 1 1) < max 1 (leAt (3 :: 3 :: helloB.drop 2) 0 1) ∧
    (run (.hello (3 :: 3 :: helloB.drop 2) (zeros 32)) (pairs .solo {})).twin.lastRefusal = 2 ∧
    max 1 (leAt helloB 0 1) ≤ min 2 (leAt helloB 1 1) ∧ pairKey (pairs .solo {}) = some (List.replicate 32 7) ∧
    pairKey { pairs .solo {} with boot := up.boot } = none ∧
    ((run (.hello helloB (zeros 32)) { pairs .solo { exchanged 99999 with hello := [] } with boot := up.boot }).out.flue.map
      fun m => m.body) = [zeros 16] ∧
    (pairs .solo {}).twin.pair.started = none ∧ (exchanged 99999).started.isSome = true ∧
    mayPair up = false ∧ (zeros 175).length ≠ 176 := by decide +kernel

/-- The tag that the partner's CONFIRM carries; with a byte more, it is no tag. -/
def goodTag : List Byte :=
  gcmTag (List.replicate 32 7) (slice (exchanged 99999).hello 128 12) (bothHellos (pairs .solo (exchanged 99999))) []

theorem witness_TwinPairing_confirm :
    (exchanged 99999).hello ≠ [] ∧ (exchanged 99999).passed = false ∧ pairKey (pairs .solo (exchanged 99999)) = some (List.replicate 32 7) ∧
    gcmTag (List.replicate 32 7) (slice (exchanged 99999).hello 128 12) (bothHellos (pairs .solo (exchanged 99999))) [] = goodTag ∧
    gcmTag (List.replicate 32 7) (slice (exchanged 99999).hello 128 12) (bothHellos (pairs .solo (exchanged 99999))) [] ≠ 0 :: goodTag ∧
    refusalAfterAuth (pairs .solo (exchanged 99999)) = none ∧
    refusalAfterAuth (pairs .solo { exchanged 99999 with hello := helloB.set 28 9 }) = some 8 ∧
    (run (.confirm (zeros 16) 0) { pairs .solo (exchanged 99999) with boot := up.boot }).twin.lastRefusal = 3 ∧
    (run (.confirm (zeros 16) 0) { pairs .pairing (exchanged 99999) with boot := up.boot }).twin.st = .solo ∧
    (exchanged 99999).master = false ∧ masterOver (exchanged 99999).sentHello helloB = true := by
  refine ⟨?_, ?_, ?_, rfl, (List.cons_ne_self _ _).symm, ?_, ?_, ?_⟩ <;> decide +kernel

/-- A joiner that has passed pairing, the next pulse's count known as `n`. -/
def joiner (n : Option Nat) : Pairing := { exchanged 99999 with passed := true, syncTick := n }

/-- Two HELLOs of a cold start: neither twin forwards. -/
def cold (n : Option Nat) : Pairing :=
  { joiner n with sentHello := helloBody (pairs .pairing {}) (zeros 32), hello := helloB }

theorem witness_TwinPairing_times :
    (run .pairingTimeout (pairs .solo { exchanged 99999 with started := some 0 })).twin.pair.started = some 0 ∧
    (run .pairingTimeout { pairs .solo (exchanged 99999) with clk := { up.clk with tick := 2053124 } }).twin.lastRefusal = 12 ∧
    (run .pairingTimeout { pairs .solo (exchanged 99999) with clk := { up.clk with tick := 2053123 } }).twin.lastRefusal = 0 ∧
    (run (.pairingRetry (zeros 32)) (pairs .solo { retryAt := some 100000 })).twin.pair.started = some 100000 ∧
    (run (.pairingRetry (zeros 32)) (pairs .solo { retryAt := some 100001 })).twin.pair.started = none ∧
    (joiner none).passed = true ∧ (joiner none).master = false ∧ (joiner none).synced = false ∧
    (run (.tickSync 500) (pairs .solo (joiner none))).twin.pair.syncTick = some 500 ∧
    isCold (joiner (some 500)).sentHello helloB = false ∧ isCold (cold none).sentHello helloB = true ∧
    (run .tsyncPulse (pairs .pairing (cold (some 500)))).clk.tick = 500 ∧
    (run .tsyncPulse (pairs .pairing (cold (some 500)))).twin.pair.coldAt = some 1524 ∧
    ((run .tsyncPulse { pairs .pairing (cold (some 500)) with ports := [(3, { lastDown := 99990 })] }).ports.map (·.2.lastDown)) = [490] ∧
    (run .tsyncPulse (pairs .solo (joiner (some 500)))).twin.st = .syncing := by
  refine ⟨?_, ?_, ?_, ?_, ?_⟩ <;> decide +kernel

/-- A cold start at tick `c`. -/
def starting (c : Nat) : State := pairs .pairing { cold (some 500) with synced := true, coldAt := some c }

theorem witness_TwinPairing_start :
    (starting 100000).twin.pair.coldAt = some 100000 ∧ (starting 100000).twin.st = .pairing ∧ (starting 100000).twin.pair.synced = true ∧
    (run .coldStart (starting 100000)).twin.st = .active ∧ (run .coldStart (starting 100000)).twin.pairSince = 100000 ∧
    (run .coldStart (starting 100000)).clk.forwarding = true ∧ (run .coldStart (starting 100001)).twin.st = .pairing ∧
    (pairs .solo {}).twin.groups.testBit 1 = true ∧ (run (.flueLinkChange 1 false) (pairs .solo {})).twin.groups = 1 ∧
    (run (.flueLinkChange 0 true) up).twin.pair.retryAt = some 100000 := by decide +kernel

/-- A pair whose digest of tick `k` is `a`. -/
def digested (s : State) (k a : Nat) : State := { s with twin := { s.twin with digests := [(k, a)] } }

theorem witness_TwinFaultsAndRoles_digests :
    Claims.Near paired 99998 ∧ inPair paired = true ∧ (run (.keepalive 100000) paired).twin.heard = 100000 ∧
    FMap.find? paired.twin.digests 99998 = none ∧
    FMap.get none (run (.digest 99998 7 [] 4) paired).twin.partnerDigests 99998 = some 7 ∧
    FMap.find? (digested paired 99998 7).twin.digests 99998 = some 7 ∧
    regVal (run (.digest 99998 8 [] 4) (digested paired 99998 7)) .TWIN_DIGEST_MISMATCH_CNT 0 = 1 ∧
    (run (.digest 99998 8 [] 4) (digested standby 99998 7)).twin.fault = some (9, 100000, 100005) ∧
    (digested paired 99995 7).twin.digests = [(99995, 7)] ∧ 99995 + 5 = (digested paired 99995 7).clk.tick ∧
    (run (.digestMissing 99995) (digested paired 99995 7)).twin.digests = [] ∧
    (run (.digestMissing 99996) (digested paired 99996 7)).twin.digests = [(99996, 7)] := by
  refine ⟨⟨?_, ?_⟩, ?_⟩ <;> decide +kernel

/-- A joiner that warms, and a source, whose digest of tick 99,998 is 7. -/
def checking (source : Bool) : State :=
  let s := digested up 99998 7
  { s with twin := { s.twin with st := if source then .solo else .warming, source := source, goodDigests := 3 } }

theorem witness_TwinFaultsAndRoles_checking :
    digesting paired = true ∧ digesting up = false ∧ paired.twin.pairSince ≤ 99998 ∧
    (run (.digest 99998 7 [] 6) up).twin.partnerState = 6 ∧ digesting (checking true) = true ∧ digesting (checking false) = true ∧
    (run (.digest 99998 7 [] 3) (checking true)).twin.goodDigests = 4 ∧
    (run (.digest 99998 8 [] 3) (checking true)).twin.failNow = some 4 ∧ (run (.digest 99998 8 [] 4) (checking false)).twin.failNow = some 4 ∧
    (run (.digest 99998 8 [] 4) (checking false)).twin.fault = none ∧
    countsAsStandby { standby with twin := { standby.twin with partnerState := 4 } } = true ∧ standby.twin.partnerFault = none ∧
    countsAsStandby { paired with twin := { paired.twin with partnerState := 5 } } = false ∧
    (run (.digest 99998 8 [] 5) (digested paired 99998 7)).twin.fault = none := by decide +kernel

theorem witness_TwinFaultsAndRoles_messages :
    (portOf (run (.detect [{ port := 3, kind := 2, tick := 99999 }]) paired) 3).partnerAt = [(99999 + admDelay up, true)] ∧
    (portOf (run (.detect [{ port := 3, kind := 1, tick := 99999 }]) paired) 3).partnerAt = [(99999 + admDelay up, false)] ∧
    (portOf (run (.detect [{ port := 3, kind := 3, tick := 99999 }]) paired) 3).ctRaiseAt = [99999 + regFld up .TWIN_CFG 0 15 8] ∧
    (run (.faultMsg 100003 4 9 [1, 2]) paired).twin.partnerFault = some (4, 9, 100003) ∧
    (run (.faultMsg 100003 4 9 [1, 2]) paired).twin.lastFaultMsg = [4, 0, 0, 0, 9, 0, 0, 0, 1, 2, 0, 0, 0, 0, 0, 0] := by decide +kernel

/-- The standby heard its partner last at tick `k`; a FAULT of the partner with its tick. -/
def silent (k : Nat) (f : Option (Nat × Nat × Nat)) : State := { standby with twin := { standby.twin with heard := k, partnerFault := f } }

/-- SOLO by silence since tick `k`. -/
def unconfirmed (k : Nat) : State := { up with twin := { up.twin with bySilence := true, soloSince := k } }

/-- A twin of a pair that has found itself faulty, to stop at tick `d`. -/
def faulty (d : Nat) : State := { paired with twin := { paired.twin with fault := some (3, 99990, d) } }

theorem witness_TwinFaultsAndRoles_solo :
    (silent 99995 none).twin.heard + 4 < 100000 ∧ (run .partnerAbsent (silent 99995 none)).twin.st = .solo ∧
    (run .partnerAbsent (silent 99995 none)).twin.bySilence = true ∧ (run .partnerAbsent (silent 99995 none)).twin.soloBy411 = true ∧ (run .partnerAbsent (silent 99996 none)).twin.st = .standby ∧
    (run .partnerAbsent (silent 99999 (some (3, 1, 100000)))).twin.st = .solo ∧
    (run .partnerAbsent (silent 99999 (some (3, 1, 100001)))).twin.st = .standby ∧
    (run .roleUnconfirmed (unconfirmed 99023)).twin.st = .diverged ∧ (run .roleUnconfirmed (unconfirmed 99023)).twin.lastCause = 10 ∧
    (run .roleUnconfirmed (unconfirmed 99024)).twin.st = .solo ∧ (run .demotion (faulty 100000)).twin.st = .diverged ∧
    (run .demotion (faulty 100000)).clk.forwarding = false ∧ (run .demotion (faulty 100001)).twin.st = .active := by decide +kernel

/-- The accepted level of TWIN_ROLE last changed at tick `k`, at tick 300,000. -/
def role (k : Option Nat) : State :=
  { paired with clk := { paired.clk with tick := 300000 }, twin := { paired.twin with roleSince := k, heard := 300000 } }

/-- The standby has asked to swap, its last digest mismatch at tick `m`; a request high since `k`, at tick 20,000,000. -/
def swapping (k : Option Nat) : State :=
  { standby with
    clk := { standby.clk with tick := 20000000 }
    twin := { standby.twin with swapAsked := true, swapReq := k, lastMismatch := some 468750, heard := 20000000 } }

theorem witness_TwinFaultsAndRoles_roles :
    (role none).twin.roleNext.getD (role none).twin.role ≠ true ∧ (run (.twinRoleAccept true) (role none)).twin.roleNext = some true ∧
    (run (.twinRoleAccept true) (role (some 104687))).twin.roleNext = some true ∧
    (run (.twinRoleAccept true) (role (some 104688))).twin.roleNext = none ∧
    (run (.twinRoleAccept true) { role (some 299999) with twin := { up.twin with roleSince := some 299999, soloBy411 := true } }).twin.roleNext
      = some true ∧
    (run (.twinRoleAccept true) { role (some 299999) with twin := { up.twin with roleSince := some 299999 } }).twin.roleNext = none ∧ (run .swapReq standby).twin.swapAsked = true ∧
    (run .swapReq paired).twin.swapAsked = false ∧ twinReady (swapping none) = true ∧ 468750 + 19531250 ≤ (swapping none).clk.tick ∧
    (run .swapRequestRaise (swapping none)).twin.swapReq = some 20000000 ∧
    (run .swapRequestRaise (swapping (some 1))).twin.swapAsked = true ∧
    (run .swapRequestExpire (swapping (some 18046875))).twin.swapReq = none ∧
    (run .swapRequestExpire (swapping (some 18046876))).twin.swapReq = some 18046876 := by decide +kernel

/-- A standby with AUTO_SWAP 1 s, its level accepted at tick 468,750, at tick 20,000,000, the next automatic request due at tick `n`. -/
def autoSwap (n : Nat) : State :=
  let s := regSet .TWIN_SWAP_CFG 0 1 (swapping none)
  { s with twin := { s.twin with swapAsked := false, roleSince := some 468750, swapNext := some n } }

theorem witness_TwinFaultsAndRoles_swap :
    regFld (autoSwap 20000000) .TWIN_SWAP_CFG 0 21 0 = 1 ∧ (autoSwap 20000000).twin.swapAsked = false ∧
    (autoSwap 20000000).twin.roleSince.getD (autoSwap 20000000).twin.pairSince + 1 * 19531250 ≤ 20000000 ∧
    twinReady (autoSwap 20000000) = true ∧ (autoSwap 20000000).twin.partnerFault = none ∧
    (run .swapRequestRaise (autoSwap 20000000)).twin.swapReq = some 20000000 ∧
    (run .swapRequestRaise (autoSwap 20000001)).twin.swapReq = none := by decide +kernel

/-- A paired twin whose session key is known, frame counter 4 the last accepted. -/
def keyed : State :=
  { paired with twin := { paired.twin with rxCounter := some 4, pair := { ks := List.replicate 32 7, saltA := zeros 4, saltB := zeros 4 } } }

/-- The initial vector of the frame with counter 6, the sealed message, and the frame. -/
def iv6 : List Byte := zeros 4 ++ leBytes 8 6
def cipher6 : List Byte := gcmCrypt (List.replicate 32 7) iv6 ([0x10, 0, 0, 0] ++ leBytes 4 99999)
def frame6 : List Byte := leBytes 8 6 ++ cipher6 ++ gcmTag (List.replicate 32 7) iv6 [] cipher6

theorem xor_twice : ∀ a b : List Byte, a.length ≤ b.length → xorBytes (xorBytes a b) b = a
  | [], _, _ => by simp [xorBytes]
  | x :: a, [], h => by simp at h
  | x :: a, y :: b, h => by
    have := xor_twice a b (by simpa using h)
    simp only [xorBytes, List.zip_cons_cons, List.map_cons] at this ⊢
    rw [this, BitVec.xor_assoc, BitVec.xor_self, BitVec.xor_zero]

theorem cut (a b c : List Byte) (ha : a.length = 8) (hb : b.length = 8) :
    ((a ++ b ++ c).drop 8).take 8 = b ∧ (a ++ b ++ c).drop 16 = c := by
  constructor
  · rw [List.append_assoc, List.drop_append_of_le_length (by omega), List.drop_eq_nil_of_le (by omega), List.nil_append,
      List.take_append_of_le_length (by omega), List.take_of_length_le (by omega)]
  · have h : (a ++ b).length = 16 := by rw [List.length_append]; omega
    rw [List.drop_append_of_le_length (by omega), List.drop_eq_nil_of_le (by omega), List.nil_append]

theorem cipher6_length : cipher6.length = 8 := by decide +kernel

theorem frame6_length : frame6.length = 32 := by decide +kernel

theorem witness_TwinFaultsAndRoles_flue :
    paired.twin.pair.ks = [] ∧ keyed.twin.pair.ks ≠ [] ∧ (zeros 23).length < 24 ∧ (zeros 1057).length = 1057 ∧
    keyed.twin.rxCounter = some 4 ∧ leAt frame6 0 8 = 6 ∧ (frame6.drop 8).take (frame6.length - 24) = cipher6 ∧
    gcmTag keyed.twin.pair.ks iv6 [] cipher6 = frame6.drop (frame6.length - 16) ∧
    flueParse (cipher6.length / 8 + 1) (gcmCrypt keyed.twin.pair.ks iv6 cipher6) = [⟨0x10, 0, 99999, []⟩] := by
  have hs : (gcmStream (aesRoundKeys (List.replicate 32 7)) iv6 1 2).length = 16 := by decide +kernel
  have hd : (leBytes 8 6).length = 8 := by decide +kernel
  have hc : gcmCrypt (List.replicate 32 7) iv6 cipher6 = [0x10, 0, 0, 0] ++ leBytes 4 99999 := by
    show xorBytes cipher6 (gcmStream (aesRoundKeys (List.replicate 32 7)) iv6 (cdiv cipher6.length 16) 2) = _
    rw [cipher6_length]
    exact xor_twice _ (gcmStream (aesRoundKeys (List.replicate 32 7)) iv6 1 2) (by rw [hs]; decide)
  have hk : keyed.twin.pair.ks = List.replicate 32 7 := rfl
  refine ⟨rfl, by decide, by decide +kernel, List.length_replicate .., rfl, by decide +kernel, ?_, ?_, ?_⟩
  · rw [frame6_length]
    exact (cut _ _ _ hd cipher6_length).1
  · rw [frame6_length, hk]
    exact (cut _ _ _ hd cipher6_length).2.symm
  · rw [hk]
    rw [hc, cipher6_length]
    decide +kernel

/-- A diverged twin that may begin its next attempt, heard last at tick `k`. -/
def diverged (k : Nat) : State :=
  let s := pairs .diverged {}
  { s with clk := { s.clk with tick := 20000000 }, twin := { s.twin with heard := k, resyncCmd := true } }

theorem witness_Resynchronisation_start :
    (diverged 19999996).twin.st = .diverged ∧ (diverged 19999996).twin.resyncCmd = true ∧ mayPair (diverged 19999996) = true ∧
    (diverged 19999996).twin.stSince + ticksOfNs (regFld (diverged 19999996) .TWIN_CFG 0 23 16 * 100000000) ≤ 20000000 ∧
    (run (.resyncStart (zeros 32)) (diverged 19999996)).twin.st = .pairing ∧
    (run (.resyncStart (zeros 32)) (diverged 19999995)).twin.st = .diverged ∧
    (run (.resyncStart (zeros 32)) up).twin.st = .solo := by decide +kernel

/-- A joiner in state `st`. -/
def joining (st : TwinState) : State := { up with twin := { up.twin with st := st } }

/-- The bytes of one item record. -/
def item (k c i : Nat) (b : List Byte) : List Byte := leBytes 1 k ++ leBytes 1 c ++ leBytes 2 b.length ++ leBytes 4 i ++ b

theorem witness_Resynchronisation_items :
    itemsOf ((item 3 14 77 (leBytes 8 5 ++ leBytes 8 6)).length / 8) (item 3 14 77 (leBytes 8 5 ++ leBytes 8 6)) =
      [⟨3, 14, 77, leBytes 8 5 ++ leBytes 8 6⟩] ∧
    pairOf (run (.snapData 0 (item 3 14 77 (leBytes 8 5 ++ leBytes 8 6))) (joining .syncing)) 77 = (5, 6) ∧
    pairOf (run (.snapLog 99999 (item 3 14 77 (leBytes 8 5 ++ leBytes 8 6))) (joining .warming)) 77 = (5, 6) ∧
    pairOf (run (.snapData 0 (item 3 14 77 (leBytes 8 5 ++ leBytes 8 6))) up) 77 = (0, 0) ∧
    (joining .syncing).twin.flueVer < 2 ∧ pairOf (run (.snapData 1 (item 3 14 77 (leBytes 8 5 ++ leBytes 8 6))) (joining .syncing)) 77 = (5, 6) ∧
    ({ joining .syncing with twin := { up.twin with flueVer := 2 } } : State).twin.flueVer = 2 ∧ (1 : Nat).testBit 0 = true ∧
    itemsOf ((item 7 0 9 (leBytes 4 1 ++ leBytes 4 2 ++ leBytes 4 3 ++ leBytes 4 1)).length / 8)
      (item 7 0 9 (leBytes 4 1 ++ leBytes 4 2 ++ leBytes 4 3 ++ leBytes 4 1)) =
      [⟨7, 0, 9, leBytes 4 1 ++ leBytes 4 2 ++ leBytes 4 3 ++ leBytes 4 1⟩] ∧
    ownerOf (run (.snapData 0 (item 7 0 9 (leBytes 4 1 ++ leBytes 4 2 ++ leBytes 4 3 ++ leBytes 4 1))) (joining .syncing)) 9 = ⟨1, 2, 3, true⟩ ∧
    itemsOf ((item 10 1 0 (leBytes 8 0xABCD)).length / 8) (item 10 1 0 (leBytes 8 0xABCD)) = [⟨10, 1, 0, leBytes 8 0xABCD⟩] ∧
    (run (.snapData 0 (item 10 1 0 (leBytes 8 0xABCD))) (joining .syncing)).tbl.evictX = 0xABCD ∧
    itemsOf ((item 11 0 0 (zeros 8)).length / 8) (item 11 0 0 (zeros 8)) = [⟨11, 0, 0, zeros 8⟩] := by decide +kernel

/-- A placeholder for queue 16,384, 3 cells, 150 bytes, of descriptor 12. -/
def held : List Byte := leBytes 4 16384 ++ leBytes 2 3 ++ leBytes 2 150 ++ leBytes 4 0 ++ leBytes 4 12

theorem witness_Resynchronisation_lanes :
    (run (.laneClear true [0xFE, 0xFF]) (joining .syncing)).twin.unclear = [0] ∧
    (run (.laneClear false (leBytes 4 5)) { joining .syncing with twin := { up.twin with unclear := [4, 5] } }).twin.unclear = [4] ∧
    (run (.placeholder 100001 held) (joining .warming)).twin.placeWait = [(100001, held)] ∧
    16384 ≤ leAt held 0 4 ∧ ((queueOf (run (.placeholder 100000 held) (joining .warming)) 16384).copies = [phCopy held]) ∧
    (queueOf (run (.placeholder 100000 held) (joining .warming)) 16384).depth = 3 ∧
    (run (.placeholder 100001 held) up).twin.placeWait = [] ∧
    (run (.snapEnd 100500) (joining .syncing)).twin.joinTick = some 100500 ∧ (run (.snapEnd 100500) up).twin.joinTick = none := by
  decide +kernel

/-- A source, and a joiner, whose attempt began at tick `k` and whose join is at tick `j`. -/
def resyncing (source : Bool) (k j : Nat) (bulk : Bool) : State :=
  let s := joining (if source then .solo else .syncing)
  { s with
    clk := { s.clk with tick := 2000000, forwarding := source }
    twin := { s.twin with source := source, stSince := k, joinTick := some j, bulkSent := bulk } }

theorem witness_Resynchronisation_join :
    (run .snapLate (resyncing true 0 2000008 false)).twin.source = false ∧ (run .snapLate (resyncing true 0 2000009 false)).twin.source = true ∧
    (resyncing true 0 2000008 false).twin.bulkSent = false ∧ (resyncing true 0 2000008 false).twin.failNow = none ∧
    (run .snapLate (resyncing false 951432 2000500 false)).twin.st = .diverged ∧
    (run .snapLate (resyncing false 951433 2000500 false)).twin.st = .syncing ∧
    (run .join (resyncing false 1900000 2000000 true)).twin.st = .warming ∧
    (run .join (resyncing false 1900000 2000000 true)).clk.forwarding = true ∧
    (run .join (resyncing false 1900000 2000001 true)).twin.st = .syncing ∧
    (run (.warmDone 100500) (joining .warming)).twin.warmTick = some 100500 ∧ (run (.warmDone 100500) up).twin.warmTick = none := by
  decide +kernel

/-- A joiner that warms since tick `k`, W at tick `w`. -/
def warming (source : Bool) (k : Nat) (w : Option Nat) : State :=
  let s := joining (if source then .solo else .warming)
  { s with clk := { s.clk with tick := 20000000 }, twin := { s.twin with source := source, stSince := k, warmTick := w } }

theorem witness_Resynchronisation_warm :
    (warming false 0 (some 20000000)).twin.warmTick = some 20000000 ∧ inPair (run .warm (warming false 0 (some 20000000))) = true ∧
    (run .warm (warming true 0 (some 20000000))).twin.st = .active ∧ (run .warm (warming true 0 (some 20000000))).twin.resyncDone = 1 ∧
    (run .warm (warming false 0 (some 20000001))).twin.st = .warming ∧ (warming false 0 none).twin.warnedWarm = false ∧
    (run .stillWarming (warming false 468750 none)).twin.warnedWarm = true ∧
    (run .stillWarming (warming false 468751 none)).twin.warnedWarm = false := by decide +kernel

/-! ### The host interface -/

theorem witness_HostResetsAndRings :
    hostReaches up = true ∧ hostReaches State.reset = false ∧ regBit (run .functionLevelReset up) .HOST_ERR 0 3 = true ∧
    (run .pciePerst { up with host := { up.host with pcie := 5 } }).host.pcie = 0 ∧ ringByHost 0 = true ∧ ringByHost 258 = false ∧
    (ringOf (run (.hostRingProdWrite 0 0x1FFFF) up) 0).prod = 65535 ∧ (ringOf (run (.hostRingConsWrite 2 7) up) 2).cons = 7 ∧
    ringEnabled up 257 = false ∧ (0x1F : Word).getLsbD 4 = true ∧ ringEnabled (run (.ringCfgWrite 257 0x1F) up) 257 = true ∧
    ringSize (run (.ringCfgWrite 257 0x1F) up) 257 = 4096 ∧ ringSize (run (.ringCfgWrite 0 0x10) up) 0 = 16 ∧
    ringEnabled (ready up) 1 = true ∧ ringEnabled (run (.ringCfgWrite 1 0) (ready up)) 1 = false ∧
    ringSize (run (.ringCfgWrite 1 0x12) (ready up)) 1 = 256 := by decide +kernel

/-- A completion waits for MBX_CPL, whose entries are all in use until CONS is written. -/
def stuck : State :=
  { ready up with host := { up.host with rings := [(1, { prod := 256, cons := 0 })], cplWait := [(3, zeros 32)] } }

theorem witness_HostResetsAndRings_waiting :
    stuck.host.cplWait = [(3, zeros 32)] ∧ ringEnabled stuck 1 = true ∧ ((ringOf stuck 1).prod + 65536 - wfld (1 : Word) 15 0) % 65536 < ringSize stuck 1 ∧
    (run (.hostRingConsWrite 1 1) stuck).host.cplWait = [] ∧ (ringOf (run (.hostRingConsWrite 1 1) stuck) 1).prod = 257 := by decide +kernel

/-- A descriptor of a frame of 60 bytes. -/
def desc : TxDesc := { length := 60, cookie := 0x11223344 }

/-- The rings of queue pair 63 in use, a descriptor waiting in TX63, `d` in the hands of the device. -/
def queuePair (d : List TxDone) : State :=
  let s := regSet .HOST_QRING_CFG 255 0x14 (regSet .HOST_QRING_CFG 254 0x14 (regSet .HOST_QRING_CFG 253 0x14 (regSet .HOST_QRING_CFG 252 0x14 (withCells up))))
  { s with host := { s.host with rings := [(txRing 63, { prod := 1 }), (rxbRing 63, { prod := 2 })], txDone := d, rxBudget := 1 } }

/-- A taken descriptor. -/
def taken : TxDone := { id := 4, qp := 63, cookie := 0x11223344, desc := desc }

theorem witness_InjectionAndDelivery :
    (queuePair []).clk.forwarding = true ∧ nextPair (queuePair []) = some 63 ∧ nextPair up = none ∧
    (run (.txDescriptorTake 63 desc) (queuePair [])).host.txDone = [{ taken with id := 1 }] ∧
    txReading (queuePair [taken]) 63 = some taken ∧ txReading (queuePair []) 63 = none ∧
    txOk (queuePair [taken]) 63 (zeros 59) taken.desc = false ∧ txOk (queuePair [taken]) 63 (zeros 60) taken.desc = true ∧
    taken.desc.flags = 0 ∧ 5 ≤ admDelay (queuePair [taken]) ∧
    ((run (.txFrameReadDone 63 (zeros 60)) (queuePair [taken])).adm.arrived.map fun r => (r.port, r.arrival, r.bytes.length)) =
      [(2048, 100002, 64)] ∧
    ((run (.txFrameReadDone 63 (zeros 59)) (queuePair [taken])).host.txDone.map (·.invalid)) = [true] := by decide +kernel

theorem witness_InjectionAndDelivery_cells : Claims.CellsFree (queuePair [taken]) 1 ∧ cellsOf ((zeros 60).length + 4) = 1 := by
  refine ⟨?_, by decide⟩
  show (takeCells 1 (queuePair [taken])).1.length = 1
  decide +kernel

/-- The descriptor when its frame has left. -/
def finished : TxDone := { taken with read := true }

theorem witness_InjectionAndDelivery_completion :
    List.find? (fun d => decide (d.qp = 63) && txComplete (queuePair [finished]) d) [finished] = some finished ∧
    (txRecord finished).length = 16 ∧ ringEnabled (queuePair [finished]) (txcRing 63) = true ∧
    ringFull (queuePair [finished]) (txcRing 63) = false ∧ (ringOf (run (.txCompletionWrite 63) (queuePair [finished])) (txcRing 63)).prod = 1 ∧
    FMap.bytes 0 (run (.txCompletionWrite 63) (queuePair [finished])).host.hostMem 0 5 = [0x44, 0x33, 0x22, 0x11, 1] ∧
    ringEnabled up (txcRing 63) = false ∧ leAt (leBytes 2 0 ++ leBytes 2 64 ++ zeros 20 ++ frameOf 64) 2 2 = 64 ∧
    (slice (leBytes 2 0 ++ leBytes 2 64 ++ zeros 20 ++ frameOf 64) 24 64).length = 64 ∧
    ((run (.inject 99999 (leBytes 2 0 ++ leBytes 2 64 ++ zeros 20 ++ frameOf 64)) (queuePair [])).adm.arrived.map (·.port)) = [2048] := by
  decide +kernel

/-- A copy of a frame of 64 bytes at the head of host queue 63, taken or not. -/
def hosting (st : TwinState) (r : Option Nat) : State :=
  let s := queuePair []
  { s with
    twin := { s.twin with st := st, pairSince := 0 }
    buf := { s.buf with
      queues := [(hqOf 63, { copies := [{ frame := 9, release := r }, { frame := 9, from_ := 100000 }] })]
      frames := [(9, some { rx := { bytes := frameOf 64 }, refs := 2, copies := 2 })] } }

theorem witness_InjectionAndDelivery_take :
    (queueOf (hosting .solo (some 5)) (hqOf 63)).copies = [{ frame := 9, release := some 5 }] ++ { frame := 9, from_ := 100000 } :: [] ∧
    storedLen (hosting .solo (some 5)) 9 = 64 ∧ cdiv 64 (rxBufSize (hosting .solo (some 5)) 63) = 1 ∧
    1 ≤ ringUsed (hosting .solo (some 5)) (rxbRing 63) ∧ rxOwed (hosting .solo (some 5)) 63 = 0 ∧
    0 + 0 < ringSize (hosting .solo (some 5)) (rxcRing 63) ∧ 0 < (hosting .solo (some 5)).host.rxBudget ∧
    (run (.hostDmaTake 63 [4096, 8192]) (hosting .solo (some 5))).host.takes = [(100001, 63, 1, [4096])] ∧
    (run (.hostDmaTake 63 [4096]) (hosting .active (some 5))).host.takes = [(100000 + regFld up .TWIN_CFG 0 15 8, 63, 1, [4096])] ∧
    (run (.hostDmaTake 63 [4096]) (hosting .standby (some 5))).host.takes = [] ∧
    (run (.dmaTake 100004 63 1) (hosting .standby (some 5))).host.takes = [(100004, 63, 1, [])] ∧
    ((queueOf (run (.dmaTake 100004 63 1) (hosting .standby (some 5))) (hqOf 63)).copies.map (·.release)) = [some 5, some 100004] := by
  decide +kernel

/-- A frame taken whose record is to be written. -/
def writing (s : State) : State := { s with host := { s.host with taken := [(63, zeros 64, [(4096, frameOf 64)])] } }

theorem witness_InjectionAndDelivery_write :
    List.find? (fun y => decide (y.1 = 63)) (writing (queuePair [])).host.taken = some (63, zeros 64, [(4096, frameOf 64)]) ∧
    ringEnabled (writing (queuePair [])) (rxcRing 63) = true ∧ ringFull (writing (queuePair [])) (rxcRing 63) = false ∧
    (run (.hostFrameWrite 63) (writing (queuePair []))).host.taken = [] ∧ ringEnabled (writing up) (rxcRing 63) = false ∧
    (run (.hostFrameWrite 63) (writing up)).host.taken.length = 1 := by decide +kernel

/-- Vector 67 with `n` records pending since tick `k`. -/
def pended (n : Nat) (k : Nat) : State :=
  regSet .HOST_IRQ_MOD 67 0x20001 { up with host := { up.host with vectors := [(67, { count := n, since := some k })] } }

theorem witness_HostBuses_vectors :
    regFld (pended 2 99999) .HOST_IRQ_MOD 67 31 16 ≤ 2 ∧ (run (.msiXMessage 67) (pended 2 99999)).out.msix = [67] ∧
    (run (.msiXMessage 67) (pended 1 99999)).out.msix = [] ∧ 99980 + ticksOfNs 1000 ≤ 100000 ∧
    (run (.msiXMessage 67) (pended 1 99980)).out.msix = [67] ∧ (run (.msiXMessage 67) up).out.msix = [] ∧
    wfld (0xC02 : Word) 11 0 % 1024 = (run (.pcieLinkChange 0x402) up).host.pcie % 1024 → (run (.pcieLinkChange 0xC02) up).host.pcie = 0xC02 := by
  decide +kernel

/-- A command of sequence 3 outstanding, with a host write that completes it. -/
def outstanding : State :=
  let c : MbxCmd := { seq := 3, cookie := 9, opcode := 0x32 }
  { ready up with
    host := { up.host with outstanding := [c] }
    writes := [{ eff := 100002, seq := 3, cmd := some c, act := .reg 0x104 0 1 }] }

theorem witness_HostBuses_errors :
    List.find? (fun x => decide (x.seq = 3)) outstanding.host.outstanding = some { seq := 3, cookie := 9, opcode := 0x32 } ∧
    (run (.pcieError (.command 3)) outstanding).host.outstanding = [] ∧
    (∀ w ∈ (run (.pcieError (.command 3)) outstanding).writes, w.cmd ≠ some { seq := 3, cookie := 9, opcode := 0x32 }) ∧
    regBit (run (.pcieError (.command 3)) outstanding) .HOST_ERR 0 0 = true ∧
    ((run (.pcieError (.descriptor 63)) (queuePair [taken])).host.txDone.map (·.invalid)) = [true] ∧
    ringEnabled (run (.pcieError (.ring 1 0)) (ready up)) 1 = false := by decide +kernel

/-- Two-wire master 7 busy, two bytes received, one to send. -/
def twoWire : State := { up with host := { up.host with twi := [(7, { status := 0x201, toSend := [9], got := [1, 2] })] } }

/-- MDIO master 7 busy with a read. -/
def mdioRead : State := regSet .HOST_MDIO_CMD 7 0x800 { up with host := { up.host with mdio := [(7, { busy := true })] } }

theorem witness_HostBuses_buses :
    (FMap.get {} up.host.mdio 7).busy = false ∧ (run (.mdioCmd 7 0x123) up).out.mdio = [(7, 0x123, 0)] ∧
    (run (.mdioCmd 7 0x123) mdioRead).out.mdio = [] ∧ regFld (run (.mdioDone 7 0xABCD) mdioRead) .HOST_MDIO_DATA 7 15 0 = 0xABCD ∧
    (run (.mdioDone 7 0xABCD) up).regs = up.regs ∧ (0x80000100 : Word).getLsbD 31 = true ∧
    (run (.go 7 0x80000100) { up with host := { up.host with twi := [(7, { toSend := [9, 8] })] } }).out.twi = [(7, 0x100, [9])] ∧
    (twiOf (run (.go 7 0x80000100) { up with host := { up.host with twi := [(7, { toSend := [9, 8] })] } }) 7).toSend = [8] ∧
    (run (.go 7 0x80000100) twoWire).out.twi = [] ∧ (twiOf twoWire 7).status.testBit 0 = true ∧
    (twiOf (run (.twiDone 7 .nack) twoWire) 7).status = 0x202 ∧ (twiOf (run (.twiDone 7 .timeout) twoWire) 7).status = 0x208 ∧
    (twiOf (run (.twiDone 7 (.stop [5] true)) (regSet .HOST_TWI_CMD 7 0x10000 twoWire)) 7).got = [1, 2, 5] ∧
    (run (.twiFifoRead 7) twoWire).regs.rdData = some 1 ∧ (twiOf (run (.twiFifoRead 7) twoWire) 7).got = [2] := by decide +kernel

/-- The UART enabled, `n` bytes in each FIFO. -/
def uart (n : Nat) : State :=
  regSet .HOST_UART_CFG 0 0x10001 { up with host := { up.host with uartTx := List.replicate n 1, uartRx := List.replicate n 0x41 } }

theorem witness_HostBuses_uart :
    (run (.uartSend 0x155) (uart 63)).host.uartTx.length = 64 ∧ (run (.uartSend 0x155) (uart 64)).host.uartTx.length = 64 ∧
    (uart 63).host.uartRx = 0x41 :: List.replicate 62 0x41 ∧ (run .uartRead (uart 63)).regs.rdData = some 0x141 ∧
    regBit (uart 63) .HOST_UART_CFG 0 16 = true ∧ (run (.uartReceive 7) (uart 63)).host.uartRx.length = 64 ∧
    (run (.uartReceive 7) (uart 64)).host.uartRx.length = 64 ∧ regBit (regSet .HOST_UART_CFG 0 0x36 (uart 63)) .HOST_UART_CFG 0 16 = false := by decide +kernel

/-! ### The mailbox -/

/-- What an outcome answers, and what it refuses with. -/
def okOf {α : Type} (x : Except Nat α) : Option α := x.toOption
def errOf {α : Type} : Except Nat α → Option Nat
  | .error e => some e
  | .ok _ => none

theorem ok_of {α : Type} {x : Except Nat α} {a : α} (h : okOf x = some a) : x = .ok a := by
  cases x <;> simp_all [okOf, Except.toOption]

theorem err_of {α : Type} {x : Except Nat α} {e : Nat} (h : errOf x = some e) : x = .error e := by
  cases x <;> simp_all [errOf]

/-- The mailbox open, version `v` agreed, a command waiting. -/
def mailbox (v : Nat) (s : State) : State :=
  let t := regSet .HOST_RING_CFG 0 0x18 (ready s)
  { t with host := { t.host with rings := [(0, { prod := 1 })], version := v } }

/-- A version 3 header with flags `f` and tick `k`, its buffers at 4,096 of up to 4,096 bytes. -/
def head3 (f : Byte) (k : Nat) : MbxHdr :=
  { version := 3, flags := f, cookie := 7, tick := BitVec.ofNat 64 k, bufAddr := 4096, bufLen := 4096 }

/-- The status of the completion at address 0: byte 10 of Table HOST-6. -/
def status (t : State) : Byte := byteAt (FMap.bytes 0 t.host.hostMem 0 32) 10

theorem fits (s : State) (h : MbxHdr) (op : Nat) (ho : mbxOpen s = true) (hc : Claims.CplReady s) (hv : s.host.version = 3)
    (hh : h.version.toNat = 3) (hf : ¬(4 ≤ h.flags.toNat ∨ 2 ^ 20 < h.bufLen.toNat)) : Claims.MbxTakes s h op := by
  refine ⟨ho, hc, fun st h1 => ?_⟩
  rcases h1 with ⟨_, h1, _⟩ | ⟨_, _, h1, _⟩ | ⟨_, _, _, h1, _⟩ | ⟨_, h1, _⟩
  · omega
  · omega
  · exact h1 (by omega)
  · exact hf h1

theorem fits_solo (f : Byte) (k op : Nat) (h : f.toNat < 4) : Claims.MbxTakes (mailbox 3 up) (head3 f k) op :=
  fits _ _ _ (by decide +kernel) ⟨by decide +kernel, by decide +kernel, by decide +kernel⟩ rfl rfl
    (by intro h1; rcases h1 with h1 | h1
        · exact absurd h1 (by show ¬ 4 ≤ f.toNat; omega)
        · exact absurd h1 (by show ¬ 2 ^ 20 < 4096; omega))

theorem witness_HostWriteCommands_unfit :
    mbxOpen up = false ∧ mbxOpen (mailbox 3 up) = true ∧ Claims.Unfit (mailbox 0 up) (head3 0 0) 0x20 0x02 ∧
    Claims.Unfit (mailbox 2 up) (head3 0 0) 0x22 0x01 ∧ Claims.Unfit (mailbox 2 up) (head3 0 0) 0x20 0x02 ∧
    Claims.Unfit (mailbox 3 up) (head3 4 0) 0x20 0x03 ∧
    status (run (.tcamTxnOpen (head3 0 0) 5) (mailbox 0 up)) = 2 ∧ status (run (.tableAudit (head3 0 0) 0 0 1 []) (mailbox 2 up)) = 1 ∧
    status (run (.tcamTxnOpen (head3 0 0) 5) (mailbox 2 up)) = 2 ∧ status (run (.tcamTxnOpen (head3 4 0) 5) (mailbox 3 up)) = 3 := by
  refine ⟨?_, ?_, .inl ?_, .inr (.inl ?_), .inr (.inr (.inl ?_)), .inr (.inr (.inr ?_)), ?_⟩
  · decide +kernel
  · decide +kernel
  · exact ⟨by decide, rfl, rfl⟩
  · exact ⟨.inl rfl, by show 0 < 2; omega, by show 2 < 3; omega, rfl⟩
  · exact ⟨by decide, by show 0 < 2; omega, .inr ⟨by decide, by decide⟩, by decide +kernel, rfl⟩
  · exact ⟨.inr ⟨by show 0 < 3; omega, .inl (by show 3 ≤ 3; omega), rfl⟩, .inl (by decide), rfl⟩
  · decide +kernel

/-- A next-hop record for index 7: port 5, valid. -/
def hopRecord : List Byte := leBytes 8 7 ++ leBytes 8 0x8005000000000000

theorem witness_HostWriteCommands :
    Claims.WriteCommand (.tableWrite (head3 0 0) 2 hopRecord) (head3 0 0) 0x20 (.table 2 (recordWords 2 hopRecord)) 0 [] ∧
    Claims.WriteCommand (.regWrite (head3 0 100010) 0x1000 5 0xF) (head3 0 100010) 0x32 (.reg 0x1000 5 0xF) 0 [] ∧
    Claims.WriteCommand (.tcamEntryClear (head3 1 0) 7) (head3 1 0) 0x20 (.table 8 ((7 + 2 ^ 18) :: List.replicate 23 0)) 192 [] ∧
    Claims.WriteCommand (.timeUnlock (head3 0 0)) (head3 0 0) 0x52 (.time .unlock) 0 [] ∧
    Claims.WriteCommand (.programActivate (head3 0 0) 9 [1]) (head3 0 0) 0x11 (.activate 9) 0 [1] := by
  refine ⟨.inl ⟨rfl, .inl ⟨rfl, .inl ⟨2, hopRecord, rfl, ?_, ?_, rfl, ?_⟩⟩⟩, .inl ⟨rfl, .inr ⟨rfl, ?_⟩⟩,
    .inl ⟨rfl, .inl ⟨rfl, ?_⟩⟩, .inl ⟨rfl, .inr ⟨rfl, ?_⟩⟩, .inr ⟨9, rfl, rfl, by decide, rfl, rfl⟩⟩
  · decide
  · decide
  · decide
  · exact .inr (.inr (.inr (.inr (.inr (.inr ⟨_, _, _, rfl, rfl, by decide, rfl⟩)))))
  · exact .inr (.inr (.inr (.inr (.inr (.inr ⟨7, rfl, rfl, rfl⟩)))))
  · exact .inr (.inr (.inr (.inl ⟨rfl, rfl, rfl⟩)))

theorem witness_HostWriteCommands_stands :
    Claims.Stands (mailbox 3 up) 100002 [] (.table 2 (recordWords 2 hopRecord)) ∧ assignTick (mailbox 3 up) = 100002 ∧
    Claims.Stands (mailbox 3 up) 100002 [] (.table 8 ((7 + 2 ^ 18) :: List.replicate 23 0)) ∧ isSafe (mailbox 3 up) = false ∧
    ((changeOf (run (.tableWrite (head3 0 0) 2 hopRecord) (mailbox 3 up)) ⟨2, 7⟩).map fun c => (c.eff, c.done)) =
      some (100002, 100002 + retDelay up) ∧
    ((run (.tableWrite (head3 0 0) 2 hopRecord) (mailbox 3 up)).writes.map fun w => (w.eff, w.seq)) = [(100002, 0)] ∧
    status (run (.tableWrite (head3 0 100001) 2 hopRecord) (mailbox 3 up)) = 4 ∧
    status (run (.tableWrite (head3 0 (100000 + 2 ^ 30)) 2 hopRecord) (mailbox 3 up)) = 5 ∧
    status (run (.tableWrite (head3 0 0) 2 (leBytes 8 (2 ^ 18) ++ zeros 8)) (mailbox 3 up)) = 9 ∧
    regWritable 2 = false ∧ status (run (.regWrite (head3 0 0) 2 5 0xF) (mailbox 3 up)) = 3 ∧
    activateReason (mailbox 3 up) 9 [] ≠ 0 ∧ status (run (.programActivate (head3 0 0) 9 []) (mailbox 3 up)) = 0x0E ∧
    status (run (.tcamEntryClear (head3 0 0) 7) (mailbox 3 up)) = 3 := by
  refine ⟨.inl ⟨.inl (by decide), _, _, rfl, rfl, by decide⟩, ?_, .inr (.inr (.inr (.inl ?_))), ?_⟩ <;> decide +kernel

theorem witness_HostWriteCommands_record :
    checkRecord (mailbox 3 up) 2 (recordWords 2 hopRecord) = .ok (⟨2, 7⟩, 0x8005000000000000) ∧
    checkRecord (mailbox 3 up) 2 [2 ^ 18, 0] = .error 9 := ⟨ok_of (by decide +kernel), err_of (by decide +kernel)⟩

theorem witness_HostWriteCommands_commit :
    Claims.IsCommit (.table 9 [1 + (5 : Fin 65536).val * 65536]) ∧
    ((run (.tcamTxnCommit (head3 0 100050) 5) (mailbox 3 up)).writes.map (·.eff)) = [100002] ∧
    Claims.IsCommit (.reg 0 0 0) = False := by
  refine ⟨⟨_, rfl, by decide⟩, by decide +kernel, ?_⟩
  simp [Claims.IsCommit]

/-- What a host write command has done once its effect tick, the one that the device assigns, has come. -/
def later (c : Instr) (s : State) : State := run .hostWriteApply (Claims.atTick (assignTick s) (run c s))

/-- The mailbox open in the safe hearth state. -/
def safeBox : State := mailbox 3 safeUp

theorem quiet_box : Claims.Quiet safeBox :=
  ⟨rfl, fun _ h => absurd h List.not_mem_nil, fun _ h => absurd h List.not_mem_nil, fun _ h => absurd h List.not_mem_nil⟩

theorem takes_box (f : Byte) (k op : Nat) (h : f.toNat < 4) : Claims.MbxTakes safeBox (head3 f k) op :=
  fits _ _ _ (by decide +kernel) ⟨by decide +kernel, by decide +kernel, by decide +kernel⟩ rfl rfl
    (by intro h1; rcases h1 with h1 | h1
        · exact absurd h1 (by show ¬ 4 ≤ f.toNat; omega)
        · exact absurd h1 (by show ¬ 2 ^ 20 < 4096; omega))

theorem witness_HostWriteCommands_safe :
    Claims.MbxTakes safeBox (head3 0 0) 0x20 ∧ Claims.Quiet safeBox ∧ isSafe safeBox = true ∧ inPair safeBox = false ∧
    Claims.Stands safeBox safeBox.clk.tick [] (.table 2 (recordWords 2 hopRecord)) ∧
    (verOf (run (.tableWrite (head3 0 0) 2 hopRecord) safeBox) ⟨2, 7⟩).new = 0x8005000000000000 ∧
    (run (.tableWrite (head3 0 0) 2 hopRecord) safeBox).writes = [] ∧ status (run (.timeUnlock (head3 0 0)) safeBox) = 0x10 ∧
    status (run (.programActivate (head3 0 0) 9 []) safeBox) = 0x10 := by
  refine ⟨takes_box 0 0 0x20 (by decide), quiet_box, ?_, ?_, .inl ⟨.inl (by decide), _, _, rfl, rfl, by decide⟩, ?_⟩ <;> decide +kernel

/-- Lane 8 in Hearth mode 4, the mailbox open. -/
def laneBox : State := mailbox 3 (withLane 8 0x14 {} up)

theorem witness_HostWriteCommands_done :
    (mailbox 3 up).writes = [] ∧ Reg.find (Reg.TBL_AGE_CFG.addr 0) = some (.TBL_AGE_CFG, 0) ∧ Claims.Holds .TBL_AGE_CFG ∧
    regVal (later (.regWrite (head3 0 0) (Reg.TBL_AGE_CFG.addr 0) 5 0xFFFFFFFF) (mailbox 3 up)) .TBL_AGE_CFG 0 = 5 ∧
    portSetOk 3 true 4 8 1 (Claims.atTick 100002 laneBox) = true ∧ portSetOk 3 true 9 8 1 (Claims.atTick 100002 laneBox) = false ∧
    chanOf (later (.portSet (head3 0 0) 3 true 4 8 1) laneBox) 8 1 = (3, 4, true) ∧
    regBit (later (.portSet (head3 0 0) 3 true 4 8 1) laneBox) .MAC_PORT_CFG 3 16 = true ∧
    status (later (.portSet (head3 0 0) 3 true 9 8 1) laneBox) = 0x0A ∧
    queueRegs[0]? = some .BUF_QUEUE_CFG ∧ (1 : Nat).testBit 0 = true ∧ (1 : Nat).testBit 1 = false ∧
    regVal (later (.queueSet (head3 0 0) 3 2 1 [77, 0, 0, 0, 0]) (mailbox 3 up)) .BUF_QUEUE_CFG 26 = 77 := by
  refine ⟨rfl, ?_, ⟨?_, ?_⟩, ?_⟩ <;> decide +kernel

theorem witness_HostWriteCommands_time :
    errOf (timeJudge (jumpThresh up) (.rate 5) up.time.core) = some 0x0D ∧
    (okOf (timeJudge (jumpThresh up) .unlock up.time.core)).isSome = true ∧
    status (later (.timeRate (head3 0 0) 5) (mailbox 3 up)) = 0x0D ∧
    (later (.timeStepSet (head3 0 0) 5 6 7) (mailbox 3 up)).time.core.tod = todOf 5 6 7 ∧
    status (later (.timeUnlock (head3 0 0)) (mailbox 3 up)) = 0 := by decide +kernel

/-- A record of 64-bit words. -/
def words (l : List Nat) : List Byte := l.flatMap (leBytes 8)

/-- With station 5 in way 11. -/
def knows (s : State) : State :=
  { s with tbl := { s.tbl with stations := [(11, { key := 5, ver := { old := 2 ^ 63 + 3, new := 2 ^ 63 + 3, eff := 9 } })] } }

/-- With the route of 10.0.1.0/24 in place 80. -/
def routed (s : State) : State :=
  let t := regSet .TBL_ROUTE_REGION 24 0x40000A s
  { t with tbl := { t.tbl with routes := [(80, { v6 := false, len := 24, addr := 0x0A000100, ver := { old := 2 ^ 59 + 2 ^ 62 + 24 * 2 ^ 48 + 7, new := 2 ^ 59 + 2 ^ 62 + 24 * 2 ^ 48 + 7 } })] } }

theorem witness_HostWriteCommands_stations :
    (checkRecord safeBox 0 [5, 2 ^ 63 + 4]) = .ok (⟨0, 5⟩, 2 ^ 63 + 4) ∧ stationAt safeBox 5 = none ∧ stationAt (knows safeBox) 5 = some 11 ∧
    ((List.range 8).map (8 * stationBucket 5 + ·)).find? (fun j => wayFree safeBox j) = some (8 * stationBucket 5) ∧
    stationAt (run (.tableWrite (head3 0 0) 0 (words [5, 2 ^ 63 + 4])) safeBox) 5 = some (8 * stationBucket 5) ∧
    (verOf (run (.tableWrite (head3 0 0) 0 (words [5, 2 ^ 63 + 4])) (knows safeBox)) ⟨0, 5⟩).new = 2 ^ 63 + 4 ∧
    (run (.tableWrite (head3 0 0) 0 (words [5, 4])) safeBox).tbl.stations = [] := by
  refine ⟨ok_of (by decide +kernel), ?_⟩
  decide +kernel

theorem witness_HostWriteCommands_routes :
    checkRecord (routed safeBox) 1 [0x0A000100, 0, 2 ^ 59 + 2 ^ 62 + 24 * 2 ^ 48 + 9] =
      .ok (⟨1, routeKey false 24 0x0A000100⟩, 2 ^ 59 + 2 ^ 62 + 24 * 2 ^ 48 + 9) ∧
    routeAt (routed safeBox) (routeKey false 24 0x0A000100) = some 80 ∧
    (verOf (run (.tableWrite (head3 0 0) 1 (words [0x0A000100, 0, 2 ^ 59 + 2 ^ 62 + 24 * 2 ^ 48 + 9])) (routed safeBox))
      ⟨1, routeKey false 24 0x0A000100⟩).new = 2 ^ 59 + 2 ^ 62 + 24 * 2 ^ 48 + 9 := by
  refine ⟨ok_of (by decide +kernel), ?_⟩
  decide +kernel

theorem witness_HostWriteCommands_others :
    ((later (.tableWrite (head3 1 0) 6 (words [7, 5] ++ zeros 24)) (mailbox 3 up)).tbl.laneOps.map fun o => (o.record, o.homeKey, o.write)) =
      [(7, 5, some (true, zeros 24))] ∧
    ((later (.tableWrite (head3 1 0) 7 (words [7, 5] ++ zeros 32)) (mailbox 3 up)).tbl.laneOps.map fun o => (o.record, o.write)) =
      [(7, some (false, zeros 32))] ∧
    (meterOf (run (.tableWrite (head3 1 0) 12 (words [7, 2 ^ 63 + 5, 0, 8])) safeBox) 7).tc = 8 * bu ∧
    (sessionOf (later (.tableWrite (head3 1 0) 13 (words [7, 1, 2, 3, 4, 5, 6, 7])) (mailbox 3 up)) 7).encap = [1, 2, 3, 4, 5, 6, 7] ∧
    counterKey 14 7 = some 7 ∧ counterKey 15 (7 + 2 * 2 ^ 56) = some (fixedKey 2 7) ∧
    pairOf (later (.tableWrite (head3 0 0) 15 (words [7 + 2 * 2 ^ 56, 1, 2])) (mailbox 3 up)) (fixedKey 2 7) = (1, 2) := by
  refine ⟨?_, ?_, ?_, ?_, ?_, ?_, ?_⟩ <;> decide +kernel

/-- Transaction 5 in state `x`, course 0 of both slots over all positions, entry 7 a member of slot 0. -/
def tcamBox (x : TxnState) (s : State) : State :=
  { s with tcam := { s.tcam with txn := x, txnId := 5, courses := [(0, 0x201000), (16, 0x201000)], entries := [(7, { m0 := true })] } }

/-- In the safe hearth state, the frame path stopped. -/
def stopBox : State := { safeBox with clk := { safeBox.clk with forwarding := false } }

/-- A WRITE of entry `i`: value 1 under mask 3. -/
def entryWords (i : Nat) : List Byte := words ([i, 3, 0xAB, 0xCD, 1] ++ List.replicate 9 0 ++ [3] ++ List.replicate 9 0)

theorem witness_HostWriteCommands_tcam :
    pathStopped (tcamBox .idle stopBox) = true ∧ pathStopped safeBox = false ∧ memberOf (tcamEntry (tcamBox .open safeBox) 7) 0 = true ∧
    status (run (.tcamEntryWrite (head3 1 0) (entryWords 8)) (tcamBox .idle safeBox)) = 8 ∧
    (List.range 16).find? (fun c => courseOn (courseVal (tcamBox .open safeBox) 1 c) && onCourse (courseVal (tcamBox .open safeBox) 1 c) 8) = some 0 ∧
    (List.range 16).find? (fun c => courseOn (courseVal safeBox 1 c) && onCourse (courseVal safeBox 1 c) 8) = none ∧
    fld (courseVal (tcamBox .open safeBox) 1 0) 17 16 = 0 ∧
    (tcamEntry (run (.tcamEntryWrite (head3 1 0) (entryWords 8)) (tcamBox .open safeBox)) 8).m1 = true ∧
    (tcamEntry (run (.tcamEntryWrite (head3 1 0) (entryWords 8)) (tcamBox .idle stopBox)) 8).value = 1 ∧
    status (run (.tcamEntryWrite (head3 1 0) (entryWords 7)) (tcamBox .open safeBox)) = 9 ∧
    (run (.tcamEntryWithdraw (head3 1 0) 7) (tcamBox .idle stopBox)).tcam.entries = [] ∧
    status (run (.tcamEntryClear (head3 1 0) 7) (tcamBox .open safeBox)) = 9 := by decide +kernel

theorem witness_HostWriteCommands_txn :
    FMap.wf 0 (tcamBox .idle up).tcam.courses = true ∧ FMap.wf {} (tcamBox .idle up).tcam.entries = true ∧
    (later (.tcamTxnOpen (head3 0 0) 5) (tcamBox .idle (mailbox 3 up))).tcam.txn = .open ∧
    (tcamEntry (later (.tcamTxnOpen (head3 0 0) 5) (tcamBox .idle (mailbox 3 up))) 7).m1 = true ∧
    status (later (.tcamTxnOpen (head3 0 0) 5) (tcamBox .open (mailbox 3 up))) = 0x0F ∧
    commitOk (Claims.atTick 100002 (tcamBox .open (mailbox 3 up))) = true ∧
    (later (.tcamTxnCommit (head3 0 0) 5) (tcamBox .open (mailbox 3 up))).tcam.txnE = 100002 ∧
    (later (.tcamTxnAbort (head3 0 0) 5) (tcamBox .open (mailbox 3 up))).tcam.txn = .idle ∧
    status (later (.tcamTxnAbort (head3 0 0) 6) (tcamBox .open (mailbox 3 up))) = 3 ∧
    status (later (.tcamTxnAbort (head3 0 0) 6) (tcamBox .idle (mailbox 3 up))) = 8 := by decide +kernel

/-- A pending image with identifier 5. -/
def pendingBox : State :=
  let s := mailbox 3 up
  { s with prog := { s.prog with pendingImg := some { imageWith 0 with gen := 2, id := 5 } } }

theorem witness_HostWriteCommands_activation :
    activateReason pendingBox 5 [] = 0 ∧ (run (.programActivate (head3 0 0) 5 []) pendingBox).prog.actAt = some (100002, 5) ∧
    ((run .programActivation (Claims.atTick 100002 (run (.programActivate (head3 0 0) 5 []) pendingBox))).prog.active.map (·.gen)) = some 2 ∧
    status (later (.programActivate (head3 0 0) 5 []) pendingBox) = 0 ∧ (later (.programActivate (head3 0 0) 5 []) pendingBox).writes = [] := by
  decide +kernel

/-- The partner's REG_WRITE of `v` at address `a`. -/
def entryOf (a v : Nat) : List Byte := leBytes 2 0x32 ++ zeros 30 ++ leBytes 4 a ++ leBytes 4 v ++ leBytes 4 0xFFFFFFFF ++ zeros 20

theorem witness_HostWriteCommands_partner :
    (entryAct (entryOf (Reg.TBL_AGE_CFG.addr 0) 5)).1 = .ok (.reg (Reg.TBL_AGE_CFG.addr 0) (5 : Word).toNat (0xFFFFFFFF : Word).toNat) ∧
    regWritable (Reg.TBL_AGE_CFG.addr 0) = true ∧
    ((run (.hostWrite 100005 true 3 (entryOf (Reg.TBL_AGE_CFG.addr 0) 5)) paired).writes.map fun w => (w.eff, w.side, w.seq)) =
      [(100005, true, 3)] ∧
    (run (.hostWrite 100000 true 3 (entryOf (Reg.TBL_AGE_CFG.addr 0) 5)) paired).writes = [] ∧
    (run (.hostWrite 100000 true 3 (entryOf (Reg.TBL_AGE_CFG.addr 0) 5)) paired).twin.fault.isSome = true := by
  refine ⟨ok_of ?_, ?_⟩ <;> decide +kernel

/-- A long command at the front with its input. -/
def longCmd (op : Nat) (args buf : List Byte) : LongCmd :=
  { cmd := { seq := 0, cookie := 7, opcode := op }, args := args, bufIn := buf, bufAddr := 4096, bufLen := 4096, tick := 100000, shadow := [] }

/-- The device with that command running. -/
def running (l : LongCmd) (s : State) : State :=
  let t := mailbox 3 s
  { t with host := { t.host with longs := [l], outstanding := [l.cmd] } }

theorem witness_LongCommands :
    Claims.LongCommand (.imageWriteErase (head3 0 0) 1 0) (head3 0 0) 0x60 (leBytes 1 1 ++ [2, 0, 0] ++ leBytes 4 0) [] false ∧
    Claims.LongCommand (.programLoad (head3 1 0) [1, 2]) (head3 1 0) 0x10 [] [1, 2] true ∧
    ((run (.imageWriteErase (head3 0 0) 1 0) (mailbox 3 up)).host.longs.map fun l => (l.args, l.tick)) = [([1, 2, 0, 0, 0, 0, 0, 0], 100000)] ∧
    status (run (.programLoad (head3 0 0) [1, 2]) (mailbox 3 up)) = 3 ∧
    ((run (.imageWriteCommit (head3 0 100000) 1) (mailbox 3 up)).host.longs.map (·.tick)) = [100000] ∧
    status (run (.imageWriteCommit (head3 0 99999) 1) (mailbox 3 up)) = 4 ∧ up.host.longs = [] ∧
    (running { longCmd 0x61 [0] [] with tick := 100001 } up).host.longs.map (·.tick) = [100001] := by
  refine ⟨.inr (.inr (.inr (.inl ⟨1, 0, rfl, rfl, rfl, rfl, rfl⟩))), .inl ⟨[1, 2], rfl, rfl, rfl, rfl, rfl⟩, ?_⟩
  decide +kernel

/-- An image of one END instruction (Table HOB-6). -/
def endImage : List Byte :=
  leBytes 4 0x41584445 ++ leBytes 2 1 ++ leBytes 2 5 ++ [1, 0, 0, 0] ++ zeros 12 ++ leBytes 4 1 ++ zeros 36 ++
    leBytes 8 (wordFor (.endInv thr always))

theorem witness_LongCommands_flash :
    (running (longCmd 0x60 [1, 2, 0, 0, 0, 0, 0, 0] []) up).boot.slot ≠ some 1 ∧
    status (run (.longCommandDone {}) (running (longCmd 0x60 [0, 2, 0, 0, 0, 0, 0, 0] []) { up with boot := { up.boot with slot := some 0 } })) = 0x10 ∧
    status (run (.longCommandDone {}) (running (longCmd 0x60 [1, 2, 0, 0, 0, 0, 0, 0] []) up)) = 0 ∧
    flashBlank up 1 256 256 = true ∧
    FMap.get 0xFF (run (.longCommandDone {}) (running (longCmd 0x60 [1, 0, 0, 0, 0, 1, 0, 0] (List.replicate 256 3)) up)).boot.flash (slotBytes + 511) = 3 ∧
    status (run (.longCommandDone {}) (running (longCmd 0x61 [1] []) up)) = 0x12 ∧
    (loadProgram [1, 2] up).1.isSome = true ∧ status (run (.longCommandDone {}) (running (longCmd 0x10 [] [1, 2]) up)) = 0x0E := by
  decide +kernel

/-- A long command carried out. -/
def finished1 (inp : LongInput) (c : Instr) (s : State) : State :=
  match execLongCommandDone inp (run c s) with
  | .next t => t
  | _ => s

/-- Every domain off but the last. -/
def darkBox : State := mailbox 3 { up with pwr := { up.pwr with ready := 0 } }

theorem witness_LongCommands_effects :
    (mailbox 3 up).host.longs = [] ∧ status (finished1 {} (.programLoad (head3 1 0) [1, 2]) (mailbox 3 up)) = 0x0E ∧
    ((finished1 {} (.programLoad (head3 1 0) endImage) (mailbox 3 up)).prog.pendingImg.map (·.id)) = some 5 ∧
    (shadowLayout 2).2.1 = 262144 ∧ status (finished1 {} (.tableAudit (head3 0 0) 2 262140 5 []) (mailbox 3 up)) = 3 ∧
    status (finished1 {} (.tableAudit (head3 0 0) 2 262139 5 []) (mailbox 3 up)) = 0 ∧
    status (finished1 {} (.imageWriteData (head3 1 0) 1 256 (zeros 256)) (mailbox 3 up)) = 0 ∧
    status (finished1 {} (.imageWriteErase (head3 0 0) 1 4) (mailbox 3 up)) = 3 ∧
    status (finished1 {} (.imageWriteErase (head3 0 0) 1 0) (mailbox 3 up)) = 0 ∧
    status (finished1 {} (.imageSelect (head3 0 0) 1) (mailbox 3 up)) = 0x12 ∧
    32 + 8 * 1 ≤ bufOut (head3 2 0) ∧ bistAllowed 3 (mailbox 3 up) = false ∧ bistAllowed 3 darkBox = true ∧
    status (finished1 {} (.bistRunMbist (head3 2 0) 3) (mailbox 3 up)) = 0x10 ∧
    ((finished1 { failed := [(3, 3)] } (.bistRunLbist (head3 2 0) 3) darkBox).boot.health.map fun x => (x.kind, x.num)) = [(3, 3)] := by
  decide +kernel

/-- Stove 3 serves, stoves 5 and 7 of group 1 are spare. -/
def spareBox : State := mailbox 3 (stoves [(3, { st := .inService }), (5, { st := .spare }), (7, { st := .spare })])

theorem witness_LongCommands_sweep :
    spareBox.pwr.visit = none ∧ (groupOf spareBox 1).powered = true ∧ (groupOf spareBox 5).powered = false ∧
    (inService spareBox).length ≤ ((eligible spareBox).filter fun i => decide (i / 4 ≠ 1)).length ∧
    ((finished1 {} (.bistRunSweep (head3 2 0) 1) spareBox).pwr.visit.map fun v => (v.group, v.cover)) = some (1, none) ∧
    status (finished1 {} (.bistRunSweep (head3 2 0) 1) spareBox) = 0 ∧ status (finished1 {} (.bistRunSweep (head3 2 0) 5) spareBox) = 0x10 := by
  decide +kernel

theorem witness_LongCommands_select : slotImage true 1 up = .error 2 := err_of (by decide +kernel)

theorem witness_LongCommands_others :
    (loadProgram endImage up).1 = none ∧ ((run (.longCommandDone {}) (running (longCmd 0x10 [] endImage) up)).prog.pendingImg.map (·.id)) = some 5 ∧
    5 < leAt [6, 0] 0 2 ∧ status (run (.longCommandDone {}) (running (longCmd 0x22 [6, 0] []) up)) = 3 ∧
    bistAllowed 3 up = false ∧ status (run (.longCommandDone { failed := [(3, 3)] }) (running (longCmd 0x70 [1, 3] []) up)) = 0x10 ∧
    bistAllowed 3 { up with pwr := { up.pwr with ready := 0 } } = true ∧
    ((run (.longCommandDone { failed := [(3, 3)] }) (running (longCmd 0x70 [1, 3] []) { up with pwr := { up.pwr with ready := 0 } })).boot.health.map
      fun x => (x.kind, x.num)) = [(3, 3)] := by decide +kernel

theorem witness_MailboxAnswers :
    Claims.MbxTakes (mailbox 3 up) (head3 0 0) 0x01 ∧ min (259 % 256) 3 = 3 ∧ (run (.versionQuery (head3 0 0) 255 2) (mailbox 3 up)).host.version = 3 ∧
    status (run (.versionQuery (head3 0 0) 1 1) (mailbox 3 up)) = 2 ∧
    Claims.MbxTakes (mailbox 3 up) (head3 2 0) 0x21 ∧ (leBytes 8 7).length = keyLen 2 ∧ readKeyOk 2 (recordWords 2 (leBytes 8 7)) = true ∧
    readLen 2 ≤ bufOut (head3 2 0) ∧ status (run (.tableRead (head3 2 0) 2 (leBytes 8 7)) (mailbox 3 up)) = 0 ∧
    ((run (.tableRead (head3 2 100001) 2 (leBytes 8 7)) (mailbox 3 up)).host.reads.map (·.tick)) = [100001] ∧
    status (run (.tableRead (head3 2 99999) 2 (leBytes 8 7)) (mailbox 3 up)) = 4 ∧
    keyLen 6 = 16 ∧ readKeyOk 6 (recordWords 0 (words [7, 5])) = true ∧ readLen 7 ≤ bufOut (head3 2 0) ∧
    ((run (.tableRead (head3 2 0) 6 (words [7, 5])) (mailbox 3 up)).tbl.laneOps.map fun o => (o.record, o.write)) = [(7, none)] ∧
    status (run (.tableRead (head3 2 0) 7 (words [7, 5])) (mailbox 3 (withHome up))) = 0 ∧
    Claims.MbxTakes (mailbox 3 up) (head3 2 0) 0x71 ∧ (healthBytes up).length ≤ bufOut (head3 2 0) ∧ bufOut (head3 0 0) < (healthBytes up).length ∧
    status (run (.healthRead (head3 0 0)) (mailbox 3 up)) = 3 ∧ status (run (.healthRead (head3 2 0)) (mailbox 3 up)) = 0 := by
  refine ⟨fits_solo 0 0 1 (by decide), by decide, ?_, ?_, fits_solo 2 0 0x21 (by decide), ?_, ?_, ?_, ?_, ?_, ?_, ?_, ?_, ?_, ?_, ?_, fits_solo 2 0 0x71 (by decide), ?_⟩ <;>
    decide +kernel

/-- A mailbox in twin state `st`. -/
def mailboxIn (st : TwinState) : State :=
  let s := mailbox 3 up
  { s with twin := { s.twin with st := st, heard := 99999 }, clk := { s.clk with forwarding := decide (st ≠ .diverged) } }

theorem witness_MailboxAnswers_twin :
    mbxOpen (mailboxIn .standby) = true ∧ mbxOpen (mailboxIn .diverged) = true ∧
    (run (.twinCmdSwap (head3 0 0)) (mailboxIn .standby)).twin.swapAsked = true ∧
    ((run (.twinCmdSwap (head3 0 0)) (mailboxIn .active)).out.flue.map (·.type)) = [] ∧
    status (run (.twinCmdSwap (head3 0 0)) (mailboxIn .solo)) = 0x0E ∧
    (run (.twinCmdResync (head3 0 0)) (mailboxIn .diverged)).twin.resyncCmd = true ∧
    status (run (.twinCmdResync (head3 0 0)) (mailboxIn .active)) = 0x0E ∧
    (run (.twinCmdLeave (head3 0 0)) (mailboxIn .active)).twin.st = .solo ∧
    (run (.twinCmdLeave (head3 0 0)) (mailboxIn .standby)).twin.fault = some (0x0B, 100000, 100005) ∧
    (run (.twinCmdLeave (head3 0 0)) (mailboxIn .solo)).twin.st = .diverged ∧
    mayPair (mailbox 3 up) = false ∧ status (run (.twinCmdPair (head3 0 0) (zeros 32)) (mailbox 3 up)) = 0x0E ∧
    mayPair (mailbox 3 (pairs .solo {})) = true ∧
    (run (.twinCmdPair (head3 0 0) (zeros 32)) (mailbox 3 (pairs .solo {}))).twin.pair.started = some 100000 ∧
    isSafe (mailbox 3 { up with boot := { up.boot with safe := .strap } }) = true ∧
    status (run (.twinCmdSwap (head3 0 0)) (mailbox 3 { up with boot := { up.boot with safe := .strap } })) = 0x10 ∧
    status (run (.twinCmdStatus (head3 0 0)) (mailboxIn .standby)) = 0 := by decide +kernel

/-! ### Reset and start-up -/

/-- The public key 7 · G of P-384. -/
def signKey : List Byte :=
  beBytes 48 0x283c1d7365ce4788f29f8ebf234edffead6fe997fbea5ffa2d58cc9dfa7b1c508b05526f55b9ebb2040f05b48fb6d0e1 ++
  beBytes 48 0x9475c99061e41b88ba52efdb8c1690471a61d867ed799729d9c92cd01dbd225630d84ede32a78f9e64664cdac512ef8c

/-- A boot image of 512 bytes with the four empty sections it must have, but for its signature. -/
def unsigned (sig : List Byte) : List Byte :=
  leBytes 4 0x444E494B ++ leBytes 2 1 ++ leBytes 2 256 ++ leBytes 4 512 ++ leBytes 2 4 ++ zeros 9 ++ [0xFF] ++ zeros 40 ++ signKey ++ sig ++
    ([1, 2, 3, 4].flatMap fun t => [t, 1, 0, 0] ++ leBytes 4 384 ++ zeros 24) ++ zeros 128

/-- Its signature by that key, and the image. -/
def signature : List Byte :=
  beBytes 48 0x11de24a2c251c777573cac5ea025e467f208e51dbff98fc54f6661cbe56583b037882f4a1ca297e60abcdbc3836d84bc ++
  beBytes 48 0xa85097003d255fdb979562cfcd890b72fffe5f3af2d5ebce8f644e157b7384d29113e99f1e20c427f822f3dd8efb7a74
def signedImage : List Byte := unsigned signature

/-- Fuses that accept that key. -/
def rooted : Fuses := { rootHash := sha384 signKey }

set_option maxRecDepth 4000 in
theorem signed_header : headerCheck rooted (signedImage.take 256) = none := by decide +kernel

set_option maxRecDepth 4000 in
theorem signed_body : bodyCheck rooted 2 signedImage = none := by decide +kernel

/-- Bytes at the keys from `a` on. -/
def numbered : Nat → List Byte → FMap Byte
  | _, [] => []
  | a, b :: bs => (a, b) :: numbered (a + 1) bs

theorem bytes_cons (d v : Byte) (m : FMap Byte) (k : Nat) : ∀ n j, k < j → FMap.bytes d ((k, v) :: m) j n = FMap.bytes d m j n
  | 0, _, _ => rfl
  | n + 1, j, h => by
    simp only [FMap.bytes, FMap.get, show ¬j = k by omega, if_false]
    rw [bytes_cons d v m k n (j + 1) (by omega)]

theorem bytes_numbered (d : Byte) : ∀ (bs : List Byte) (a n : Nat), n ≤ bs.length → FMap.bytes d (numbered a bs) a n = bs.take n
  | bs, a, 0, _ => by simp [FMap.bytes]
  | [], _, n + 1, h => absurd h (by simp)
  | b :: bs, a, n + 1, h => by
    simp only [numbered, FMap.bytes, FMap.get, if_true, List.take_succ_cons]
    rw [bytes_cons d b _ a n (a + 1) (by omega), bytes_numbered d bs (a + 1) n (by simpa using h)]

theorem bytes_beyond (d : Byte) : ∀ (bs : List Byte) (a j n : Nat), a + bs.length ≤ j → FMap.bytes d (numbered a bs) j n = List.replicate n d
  | [], a, j, 0, _ => rfl
  | [], a, j, n + 1, h => by
    have ih := bytes_beyond d [] a (j + 1) n (by simp at h ⊢; omega)
    simp only [numbered] at ih
    simp only [numbered, FMap.bytes, FMap.get, List.replicate_succ, ih]
  | b :: bs, a, j, n, h => by
    simp only [List.length_cons] at h
    rw [numbered, bytes_cons d b _ a n j (by omega), bytes_beyond d bs (a + 1) j n (by omega)]

theorem signed_length : signedImage.length = 512 := by decide +kernel

/-- A device in reset whose fuses accept that key and whose slot 0 holds the image. -/
def flashed : State :=
  { State.reset with
    fuses := rooted, boot := { State.reset.boot with flash := numbered 0 signedImage, cwkSensed := true } }

theorem flashed_header : flashRead flashed 0 0 256 = signedImage.take 256 :=
  bytes_numbered _ _ 0 256 (by have := signed_length; omega)

theorem flashed_length : leAt (signedImage.take 256) 8 4 = 512 := by decide +kernel

theorem flashed_image : flashRead flashed 0 0 512 = signedImage := by
  have h := bytes_numbered 0xFF signedImage 0 512 (by have := signed_length; omega)
  rw [List.take_of_length_le (by have := signed_length; omega)] at h
  exact h

theorem flashed_blank (slot off n : Nat) (h : 512 ≤ slot * slotBytes + off) : flashRead flashed slot off n = List.replicate n 0xFF :=
  bytes_beyond _ _ 0 _ _ (by have := signed_length; omega)

theorem flashed_accepts : slotImage true 0 flashed = .ok signedImage := by
  unfold slotImage
  rw [flashed_header]
  simp only [Bool.not_true, Bool.false_eq_true, ↓reduceIte]
  rw [show flashed.boot.cwkSensed = true from rfl, if_pos rfl, show flashed.fuses = rooted from rfl, show flashed.twin.feature = 2 from rfl, signed_header, flashed_length, flashed_image]
  simp only [signed_body]

theorem flashed_other : slotImage true 1 flashed = .error 2 := by
  unfold slotImage
  rw [flashed_blank 1 0 256 (by decide)]
  exact err_of (by decide +kernel)

theorem empty_slots : slotImage true 0 State.reset = .error 2 ∧ slotImage true 1 State.reset = .error 2 :=
  ⟨err_of (by decide +kernel), err_of (by decide +kernel)⟩

theorem witness_ResetsAndStarts :
    (run (.resetNLow 10000) up).boot.inReset = true ∧ (run (.resetNLow 10000) up).clk.tick = 0 ∧ (run (.resetNLow 7999) up).clk.tick = 100000 ∧
    (run .supplyMonitorReset up).boot.supplyLow = true ∧ up.boot.resetLow = false ∧ up.boot.supplyLow = false ∧
    State.reset.boot.resetLow = true ∧ (run .supplyMonitorReset State.reset).boot.supplyLow = true ∧
    (run (.resetNRise {}) (run .supplyMonitorReset State.reset)).boot.inReset = true ∧
    (run (.resetNRise { testEn := true }) State.reset).boot.safe = .scan ∧
    (run (.resetNRise { fuseError := true }) State.reset).boot.safe = .fuseError ∧
    (run (.resetNRise { pllLocked := false }) State.reset).boot.step = 2 ∧
    (run (.supplyMonitorRelease { pllLocked := false }) (run .supplyMonitorReset up)).boot.inReset = false := by decide +kernel

theorem witness_ResetsAndStarts_steps :
    (∀ h ∈ State.reset.boot.health, h.kind ≠ 4) ∧ (∀ e ∈ ({} : StartInput).failed, e.1 ≠ 4) ∧
    (run (.resetNRise { aonFailed := true }) State.reset).boot.safe = .sliceFailed ∧
    (run (.resetNRise { hbmFailed := 1 }) State.reset).boot.safe = .hbmFailed ∧
    tb (run (.resetNRise { hbmFailed := 1 }) State.reset).pwr.ready 25 = false ∧
    tb (run (.resetNRise { hbmFailed := 1 }) State.reset).pwr.ready 26 = true ∧
    (run (.resetNRise { bootSafe := true }) State.reset).boot.safe = .strap ∧
    (run (.resetNRise {}) State.reset).boot.safe = .noImage ∧ (run (.resetNRise {}) State.reset).boot.reasonA = 2 := by decide +kernel

theorem witness_ResetsAndStarts_restart :
    hostReaches up = true ∧ (0xB0070002 : Word).getLsbD 1 = true ∧ wfld (0xB0070002 : Word) 31 16 = 0xB007 ∧
    (run (.restart 0xB0070002 { testEn := true }) up).boot.safe = .scan ∧ (run (.restart 0xB0060002 { testEn := true }) up).boot.safe = .none ∧
    (run .pllLock { up with clk := { up.clk with pllLocked := false } }).clk.zeroNext = true ∧
    (run (.resetNRise { pllLocked := false }) State.reset).boot.holding.isSome = true ∧
    (run .pllLock (run (.resetNRise { pllLocked := false, bootSafe := true }) State.reset)).boot.safe = .strap := by decide +kernel

/-- A device in the safe hearth state with the HBM stacks on and perhaps a pending image. -/
def handStart (c : SafeCause) (img : Option Image) : State :=
  { up with
    boot := { up.boot with startS := none, safe := c, step := 5 }
    clk := { up.clk with forwarding := false }
    prog := { up.prog with pendingImg := img } }

/-- A solo device about to forward at tick `e`, lane 8's ENABLE held. -/
def toForward (e : Nat) : State :=
  { up with
    boot := { up.boot with startS := some e, pairWait := some e, enables := [8], step := 10 }
    clk := { up.clk with forwarding := false }
    prog := { up.prog with pendingImg := some (imageWith 0) } }

theorem witness_ForwardingBegins :
    hostReaches (handStart .strap (some (imageWith 0))) = true ∧ (1 : Word).getLsbD 0 = true ∧
    tb (handStart .strap (some (imageWith 0))).pwr.ready 25 = true ∧
    (run (.forward 1) (handStart .strap (some (imageWith 0)))).boot.startS = some 101024 ∧
    (run (.forward 1) (handStart .noImage (some (imageWith 0)))).boot.byHand = true ∧
    (run (.forward 1) (handStart .hbmFailed (some (imageWith 0)))).boot.startS = none ∧
    (run (.forward 1) (handStart .strap none)).boot.startS = none ∧
    isSafe (toForward 100000) = false ∧ (toForward 100000).twin.st = .solo ∧
    (run .forwardingStart (toForward 100000)).clk.forwarding = true ∧
    ((run .forwardingStart (toForward 100000)).prog.active.map (·.k)) = some 64 ∧
    regBit (run .forwardingStart (toForward 100000)) .LANE_MODE 8 4 = true ∧
    (run .forwardingStart (toForward 100001)).clk.forwarding = false ∧
    (run .pairWaitExpire (toForward 100000)).clk.forwarding = true ∧
    (run .pairWaitExpire (toForward 100001)).clk.forwarding = false := by decide +kernel

/-- A device booted from the signed image, which erases the other slot. -/
def booted : State :=
  { up with
    fuses := rooted, boot := { up.boot with slot := some 0, image := signedImage }
    pending := [.lowWordRead 0] }

theorem witness_OnlyAcceptedImagesRun :
    Claims.ImageAccepted booted ∧ Claims.FuseJudged booted ∧ (∃ t, step booted = .next t) := by
  refine ⟨fun k _ => ⟨rooted, 2, ?_, signed_header, signed_body⟩, by intro o h; simp [booted, up, State.reset] at h, ⟨_, rfl⟩⟩
  exact ⟨rfl, rfl, rfl, id, fun _ _ h => h, fun _ h => h, fun _ h => h, Nat.le_refl _, Nat.le_max_right ..⟩

/-! ### Power, temperature, self-test and JTAG -/

/-- Every domain of PWR_DOMAIN_CTRL switched on, and all of them off. -/
def switched : State := regSet .PWR_DOMAIN_CTRL 0 0x1FFF up
def unswitched : State := regSet .PWR_DOMAIN_CTRL 0 0 { up with pwr := { up.pwr with ready := 2 ^ 30 } }

/-- Domain `d`, then domain 9, ramping. -/
def ramping (d : Nat) : State := { switched with pwr := { switched.pwr with ready := 0, rampQ := [d, 9] } }

theorem witness_PowerDomains :
    regBit switched .PWR_DOMAIN_CTRL 0 0 = true ∧ mayBeOff (bitDomain 0) switched = true ∧
    tb switched.pwr.ready (bitDomain 0) = true ∧
    regBit (run (.domainSwitchOff 0) switched) .PWR_DOMAIN_CTRL 0 0 = false ∧
    tb (run (.domainSwitchOff 0) switched).pwr.ready 0 = false ∧
    regBit (run (.domainSwitchOff 0) switched) .PWR_EVENT 0 0 = true ∧
    regBit switched .PWR_DOMAIN_CTRL 0 8 = true ∧ mayBeOff (bitDomain 8) switched = false ∧
    regBit (run (.domainSwitchOff 8) switched) .PWR_EVENT 0 1 = true ∧
    regBit switched .PWR_DOMAIN_CTRL 0 10 = true ∧ mayBeOff (bitDomain 10) switched = true ∧
    mayBeOff (bitDomain 11) switched = true ∧ mayBeOff (bitDomain 12) switched = true ∧
    (run (.domainSwitchOff 11) { switched with tcam := { switched.tcam with entries := [(59391, { m0 := true }), (59392, { m0 := true })] } }).tcam.entries.map
      (·.1) = [59391] ∧
    regBit unswitched .PWR_DOMAIN_CTRL 0 12 = false ∧
    (run (.domainSwitchOn 12) unswitched).pwr.rampQ = [29] ∧ unswitched.pwr.rampQ = [] := by decide +kernel

theorem witness_PowerDomains_ready :
    (ramping 10).pwr.rampQ = 10 :: [9] ∧ tb (ramping 10).pwr.ready 10 = false ∧
    tb (run (.domainReady []) (ramping 10)).pwr.ready 10 = true ∧ (groupOf (run (.domainReady []) (ramping 10)) 2).powered = true ∧
    (ramping 7).pwr.rampQ = 7 :: [9] ∧ tb (ramping 7).pwr.ready 7 = false ∧ ([(3, 7)] : List (Nat × Nat)) ≠ [] ∧
    (run (.domainReady [(3, 7)]) (ramping 7)).pwr.ready = 0 ∧
    (ramping 29).pwr.rampQ = 29 :: [9] ∧ tb (ramping 29).pwr.ready 29 = false ∧
    regBit (run (.domainReady [(0, 29)]) (ramping 29)) .PWR_DOMAIN_CTRL 0 12 = false ∧
    (ramping 25).pwr.rampQ = 25 :: [9] ∧ tb (ramping 25).pwr.ready 25 = false ∧
    (run (.domainReady [(4, 0)]) (ramping 25)).boot.safe = .hbmFailed := by decide +kernel

/-- The voltage loop enabled, with groups 0, 1 and 16 powered. -/
def scaling : State := regSet .PWR_AVS_CFG 0 1 (stovesWith {})

/-- What each domain needs: 90, domain 30 `n`. -/
def needs (n : Nat) : List Nat := List.replicate 30 90 ++ [n]

theorem witness_VoltageAndTemperature :
    scaling.boot.inReset = false ∧ 4 ≤ scaling.boot.step ∧ scaling.pwr.thermtrip = false ∧
    regBit scaling .PWR_AVS_CFG 0 0 = true ∧ (∀ x ∈ poweredNeeds (needs 140) scaling, x.2 ≤ 140) ∧
    (run (.avsRecompute (needs 140)) scaling).pwr.vidTarget = 140 ∧ (run (.avsRecompute (needs 40)) scaling).pwr.vidTarget = 90 ∧
    (∃ x ∈ poweredNeeds (needs 141) scaling, 140 < x.2) ∧ (run (.avsRecompute (needs 141)) scaling).pwr.avsLimit = true ∧
    regBit (regSet .PWR_AVS_CFG 0 0 up) .PWR_AVS_CFG 0 0 = false ∧
    State.reset.boot.inReset = true ∧ up.boot.inReset = false ∧
    (run .vidStep { up with pwr := { up.pwr with vidTarget := 140 } }).pwr.vid = 101 ∧
    (run .vidStep { up with pwr := { up.pwr with vidTarget := 72 } }).pwr.vid = 99 := by decide +kernel

theorem witness_VoltageAndTemperature_fastest : Claims.Fastest scaling 0 ∧
    wantedCode scaling 0 = 8 ∧ wantedCode (run (.avsRecompute (needs 141)) scaling) 0 = 7 := by
  unfold Claims.Fastest; decide +kernel

/-- Samples of three sensors, the second and third the hottest. -/
theorem hottest_of (a t : Int) (h : a < t) : Claims.Hottest [a, t, t] 1 t := by
  refine ⟨rfl, ?_, fun j x hj he => ?_⟩
  · simp; omega
  · obtain rfl : j = 0 := by omega
    simp only [List.getElem?_cons_zero, Option.some.injEq] at he; omega

theorem witness_VoltageAndTemperature_samples :
    Claims.Hottest [40, 115, 115] 1 115 ∧ Claims.Hottest [40, 114, 114] 1 114 ∧ Claims.Hottest [40, 50, 50] 1 50 ∧
    (run (.thermalSample [40, 115, 115] 50 50) up).pwr.thermtrip = true ∧
    (run (.thermalSample [40, 50, 50] 50 105) up).pwr.thermtrip = true ∧
    (run (.thermalSample [40, 114, 114] 104 104) scaling).pwr.throttling = true ∧
    (groupOf scaling 0).powered = true ∧ regFld scaling .PWR_THERM_CFG 0 23 20 < wantedCode scaling 0 ∧
    (regFld scaling .PWR_THERM_CFG 0 15 8 : Int) ≤ 114 ∧ (regFld scaling .PWR_THERM_CFG 0 7 0 : Int) ≤ 114 ∧
    wantedCode (run (.thermalSample [40, 114, 114] 104 104) scaling) 0 = 7 ∧
    (50 : Int) < (regFld up .PWR_THERM_CFG 0 15 8 : Int) ∧ up.pwr.throttling = false ∧
    (run (.thermalSample [40, 50, 50] 50 50) up).pwr.tjSensor = 1 ∧ up.pwr.thermtrip = false := by
  refine ⟨hottest_of _ _ (by decide), hottest_of _ _ (by decide), hottest_of _ _ (by decide), ?_⟩
  decide +kernel

/-- A sweep visit due at group 1, whose stoves 5 and 7 are in state `x`; group 2 is parked. -/
def sweepDue (x : StoveState) (cfg : Word) : State :=
  let s := regSet .BIST_SWEEP_CFG 0 cfg (regSet .STOVE_GROUP_CFG 2 0x18 (groupIn x { powered := true, freq := 8 }))
  { s with pwr := { s.pwr with lastLbist := [(0, 9), (16, 9)] } }

theorem witness_SweepAndWear :
    regBit (sweepDue .spare 0x101) .BIST_SWEEP_CFG 0 0 = true ∧ (sweepDue .spare 0x101).pwr.visit = none ∧
    (sweepDue .spare 0x101).pwr.nextVisit ≤ (sweepDue .spare 0x101).clk.tick ∧ 8 < (sweepDue .spare 0x101).boot.step ∧
    oldestGroup (sweepDue .spare 0x101) = some 1 ∧
    (inService (sweepDue .spare 0x101)).length ≤ ((eligible (sweepDue .spare 0x101)).filter fun i => i / 4 ≠ 1).length ∧
    (stoveOf (run .sweepVisit (sweepDue .spare 0x101)) 5).st = .sweep ∧ (groupOf (run .sweepVisit (sweepDue .spare 0x101)) 1).sweeping = true ∧
    oldestGroup (sweepDue .inService 0x103) = some 1 ∧
    ((eligible (sweepDue .inService 0x103)).filter fun i => i / 4 ≠ 1).length < (inService (sweepDue .inService 0x103)).length ∧
    regBit (sweepDue .inService 0x103) .BIST_SWEEP_CFG 0 1 = true ∧ isParked (sweepDue .inService 0x103) 2 = true ∧
    (groupOf (sweepDue .inService 0x103) 2).parking = false ∧ (∀ d < 2, d = 1 ∨ isParked (sweepDue .inService 0x103) d = false) ∧
    (groupOf (run .sweepVisit (sweepDue .inService 0x103)) 2).wakeFrom = some 102048 ∧
    regBit (sweepDue .inService 0x101) .BIST_SWEEP_CFG 0 1 = false ∧
    regBit (run .sweepVisit (sweepDue .inService 0x101)) .BIST_EVENT 0 2 = true := by decide +kernel

/-- A visit to group 1 under way, its stoves in state `x`. -/
def visiting (x : StoveState) (v : Visit) : State :=
  let s := groupIn x { powered := true, freq := 8, sweeping := true }
  { s with pwr := { s.pwr with visit := some v } }

theorem witness_SweepAndWear_visit :
    (visiting .draining ⟨1, none, 1, 0, 0⟩).pwr.visit = some ⟨1, none, 1, 0, 0⟩ ∧
    (∀ i < 8, i / 4 = 1 → stoveIdle (visiting .draining ⟨1, none, 1, 0, 0⟩) i = true) ∧
    (stoveOf (run .sweepDrained (visiting .draining ⟨1, none, 1, 0, 0⟩)) 7).st = .sweep ∧
    (visiting .sweep ⟨1, none, 2, 0, 0⟩).pwr.visit = some ⟨1, none, 2, 0, 0⟩ ∧
    (run (.sweepTestDone 2) (visiting .sweep ⟨1, none, 2, 0, 0⟩)).pwr.visit = some ⟨1, none, 3, 2, 100001⟩ ∧
    (visiting .sweep ⟨1, none, 3, 2, 100000⟩).pwr.visit = some ⟨1, none, 3, 2, 100000⟩ ∧ (1 : Nat) < 17 ∧ tb 2 1 = true ∧ tb 2 3 = false ∧
    (stoveOf (visiting .sweep ⟨1, none, 3, 2, 100000⟩) (4 * 1 + 3)).st = .sweep ∧
    (stoveOf (run .sweepReturn (visiting .sweep ⟨1, none, 3, 2, 100000⟩)) 5).st = .failed ∧
    (stoveOf (run .sweepReturn (visiting .sweep ⟨1, none, 3, 2, 100000⟩)) 7).st = .inService ∧
    setRight (run .sweepReturn (visiting .sweep ⟨1, none, 3, 2, 100000⟩)) = true := by decide +kernel

theorem idle_of_group (i : Nat) (h : i / 4 = 1) : stoveIdle (visiting .draining ⟨1, none, 1, 0, 0⟩) i = true :=
  witness_SweepAndWear_visit.2.1 i (by omega) h

theorem witness_SweepAndWear_aging :
    up.boot.inReset = false ∧ up.pwr.thermtrip = false ∧ ([4000, 5000] : List Nat)[1]? = some 5000 ∧
    800 ≤ lifeUsed (Nat.min 5000 4095) ∧ up.pwr.agingWarned = false ∧
    FMap.get 0 (run (.agingReport [4000, 5000]) up).pwr.aging 1 = 4095 ∧
    regBit (run (.agingReport [4000, 5000]) up) .PWR_EVENT 0 5 = true := by decide +kernel

theorem witness_JtagInstructions :
    Instr.intscan ∈ [Instr.extest, .intscan, .bistctl] ∧ up.boot.inReset = false ∧ up.pwr.thermtrip = false ∧
    (run .intscan { up with boot := { up.boot with cwkSensed := true } }).boot.safe = .scan ∧
    (run .intscan { up with boot := { up.boot with cwkSensed := true } }).boot.cwkSensed = false ∧
    State.reset.boot.inReset = true ∧ (run .idcode up).out.jtag = [0x1624098F] := by decide +kernel

/-! ### The tick, fuses and frames -/

theorem witness_TicksAdvanceTheCount :
    State.reset.boot.inReset = true ∧ up.boot.inReset = false ∧ up.clk.pllLocked = true ∧ (run (.tick {}) up).clk.tick = 100001 ∧
    (run (.tick {}) { up with clk := { up.clk with zeroNext := true } }).clk.tick = 0 ∧
    (∃ t, exec (.resetNLow 10000) up = .next t ∧ t.clk.tick ≠ up.clk.tick) := by
  refine ⟨rfl, rfl, rfl, ?_, ?_, _, rfl, ?_⟩ <;> decide +kernel

theorem witness_EveryCommandKeepsToItsAreas : ∃ t, exec (.domainSwitchOff 0) switched = .next t ∧ t.pwr ≠ switched.pwr :=
  ⟨_, rfl, by decide +kernel⟩

theorem witness_StepRunsTheFrontCommand :
    (∃ t, step { up with pending := [.vidStep] } = .next t ∧ t.pending = []) ∧ step { up with pending := [] } = .next up :=
  ⟨⟨_, rfl, by decide +kernel⟩, rfl⟩

/-- A device in the safe hearth state for want of an image, VDD_FUSE in range, fuse operation `o` under way. -/
def blowing (o : Option FuseOp) : State :=
  { up with
    fuses := { custHash := [(1, [7])], svn := 3 }
    boot := { up.boot with startS := none, safe := .noImage, step := 5, vfuseOk := true, fuseOp := o } }

/-- Its key data not all zero. -/
def withFuseData (s : State) : State := { s with boot := { s.boot with fuseData := [(0, 7)] } }

theorem witness_FusesOnlyEverBlow :
    Claims.FuseInv (blowing none).fuses { blowing (some { op := 5, slot := 0, svn := 4, refused := false }) with pending := [.fuseOpDone true] } ∧
    ∃ t, step { blowing (some { op := 5, slot := 0, svn := 4, refused := false }) with pending := [.fuseOpDone true] } = .next t ∧
      t.fuses.svn = 4 := by
  refine ⟨⟨?_, ⟨rfl, rfl, rfl, id, fun _ _ h => h, fun _ h => h, fun _ h => h, Nat.le_refl _, Nat.le_max_right ..⟩⟩, _, rfl, by decide +kernel⟩
  intro o h
  obtain rfl : _ = o := Option.some.inj h
  decide +kernel

theorem witness_FuseOperations :
    Claims.FuseRequest (.fuseAdvanceSvn 4) 5 0 4 ∧ hostReaches (blowing none) = true ∧ isSafe (blowing none) = true ∧
    (blowing none).boot.vfuseOk = true ∧ (blowing none).boot.fuseOp = none ∧ isSafe up = false ∧
    (run (.fuseAdvanceSvn 4) (blowing none)).boot.fuseOp = some { op := 5, slot := 0, svn := 4, refused := false } ∧
    (run (.fuseProgramCustHash 1) (blowing none)).boot.fuseOp = some { op := 1, slot := 1, svn := 0, refused := true } := by
  refine ⟨.inr (.inr (.inr (.inr ⟨4, rfl, rfl, rfl, rfl⟩))), ?_⟩; decide +kernel

theorem witness_FuseOperations_ends :
    (blowing (some { op := 1, slot := 1, svn := 0, refused := true })).boot.fuseOp = some { op := 1, slot := 1, svn := 0, refused := true } ∧
    (run (.fuseOpDone true) (blowing (some { op := 1, slot := 1, svn := 0, refused := true }))).boot.fuseResult = 1 ∧
    (run (.fuseOpDone false) (blowing (some { op := 2, slot := 3, svn := 0, refused := false }))).boot.fuseResult = 2 ∧
    tb (run (.fuseOpDone true) (blowing (some { op := 2, slot := 3, svn := 0, refused := false }))).fuses.custRevoke 3 = true ∧
    (run (.fuseOpDone true) (blowing (some { op := 1, slot := 2, svn := 0, refused := false }))).fuses.custHash.map (·.1) = [1] ∧
    (run (.fuseOpDone true) (withFuseData (blowing (some { op := 1, slot := 2, svn := 0, refused := false })))).fuses.custHash.map
      (·.1) = [1, 2] ∧
    (run (.fuseOpDone true) (blowing (some { op := 3, slot := 0, svn := 0, refused := false }))).fuses.rootDisable = true ∧
    (run (.fuseOpDone true) (blowing (some { op := 4, slot := 0, svn := 0, refused := false }))).fuses.cwk.isSome = true := by decide +kernel

theorem witness_InvocationsAreIsolated :
    (Claims.wordOf (.add thr always 4 1 2)).map (fun x => (x.1, x.2.1)) = some (thr, always) ∧
    (∃ u, exec (.add thr always 4 1 2) (issuing (.add thr always 4 1 2) thread inflight) = .next u) ∧
    threadAt (issuing (.add thr always 4 1 2) thread inflight) (threadKey thr) = some thread ∧
    flightOf (issuing (.add thr always 4 1 2) thread inflight) thread.inv = some inflight ∧ 4 ≠ inflight.emberLane ∧
    threadKey thr + 1 ≠ threadKey thr ∧ inflight.ember ≠ some 7 ∧ threadAt up (threadKey thr) = none := by
  refine ⟨?_, ⟨_, rfl⟩, ?_⟩ <;> decide +kernel

theorem witness_GuardedInstructions_guards :
    guardHolds thread { pred := 1, neg := false } = true ∧ guardHolds thread { pred := 2, neg := true } = true ∧
    guardHolds thread { pred := 0, neg := true } = false := by decide +kernel

end Sys2Proof.Tests
end

section
/-! PROOF. Stamp-order errors (R58). The error leaves three things behind: the ticks from the lower stamp through the higher one
are not clean, the highest stamp is as it was, and the bit of event 0x1006 is set. The rest of a block's reception, up to the
frame's cells and its place before the hearth sequencer, undoes none of them: it only adds to the lane's unclean ticks, never
moves the highest stamp, and writes no bit of that event register but its own. -/

namespace Sys2Proof.Machine

/-- What a stamp-order error of stamp `g` below the highest stamp `h` leaves on lane `l` (R58). -/
structure StampOrderMarked (l : Fin 512) (g h : Nat) (s : State) : Prop where
  unclean : (g, h) ∈ (laneOf s l.val).unclean
  highStamp : (laneOf s l.val).highStamp = some h
  event : regBit s .LANE_EVENT l.val 3 = true

/-- A lane is not clean for a tick of one of its unclean ranges, whatever its mode (R62). -/
theorem laneClean_of_mem_unclean {s : State} {l a b k : Nat} (hu : (a, b) ∈ (laneOf s l).unclean) (ha : a ≤ k) (hb : k ≤ b) :
    laneClean s l k = false := by
  have marked : ((laneOf s l).unclean.any fun u => decide (u.1 ≤ k ∧ k ≤ u.2)) = true :=
    List.any_eq_true.2 ⟨(a, b), hu, decide_eq_true ⟨ha, hb⟩⟩
  unfold laneClean
  simp only [marked, Bool.not_true, Bool.and_false, Bool.false_and, ite_self]

/-- Setting one bit of a word leaves every other bit as it is. -/
theorem setFld_bit_ne (v : Word) {b c : Nat} (hc : c < 32) (h : c ≠ b) :
    (setFld v b b 1).getLsbD c = v.getLsbD c := by
  have e : b + 1 - b = 1 := by omega
  have hbit : (BitVec.ofNat 32 (1 * 2 ^ b)).getLsbD c = false := by
    rw [BitVec.getLsbD_ofNat, Nat.one_mul, Nat.testBit_two_pow_of_ne h.symm, Bool.and_false]
  unfold setFld
  rw [e, Nat.pow_one]
  simp only [BitVec.getLsbD_or, BitVec.getLsbD_and, BitVec.getLsbD_not, hbit, hc, decide_true, Bool.not_false, Bool.and_true,
    Bool.and_false, Bool.or_false]

/-- The event registers of the lanes lie below every register of the later blocks (Table HOST-2). -/
theorem laneEvent_addr_ne (l : Fin 512) {r : Reg} (i : Nat) (hr : 0x200000 ≤ r.info.off) :
    Reg.LANE_EVENT.addr l.val ≠ r.addr i := by
  have hl : Reg.LANE_EVENT.addr l.val < 0x200000 := by
    have := l.isLt
    simp only [Reg.addr, Reg.info]
    omega
  have hi : r.info.off ≤ r.addr i := (Nat.le_add_right _ _).trans (Nat.le_add_right _ _)
  omega

theorem laneEvent_addr_ne_wireErrCnt (l : Nat) : Reg.LANE_EVENT.addr l ≠ Reg.LANE_WIRE_ERR_CNT.addr l := by
  simp only [Reg.addr, Reg.info]
  omega

section
variable {l : Fin 512} {g h : Nat} {s t : State}

/-- The lane is not clean for any tick from the lower stamp through the higher one. -/
theorem StampOrderMarked.not_clean (m : StampOrderMarked l g h s) (k : Nat) (hg : g ≤ k) (hh : k ≤ h) :
    laneClean s l.val k = false := laneClean_of_mem_unclean m.unclean hg hh

/-! ### What keeps the marks -/

/-- An operation that leaves the lanes and the lane's event register alone keeps the marks. -/
theorem StampOrderMarked.of_lanes_regVal (m : StampOrderMarked l g h s) (hl : t.lanes = s.lanes)
    (hr : regVal t .LANE_EVENT l.val = regVal s .LANE_EVENT l.val) : StampOrderMarked l g h t := by
  have hlane : laneOf t l.val = laneOf s l.val := by
    unfold laneOf
    rw [hl]
  refine ⟨hlane ▸ m.unclean, hlane ▸ m.highStamp, ?_⟩
  unfold regBit
  rw [hr]
  exact m.event

/-- An operation that leaves the lanes and all registers alone keeps the marks. -/
theorem StampOrderMarked.of_lanes_regs (m : StampOrderMarked l g h s) (hl : t.lanes = s.lanes) (hr : t.regs = s.regs) :
    StampOrderMarked l g h t := m.of_lanes_regVal hl (regVal_of_regs hr _ _)

theorem marked_ite {c : Prop} [Decidable c] (hs : StampOrderMarked l g h s) (ht : StampOrderMarked l g h t) :
    StampOrderMarked l g h (if c then s else t) := by
  split
  · exact hs
  · exact ht

theorem marked_forEach {α : Type} (xs : List α) (f : α → State → State)
    (hf : ∀ x s, StampOrderMarked l g h s → StampOrderMarked l g h (f x s)) (m : StampOrderMarked l g h s) :
    StampOrderMarked l g h (forEach xs f s) := by
  induction xs generalizing s with
  | nil => exact m
  | cons x xs ih => exact ih (hf x s m)

/-- A change of the lane that forgets no unclean range and keeps its highest stamp. -/
theorem marked_modLane {f : Lane → Lane} (m : StampOrderMarked l g h s) (hu : (laneOf s l.val).unclean ⊆ (f (laneOf s l.val)).unclean)
    (hh : (f (laneOf s l.val)).highStamp = (laneOf s l.val).highStamp) : StampOrderMarked l g h (modLane l.val f s) := by
  refine ⟨?_, ?_, m.event⟩
  · rw [laneOf_modLane_self]
    exact hu m.unclean
  · rw [laneOf_modLane_self, hh]
    exact m.highStamp

theorem marked_addUnclean (m : StampOrderMarked l g h s) (a b : Nat) : StampOrderMarked l g h (addUnclean l.val a b s) :=
  marked_modLane m (List.subset_append_left _ _) rfl

/-! ### Registers and events -/

theorem marked_regSet (m : StampOrderMarked l g h s) {r : Reg} {i : Nat} (v : Word)
    (ha : Reg.LANE_EVENT.addr l.val ≠ r.addr i) : StampOrderMarked l g h (regSet r i v s) :=
  m.of_lanes_regVal rfl (regVal_regSet_ne v s ha)

/-- A field of a register of a later block is written. -/
theorem marked_regSetFld (m : StampOrderMarked l g h s) {r : Reg} (i hi lo x : Nat) (hr : 0x200000 ≤ r.info.off) :
    StampOrderMarked l g h (regSetFld r i hi lo x s) := marked_regSet m _ (laneEvent_addr_ne l i hr)

/-- A counter of a later block counts. -/
theorem marked_regCount (m : StampOrderMarked l g h s) {r : Reg} (i : Nat) (hr : 0x200000 ≤ r.info.off) :
    StampOrderMarked l g h (regCount r i s) := marked_regSet m _ (laneEvent_addr_ne l i hr)

theorem marked_putEvent (m : StampOrderMarked l g h s) (e : Event) : StampOrderMarked l g h (putEvent e s) :=
  m.of_lanes_regVal (lanes_of_keep (by simp)) (regVal_putEvent e s _ _ (laneEvent_addr_ne l 0 (by decide)))

theorem marked_raiseEv {code inst : Nat} (data : List Byte) (m : StampOrderMarked l g h (setEventBit code inst s)) :
    StampOrderMarked l g h (raiseEv code inst data s) := marked_putEvent m _

theorem marked_raiseLim {code inst : Nat} (key period : Nat) (data : List Byte)
    (m : StampOrderMarked l g h (setEventBit code inst s)) : StampOrderMarked l g h (raiseLim code inst key period data s) :=
  marked_ite ((marked_putEvent m _).of_lanes_regs rfl rfl) m

theorem marked_selfFault (m : StampOrderMarked l g h s) (cause detail : Nat) :
    StampOrderMarked l g h (selfFault cause detail s) := by
  unfold selfFault
  refine marked_ite (marked_raiseEv _ (marked_regSetFld (r := .TWIN_EVENT) (m.of_lanes_regs ?_ ?_) 0 4 4 1 (by decide))) m
  · exact lanes_of_keep (by simp)
  · exact regs_of_keep (by simp)

/-! ### Wire errors -/

/-- Event 0x1008 sets a bit of its own in the lane's event register (R71). -/
theorem marked_setEventBit_wireErr (m : StampOrderMarked l g h s) : StampOrderMarked l g h (setEventBit 0x1008 l.val s) := by
  refine ⟨m.unclean, m.highStamp, ?_⟩
  show (regVal (regSet .LANE_EVENT l.val (setFld (regVal s .LANE_EVENT l.val) 5 5 1) s) .LANE_EVENT l.val).getLsbD 3 = true
  rw [regVal_regSet_self, setFld_bit_ne _ (by decide) (by decide)]
  exact m.event

theorem marked_wireCount (m : StampOrderMarked l g h s) : StampOrderMarked l g h (wireCount l.val s) :=
  marked_raiseLim _ _ _ (marked_setEventBit_wireErr (marked_regSet m _ (laneEvent_addr_ne_wireErrCnt l.val)))

theorem marked_wireErr (m : StampOrderMarked l g h s) : StampOrderMarked l g h (wireErr l.val s) :=
  marked_wireCount (marked_modLane m (List.Subset.refl _) rfl)

theorem marked_wireErrAt (m : StampOrderMarked l g h s) (a b : Nat) : StampOrderMarked l g h (wireErrAt l.val a b s) :=
  marked_wireCount (marked_addUnclean m a b)

theorem marked_trackPseq (m : StampOrderMarked l g h s) (c q a b : Nat) : StampOrderMarked l g h (trackPseq l.val c q a b s) := by
  have mSeen := marked_modLane (f := fun y => { y with pseq := FMap.set none y.pseq c (some q) }) m (List.Subset.refl _) rfl
  unfold trackPseq
  dsimp only
  split
  · exact mSeen
  · refine marked_ite mSeen (marked_ite ?_ (marked_wireErrAt ?_ a b))
    · exact marked_modLane mSeen (List.Subset.refl _) rfl
    · exact marked_modLane mSeen (List.Subset.refl _) rfl

/-! ### Cells -/

theorem marked_takeCell (fuel i : Nat) (m : StampOrderMarked l g h s) : StampOrderMarked l g h (takeCell fuel i s).2 := by
  induction fuel generalizing s with
  | zero => exact m
  | succ fuel ih =>
    unfold takeCell
    split
    · exact m
    · dsimp only
      split
      · refine ih (marked_selfFault (marked_raiseEv _ (marked_regSetFld (r := .BUF_EVENT) ?_ 0 4 4 1 (by decide))) _ _)
        refine marked_regSetFld (r := .BUF_DOUBLE_FREE_CNT) ?_ 0 31 16 _ (by decide)
        exact m.of_lanes_regs rfl rfl
      · exact m.of_lanes_regs rfl rfl

theorem marked_takeFrom (is : List Nat) (m : StampOrderMarked l g h s) : StampOrderMarked l g h (takeFrom is s).2 := by
  induction is generalizing s with
  | nil => exact m
  | cons i is ih =>
    have mTake := marked_takeCell 1100 i m
    unfold takeFrom
    split
    · next heq => rw [heq] at mTake; exact mTake.of_lanes_regs rfl rfl
    · next heq => rw [heq] at mTake; exact ih mTake

theorem marked_takeCells (n : Nat) (m : StampOrderMarked l g h s) : StampOrderMarked l g h (takeCells n s).2 := by
  induction n generalizing s with
  | zero => exact m
  | succ n ih =>
    have mTake := marked_takeFrom (sliceOrder s) m
    unfold takeCells
    split
    · next heq => rw [heq] at mTake; exact mTake
    · next heq => rw [heq] at mTake; exact ih mTake

theorem marked_doubleFree (m : StampOrderMarked l g h s) (c : Nat) : StampOrderMarked l g h (doubleFree c s) := by
  refine marked_selfFault (marked_raiseEv _ (marked_regSetFld (r := .BUF_EVENT) ?_ 0 3 3 1 (by decide))) _ _
  exact marked_regSetFld m 0 15 0 _ (by decide)

theorem marked_returnCells (cs : List Nat) (m : StampOrderMarked l g h s) : StampOrderMarked l g h (returnCells cs s) := by
  refine marked_forEach cs _ (fun c s m => ?_) m
  have mTaken : StampOrderMarked l g h (modBuf (fun b => { b with toReturn := b.toReturn.erase c }) s) := m.of_lanes_regs rfl rfl
  refine marked_ite (marked_doubleFree mTaken c) (mTaken.of_lanes_regs ?_ ?_)
  · exact lanes_of_keep (by simp)
  · exact regs_of_keep (by simp)

/-! ### The receive MAC -/

theorem marked_countDrop (m : StampOrderMarked l g h s) (reason bytes : Nat) :
    StampOrderMarked l g h (countDrop reason bytes s) := m.of_lanes_regs rfl rfl

theorem marked_statAdd (m : StampOrderMarked l g h s) (p i n : Nat) : StampOrderMarked l g h (statAdd p i n s) :=
  m.of_lanes_regs (lanes_of_keep (by simp)) (regs_of_keep (by simp))

theorem marked_movedBytes (m : StampOrderMarked l g h s) (p n : Nat) : StampOrderMarked l g h (movedBytes p n s) :=
  m.of_lanes_regs rfl rfl

theorem marked_arrive (m : StampOrderMarked l g h s) (r : Rx) : StampOrderMarked l g h (arrive r s) :=
  marked_ite (marked_countDrop (marked_returnCells _ m) _ _) (m.of_lanes_regs rfl rfl)

theorem marked_noCell (m : StampOrderMarked l g h s) {r : Rx} (hr : r.lane = l.val) : StampOrderMarked l g h (noCell r s) := by
  have mDrop : StampOrderMarked l g h (raiseLim 0x1606 0 0 1024 (w2 r.port ++ w4 r.arrival)
      (countDrop drIngressLimit r.wireLen (regCount .BUF_RX_NOCELL_CNT 0 s))) := by
    refine marked_raiseLim _ _ _ (marked_regSetFld (r := .BUF_EVENT) (marked_countDrop ?_ _ _) 0 5 5 1 (by decide))
    exact marked_regCount m 0 (by decide)
  unfold noCell
  rw [hr]
  exact marked_ite (marked_addUnclean (marked_regCount mDrop _ (by decide)) _ _) mDrop

theorem marked_relayPut (m : StampOrderMarked l g h s) (msg : FlueMsg) (lane k : Nat) :
    StampOrderMarked l g h (relayPut msg lane k s) := by
  have mLost : StampOrderMarked l g h (modAdm (fun a => { a with relayLost := a.relayLost ++ [(lane, k)] }) s) :=
    m.of_lanes_regs rfl rfl
  refine marked_ite (m.of_lanes_regs rfl rfl) (marked_ite (m.of_lanes_regs rfl rfl) (marked_ite m ?_))
  refine marked_raiseLim _ _ _ (marked_regSetFld (r := .ADM_EVENT) ?_ 0 3 3 1 (by decide))
  exact marked_regCount mLost 0 (by decide)

theorem marked_relaySend (m : StampOrderMarked l g h s) (r : Rx) : StampOrderMarked l g h (relaySend r s) :=
  marked_ite (marked_forEach _ _ (fun _ _ m => marked_relayPut m _ _ _) (m.of_lanes_regs rfl rfl)) m

theorem marked_receiveStore (m : StampOrderMarked l g h s) {r : Rx} (hr : r.lane = l.val) (relay : Bool) :
    StampOrderMarked l g h (receiveStore r relay s) := by
  have mTaken := marked_takeCells (cellsOf r.bytes.length) m
  unfold receiveStore
  refine marked_ite (marked_noCell (marked_returnCells _ mTaken) hr) (marked_arrive ?_ _)
  have mCounted := marked_ite (c := r.flags % 8 ≠ 0) (marked_statAdd mTaken r.port 8 1)
    (marked_statAdd (marked_statAdd (marked_statAdd (marked_statAdd mTaken r.port 0 1) r.port 1 (r.bytes.length - 18)) r.port 2
      (b2n (isGroup r.bytes && !isBroadcast r.bytes))) r.port 3 (b2n (isBroadcast r.bytes)))
  exact marked_ite (marked_relaySend mCounted _) mCounted

theorem marked_macReceive (m : StampOrderMarked l g h s) {r : Rx} (hr : r.lane = l.val) :
    StampOrderMarked l g h (macReceive r s) := by
  unfold macReceive
  extract_lets p n cfg maxLen s1 s2 drop
  have mMoved : StampOrderMarked l g h s2 := marked_movedBytes (marked_ite (marked_statAdd m _ _ _) m) _ _
  have mDrop (stat reason : Nat) : StampOrderMarked l g h (drop stat reason) := marked_countDrop (marked_statAdd mMoved _ _ _) _ _
  refine marked_ite (mDrop 9 _) (marked_ite (mDrop 6 _) (marked_ite ?_ (marked_ite (mDrop 7 _) ?_)))
  · refine marked_ite (marked_receiveStore mMoved ?_ true) (marked_ite (mDrop 4 _) (mDrop 5 _))
    exact hr
  · exact marked_receiveStore mMoved hr true

/-! ### The error itself -/

/-- A stamp below the highest one leaves the marks (R58). -/
theorem marked_takeStamp (hh : (laneOf s l.val).highStamp = some h) (hg : g < h) :
    StampOrderMarked l g h (takeStamp l.val g s) := by
  have hlane : laneOf (raiseEv 0x1006 l.val (w2 l.val) (addUnclean l.val g h s)) l.val = laneOf (addUnclean l.val g h s) l.val := by
    unfold laneOf
    rw [lanes_of_keep (s := addUnclean l.val g h s) (by simp)]
  unfold takeStamp
  rw [hh, Option.getD_some, if_pos hg]
  refine ⟨?_, ?_, regBit_raiseEv _ _ (fun _ => rfl) (by decide) (laneEvent_addr_ne l 0 (by decide))⟩
  · rw [hlane, addUnclean, laneOf_modLane_self]
    exact List.mem_append_right _ List.mem_cons_self
  · rw [hlane, addUnclean, laneOf_modLane_self]
    exact hh

end

/-! ### Markers -/

/-- A good set on a lane that takes sets is handled by its subtype. -/
theorem osetReceive_of_good {l : Nat} {o : OSet} {s : State} (f : State → State) (hs : Claims.TakesSets s l) (ho : osetGood o = true) :
    osetReceive l o f s = f s := by
  obtain ⟨hmode, hlock⟩ := hs
  unfold osetReceive
  simp only [hmode, hlock, ho, Bool.not_true, Bool.or_self, Bool.false_eq_true, if_false, if_true]

/-- A marker that ALIGN accepts counts, and its stamp is taken (R48). -/
theorem markerReceive_align {l : Nat} {o : OSet} {s : State} (hst : (laneOf s l).st = .align) (hf : Claims.MarkerFormat s l o)
    (hlo : s.clk.tick ≤ Claims.stampOf s o + 3) (hhi : Claims.stampOf s o ≤ s.clk.tick + 1) :
    markerReceive l o s = takeStamp l (Claims.stampOf s o) (modLane l (fun x => { x with markers := x.markers + 1 }) s) := by
  obtain ⟨hhigh, hint⟩ := hf
  unfold markerReceive
  simp only [hst]
  exact if_pos ⟨hlo, hhi, decide_eq_true hhigh, decide_eq_true hint⟩

/-- The stamp of a marker in order and not ahead of the next tick is taken on a lane in service (R18, R60). -/
theorem markerReceive_inService {l : Nat} {o : OSet} {s : State} (hst : (laneOf s l).st = .inService)
    (hf : Claims.MarkerFormat s l o) (hhi : Claims.stampOf s o ≤ s.clk.tick + 1) :
    markerReceive l o s = takeStamp l (Claims.stampOf s o) s := by
  obtain ⟨hhigh, hint⟩ := hf
  unfold markerReceive
  simp only [hst]
  refine (if_neg (Nat.not_lt.2 hhi)).trans (if_neg ?_)
  simp only [Claims.stampOf] at hhigh
  simp [hhigh, hint]

/-! ### Frames -/

/-- A frame with a good preamble whose stamp lies below the highest one: what its reception does beside leaves the marks. -/
theorem marked_hearthReceive {l : Fin 512} {f : HFrame} {s : State} {h : Nat} (hmode : isHearth (laneMode s l.val) = true)
    (hst : (laneOf s l.val).st = .inService) (hcrc : crc8 (slice f.pre 0 6) = byteAt f.pre 6)
    (hh : (laneOf s l.val).highStamp = some h) (hhi : reconstruct s.clk.tick (beVal (slice f.pre 4 2)) ≤ s.clk.tick + 1)
    (hg : reconstruct s.clk.tick (beVal (slice f.pre 4 2)) < h) :
    StampOrderMarked l (reconstruct s.clk.tick (beVal (slice f.pre 4 2))) h (hearthReceive l.val f s) := by
  unfold hearthReceive
  extract_lets x t n b0 c q g chan from_ s1 s2 s3 good cut d1 flags bad s4 capture
  rw [if_neg (by simp [x, hmode, hst]), if_neg (not_not.2 hcrc)]
  have mStamp : StampOrderMarked l g h s1 := by
    have hs1 : s1 = takeStamp l.val g s := if_pos hhi
    rw [hs1]
    exact marked_takeStamp hh hg
  have mPseq : StampOrderMarked l g h s2 := marked_trackPseq mStamp _ _ _ _
  have mVersion : StampOrderMarked l g h s3 := marked_ite (marked_wireErrAt mPseq _ _) mPseq
  have mStatus : StampOrderMarked l g h s4 :=
    marked_ite (marked_wireErr mVersion)
      (marked_ite (marked_wireErrAt mVersion _ _) (marked_ite (marked_wireErrAt mVersion _ _) mVersion))
  exact marked_ite (marked_countDrop mStatus _ _) (marked_ite (marked_countDrop mStatus _ _) (marked_macReceive mStatus rfl))

/-- Settles O7: a marker in ALIGN, a marker in service and a frame each take their stamp, which leaves the marks. -/
theorem stampOrderErrors : Obligations.StampOrderErrors := by
  refine ⟨?_, ?_, ?_⟩
  · intro l o s h hs hst ho hf hlo hhi hh hg
    refine ⟨_, rfl, ?_⟩
    rw [osetReceive_of_good _ hs ho, markerReceive_align hst hf hlo hhi]
    have m := marked_takeStamp (l := l) (s := modLane l.val (fun x => { x with markers := x.markers + 1 }) s)
      (by rw [laneOf_modLane_self]; exact hh) hg
    exact ⟨m.unclean, m.highStamp, m.event⟩
  · intro l o s h hs hst ho hf hhi hh hg
    refine ⟨_, rfl, ?_⟩
    rw [osetReceive_of_good _ hs ho, markerReceive_inService hst hf hhi]
    have m := marked_takeStamp hh hg
    exact ⟨m.not_clean, m.highStamp, m.event⟩
  · intro l f s h hmode hst hcrc hh hhi hg
    have m := marked_hearthReceive hmode hst hcrc hh hhi hg
    exact ⟨_, rfl, m.not_clean, m.highStamp, m.event⟩

end Sys2Proof.Machine
end

section
/-! PROOF. The pause watchdog (R103). Each key paused too long is stormed in turn: its pause is cleared, its storm bit set and event
0x1104 raised. Stormed stays stormed while the keys behind it are handled, since each touches its own pause and only adds a storm
bit. Pause frames apply to keys out of storm alone, and a pause applied to one key leaves every other key's expiry (R104). -/

namespace Sys2Proof.Machine

/-! ### Applying an operation for each element -/

/-- What each application for an element of the list preserves, all of them preserve. -/
theorem forEach_preserves {α : Type} {P : State → Prop} {xs : List α} {f : α → State → State} {s : State}
    (h : ∀ x ∈ xs, ∀ t, P t → P (f x t)) (hs : P s) : P (forEach xs f s) := by
  induction xs generalizing s with
  | nil => exact hs
  | cons x xs ih => exact ih (fun y hy => h y (List.mem_cons_of_mem x hy)) (h x List.mem_cons_self s hs)

/-- What one element's application establishes and every application preserves holds in the end. -/
theorem forEach_establishes {α : Type} {P : State → Prop} {xs : List α} {f : α → State → State} {k : α} (s : State)
    (hk : k ∈ xs) (hset : ∀ t, P (f k t)) (h : ∀ x t, P t → P (f x t)) : P (forEach xs f s) := by
  induction xs generalizing s with
  | nil => exact absurd hk List.not_mem_nil
  | cons x xs ih =>
    rw [forEach_cons]
    rcases List.mem_cons.1 hk with rfl | htail
    · exact forEach_preserves (fun y _ => h y) (hset s)
    · exact ih _ htail

/-! ### Expiries -/

/-- Setting one key's expiry leaves the other keys' expiries. -/
theorem pauseExpOf_setPauseExp (j k e : Nat) (x : Port) :
    pauseExpOf (setPauseExp j e x) k = if k = j then e else pauseExpOf x k := by
  unfold pauseExpOf setPauseExp
  by_cases hj : j = 8
  · subst hj
    by_cases hk : k = 8 <;> simp [hk]
  · by_cases hk : k = 8
    · simp [hj, hk, Ne.symm hj]
    · simp [hj, hk, FMap.get_set]

/-! ### One key goes into storm -/

/-- The port with key `k`'s pause cleared and its storm bit set (R103). -/
def stormPort (k : Nat) (x : Port) : Port :=
  let y := setPauseExp k 0 { x with pauseFrom := FMap.set none x.pauseFrom k none }
  if k = 8 then { y with pauseStorm := true } else { y with pfcStorm := y.pfcStorm ||| 2 ^ k }

theorem pauseExpOf_stormPort (j k : Nat) (x : Port) :
    pauseExpOf (stormPort j x) k = if k = j then 0 else pauseExpOf x k := by
  have hset := pauseExpOf_setPauseExp j k 0 { x with pauseFrom := FMap.set none x.pauseFrom j none }
  unfold stormPort
  by_cases hj : j = 8
  · rw [if_pos hj]
    exact hset
  · rw [if_neg hj]
    exact hset

theorem inStorm_stormPort (j k : Nat) (x : Port) : inStorm (stormPort j x) k = (decide (k = j) || inStorm x k) := by
  unfold inStorm stormPort setPauseExp tb
  by_cases hj : j = 8
  · subst hj
    by_cases hk : k = 8 <;> simp [hk]
  · by_cases hk : k = 8
    · simp [hj, hk, Ne.symm hj]
    · simp [hj, hk, Nat.testBit_or, Nat.testBit_two_pow, eq_comm, Bool.or_comm]

/-- Key `k` of port `p` goes into storm, with event 0x1104 (R103). -/
def enterStorm (p k : Nat) (s : State) : State :=
  raiseEv 0x1104 p (w2 p ++ w2 (if k = 8 then 0xFF else k)) (modPort p (stormPort k) s)

theorem portOf_enterStorm (p k q : Nat) (s : State) :
    portOf (enterStorm p k s) q = if q = p then stormPort k (portOf s p) else portOf s q := by
  rw [← portOf_modPort]
  unfold enterStorm portOf
  rw [raiseEv_ports]

theorem regBit_enterStorm (p k : Nat) (s : State) : regBit (enterStorm p k s) .MAC_PORT_EVENT p 3 = true := by
  refine regBit_raiseEv _ _ (fun _ => rfl) (by decide) ?_
  simp only [Reg.addr, Reg.info]
  omega

/-- What R103 leaves of key `k` of port `p`: no pause, its storm bit, the bit of event 0x1104. -/
structure Stormed (p k : Nat) (s : State) : Prop where
  expiry : pauseExpOf (portOf s p) k = 0
  storm : inStorm (portOf s p) k = true
  event : regBit s .MAC_PORT_EVENT p 3 = true

theorem stormed_enterStorm_self (p k : Nat) (s : State) : Stormed p k (enterStorm p k s) := by
  refine ⟨?_, ?_, regBit_enterStorm p k s⟩
  · simp [portOf_enterStorm, pauseExpOf_stormPort]
  · simp [portOf_enterStorm, inStorm_stormPort]

/-- A storm of one key leaves the other keys stormed. -/
theorem Stormed.enterStorm {p k : Nat} {s : State} (h : Stormed p k s) (j : Nat) :
    Stormed p k (enterStorm p j s) := by
  refine ⟨?_, ?_, regBit_enterStorm p j s⟩
  · simp [portOf_enterStorm, pauseExpOf_stormPort, h.expiry]
  · simp [portOf_enterStorm, inStorm_stormPort, h.storm]

/-! ### The watchdog -/

/-- Key `k` of port `p` has been paused for longer than PAUSE_WD (R103). -/
def pausedTooLong (p : Nat) (s : State) (k : Nat) : Bool :=
  match FMap.get none (portOf s p).pauseFrom k with
  | some f => decide (s.clk.tick < pauseExpOf (portOf s p) k ∧ regFld s .MAC_WATCHDOG p 15 0 * 5000000 < (s.clk.tick - f) * 256)
  | none => false

/-- PAUSE_WD is 200 ms after reset. -/
theorem pauseWd_reset (p : Nat) : regFld State.reset .MAC_WATCHDOG p 15 0 = 200 := by
  have hval : regVal State.reset .MAC_WATCHDOG p = 0x03E800C8 := rfl
  rw [regFld, hval]
  decide

theorem pauseWatch_of_disabled {p : Nat} {s : State} (h : regFld s .MAC_WATCHDOG p 15 0 = 0) : pauseWatch p s = s := if_pos h

theorem pauseWatch_of_enabled {p : Nat} {s : State} (h : regFld s .MAC_WATCHDOG p 15 0 ≠ 0) :
    pauseWatch p s = forEach ((List.range 9).filter (pausedTooLong p s)) (enterStorm p) s := if_neg h

/-- The watchdog leaves every key paused too long in storm. -/
theorem stormed_pauseWatch {p k : Nat} {s : State} (hk : k < 9) (hwd : regFld s .MAC_WATCHDOG p 15 0 ≠ 0)
    (hlong : pausedTooLong p s k = true) : Stormed p k (pauseWatch p s) := by
  rw [pauseWatch_of_enabled hwd]
  have hmem : k ∈ (List.range 9).filter (pausedTooLong p s) := List.mem_filter.2 ⟨List.mem_range.2 hk, hlong⟩
  exact forEach_establishes s hmem (stormed_enterStorm_self p k) (fun j _ h => h.enterStorm j)

/-- The watchdog of a port changes no other port. -/
theorem portOf_pauseWatch_ne {p q : Nat} (s : State) (hq : q ≠ p) : portOf (pauseWatch p s) q = portOf s q := by
  by_cases hwd : regFld s .MAC_WATCHDOG p 15 0 = 0
  · rw [pauseWatch_of_disabled hwd]
  · rw [pauseWatch_of_enabled hwd]
    exact forEach_keeps _ _ (portOf · q) s (fun k t => by simp only [portOf_enterStorm, if_neg hq])

theorem portOnly_pauseWatch (p : Nat) (s : State) : Claims.PortOnly [.regs, .ports, .host] p s (pauseWatch p s) :=
  ⟨keep_pauseWatch rfl rfl rfl p s, fun _ hq => portOf_pauseWatch_ne s hq⟩

/-! ### Pause frames in storm -/

theorem portOf_statAdd (p i n q : Nat) (s : State) : portOf (statAdd p i n s) q = portOf s q := by
  unfold portOf
  rw [ports_of_keep (s := s) (by simp)]

/-- Noting a pause moves no expiry (R105). -/
theorem pauseExpOf_notePause (p j q k : Nat) (s : State) :
    pauseExpOf (portOf (notePause p j q s) p) k = pauseExpOf (portOf s p) k := by
  unfold notePause
  split
  · rfl
  · rw [portOf_modPort_self]
    rfl

/-- A pause applied to one key leaves the others' expiries (R94 to R96). -/
theorem pauseExpOf_applyPause_ne (p q : Nat) {j k : Nat} (s : State) (h : k ≠ j) :
    pauseExpOf (portOf (applyPause p j q s) p) k = pauseExpOf (portOf s p) k := by
  unfold applyPause
  simp only [portOf_modPort_self, pauseExpOf_setPauseExp, if_neg h]
  rfl

/-- A PAUSE frame moves the expiry of key 8 alone, and not in storm (R91, R104). -/
theorem pauseExpOf_consumeControl_pause {p k : Nat} {bs : List Byte} {s : State} (hop : beVal (slice bs 14 2) = 1)
    (hstorm : inStorm (portOf s p) k = true) : pauseExpOf (portOf (consumeControl p bs s) p) k = pauseExpOf (portOf s p) k := by
  unfold consumeControl
  simp only [hop, if_true]
  split
  · simp only [portOf_statAdd, pauseExpOf_notePause]
  · next hhonoured =>
    have hk : k ≠ 8 := by
      rintro rfl
      exact hhonoured (by rw [hstorm, Bool.or_true])
    simp only [pauseExpOf_applyPause_ne _ _ _ hk, pauseExpOf_notePause, portOf_statAdd]

/-- A PFC frame moves the expiries of priorities out of storm alone (R92, R104). -/
theorem pauseExpOf_consumeControl_pfc {p k : Nat} {bs : List Byte} {s : State} (hop : beVal (slice bs 14 2) = 0x0101)
    (hstorm : inStorm (portOf s p) k = true) : pauseExpOf (portOf (consumeControl p bs s) p) k = pauseExpOf (portOf s p) k := by
  unfold consumeControl
  extract_lets sCounted op quantaPause sPause on quanta sNoted honoured sApplied
  have hnoted : pauseExpOf (portOf sNoted p) k = pauseExpOf (portOf s p) k := by
    refine (forEach_keeps on _ (fun t => pauseExpOf (portOf t p) k) _ fun i t => pauseExpOf_notePause ..).trans ?_
    simp only [sCounted, portOf_statAdd]
  have happlied : pauseExpOf (portOf sApplied p) k = pauseExpOf (portOf s p) k := by
    refine forEach_preserves (P := fun t => pauseExpOf (portOf t p) k = pauseExpOf (portOf s p) k) ?_ hnoted
    intro i hi t ht
    have hk : k ≠ i := by
      rintro rfl
      simp [honoured, hstorm] at hi
    exact (pauseExpOf_applyPause_ne _ _ _ hk).trans ht
  rw [if_neg (by simp [op, hop]), if_pos hop]
  split
  · rw [portOf_statAdd]
    exact happlied
  · exact happlied

/-- Whatever the control frame, the expiry of a key in storm stays (R97, R104). -/
theorem pauseExpOf_consumeControl_of_inStorm {p k : Nat} (bs : List Byte) {s : State} (hstorm : inStorm (portOf s p) k = true) :
    pauseExpOf (portOf (consumeControl p bs s) p) k = pauseExpOf (portOf s p) k := by
  by_cases hpause : beVal (slice bs 14 2) = 1
  · exact pauseExpOf_consumeControl_pause hpause hstorm
  · by_cases hpfc : beVal (slice bs 14 2) = 0x0101
    · exact pauseExpOf_consumeControl_pfc hpfc hstorm
    · unfold consumeControl
      simp only [if_neg hpause, if_neg hpfc, portOf_statAdd]

/-- Settles O11: the watchdog leaves a key paused too long in storm, set to 0 it does nothing, and a key in storm keeps its expiry
through every control frame. -/
theorem pauseWatchdog : Obligations.PauseWatchdog := by
  intro p s
  refine ⟨?_, ?_, ?_, pauseWd_reset p.val, rfl⟩
  · intro k from_ hk hfrom hpaused hwd hover
    have hlong : pausedTooLong p.val s k = true := by
      unfold pausedTooLong
      rw [hfrom]
      exact decide_eq_true ⟨hpaused, hover⟩
    have hstormed := stormed_pauseWatch hk hwd hlong
    exact ⟨_, rfl, hstormed.expiry, hstormed.storm, hstormed.event, portOnly_pauseWatch p.val s⟩
  · intro hwd
    exact ⟨_, rfl, pauseWatch_of_disabled hwd⟩
  · intro bs k _ hstorm
    exact pauseExpOf_consumeControl_of_inStorm bs hstorm

end Sys2Proof.Machine
end

section
/-! PROOF. Guarded instructions (R200). Every instruction of Edxa issues its own word and differs from the others in what it does
when its guard holds; when the guard fails the thread goes to the next instruction, or, for LOOP, behind the loop's body (R218).
Issuing by itself charges the cycles, moves the round robin on and stores the thread, and leaves everything else. -/

namespace Sys2Proof.Machine

/-! ### The guard -/

/-- A guard holds when its predicate differs from PNEG (R200). -/
theorem guardHolds_iff (th : Thread) (gd : Guard) :
    guardHolds th gd = true ↔ (pGet th gd.pred = true ∧ gd.neg = false) ∨ (pGet th gd.pred = false ∧ gd.neg = true) := by
  unfold guardHolds
  cases pGet th gd.pred <;> cases gd.neg <;> decide

/-- p0 reads true (R153). -/
@[simp] theorem pGet_zero (th : Thread) : pGet th 0 = true := rfl

/-- PRED p0 with PNEG 1 never executes (R200). -/
theorem guardHolds_p0_neg {th : Thread} {gd : Guard} (hpred : gd.pred = 0) (hneg : gd.neg = true) : guardHolds th gd = false := by
  simp [guardHolds, hpred, hneg]

/-! ### What every instruction issues -/

/-- Where an instruction that does not execute leaves its thread: LOOP behind its body, any other at the next one (R200, R218). -/
def skipFlow : Instr → Thread → Flow
  | .loop _ _ _ _ off => fun th => .goto (th.pc + off.val + 1)
  | _ => fun _ => .next

theorem skipFlow_of_not_loop {c : Instr} (h : ∀ t gd dst count off, c = .loop t gd dst count off → False) (th : Thread) :
    skipFlow c th = .next := by
  unfold skipFlow
  split
  · exact (h _ _ _ _ _ rfl).elim
  · rfl

/-- Every instruction issues its own word under its own guard; only its effect, when the guard holds, is its own. -/
theorem exec_eq_issue {c : Instr} {t : ThreadRef} {gd : Guard} {w : Nat} (hword : Claims.wordOf c = some (t, gd, w)) :
    ∃ f : Eff, ∀ s, exec c s = .next (issue t w gd (skipFlow c) f s) := by
  cases c <;> cases hword <;> exact ⟨_, fun _ => rfl⟩

/-- An instruction whose turn it is and whose guard fails only charges its cycles and leaves its thread where `other` says. -/
theorem issue_of_guard_fails {t : ThreadRef} {w : Nat} {gd : Guard} {other : Thread → Flow} {f : Eff} {s : State} {th : Thread}
    {fr : Inflight} {img : Image} (hrun : runningAt s (threadKey t) = some (th, fr, img)) (hready : th.wait = .ready)
    (hturn : hobTurn s t = true) (hcode : img.code[th.pc]? = some (BitVec.ofNat 64 w)) (hguard : guardHolds th gd = false) :
    issue t w gd other f s = settle (threadKey t) fr ((chargeCycles (threadKey t) w img th (serveThread t s)).1,
      (chargeCycles (threadKey t) w img th (serveThread t s)).2, other th) := by
  simp [issue, hrun, hready, hturn, hcode, hguard]

/-! ### What issuing changes -/

/-- The thread that the cycles are charged to is the claims' charged thread. -/
theorem chargeCycles_snd {c : Instr} {t : ThreadRef} {gd : Guard} {w : Nat} (hword : Claims.wordOf c = some (t, gd, w)) (k : Nat)
    (img : Image) (th : Thread) (s : State) : (chargeCycles k w img th s).2 = Claims.charged c th := by
  simp only [Claims.charged, hword, chargeCycles]

/-- Storing a thread sets the thread of its number alone. -/
theorem threadAt_putThread (k j : Nat) (th : Thread) (s : State) :
    threadAt (putThread k th s) j = if j = k then some th else threadAt s j := by
  simp only [threadAt, putThread, modHob, FMap.get_set]

/-- Charging cycles and serving a thread changes no thread. -/
theorem threadAt_chargeCycles_serveThread (t : ThreadRef) (k w : Nat) (img : Image) (th : Thread) (s : State) (j : Nat) :
    threadAt (chargeCycles k w img th (serveThread t s)).1 j = threadAt s j := rfl

/-- A served thread whose cycles are charged and which is stored as `y` continues as `y`: nothing else changes. -/
theorem continues_putThread_charged (t : ThreadRef) (w : Nat) (img : Image) (th y : Thread) (s : State) :
    Claims.Continues s (putThread (threadKey t) y (chargeCycles (threadKey t) w img th (serveThread t s)).1) t y := by
  refine ⟨?_, fun j hj => ?_, rfl, rfl, ?_⟩
  · simp [threadAt_putThread]
  · rw [threadAt_putThread, if_neg hj, threadAt_chargeCycles_serveThread]
  · simp [SameBut]

/-- Settles O19: the guard by its truth table; an instruction whose guard fails issues and does nothing else. -/
theorem guardedInstructions : Obligations.GuardedInstructions := by
  refine ⟨fun th gd => ⟨guardHolds_iff th gd, guardHolds_p0_neg⟩, ?_⟩
  intro c s t gd th fr img ⟨w, hword, hrun, hready, hturn, hcode⟩ hguard
  obtain ⟨f, hexec⟩ := exec_eq_issue hword
  refine ⟨_, hexec s, ?_⟩
  rw [issue_of_guard_fails hrun hready hturn hcode hguard, ← chargeCycles_snd hword (threadKey t) img th (serveThread t s)]
  split
  · exact continues_putThread_charged ..
  next hloop =>
    rw [skipFlow_of_not_loop hloop]
    exact continues_putThread_charged ..

end Sys2Proof.Machine
end
